-- ==== Sys2Proof/Word.lean ====
section
/-! DEFINITION. The widths of the model (R4): bytes, 32-bit words, and byte strings. -/

namespace Sys2Proof

/-- A byte. -/
abbrev Byte := BitVec 8
/-- A 32-bit word: the register, memory and instruction width of every on-chip processor. -/
abbrev Word := BitVec 32
/-- A byte string, in the order the bytes travel or stand in memory. -/
abbrev Blob := List Byte

end Sys2Proof
end

