-- ==== Sys2Proof/Syntax.lean ====
section
/-! DEFINITION. The commands of the block: one constructor of `Instr` per row of spec/opcode_table.json,
with the row's operands, and the types of those operands. An operand that reports something the wires,
the partner or the physics decides (a frame, a reading, a check's finding) is the environment's. -/

namespace Sys2Proof

/-- The on-chip Profold processors (R201): the pairs WP0-WP15, the keeper, the vault and the access sequencer. -/
inductive CoreId where
  | wp (p : Fin 16)
  | keeper
  | vault
  | access
  deriving DecidableEq, Repr

/-- What the output end of the planes found for the cell of one input port in a slot (R70). -/
structure CellFault where
  /-- The input fabric port whose cell it is. -/
  input : Fin 32
  /-- Plane A's header copy fails its HCRC. -/
  badA : Bool
  /-- Plane B's header copy fails its HCRC. -/
  badB : Bool
  /-- Both copies pass and differ. -/
  differ : Bool
  /-- The payload parity of plane A's half-cell fails. -/
  parityA : Bool
  /-- The payload parity of plane B's half-cell fails. -/
  parityB : Bool
  deriving DecidableEq, Repr

/-- The frame a mirror session captures: its bytes and the fields of its first cell's header as they stand there (R69, R102,
R103). -/
structure MirrorCap where
  /-- The frame, from its first byte; `len` is L, `ago` the time since its first byte in ns. -/
  frame : Blob
  len : Nat
  ago : Nat
  inPort : Fin 32
  outPort : Fin 32
  tc : Fin 8
  cseq : BitVec 16
  flow : Option Nat
  err : Bool
  ct : Bool
  ciph : Bool
  win : Bool
  hash : Byte
  /-- Ingress time of the first byte, low 32 bits of device time in ns. -/
  ts : BitVec 32
  policed : Bool
  flushed : Bool
  deriving DecidableEq, Repr

/-- Frame formats of the CAN and LIN descriptors (R107). -/
inductive CanFmt where
  | classicBase | classicExt | fdBase | fdExt | xl | lin
  deriving DecidableEq, Repr

/-- A CAN frame on the wire (R107, R145). -/
structure CanFrame where
  id : BitVec 29
  fmt : CanFmt
  rtr : Bool := false
  brs : Bool := false
  esi : Bool := false
  sec : Bool := false
  sdt : Byte := 0
  af : Word := 0
  vcid : Byte := 0
  data : Blob
  deriving DecidableEq, Repr

/-- What a CAN controller meets on its bus and how ISO 11898-1 has its error counters answer (R152). -/
inductive CanErr where
  /-- A receiver detects an error. -/
  | receiver
  /-- After its error flag the receiver samples a dominant bit first. -/
  | receiverDominantFirst
  /-- A bit error in a flag that it sends, as receiver and as transmitter. -/
  | receiverInFlag
  | transmitterInFlag
  /-- A run of dominant bits behind a flag: 14, or 8 more. -/
  | receiverDominantRun
  | transmitterDominantRun
  /-- A transmitter detects an error. -/
  | transmitter
  /-- A transmitter in error passive sees no acknowledgement, and no dominant bit while its passive flag lasts. -/
  | passiveAck
  /-- A stuff bit sent recessive in arbitration is read dominant. -/
  | arbitrationStuff
  deriving DecidableEq, Repr

/-- The stoppable functions of R457 (and the test of R431 that behaves as one). -/
inductive Stoppable where
  | port (p : Fin 24)
  | pair (p : Fin 16)
  | lane (l : Fin 12)
  | lfChannel (c : Fin 8)
  | uwb
  | nfc
  | mirror (s : Fin 8)
  | portTest (p : Fin 24)
  deriving DecidableEq, Repr

/-- Power domains that are switched by votes (R435, R437). -/
inductive Domain where
  | hiveCore
  | access
  | ddr
  | pair (p : Fin 16)
  | port (p : Fin 24)
  deriving DecidableEq, Repr

/-- What the demodulator delivers for one transponder answer (R276, R277): whether it began in its window,
its bits in order, the positions that collided, and whether a bit broke the coding. -/
structure TransponderAnswer where
  inWindow : Bool
  bits : List Bool
  collisions : List Nat
  /-- A bit without subcarrier in either half: a Manchester violation (R284). -/
  violation : Bool
  deriving DecidableEq, Repr

/-- What one UWB port shows at the end of an answer slot (R291). -/
structure SlotReport where
  /-- A second first-path peak: its distance from the first in ps, and the weaker peak in percent of the stronger. -/
  second : Option (Nat × Nat)
  /-- A preamble was detected at this first-path SNR, in tenths of a decibel. -/
  preamble : Option Int
  /-- Its PHR or its FCS failed. -/
  failed : Bool
  deriving DecidableEq, Repr

/-- The STS an SP3 frame carries (R295): the key and counter it was made with, and how far its first path lies from the
preamble's, in ps. -/
structure Sts where
  key : List Byte
  counter : BitVec 128
  offsetPs : Int
  deriving DecidableEq, Repr

/-- What the reader receives from a card (R311-R313). -/
inductive CardResponse where
  /-- An intact I-block: its payload, and whether it began within the phone-key bound. -/
  | block (data : Blob) (withinBound : Bool)
  /-- A block that is corrupted. -/
  | corrupted
  /-- S(WTX) with this WTXM. -/
  | wtx (wtxm : Nat)
  deriving DecidableEq, Repr

/-- What a SELECT over NFC names (R314, R315). -/
inductive TagSelect where
  | application (aid : Blob)
  | file (id : BitVec 16)
  deriving DecidableEq, Repr

/-- The hashes PROVISION programs (R323, R350). -/
structure FuseValues where
  makerKh : Blob
  debugKh : Blob
  combKh : List Blob
  combPol : Byte
  deriving DecidableEq, Repr

/-- A signed transition request (R351): the cause byte and, per proof, public key and signature. -/
structure LcRequest where
  cause : Byte
  proofs : List (Blob × Blob)
  deriving DecidableEq, Repr

/-- A request of one cipher pass (R361): requester 0-4, and the frame it works on. -/
structure PassReq where
  /-- Requester number of R361: 0-3 window outputs of a cluster, 4 port-side passes. -/
  requester : Fin 5
  /-- The frame at F29, by its number in the frame table. -/
  frame : Nat
  deriving DecidableEq, Repr

/-- A keeper lane request (R369), field by field, with the bytes its DMA fetches. -/
structure LaneReq where
  tag : Byte
  mode : Byte
  ksel : Byte
  lane : BitVec 4
  tlen : BitVec 4
  aad : Blob
  data : Blob
  unit4096 : Bool
  dst : Nat
  iv : Blob
  tagv : Blob
  deriving DecidableEq, Repr

/-- A record copy that a power failure left damaged, as the scan finds it (R395, R396). -/
inductive CopyDamage where
  /-- Copy A or B of the record with this SEQ in area 1 M, 2 W, 3 S fails its checks. -/
  | torn (area : Fin 3) (seq : Word) (copyB : Bool)
  /-- Both copies are valid and differ. -/
  | differ (area : Fin 3) (seq : Word)
  /-- A counter cell's CRC fails: slot, and which of VCRC A, VCRC B, ICRC. -/
  | counter (slot : Fin 128) (part : Fin 3)
  deriving DecidableEq, Repr

/-- How a session reaches the object dictionary (R407). -/
inductive Transport where
  | sdo | udp | uds | doip | keeperFirmware
  deriving DecidableEq, Repr

/-- A value written to an object (R412). -/
inductive OdValue where
  /-- A scalar of so many bytes on SDO, UDP or UDS. -/
  | num (bytes : Nat) (v : Nat)
  /-- A tagged word of the window. -/
  | tagged (tag : BitVec 4) (v : Nat)
  /-- The bytes of a string or DOMAIN. -/
  | bytes (b : Blob)
  deriving DecidableEq, Repr

/-- A memory word of the memories of R483 and R105. -/
inductive MemWord where
  /-- A cell of the burst store. -/
  | burst (word : Nat)
  /-- The arrays of the signal engine (R105). -/
  | route (index : Nat)
  | pdu (index : Nat)
  | signal (index : Nat)
  | list (bank : Bool) (index : Nat)
  | stream (index : Fin 4096)
  | reassembly (cluster : Fin 4) (word : Nat)
  | binding (index : Nat)
  | combStore (bank : Bool) (word : Nat)
  /-- A data word and an instruction word of a core. -/
  | data (core : CoreId) (word : Nat)
  | code (core : CoreId) (word : Nat)
  | holdBuffer (lane : Fin 12) (word : Nat)
  | receiveQueue (port : Fin 24) (word : Nat)
  deriving DecidableEq, Repr

/-- A fault of the hardware that shows itself within a tick (R23). [log 119 DESIGN CHOICE] -/
inductive HwFault where
  /-- A read of a word meets a single-bit error, or an uncorrectable one. -/
  | memory (m : MemWord) (uncorrectable : Bool)
  /-- The vault's lockstep compare fails in the operation it runs next (R338). -/
  | vaultMiscompare
  deriving DecidableEq, Repr
/-- The commands: one constructor per row of the table, in the table's order. -/
inductive Instr where
  /-- DIE_TO_DIE_FLIT_RECEIVED -/
  | dieToDieFlitReceived (toHive : Bool) (flit : BitVec 128)
  /-- LINK_TRAINING -/
  | linkTraining
  /-- LINK_TRAINING_TIMEOUT -/
  | linkTrainingTimeout
  /-- TICK -/
  | tick (faults : List HwFault)
  /-- AGE_CLOCK_ADVANCE -/
  | ageClockAdvance
  /-- HYPERPERIOD_BOUNDARY -/
  | hyperperiodBoundary
  /-- RESCAN_COMPLETE -/
  | rescanComplete
  /-- REFERENCE_LOST -/
  | referenceLost
  /-- HOLDOVER_EXCEEDED -/
  | holdoverExceeded
  /-- REFERENCE_RETURN -/
  | referenceReturn
  /-- STANDBY_IMAGE_LOAD -/
  | standbyImageLoad (slot : Fin 16) (image : List Byte)
  /-- VERIFIER_DONE -/
  | verifierDone
  /-- SWAP_ARM -/
  | swapArm (slot : Fin 16)
  /-- SWAP_CANCEL -/
  | swapCancel (slot : Fin 16)
  /-- MIN_GENERATION_WRITE -/
  | minGenerationWrite (slot : Fin 16) (v : Nat)
  /-- FABRIC_SLOT -/
  | fabricSlot (faults : List CellFault)
  /-- PAUSE_REFRESH_TIMER -/
  | pauseRefreshTimer (port : Fin 24)
  /-- PLANE_TEST_REQUEST -/
  | planeTestRequest (slot : Fin 16)
  /-- PLANE_TEST_COMPLETE -/
  | planeTestComplete (passA passB : Bool)
  /-- SPILL_DRAM_SLOT -/
  | spillDramSlot
  /-- SPILL_READBACK_COMPLETE -/
  | spillReadbackComplete (queue : Fin 256) (eccBad : Bool)
  /-- STALL_LIMIT_EXPIRY -/
  | stallLimitExpiry (port : Fin 24)
  /-- FLUSH_COMPLETE -/
  | flushComplete (port : Fin 24)
  /-- MIRROR_CAPTURE -/
  | mirrorCapture (session : Fin 8) (cap : MirrorCap)
  /-- MIRROR_ENTRY_WRITE -/
  | mirrorEntryWrite (session : Fin 8)
  /-- MIRROR_SKIP_TIMEOUT -/
  | mirrorSkipTimeout (session : Fin 8)
  /-- CLEAR_HIGH_WATER -/
  | clearHighWater (slot : Fin 16) (v : Nat)
  /-- PAUSE_GRACE_WRITE -/
  | pauseGraceWrite (slot : Fin 16) (port : Fin 24) (v : Nat)
  /-- STALL_LIMIT_WRITE -/
  | stallLimitWrite (slot : Fin 16) (port : Fin 24) (v : Nat)
  /-- ROUTE_RELOAD_COMPLETE -/
  | routeReloadComplete (pduTable : Bool) (index : Nat)
  /-- FRESHNESS_RECORD_COMMIT -/
  | freshnessRecordCommit (stream : Fin 4096)
  /-- ADDRESS_CLAIM_INITIAL -/
  | addressClaimInitial (port : Fin 24) (address : Byte)
  /-- ADDRESS_CLAIM_REQUEST -/
  | addressClaimRequest (port : Fin 24) (destination : Byte)
  /-- ADDRESS_CLAIMED_RECEIVED -/
  | addressClaimedReceived (port : Fin 24) (sa : Byte) (name : BitVec 64)
  /-- BAM_ANNOUNCE -/
  | bamAnnounce (cluster : Fin 4) (port : Fin 24) (sa : Byte) (pgn : BitVec 18) (size packets : Nat)
  /-- BAM_PACKET -/
  | bamPacket (cluster : Fin 4) (port : Fin 24) (sa : Byte) (seqNo : Nat) (data : List Byte)
  /-- BAM_GAP_TIMEOUT -/
  | bamGapTimeout (cluster : Fin 4) (port : Fin 24) (sa : Byte)
  /-- STREAM_KEY_SLOT_WRITE -/
  | streamKeySlotWrite (slot : Fin 16) (data : List Byte)
  /-- BIT_TIMING_WRITE -/
  | bitTimingWrite (slot : Fin 16) (port : Fin 24) (sub : Fin 4) (v : Nat)
  /-- XL_MODE_WRITE -/
  | xlModeWrite (slot : Fin 16) (port : Fin 24) (switching : Bool) (v : Nat)
  /-- WAKE_MODE_WRITE -/
  | wakeModeWrite (slot : Fin 16) (port : Fin 24) (v : Nat)
  /-- CAN_FRAME_RECEIVE -/
  | canFrameReceive (port : Fin 24) (frame : CanFrame) (ago : Nat)
  /-- CAN_ERROR_DETECTED -/
  | canErrorDetected (port : Fin 24) (err : CanErr) (xlData : Bool)
  /-- CAN_DISABLED_FORMAT_FRAME -/
  | canDisabledFormatFrame (port : Fin 24)
  /-- RECEIVE_QUEUE_DRAIN -/
  | receiveQueueDrain (port : Fin 24)
  /-- TRANSMIT_BUFFER_LOAD -/
  | transmitBufferLoad (port : Fin 24)
  /-- CAN_FRAME_TRANSMITTED -/
  | canFrameTransmitted (port : Fin 24) (delayTq ago : Nat)
  /-- CAN_ARBITRATION_LOST -/
  | canArbitrationLost (port : Fin 24)
  /-- CAN_HOLDOFF_EXPIRY -/
  | canHoldoffExpiry (port : Fin 24)
  /-- CAN_RECOVERY_COMPLETE -/
  | canRecoveryComplete (port : Fin 24)
  /-- BASIC_CYCLE_START -/
  | basicCycleStart (port : Fin 24)
  /-- REFERENCE_ARBITRATION_LOST -/
  | referenceArbitrationLost (port : Fin 24)
  /-- REFERENCE_MESSAGE_RECEIVE -/
  | referenceMessageReceive (port : Fin 24) (frame : CanFrame) (ago : Nat)
  /-- REFERENCE_TIMEOUT -/
  | referenceTimeout (port : Fin 24)
  /-- CAN_WAKE_EDGE -/
  | canWakeEdge (port : Fin 24) (halfMicros : Nat)
  /-- CAN_WAKE_FRAME -/
  | canWakeFrame (port : Fin 24) (frame : CanFrame)
  /-- WAKE_DECODER_ERROR -/
  | wakeDecoderError (port : Fin 24)
  /-- LIN_SCHEDULE_SLOT -/
  | linScheduleSlot (channel : Fin 4) (ident : BitVec 6)
  /-- LIN_RESPONSE_BUFFER_LOAD -/
  | linResponseBufferLoad (port : Fin 24)
  /-- LIN_HEADER_RECEIVED -/
  | linHeaderReceived (port : Fin 24) (ident : BitVec 6) (measuredRate : Nat)
  /-- LIN_RESPONSE_COMPLETE -/
  | linResponseComplete (port : Fin 24) (data : List Byte) (framingGood : Bool) (checksum : Byte)
  /-- LIN_RESPONSE_TIMEOUT -/
  | linResponseTimeout (port : Fin 24) (started : Bool)
  /-- LIN_READBACK_ERROR -/
  | linReadbackError (port : Fin 24)
  /-- LIN_WAKEUP_BLACKOUT_END -/
  | linWakeupBlackoutEnd (port : Fin 24)
  /-- LIN_BUS_SLEEP_TIMEOUT -/
  | linBusSleepTimeout (port : Fin 24)
  /-- LIN_WAKEUP_RECEIVED -/
  | linWakeupReceived (port : Fin 24)
  /-- PORT_ENABLE_WRITE -/
  | portEnableWrite (slot : Fin 16) (port : Fin 24) (v : Nat)
  /-- SHUTDOWN_COMPLETE -/
  | shutdownComplete (fn : Stoppable)
  /-- LINK_UP -/
  | linkUp (port : Fin 24) (rate : Nat) (half : Bool)
  /-- LINK_FAILURE -/
  | linkFailure (port : Fin 24)
  /-- ETH_FRAME_HEAD -/
  | ethFrameHead (port : Fin 24) (head : List Byte) (ago : Nat)
  /-- ETH_FRAME_END -/
  | ethFrameEnd (port : Fin 24) (frame : List Byte) (codeError : Bool)
  /-- PAUSE_FRAME_RECEIVED -/
  | pauseFrameReceived (port : Fin 24) (quanta : BitVec 16)
  /-- PFC_FRAME_RECEIVED -/
  | pfcFrameReceived (port : Fin 24) (enables : BitVec 8) (times : List (BitVec 16))
  /-- PAUSE_EXPIRY -/
  | pauseExpiry (port : Fin 24) (tc : Fin 8)
  /-- PAUSE_WATCHDOG_EXPIRY -/
  | pauseWatchdogExpiry (port : Fin 24) (tc : Fin 8)
  /-- WATCHDOG_OVERRIDE_TIMEOUT -/
  | watchdogOverrideTimeout (port : Fin 24) (tc : Fin 8)
  /-- FLOW_CONTROL_MODE_WRITE -/
  | flowControlModeWrite (slot : Fin 16) (port : Fin 24) (halfDuplex : Bool) (v : Nat)
  /-- ETH_FRAME_TRANSMITTED -/
  | ethFrameTransmitted (port : Fin 24) (ago : Nat)
  /-- COLLISION -/
  | collision (port : Fin 24)
  /-- BACKOFF_EXPIRY -/
  | backoffExpiry (port : Fin 24)
  /-- PLCA_BEACON -/
  | plcaBeacon (port : Fin 24)
  /-- PLCA_BEACON_TIMEOUT -/
  | plcaBeaconTimeout (port : Fin 24)
  /-- PLCA_CYCLE_START -/
  | plcaCycleStart (port : Fin 24)
  /-- TSA_PHY_FAULT -/
  | tsaPhyFault (port : Fin 24)
  /-- TSA_JABBER_TIMEOUT -/
  | tsaJabberTimeout (port : Fin 24)
  /-- TSA_FAULT_CLEAR -/
  | tsaFaultClear (port : Fin 24)
  /-- TSA_WAKE_ACTIVITY -/
  | tsaWakeActivity (port : Fin 24) (micros : Nat)
  /-- TSA_WAKE_BURST_END -/
  | tsaWakeBurstEnd (port : Fin 24)
  /-- GPTP_SYNC_RECEIVED -/
  | gptpSyncReceived (port : Fin 24) (offsetNs : Int) (wellFormed : Bool) (delayNs : Option Nat)
  /-- NOP -/
  | pfNop (c : CoreId)
  /-- ADD -/
  | pfAdd (c : CoreId) (rd ra rb : Fin 32)
  /-- SUB -/
  | pfSub (c : CoreId) (rd ra rb : Fin 32)
  /-- ADDS -/
  | pfAdds (c : CoreId) (rd ra rb : Fin 32)
  /-- SUBS -/
  | pfSubs (c : CoreId) (rd ra rb : Fin 32)
  /-- AND -/
  | pfAnd (c : CoreId) (rd ra rb : Fin 32)
  /-- OR -/
  | pfOr (c : CoreId) (rd ra rb : Fin 32)
  /-- XOR -/
  | pfXor (c : CoreId) (rd ra rb : Fin 32)
  /-- NOT -/
  | pfNot (c : CoreId) (rd ra rb : Fin 32)
  /-- SHL -/
  | pfShl (c : CoreId) (rd ra rb : Fin 32)
  /-- SHR -/
  | pfShr (c : CoreId) (rd ra rb : Fin 32)
  /-- SRA -/
  | pfSra (c : CoreId) (rd ra rb : Fin 32)
  /-- SHLI -/
  | pfShli (c : CoreId) (rd ra : Fin 32) (amount : Fin 32)
  /-- SHRI -/
  | pfShri (c : CoreId) (rd ra : Fin 32) (amount : Fin 32)
  /-- SRAI -/
  | pfSrai (c : CoreId) (rd ra : Fin 32) (amount : Fin 32)
  /-- CEQ -/
  | pfCeq (c : CoreId) (rd ra rb : Fin 32)
  /-- CNE -/
  | pfCne (c : CoreId) (rd ra rb : Fin 32)
  /-- CLT -/
  | pfClt (c : CoreId) (rd ra rb : Fin 32)
  /-- CLE -/
  | pfCle (c : CoreId) (rd ra rb : Fin 32)
  /-- MIN -/
  | pfMin (c : CoreId) (rd ra rb : Fin 32)
  /-- MAX -/
  | pfMax (c : CoreId) (rd ra rb : Fin 32)
  /-- MOV -/
  | pfMov (c : CoreId) (rd ra rb : Fin 32)
  /-- NEG -/
  | pfNeg (c : CoreId) (rd ra rb : Fin 32)
  /-- ABS -/
  | pfAbs (c : CoreId) (rd ra rb : Fin 32)
  /-- MUL -/
  | pfMul (c : CoreId) (rd ra rb : Fin 32)
  /-- MULS -/
  | pfMuls (c : CoreId) (rd ra rb : Fin 32)
  /-- MULH -/
  | pfMulh (c : CoreId) (rd ra rb : Fin 32)
  /-- QMUL -/
  | pfQmul (c : CoreId) (rd ra rb : Fin 32)
  /-- DIV -/
  | pfDiv (c : CoreId) (rd ra rb : Fin 32)
  /-- REM -/
  | pfRem (c : CoreId) (rd ra rb : Fin 32)
  /-- FADD -/
  | pfFadd (c : CoreId) (rd ra rb : Fin 32)
  /-- FSUB -/
  | pfFsub (c : CoreId) (rd ra rb : Fin 32)
  /-- FMUL -/
  | pfFmul (c : CoreId) (rd ra rb : Fin 32)
  /-- FDIV -/
  | pfFdiv (c : CoreId) (rd ra rb : Fin 32)
  /-- FMIN -/
  | pfFmin (c : CoreId) (rd ra rb : Fin 32)
  /-- FMAX -/
  | pfFmax (c : CoreId) (rd ra rb : Fin 32)
  /-- FABS -/
  | pfFabs (c : CoreId) (rd ra rb : Fin 32)
  /-- FNEG -/
  | pfFneg (c : CoreId) (rd ra rb : Fin 32)
  /-- FMA -/
  | pfFma (c : CoreId) (rd ra rb : Fin 32)
  /-- CVT -/
  | pfCvt (c : CoreId) (rd ra rb : Fin 32) (fn : BitVec 11)
  /-- TAGT -/
  | pfTagt (c : CoreId) (rd ra rb : Fin 32) (fn : BitVec 8)
  /-- RETAG -/
  | pfRetag (c : CoreId) (rd ra rb : Fin 32) (fn : BitVec 8)
  /-- ACCR -/
  | pfAccr (c : CoreId) (rd ra rb : Fin 32) (fn : BitVec 10)
  /-- ACC_CLEAR -/
  | pfAccClear (c : CoreId) (rd ra rb : Fin 32) (fn : BitVec 10)
  /-- TRAP -/
  | pfTrap (c : CoreId) (rb : Fin 32)
  /-- BREAK -/
  | pfBreak (c : CoreId)
  /-- RTE -/
  | pfRte (c : CoreId)
  /-- MFC -/
  | pfMfc (c : CoreId) (rd : Fin 32) (cr : Fin 32)
  /-- MTC -/
  | pfMtc (c : CoreId) (rd : Fin 32) (cr : Fin 32)
  /-- MTSG -/
  | pfMtsg (c : CoreId) (rd ra : Fin 32) (sg : Fin 32)
  /-- MFSG -/
  | pfMfsg (c : CoreId) (rd ra : Fin 32) (sg : Fin 32)
  /-- FENCE -/
  | pfFence (c : CoreId)
  /-- WAIT -/
  | pfWait (c : CoreId)
  /-- WEND -/
  | pfWend (c : CoreId)
  /-- REP -/
  | pfRep (c : CoreId) (zero : BitVec 26)
  /-- ADDI -/
  | pfAddi (c : CoreId) (rd ra : Fin 32) (imm : BitVec 16)
  /-- ANDI -/
  | pfAndi (c : CoreId) (rd ra : Fin 32) (imm : BitVec 16)
  /-- ORI -/
  | pfOri (c : CoreId) (rd ra : Fin 32) (imm : BitVec 16)
  /-- XORI -/
  | pfXori (c : CoreId) (rd ra : Fin 32) (imm : BitVec 16)
  /-- CLTI -/
  | pfClti (c : CoreId) (rd ra : Fin 32) (imm : BitVec 16)
  /-- CEQI -/
  | pfCeqi (c : CoreId) (rd ra : Fin 32) (imm : BitVec 16)
  /-- LI -/
  | pfLi (c : CoreId) (rd : Fin 32) (zext : Bool) (tag : BitVec 4) (imm : BitVec 16)
  /-- LIH -/
  | pfLih (c : CoreId) (rd ra : Fin 32) (imm : BitVec 16)
  /-- LD -/
  | pfLd (c : CoreId) (rd ra : Fin 32) (sg : Fin 16) (off : BitVec 12)
  /-- ST -/
  | pfSt (c : CoreId) (rd ra : Fin 32) (sg : Fin 16) (off : BitVec 12)
  /-- LDP -/
  | pfLdp (c : CoreId) (rd ra : Fin 32) (sg : Fin 16) (off : BitVec 12)
  /-- STP -/
  | pfStp (c : CoreId) (rd ra : Fin 32) (sg : Fin 16) (off : BitVec 12)
  /-- LRW -/
  | pfLrw (c : CoreId) (rd ra : Fin 32) (sg : Fin 16) (off : BitVec 12)
  /-- SCW -/
  | pfScw (c : CoreId) (rd ra : Fin 32) (sg : Fin 16) (off : BitVec 12)
  /-- MKP -/
  | pfMkp (c : CoreId) (rd ra : Fin 32) (sg : Fin 16) (off : BitVec 12)
  /-- STT -/
  | pfStt (c : CoreId) (rd ra : Fin 32) (sg : Fin 16) (off : BitVec 12)
  /-- BEQ -/
  | pfBeq (c : CoreId) (ra rb : Fin 32) (disp : BitVec 16)
  /-- BNE -/
  | pfBne (c : CoreId) (ra rb : Fin 32) (disp : BitVec 16)
  /-- BLT -/
  | pfBlt (c : CoreId) (ra rb : Fin 32) (disp : BitVec 16)
  /-- BGE -/
  | pfBge (c : CoreId) (ra rb : Fin 32) (disp : BitVec 16)
  /-- BT -/
  | pfBt (c : CoreId) (ra rb : Fin 32) (disp : BitVec 16)
  /-- BF -/
  | pfBf (c : CoreId) (ra rb : Fin 32) (disp : BitVec 16)
  /-- BTAG -/
  | pfBtag (c : CoreId) (ra : Fin 32) (differs : Bool) (tag : BitVec 4) (disp : BitVec 16)
  /-- JAL -/
  | pfJal (c : CoreId) (rd ra : Fin 32) (imm : BitVec 16)
  /-- JALR -/
  | pfJalr (c : CoreId) (rd ra : Fin 32) (imm : BitVec 16)
  /-- BFX -/
  | pfBfx (c : CoreId) (rd ra : Fin 32) (imm : BitVec 16)
  /-- BFI -/
  | pfBfi (c : CoreId) (rd ra : Fin 32) (imm : BitVec 16)
  /-- CRC -/
  | pfCrc (c : CoreId) (rd ra : Fin 32)
  /-- MOVS -/
  | pfMovs (c : CoreId) (desc : Bool) (sgA sgB : Fin 16) (ra rb : Fin 32) (upTo : Option Nat)
  /-- CMPS -/
  | pfCmps (c : CoreId) (desc : Bool) (sgA sgB : Fin 16) (ra rb : Fin 32) (upTo : Option Nat)
  /-- FILS -/
  | pfFils (c : CoreId) (desc : Bool) (sgA sgB : Fin 16) (ra rb : Fin 32) (upTo : Option Nat)
  /-- SCNS -/
  | pfScns (c : CoreId) (desc : Bool) (sgA sgB : Fin 16) (ra rb : Fin 32) (upTo : Option Nat)
  /-- MACD -/
  | pfMacd (c : CoreId) (acc : Bool) (sgA sgB : Fin 16) (ra rb : Fin 32) (sub : BitVec 7)
  /-- INTERRUPT_TAKEN -/
  | interruptTaken (c : CoreId)
  /-- RESERVATION_EXPIRY -/
  | reservationExpiry (c : CoreId)
  /-- PIPELINE_WRITEBACK -/
  | pipelineWriteback (c : CoreId)
  /-- WINDOW_START -/
  | windowStart (col : Fin 16) (win : Nat)
  /-- MISCOMPARE -/
  | miscompare (pair : Fin 16)
  /-- SPARE_LOAD_COMPLETE -/
  | spareLoadComplete (pair : Fin 16)
  /-- WINDOW_COMMIT -/
  | windowCommit (col : Fin 16)
  /-- WINDOW_OVERRUN -/
  | windowOverrun (col : Fin 16)
  /-- WINDOW_DEADLINE -/
  | windowDeadline (col : Fin 16)
  /-- PAIR_ENABLE_WRITE -/
  | pairEnableWrite (slot : Fin 16) (pair : Fin 16) (v : Nat)
  /-- DRAIN_LOAD_COMPLETE -/
  | drainLoadComplete (pair : Fin 16)
  /-- REQUALIFY -/
  | requalify (slot : Fin 16) (pair : Fin 16) (v : Nat)
  /-- REQUALIFY_COMPLETE -/
  | requalifyComplete (pair : Fin 16) (pass : Bool)
  /-- WATCHDOG_SERVICE -/
  | watchdogService (v : Nat)
  /-- WATCHDOG_HALF_PERIOD -/
  | watchdogHalfPeriod
  /-- KEEPER_WATCHDOG_EXPIRY -/
  | keeperWatchdogExpiry
  /-- KEEPER_RESTART -/
  | keeperRestart
  /-- KEEPER_CONFIRM -/
  | keeperConfirm
  /-- TOUCH_SCAN -/
  | touchScan (caps : List Nat)
  /-- PERIODIC_TIMER -/
  | periodicTimer (pattern : Fin 32)
  /-- COMB_POLL -/
  | combPoll (pattern : Fin 32) (zone : Fin 8)
  /-- START_REQUEST -/
  | startRequest
  /-- LF_ENGINE_GRANT -/
  | lfEngineGrant (vlfMv : Nat) (peaks : List Nat)
  /-- LF_SHORT -/
  | lfShort (channel : Fin 8)
  /-- PATTERN_END -/
  | patternEnd
  /-- PATTERN_TABLE_WRITE -/
  | patternTableWrite (slot : Fin 16) (data : List Byte)
  /-- WAKE_ID_WRITE -/
  | wakeIdWrite (slot : Fin 16) (v : Nat)
  /-- LF_CHANNEL_ENABLE_WRITE -/
  | lfChannelEnableWrite (slot : Fin 16) (channel : Fin 8) (v : Nat)
  /-- TRANSPONDER_TRANSACTION -/
  | transponderTransaction
  /-- FIELD_CHARGE_COMPLETE -/
  | fieldChargeComplete
  /-- TRANSPONDER_ANSWER -/
  | transponderAnswer (answer : TransponderAnswer)
  /-- TRANSPONDER_ANSWER_TIMEOUT -/
  | transponderAnswerTimeout
  /-- LOCK_END -/
  | lockEnd (record : Fin 9)
  /-- SESSION_TIMEOUT -/
  | sessionTimeout
  /-- DRIVER_DOOR_OPEN -/
  | driverDoorOpen
  /-- SLR_HALF_PERIOD -/
  | slrHalfPeriod (padA padB : Bool)
  /-- ACCESS_SIGNAL_REFRESH -/
  | accessSignalRefresh
  /-- ANSWER_PERIOD_OPEN -/
  | answerPeriodOpen
  /-- UWB_ANSWER_RECEIVED -/
  | uwbAnswerReceived (answerSlot : Fin 16) (atPs : Nat) (frame : List Byte)
  /-- ANSWER_SLOT_END -/
  | answerSlotEnd (answerSlot : Fin 16) (ports : List SlotReport)
  /-- REPOLL -/
  | repoll
  /-- EXCHANGE_START -/
  | exchangeStart (sent : BitVec 40)
  /-- UWB_RRESP_RECEIVED -/
  | uwbRrespReceived (received : BitVec 40) (sts : Sts) (phase : Int)
  /-- FORAGER_ANSWER -/
  | foragerAnswer (index : Fin 32) (sent received : BitVec 40) (polarity : Bool)
  /-- UWB_RREPORT_RECEIVED -/
  | uwbRreportReceived (frame : List Byte) (received : BitVec 40)
  /-- UWB_ACK_RECEIVED -/
  | uwbAckReceived (frame : List Byte) (received : BitVec 40)
  /-- UWB_FRAME_TIMEOUT -/
  | uwbFrameTimeout
  /-- EXCHANGE_SLOT_END -/
  | exchangeSlotEnd
  /-- ROUND_END -/
  | roundEnd
  /-- UWB_RANGING_SLOT -/
  | uwbRangingSlot (key : Fin 32) (zone : Fin 8)
  /-- UWB_FAULT -/
  | uwbFault
  /-- UWB_ENABLE_WRITE -/
  | uwbEnableWrite (slot : Fin 16) (v : Nat)
  /-- NFC_FIELD_DETECT -/
  | nfcFieldDetect
  /-- NFC_FIELD_LOSS -/
  | nfcFieldLoss
  /-- FIELD_DET_RELEASE -/
  | fieldDetRelease
  /-- NFC_POLL -/
  | nfcPoll (cards : List (List Byte))
  /-- NFC_CARD_RESPONSE -/
  | nfcCardResponse (response : CardResponse)
  /-- NFC_FWT_TIMEOUT -/
  | nfcFwtTimeout
  /-- READER_EXCHANGE -/
  | readerExchange (apdu : List Byte)
  /-- READER_OFFER_TIMEOUT -/
  | readerOfferTimeout
  /-- NFC_ENABLE_WRITE -/
  | nfcEnableWrite (slot : Fin 16) (v : Nat)
  /-- TAG_ACTIVATION -/
  | tagActivation
  /-- PPS -/
  | pps
  /-- TAG_SELECT -/
  | tagSelect (target : TagSelect)
  /-- READ_BINARY -/
  | readBinary (offset length : Nat)
  /-- UPDATE_BINARY -/
  | updateBinary (offset : Nat) (data : List Byte) (energyEnough : Bool)
  /-- TAG_WRITE_COMPLETE -/
  | tagWriteComplete
  /-- VERIFY -/
  | verify (password : List Byte)
  /-- VERIFY_BLOCK_END -/
  | verifyBlockEnd (readPassword : Bool)
  /-- MAKER_AUTH -/
  | makerAuth (publicKey signature : List Byte)
  /-- ATTEST_APDU -/
  | attestApdu (nonce : List Byte)
  /-- DESELECT -/
  | deselect
  /-- SNAPSHOT_TIMER -/
  | snapshotTimer
  /-- LOAD -/
  | vaultLoad (rq : Fin 5) (tag : Byte) (slot : Nat) (blob : List Byte)
  /-- CLEAR -/
  | vaultClear (rq : Fin 5) (tag : Byte) (slot : Nat)
  /-- GENERATE -/
  | vaultGenerate (rq : Fin 5) (tag : Byte) (klen : Nat) (usage : Byte) (owner : BitVec 4) (meas : Bool) (keyId : Word) (slot : Nat)
  /-- IMPORT -/
  | vaultImport (rq : Fin 5) (tag : Byte) (ephemeral header kwp : List Byte)
  /-- REWRAP -/
  | vaultRewrap (rq : Fin 5) (tag : Byte) (blob : List Byte) (stagedKeeper : Bool)
  /-- DERIVE -/
  | vaultDerive (rq : Fin 5) (tag : Byte) (label context : List Byte) (klen : Nat) (usage : Byte) (owner : BitVec 4) (meas : Bool) (slot : Nat)
  /-- REPLACE -/
  | vaultReplace (rq : Fin 5) (tag : Byte) (slot : Nat) (blob : List Byte) (kcv : Word)
  /-- REPLACE_COMMITTED -/
  | replaceCommitted
  /-- KCV -/
  | vaultKcv (rq : Fin 5) (tag : Byte) (slot : Nat)
  /-- MKA_KEYS -/
  | mkaKeys (rq : Fin 5) (tag : Byte) (cak : Nat) (ckn : List Byte) (ick kek : Nat)
  /-- MKA_ICV -/
  | mkaIcv (rq : Fin 5) (tag : Byte) (ick : Nat) (mkpdu : List Byte)
  /-- MKA_UNWRAP -/
  | mkaUnwrap (rq : Fin 5) (tag : Byte) (kek : Nat) (wrapped : List Byte) (slot : Nat)
  /-- MKA_NEWSAK -/
  | mkaNewsak (rq : Fin 5) (tag : Byte) (kek klen slot : Nat)
  /-- ENROL -/
  | enrol (slot : Fin 16) (index : Nat) (kind : Byte) (zones : Byte) (blob : List Byte)
  /-- REVOKE_KEY -/
  | revokeKey (slot : Fin 16) (keyId : Word)
  /-- ATTEST -/
  | attest (rq : Fin 5) (tag : Byte) (nonce : List Byte) (algs : Byte)
  /-- ATTESTATION_NONCE_WRITE -/
  | attestationNonceWrite (slot : Fin 16) (nonce : List Byte)
  /-- ATTESTATION_READY -/
  | attestationReady
  /-- VAULT_ANSWER_READ -/
  | vaultAnswerRead
  /-- VAULT_RESTART -/
  | vaultRestart
  /-- LC_CHALLENGE_READ -/
  | lcChallengeRead (slot : Fin 16)
  /-- PROVISION -/
  | provision (slot : Fin 16) (cause : Byte) (fuses : FuseValues)
  /-- FIELD_LOCK -/
  | fieldLock (slot : Fin 16) (req : LcRequest)
  /-- OPEN_DEBUG -/
  | openDebug (slot : Fin 16) (req : LcRequest)
  /-- REPROVISION -/
  | reprovision (slot : Fin 16) (req : LcRequest)
  /-- RETURN -/
  | vendorReturn (slot : Fin 16) (req : LcRequest)
  /-- REFURBISH -/
  | refurbish (slot : Fin 16) (req : LcRequest)
  /-- SCRAP -/
  | scrap (slot : Fin 16) (req : LcRequest)
  /-- COMB_KEY_REVOKE -/
  | combKeyRevoke (slot : Fin 16) (v : Nat)
  /-- LANE_KEY_WRITE -/
  | laneKeyWrite (lane : Fin 12) (key3 : Bool) (key : List Byte)
  /-- CIPHER_LANE_SLOT -/
  | cipherLaneSlot (lane : Fin 12)
  /-- CIPHER_PASS_REQUEST -/
  | cipherPassRequest (req : PassReq)
  /-- CIPHER_BLOCK_COMPLETE -/
  | cipherBlockComplete (lane : Fin 12) (miscompare : Bool)
  /-- CIPHER_PASS_COMPLETE -/
  | cipherPassComplete (lane : Fin 12) (reserved : Bool)
  /-- LANE_TEST_COMPLETE -/
  | laneTestComplete (lane : Fin 12) (pass : Bool)
  /-- MASK_RESEED -/
  | maskReseed (lane : Fin 12) (trngGood : Bool)
  /-- LANE_ENCRYPT -/
  | laneEncrypt (req : LaneReq)
  /-- LANE_DECRYPT -/
  | laneDecrypt (req : LaneReq)
  /-- LANE_MAC_GENERATE -/
  | laneMacGenerate (req : LaneReq)
  /-- LANE_MAC_VERIFY -/
  | laneMacVerify (req : LaneReq)
  /-- LANE_ANSWER_READ -/
  | laneAnswerRead
  /-- LANE_ENABLE_WRITE -/
  | laneEnableWrite (slot : Fin 16) (lane : Fin 12) (v : Nat)
  /-- TAMPER_TRIP -/
  | tamperTrip (inputs : BitVec 32)
  /-- HOLD_OK_REACHED -/
  | holdOkReached (mv : Nat)
  /-- LOOP_CHECK -/
  | loopCheck (slot : Fin 16) (mask : Nat) (mismatched : Byte)
  /-- TAMPER_CONFIG_WRITE -/
  | tamperConfigWrite (slot : Fin 16) (sub : Fin 3) (v : Nat)
  /-- RECORD_WRITE -/
  | recordWrite (writer : Fin 5) (area : Fin 3) (rtype : Byte) (id : Nat) (txn commit delete : Bool) (payload : List Byte)
  /-- STORE_GRANT -/
  | storeGrant
  /-- RECORD_COPY_COMPLETE -/
  | recordCopyComplete
  /-- COMPACTION_SLICE -/
  | compactionSlice (area : Fin 3)
  /-- INDEX_SCAN -/
  | indexScan (damage : List CopyDamage)
  /-- SCAN_COMPLETE -/
  | scanComplete (micros : Nat)
  /-- COUNTER_UPDATE -/
  | counterUpdate (counter : Fin 128) (n : Nat)
  /-- SNAPSHOT_REPLACE -/
  | snapshotReplace (content : List Byte)
  /-- M_DATA_WRITE -/
  | mDataWrite (slot : Fin 16) (data : List Byte)
  /-- BLOCK_PROTECT_WRITE -/
  | blockProtectWrite (slot : Fin 16) (v : Nat)
  /-- W_DATA_WRITE -/
  | wDataWrite (slot : Fin 16) (data : List Byte)
  /-- READ_PASSWORD_WRITE -/
  | readPasswordWrite (slot : Fin 16) (password : List Byte)
  /-- WRITE_PASSWORD_WRITE -/
  | writePasswordWrite (slot : Fin 16) (password : List Byte)
  /-- SET_PASSWORDS -/
  | setPasswords (slot : Fin 16) (data : List Byte)
  /-- OD_SESSION_OPEN -/
  | odSessionOpen (transport : Transport) (endpoint : Fin 24)
  /-- OD_SESSION_IDLE_TIMEOUT -/
  | odSessionIdleTimeout (slot : Fin 16)
  /-- ROLE_CHALLENGE_READ -/
  | roleChallengeRead (slot : Fin 16)
  /-- ROLE_REQUEST -/
  | roleRequest (slot : Fin 16) (role : Byte) (proof : List Byte)
  /-- ROLE_BLOCK_END -/
  | roleBlockEnd (endpoint : Fin 33)
  /-- OBJECT_WRITE -/
  | objectWrite (slot : Fin 16) (index : BitVec 16) (sub : Byte) (v : OdValue)
  /-- RESTORE_DEFAULTS -/
  | restoreDefaults (slot : Fin 16) (v : Nat)
  /-- SDO_INITIATE_DOWNLOAD -/
  | sdoInitiateDownload (port : Fin 24) (index : BitVec 16) (sub : Byte) (expedited : Bool) (size : Nat) (data : List Byte)
  /-- SDO_DOWNLOAD_SEGMENT -/
  | sdoDownloadSegment (port : Fin 24) (toggle last : Bool) (data : List Byte)
  /-- SDO_INITIATE_UPLOAD -/
  | sdoInitiateUpload (port : Fin 24) (index : BitVec 16) (sub : Byte)
  /-- SDO_UPLOAD_SEGMENT -/
  | sdoUploadSegment (port : Fin 24) (toggle : Bool)
  /-- SDO_BLOCK_DOWNLOAD -/
  | sdoBlockDownload (port : Fin 24) (index : BitVec 16) (sub : Byte) (segs : List (Nat × List Byte)) (unused : Fin 7) (crc : BitVec 16)
  /-- SDO_BLOCK_UPLOAD -/
  | sdoBlockUpload (port : Fin 24) (index : BitVec 16) (sub : Byte) (blockSize : Nat)
  /-- SDO_ABORT -/
  | sdoAbort (port : Fin 24) (code : Word)
  /-- SDO_SEGMENT_TIMEOUT -/
  | sdoSegmentTimeout (port : Fin 24)
  /-- UDP_OPEN -/
  | udpOpen (port : Fin 24) (payload : List Byte)
  /-- UDP_READ -/
  | udpRead (port : Fin 24) (sessionId : Word) (seqNo : Word) (index : BitVec 16) (sub : Byte) (offset length : Word) (tag : List Byte)
  /-- UDP_WRITE -/
  | udpWrite (port : Fin 24) (sessionId : Word) (seqNo : Word) (index : BitVec 16) (sub : Byte) (offset : Word) (data tag : List Byte)
  /-- UDP_CLOSE -/
  | udpClose (port : Fin 24) (sessionId : Word) (seqNo : Word) (tag : List Byte)
  /-- DIAGNOSTIC_SESSION_CONTROL -/
  | diagnosticSessionControl (slot : Fin 16) (kind : Byte)
  /-- ECU_RESET -/
  | ecuReset (slot : Fin 16) (kind : Byte)
  /-- TESTER_PRESENT -/
  | testerPresent (slot : Fin 16) (sub : Byte)
  /-- READ_DATA_BY_IDENTIFIER -/
  | readDataByIdentifier (slot : Fin 16) (did : BitVec 16)
  /-- ROUTINE_CONTROL -/
  | routineControl (slot : Fin 16) (routine : BitVec 16) (op : Byte) (index : BitVec 16) (sub : Byte) (offset length : Nat) (data : List Byte)
  /-- REQUEST_DOWNLOAD -/
  | requestDownload (slot : Fin 16) (format addrLen : Byte) (address length : Nat)
  /-- TRANSFER_DATA -/
  | transferData (slot : Fin 16) (counter : Byte) (data : List Byte)
  /-- REQUEST_TRANSFER_EXIT -/
  | requestTransferExit (slot : Fin 16)
  /-- DOIP_ROUTING_ACTIVATION -/
  | doipRoutingActivation (port : Fin 24)
  /-- DOIP_DISCONNECT -/
  | doipDisconnect (slot : Fin 16)
  /-- OD_WINDOW_READ -/
  | odWindowRead (index : BitVec 16) (sub : Byte)
  /-- OD_WINDOW_WRITE -/
  | odWindowWrite (index : BitVec 16) (sub : Byte)
  /-- DEVICE_RESET -/
  | deviceReset (slot : Fin 16) (v : Nat)
  /-- STATE_REQUEST_RUN -/
  | stateRequestRun (slot : Fin 16)
  /-- STATE_REQUEST_DOZE -/
  | stateRequestDoze (slot : Fin 16)
  /-- STATE_REQUEST_SLEEP -/
  | stateRequestSleep (slot : Fin 16)
  /-- KEEPER_VOTES_WRITE -/
  | keeperVotesWrite (v : Nat)
  /-- PAD_RELEASE -/
  | padRelease (v : Nat)
  /-- WAKE_SENSE_THRESHOLD_WRITE -/
  | wakeSenseThresholdWrite (slot : Fin 16) (input : Fin 4) (v : Nat) (levelMv : Nat)
  /-- EVENT_RING_CONFIG_WRITE -/
  | eventRingConfigWrite (source : Fin 40) (entries : Bool) (v : Nat)
  /-- VAO_POWER_UP -/
  | vaoPowerUp
  /-- AO_BROWNOUT -/
  | aoBrownout
  /-- BROWNOUT_RECOVERY -/
  | brownoutRecovery
  /-- AO_RESET -/
  | aoReset (fieldPresent : Bool)
  /-- FIELD_POWER_UP -/
  | fieldPowerUp
  /-- WAKE_SENSE_RISE -/
  | wakeSenseRise (input : Fin 4)
  /-- HOLD_N_LOW -/
  | holdNLow (low : Bool)
  /-- RTC_ALARM -/
  | rtcAlarm
  /-- WAKE -/
  | wake (code : Fin 20)
  /-- VOTE_CHANGE -/
  | voteChange (voter : Fin 48) (domain : Domain) (grant : Bool)
  /-- DOMAIN_POWER_ON -/
  | domainPowerOn (domain : Domain)
  /-- SLEEP_ENTRY -/
  | sleepEntry
  /-- SLEEP_ENTRY_STEP_COMPLETE -/
  | sleepEntryStepComplete
  /-- PLL_LOSS_OF_LOCK -/
  | pllLossOfLock (clock : Fin 13)
  /-- PLL_LOCK -/
  | pllLock (clock : Fin 13)
  /-- CRYSTAL_32K_STABLE -/
  | crystal32kStable
  /-- COLD_BOOT -/
  | coldBoot (cause : Fin 6) (sfdp : Option (Fin 32))
  /-- WARM_BOOT -/
  | warmBoot
  /-- BOOT_STEP_COMPLETE -/
  | bootStepComplete
  /-- COMB_RESTORE -/
  | combRestore
  /-- RECOVERY_LOADER -/
  | recoveryLoader
  /-- ACCESS_SEQUENCER_RESTART -/
  | accessSequencerRestart
  /-- EVENT_RECORD -/
  | eventRecord (source : Fin 40) (cls : Byte) (detail : BitVec 16) (obj : BitVec 24) (data : List Byte)
  /-- EVENT_RING_WRITE -/
  | eventRingWrite (source : Fin 40)
  /-- EVENT_SUMMARY_WINDOW_CLOSE -/
  | eventSummaryWindowClose (detail : BitVec 16) (key : Nat)
  /-- DEFERRED_EVENT_FLUSH -/
  | deferredEventFlush
  /-- PORT_TEST_START -/
  | portTestStart (slot : Fin 16) (port : Fin 24)
  /-- PORT_TEST_STOP -/
  | portTestStop (slot : Fin 16) (port : Fin 24)
  /-- TEST_FRAME_CHECK -/
  | testFrameCheck (port : Fin 24) (frame : List Byte) (crcGood : Bool)
  /-- PORT_TEST_COMPLETE -/
  | portTestComplete (port : Fin 24)
  /-- SER_TEST_START -/
  | serTestStart (slot : Fin 16) (lane : Fin 6)
  /-- SER_TEST_STOP -/
  | serTestStop (slot : Fin 16) (lane : Fin 6)
  /-- LF_LOOPBACK_START -/
  | lfLoopbackStart (slot : Fin 16)
  /-- UWB_LOOPBACK_START -/
  | uwbLoopbackStart (slot : Fin 16)
  /-- NFC_LOAD_CHECK_START -/
  | nfcLoadCheckStart (slot : Fin 16)
  /-- BIST_START -/
  | bistStart (slot : Fin 16)
  /-- BIST_COMPLETE -/
  | bistComplete (failing : Option Nat)
  /-- DRAM_TEST_START -/
  | dramTestStart (slot : Fin 16) (failing : Option Nat)
  /-- DEBUG_HALT -/
  | debugHalt (c : CoreId)
  /-- DEBUG_STEP -/
  | debugStep (c : CoreId)
  /-- DEBUG_READ -/
  | debugRead (c : CoreId) (reg : Fin 32)
  /-- BYPASS -/
  | jtagBypass
  /-- IDCODE -/
  | jtagIdcode
  /-- SAMPLE_PRELOAD -/
  | jtagSamplePreload (pads : List Bool)
  /-- EXTEST_PULSE -/
  | extestPulse
  /-- EXTEST_TRAIN -/
  | extestTrain
  /-- PN_EXHAUSTION_TIMEOUT -/
  | pnExhaustionTimeout (port : Fin 24)
  /-- BUS_INTEGRATION_COMPLETE -/
  | busIntegrationComplete (port : Fin 24)
  /-- WAKE_SENSE_FALL -/
  | wakeSenseFall (input : Fin 4)
  /-- WTX_EXTENSION_END -/
  | wtxExtensionEnd
  /-- PRBS_CHECKER_LOCK -/
  | prbsCheckerLock (lane : Fin 6)
  /-- PRBS_CHECKER_LOSS_OF_LOCK -/
  | prbsCheckerLossOfLock (lane : Fin 6)
  /-- LF_LOOPBACK_COMPLETE -/
  | lfLoopbackComplete (peak : Nat)
  /-- UWB_LOOPBACK_COMPLETE -/
  | uwbLoopbackComplete (delay : Option Nat)
  /-- NFC_LOAD_CHECK_COMPLETE -/
  | nfcLoadCheckComplete (current offset : Byte)
  deriving DecidableEq, Repr

end Sys2Proof
end

