-- ==== Sys2Proof/Decode.lean ====
section
/-! DEFINITION. The command a word spells by the opcode table's bits, and the instruction a Profold instruction word spells
(R217-R221). -/

namespace Sys2Proof

/-- No row of spec/opcode_table.json gives bits: every word spells no command. [log 13 DEDUCED] -/
def decodeTableWord (_nbits _w : Nat) : Option Instr := none

/-- A register field of an instruction word, its lowest bit at `lo`. -/
def regField (w : BitVec 32) (lo : Nat) : Fin 32 := ⟨(w.toNat >>> lo) % 32, Nat.mod_lt _ (by decide)⟩
/-- A segment field. -/
def segField (w : BitVec 32) (lo : Nat) : Fin 16 := ⟨(w.toNat >>> lo) % 16, Nat.mod_lt _ (by decide)⟩

/-- The ALU group by its function (R219). -/
def decodeAlu (c : CoreId) (w : BitVec 32) : Option Instr :=
  let rd := regField w 21
  let ra := regField w 16
  let rb := regField w 11
  match w.toNat % 2048 with
  | 0x000 => some (.pfNop c)
  | 0x001 => some (.pfAdd c rd ra rb)
  | 0x002 => some (.pfSub c rd ra rb)
  | 0x003 => some (.pfAdds c rd ra rb)
  | 0x004 => some (.pfSubs c rd ra rb)
  | 0x005 => some (.pfAnd c rd ra rb)
  | 0x006 => some (.pfOr c rd ra rb)
  | 0x007 => some (.pfXor c rd ra rb)
  | 0x008 => some (.pfNot c rd ra rb)
  | 0x009 => some (.pfShl c rd ra rb)
  | 0x00A => some (.pfShr c rd ra rb)
  | 0x00B => some (.pfSra c rd ra rb)
  | 0x00C => some (.pfShli c rd ra rb)
  | 0x00D => some (.pfShri c rd ra rb)
  | 0x00E => some (.pfSrai c rd ra rb)
  | 0x00F => some (.pfCeq c rd ra rb)
  | 0x010 => some (.pfCne c rd ra rb)
  | 0x011 => some (.pfClt c rd ra rb)
  | 0x012 => some (.pfCle c rd ra rb)
  | 0x013 => some (.pfMin c rd ra rb)
  | 0x014 => some (.pfMax c rd ra rb)
  | 0x015 => some (.pfMov c rd ra rb)
  | 0x016 => some (.pfNeg c rd ra rb)
  | 0x017 => some (.pfAbs c rd ra rb)
  | _ => none

/-- The MUL group by its function (R218). -/
def decodeMul (c : CoreId) (w : BitVec 32) : Option Instr :=
  let rd := regField w 21
  let ra := regField w 16
  let rb := regField w 11
  match w.toNat % 2048 with
  | 0 => some (.pfMul c rd ra rb)
  | 1 => some (.pfMuls c rd ra rb)
  | 2 => some (.pfMulh c rd ra rb)
  | 3 => some (.pfQmul c rd ra rb)
  | 4 => some (.pfDiv c rd ra rb)
  | 5 => some (.pfRem c rd ra rb)
  | _ => none

/-- The FP group by its function (R218). -/
def decodeFp (c : CoreId) (w : BitVec 32) : Option Instr :=
  let rd := regField w 21
  let ra := regField w 16
  let rb := regField w 11
  match w.toNat % 2048 with
  | 0 => some (.pfFadd c rd ra rb)
  | 1 => some (.pfFsub c rd ra rb)
  | 2 => some (.pfFmul c rd ra rb)
  | 3 => some (.pfFdiv c rd ra rb)
  | 4 => some (.pfFmin c rd ra rb)
  | 5 => some (.pfFmax c rd ra rb)
  | 6 => some (.pfFabs c rd ra rb)
  | 7 => some (.pfFneg c rd ra rb)
  | 8 => some (.pfFma c rd ra rb)
  | _ => none

/-- The TAG group by fn[10:8], and the ACC group by fn[10] (R218, R231). -/
def decodeTagAcc (c : CoreId) (w : BitVec 32) (acc : Bool) : Option Instr :=
  let rd := regField w 21
  let ra := regField w 16
  let rb := regField w 11
  if acc then
    if w.getLsbD 10 then some (.pfAccClear c rd ra rb (w.extractLsb' 0 10)) else some (.pfAccr c rd ra rb (w.extractLsb' 0 10))
  else match (w.extractLsb' 8 3).toNat with
    | 0 => some (.pfTagt c rd ra rb (w.extractLsb' 0 8))
    | 1 => some (.pfRetag c rd ra rb (w.extractLsb' 0 8))
    | _ => none

/-- The SYS group by its function (R220). -/
def decodeSys (c : CoreId) (w : BitVec 32) : Option Instr :=
  let rd := regField w 21
  let ra := regField w 16
  let rb := regField w 11
  match w.toNat % 2048 with
  | 0 => some (.pfTrap c rb)
  | 1 => some (.pfBreak c)
  | 2 => some (.pfRte c)
  | 3 => some (.pfMfc c rd ra)
  | 4 => some (.pfMtc c rd ra)
  | 5 => some (.pfMtsg c rd ra rb)
  | 6 => some (.pfMfsg c rd ra rb)
  | 7 => some (.pfFence c)
  | 8 => some (.pfWait c)
  | 9 => some (.pfWend c)
  | _ => none

/-- The string group by sub (R229). -/
def decodeStr (c : CoreId) (w : BitVec 32) : Option Instr :=
  let x := w.getLsbD 25
  let sgA := segField w 21
  let ra := regField w 16
  let sgB := segField w 12
  let rb := regField w 7
  match w.toNat % 128 with
  | 0 => some (.pfMovs c x sgA sgB ra rb none)
  | 1 => some (.pfCmps c x sgA sgB ra rb none)
  | 2 => some (.pfFils c x sgA sgB ra rb none)
  | 3 => some (.pfScns c x sgA sgB ra rb none)
  | _ => none

/-- The instruction that a core issues for a Profold instruction word, by the major opcode in [31:26] and the fields of its format
(R217, R218); none for a reserved opcode or function. -/
def decodeProfold (c : CoreId) (w : BitVec 32) : Option Instr :=
  let rd := regField w 21
  let ra := regField w 16
  let imm := w.extractLsb' 0 16
  let sg := segField w 12
  let off := w.extractLsb' 0 12
  match w.toNat / 2 ^ 26 with
  | 0x00 => decodeAlu c w
  | 0x01 => decodeMul c w
  | 0x02 => decodeFp c w
  | 0x03 => some (.pfCvt c rd ra (regField w 11) (w.extractLsb' 0 11))
  | 0x04 => decodeTagAcc c w false
  | 0x05 => decodeTagAcc c w true
  | 0x06 => decodeSys c w
  | 0x07 => some (.pfRep c (w.extractLsb' 0 26))
  | 0x08 => some (.pfAddi c rd ra imm)
  | 0x09 => some (.pfAndi c rd ra imm)
  | 0x0A => some (.pfOri c rd ra imm)
  | 0x0B => some (.pfXori c rd ra imm)
  | 0x0C => some (.pfClti c rd ra imm)
  | 0x0D => some (.pfCeqi c rd ra imm)
  | 0x0E => some (.pfLi c rd (w.getLsbD 20) (w.extractLsb' 16 4) imm)
  | 0x0F => some (.pfLih c rd ra imm)
  | 0x10 => some (.pfLd c rd ra sg off)
  | 0x11 => some (.pfSt c rd ra sg off)
  | 0x12 => some (.pfLdp c rd ra sg off)
  | 0x13 => some (.pfStp c rd ra sg off)
  | 0x14 => some (.pfLrw c rd ra sg off)
  | 0x15 => some (.pfScw c rd ra sg off)
  | 0x16 => some (.pfMkp c rd ra sg off)
  | 0x17 => some (.pfStt c rd ra sg off)
  | 0x18 => some (.pfBeq c rd ra imm)
  | 0x19 => some (.pfBne c rd ra imm)
  | 0x1A => some (.pfBlt c rd ra imm)
  | 0x1B => some (.pfBge c rd ra imm)
  | 0x1C => some (.pfBt c rd ra imm)
  | 0x1D => some (.pfBf c rd ra imm)
  | 0x1E => some (.pfBtag c rd (w.getLsbD 20) (w.extractLsb' 16 4) imm)
  | 0x20 => some (.pfJal c rd ra imm)
  | 0x21 => some (.pfJalr c rd ra imm)
  | 0x22 => some (.pfBfx c rd ra imm)
  | 0x23 => some (.pfBfi c rd ra imm)
  | 0x24 => some (.pfCrc c rd ra)
  | 0x30 => decodeStr c w
  | 0x31 => some (.pfMacd c (w.getLsbD 25) (segField w 21) (segField w 12) ra (regField w 7) (w.extractLsb' 0 7))
  | _ => none

end Sys2Proof
end

