-- ==== Sys2Proof/Config.lean ====
section
/-! DEFINITION. What the spec fixes per device or leaves open: constants without a body. Nothing in
Lean can evaluate one, so a statement about the model holds for every value of it. -/

namespace Sys2Proof

/-- Free value: a result the spec leaves open, applied to a counter the step advances (log entry 5). [log 5 DESIGN CHOICE] -/
opaque Config.freeValue : Nat → Nat
/-- Bytes drawn from a noise source or generator (R8, R263, R327, R335), applied to the draw counter and
a length is taken from its front; 64 bytes a draw (log entry 6). [log 6 DESIGN CHOICE] -/
opaque Config.random : Nat → Nat → Byte

/-! ### Values programmed per device at Amvelys (R323) -/

/-- The ROOT fuse, 32 bytes. [log 10 DESIGN CHOICE] -/
opaque Config.fuseRoot : Nat → Byte
/-- The ID_SEED fuse, 32 bytes. [log 10 DESIGN CHOICE] -/
opaque Config.fuseIdSeed : Nat → Byte
/-- The PAIR fuse, 32 bytes. [log 10 DESIGN CHOICE] -/
opaque Config.fusePair : Nat → Byte
/-- The UID fuse, 16 bytes. [log 10 DESIGN CHOICE] -/
opaque Config.fuseUid : Nat → Byte
/-- The MAC_BASE fuse. [log 10 DESIGN CHOICE] -/
opaque Config.fuseMacBase : BitVec 48
/-- The VENDOR_KH fuse, 32 bytes. [log 10 DESIGN CHOICE] -/
opaque Config.fuseVendorKh : Nat → Byte

/-! ### The flits of the die-to-die link (R8): the spec names no cipher, no tag algorithm and no CRC polynomial -/

/-- The CRC of a flit's payload and tag. [log 90 DEDUCED] -/
opaque Config.flitCrc : BitVec 80 → BitVec 32 → BitVec 16
/-- The tag of a payload as it travels, under a session key, towards the Hive die or not. [log 90 DEDUCED] -/
opaque Config.flitTag : List Byte → Bool → BitVec 80 → BitVec 32
/-- The payload a flit carries, decrypted under a session key. [log 90 DEDUCED] -/
opaque Config.flitPayload : List Byte → Bool → BitVec 80 → BitVec 80

/-- SHA-384 of the keeper image the device was delivered with, 48 bytes. [log 10 DESIGN CHOICE] -/
opaque Config.factoryKeeperHash : Nat → Byte

/-! ### Public-key operations: their standards are named by the spec and not described by it (log entry 7) -/

/-- ECDSA P-256 verification of a signature over a message: key, message, signature. [log 7 DESIGN CHOICE] -/
opaque Config.ecdsaVerify : Blob → Blob → Blob → Bool
/-- ECDSA P-256 signature: private seed, k, message. [log 7 DESIGN CHOICE] -/
opaque Config.ecdsaSign : Blob → Blob → Blob → Blob
/-- ML-DSA-65 verification: key, message, signature. [log 7 DESIGN CHOICE] -/
opaque Config.mldsaVerify : Blob → Blob → Blob → Bool
/-- ML-DSA-65 signature: private seed, randomness, message; none where 100 iterations of its loop are rejected (R347). [log 7 DESIGN CHOICE] -/
opaque Config.mldsaSign : Blob → Blob → Blob → Option Blob
/-- P-256 public key of a private seed. [log 7 DESIGN CHOICE] -/
opaque Config.ecPublic : Blob → Blob
/-- ML-DSA-65 public key of a private seed. [log 7 DESIGN CHOICE] -/
opaque Config.mldsaPublic : Blob → Blob
/-- ECDH P-256: private seed, peer public key; none where the peer key is not a point of the curve. [log 7 DESIGN CHOICE] -/
opaque Config.ecdh : Blob → Blob → Option Blob

/-- The salt and SSCI of an extended-packet-numbering SA, as the 12 bytes its IV is formed with: key slot, SCI, byte.
MKA agrees them, and the spec gives the model no interface for them. [log 50 DEDUCED] -/
opaque Config.macsecSalt : Nat → Nat → Nat → Byte

/-! ### Readings of sensors, pads and wires at the moment they are read: the environment's -/

/-- A sensor reading: which sensor, and the tick it is read at. [log 11 DESIGN CHOICE] -/
opaque Config.sensor : Nat → Nat → Nat
/-- FWI in the ATS of the card with this UID (R311). [log 11 DESIGN CHOICE] -/
opaque Config.cardFwi : Blob → Nat

/-- The angle reported where lambda dphi / (2 pi s) lies outside asin's domain (R287): channel, spacing, phase. [log 123 DESIGN CHOICE] -/
opaque Config.angleBeyond : Nat → Nat → Int → Int

/-! ### Forms the spec leaves open -/

/-- What stands between CLA 0x80 and the data of the first and the second APDU to a phone key (R313). [log 76 DEDUCED] -/
opaque Config.phoneHeader : Nat → Blob
/-- The vault's check of a signature of AUTH over NFC (R315): challenge, key, signature. The spec does not give the message. [log 77 DEDUCED] -/
opaque Config.nfcMakerAuth : Blob → Blob → Blob → Bool
/-- The attribute entries of the vault's own slots 56-63 as 0x2320/01 shows them: slot and byte. The spec does not say which
of them holds which key. [log 96 DESIGN CHOICE] -/
opaque Config.reservedSlotAttr : Nat → Nat → Byte
/-- Bytes that stand in DRAM where the block's own DMA reads them: time in ticks, address. The model holds no DRAM contents. -/
opaque Config.dramByte : Nat → Nat → Byte
/-- The four bytes of P2 timing in the answer to DiagnosticSessionControl (ISO 14229-1), which the spec does not give. [log 101 DEDUCED] -/
opaque Config.udsTiming : Nat → Byte

end Sys2Proof
end

