-- ==== Sys2Proof/Machine/State.lean ====
section
/-! DEFINITION. Everything the spec gives the block to hold (R1-R511), as plain data, and the state after
reset. Object values that are configuration or counters stand in `State.od` and `State.blobs`; state that
a command works on stands in typed records, and the objects that show it are computed from them. -/

namespace Sys2Proof.Machine

/-! ### The object dictionary's entry descriptions (R410, R412) -/

/-- Entry types (R412). -/
inductive ObjTy where
  | bool | u8 | u16 | u32 | u64 | i8 | i16 | i32 | i64 | real32 | vstr | ostr | domain
  deriving DecidableEq, Repr

/-- Access codes: RWS accepts a write only while the owner is stopped (R411). -/
inductive ObjAcc where
  | ro | rw | rws | wo | const
  deriving DecidableEq, Repr

/-- How long an entry keeps its value (R413, and the heading rules of the tables). -/
inductive ObjKeep where
  /-- A configuration entry, kept through power loss. -/
  | config
  /-- Cleared by a cold boot. -/
  | volatile
  /-- Kept in the AO domain while its supply is present. -/
  | ao
  /-- Its value comes from the record store, the vault row or the fuses. -/
  | record
  /-- A constant. -/
  | const
  /-- A command: nothing is stored. -/
  | none
  deriving DecidableEq, Repr

/-- One row of an object table: `n` indices from `i0` in steps of `stride`, subindices `s0` to `s1`. -/
structure ObjRow where
  i0 : Nat
  n : Nat
  stride : Nat
  s0 : Nat
  s1 : Nat
  ty : ObjTy
  acc : ObjAcc
  /-- Role mask for reading: bit 0 HOST, 1 MAKER, 2 WORKSHOP, 3 INSPECT, 4 VENDOR (R410). -/
  rd : Nat
  /-- Role mask for writing. -/
  wr : Nat
  /-- Keeper firmware only, for reading and for writing (R409). -/
  keeperRd : Bool
  keeperWr : Bool
  dflt : Nat
  lo : Int
  hi : Int
  /-- Stated length of a string. -/
  len : Option Nat
  keep : ObjKeep
  deriving DecidableEq, Repr

/-! ### Answers and wires -/

/-- What the block sends out or shows, in the order it happens (newest first in `State.out`): the model's own
record of effects that leave the block (log entry 4). [log 4 DESIGN CHOICE] -/
inductive Out where
  /-- An access of a session is answered with these bytes, scalars as the least significant byte first (R410). -/
  | odDone (slot : Nat) (data : Blob)
  /-- An access is aborted with this code (R410). -/
  | odAbort (slot : Nat) (code : Nat)
  /-- An SDO server answer on a CAN service port (R414): the eight data bytes. -/
  | sdo (port : Nat) (data : Blob)
  /-- An OD-over-UDP message (R415): type, session, sequence, payload before encryption. -/
  | udp (port : Nat) (type : Nat) (session seq : Nat) (payload : Blob)
  /-- A UDS answer on a session (R417). -/
  | uds (slot : Nat) (data : Blob)
  /-- A DoIP connection is closed (R420). -/
  | doipClosed (slot : Nat)
  /-- A frame leaves an Ethernet port: its bytes, and whether its FCS is inverted (R174, R179). -/
  | eth (port : Nat) (bytes : Blob) (badFcs : Bool)
  /-- A pause or PFC frame leaves a port: class-enable vector (0 for 802.3 pause) and quanta (R85, R182). -/
  | pause (port : Nat) (classes : Nat) (quanta : Nat)
  /-- A CAN frame is sent on a port (R150). -/
  | can (port : Nat) (frame : CanFrame)
  /-- A CAN error frame is sent (R152). -/
  | canError (port : Nat)
  /-- A LIN header (R160). -/
  | linHeader (port : Nat) (ident : Nat)
  /-- A LIN response, with its checksum byte (R160). -/
  | linResponse (port : Nat) (ident : Nat) (data : Blob) (checksum : Nat)
  /-- A LIN wake-up signal (R165). -/
  | linWakeup (port : Nat)
  /-- A PLCA BEACON (R186), a TSA wake burst (R188). -/
  | plcaBeacon (port : Nat)
  | tsaWakeBurst (port : Nat)
  /-- A frame is delivered to the keeper (F28), with its ERR flag (R174). -/
  | toKeeper (bytes : Blob) (err : Bool)
  /-- A vault or lane answer (R337, R369). -/
  | vault (requester tag status : Nat) (data : Blob)
  | lane (tag status : Nat) (tagBytes : Blob)
  /-- Bytes written to DRAM: the result of a keeper lane request (R369), or an event record (R472). -/
  | dram (address : Nat) (data : Blob)
  /-- An LF transmission on a set of channels: carrier code and the bits sent (R262). -/
  | lf (channels : Nat) (carrier : Nat) (bits : List Bool)
  /-- The tail of an LF frame: the antennas that drive alone, in order (R262). -/
  | lfTail (antennas : List Nat)
  /-- The 32 Forager challenges, bit i the polarity of challenge i (R295). -/
  | pulses (challenge : BitVec 32)
  /-- A record write is answered as done, or refused (R388, R404). -/
  | stored (who area type id : Nat)
  | storeRefused (who area type id : Nat)
  /-- The LF field of a transponder channel goes on or off (R276). -/
  | lfField (on : Bool)
  /-- A UWB frame (R293): its code and payload. -/
  | uwb (channel : Nat) (data : Blob)
  /-- An NFC frame or APDU the device sends, as reader or as tag (R309-R317). -/
  | nfc (data : Blob)
  /-- A pin changes (R281, R306, R438, R442). -/
  | pin (name : String) (level : Bool)
  /-- A JTAG shift (R486). -/
  | jtag (data : List Bool)
  /-- A word read by the debug port (R485). -/
  | debug (w : Nat)
  /-- A flit has arrived intact over the die-to-die link: its payload (R8). -/
  | flit (toHive : Bool) (payload : BitVec 80)
  /-- A flit is replayed on the die-to-die link (R9). -/
  | flitReplay (toHive : Bool)
  deriving DecidableEq, Repr

/-! ### Time -/

/-- The clocks a command can read (R28, R430, R456). [log 9 DESIGN CHOICE] -/
structure Clock where
  /-- Device time in ps at the start of the current tick. -/
  tickPs : Nat := 0
  /-- Tick within the hyperperiod, 0 to H - 1 (0x2182/02). -/
  tick : Nat := 0
  /-- Ticks begun since power-up. -/
  ticks : Nat := 0
  /-- Slots passed in this tick, 0 to 63. -/
  slot : Nat := 0
  /-- Hyperperiod boundaries passed (0x2182/03). -/
  hyper : Nat := 0
  /-- Periods of the 32.768 kHz crystal since the AO supply appeared (0x2107/01). -/
  ao : Nat := 0
  /-- A tick at which the sequencer's hyperperiod has ended and the boundary is due. -/
  boundaryDue : Bool := false
  deriving DecidableEq, Repr

/-! ### Fuses (R323) -/

/-- The fuse array; the values programmed at Amvelys are Config constants, so `State` holds what the
device programs itself, with the part, stepping and the blown bits. [log 10 DESIGN CHOICE] -/
structure Fuses where
  /-- PART: 1 SH2424, 2 SH2412. -/
  part : Nat := 1
  stepping : Nat := 2
  /-- PROV, SCRAP. -/
  prov : Bool := false
  scrap : Bool := false
  /-- Blown EPOCH bits, 0-32. -/
  epoch : Nat := 0
  makerKh : Blob := []
  debugKh : Blob := []
  combKh : List Blob := []
  combPol : Nat := 0
  /-- COMB_REV bits. -/
  combRev : Nat := 0
  deriving DecidableEq, Repr

/-! ### Event rings (R432, R433, R470-R473) -/

/-- One event record (R471). -/
structure EventRec where
  seq : Nat
  source : Nat
  cls : Nat
  detail : Nat
  time : Nat
  obj : Nat
  flags : Nat
  data : Blob
  deriving DecidableEq, Repr

/-- One source's staging FIFO and ring (R433, R472). -/
structure EventRing where
  /-- Records staged and not yet in the ring, oldest first, at most 32. -/
  staging : List EventRec := []
  /-- The ring in DRAM: (entry, record), entry numbers strictly rising. -/
  ring : List (Nat × EventRec) := []
  write : Nat := 0
  read : Nat := 0
  seq : Nat := 0
  /-- Records in the ring that the read index has not passed. -/
  unread : Nat := 0
  /-- The ring's entry count now in use, and whether base or entries were written since. -/
  entries : Nat := 1024
  restart : Bool := true
  deriving DecidableEq, Repr

/-- An open summary window (R470): detail, key, the first case not logged, the count. -/
structure SummaryWindow where
  detail : Nat
  key : Nat
  source : Nat
  cls : Nat
  obj : Nat
  first : Blob
  count : Nat
  /-- Its start (ps); it closes 1 s later. -/
  openPs : Nat
  deriving DecidableEq, Repr

/-- The event system. -/
structure EventSt where
  rings : Vector EventRing 40 := Vector.replicate 40 {}
  windows : List SummaryWindow := []
  /-- The shared buffer of Field-die records while the Hive die is off, oldest first, at most 64 (R473). -/
  deferred : List EventRec := []
  /-- Field-die sources whose next record carries GAP. -/
  deferredGap : List Nat := []
  deriving DecidableEq, Repr

/-! ### Record store (R384-R406) -/

/-- A log record (R387). -/
structure LogRec where
  type : Nat
  id : Nat
  seq : Nat
  txn : Bool
  commit : Bool
  delete : Bool
  payload : Blob
  deriving DecidableEq, Repr

/-- One record position of a pair: its offset, and what copy A and copy B hold there (`none`: not written
or failing its checks). -/
structure RecPos where
  offset : Nat
  a : Option LogRec
  b : Option LogRec
  deriving DecidableEq, Repr

/-- STATE of a sector header (R386). -/
inductive PairState where
  | fresh | active | obsolete
  deriving DecidableEq, Repr

/-- A pair of sectors (R385). -/
structure LogPair where
  st : PairState := .fresh
  pgen : Nat := 0
  recs : List RecPos := []
  deriving DecidableEq, Repr

/-- A log area: its pairs, the pair appended to, the reserve, its sequence, and a compaction under way: the
victim and its live records still to be copied (R393). -/
structure LogArea where
  pairs : List LogPair
  cur : Nat := 0
  reserve : Nat := 1
  seq : Nat := 0
  copying : Option (Nat × List LogRec) := none
  /-- First SEQ of a transaction being written now: its records outlive a compaction (R389). -/
  openFrom : Option Nat := none
  /-- When the last compaction began, in AO periods (R393). -/
  compactedAo : Option Nat := none
  deriving DecidableEq, Repr

/-- A counter slot (R397): VALUE and VCRC good of copies A and B, IVALUE and ICRC good. -/
structure CounterSlot where
  a : Nat := 0
  aGood : Bool := true
  b : Nat := 0
  bGood : Bool := true
  intent : Nat := 0
  intentGood : Bool := true
  deriving DecidableEq, Repr

/-- A record write in service or waiting (R391). -/
structure StoreReq where
  /-- Requester 0 AO sequencer, 1 vault, 2 access island, 3 tag role, 4 keeper. -/
  who : Nat
  area : Nat
  record : LogRec
  /-- Copy A is complete, so the request is for copy B. -/
  copyB : Bool := false
  deriving DecidableEq, Repr

/-- A tag-area write (R399, R400): the intent slot's contents. -/
structure TagIntent where
  kind : Nat
  file : Nat
  offset : Nat
  role : Nat
  field : Bool
  index : Nat
  journal : Nat
  newData : Blob
  oldData : Blob
  newLog : Blob
  oldLog : Blob
  deriving DecidableEq, Repr

/-- Area T (R399). Files are kept as (file, bytes written), bytes beyond read 0x00. -/
structure TagArea where
  copyA : List (Nat × Blob) := []
  copyB : List (Nat × Blob) := []
  fmark : Nat := 0
  imark : Nat := 0
  foldseq : Nat := 0
  intent : Option TagIntent := none
  /-- Journal sequence in the commit slot. -/
  commit : Nat := 0
  /-- Write-log sequence (R319). -/
  logSeq : Nat := 0
  deriving DecidableEq, Repr

/-- A password's failure count and block (R316, R403). -/
structure PwState where
  failures : Nat := 0
  blocked : Bool := false
  /-- Seconds of the block left. -/
  remaining : Nat := 0
  deriving DecidableEq, Repr

/-- The record store. -/
structure StoreSt where
  /-- Areas M, W, S (0, 1, 2); in S pair 0 is the counter block and not listed. -/
  m : LogArea := { pairs := List.replicate 16 {}, reserve := 15 }
  w : LogArea := { pairs := List.replicate 4 {}, reserve := 3 }
  sys : LogArea := { pairs := List.replicate 9 {}, reserve := 8 }
  counters : Vector CounterSlot 128 := Vector.replicate 128 {}
  tag : TagArea := {}
  /-- Requests waiting for their grant, oldest first, and the arbiter's pointer (R22, R391). -/
  waiting : List StoreReq := []
  pointer : Nat := 0
  /-- The request granted. -/
  inService : Option StoreReq := none
  /-- A scan is running: which areas are not ready. -/
  scanning : Bool := false
  /-- Items whose owner found no good record (R396): (area, type, id). -/
  lost : List (Nat × Nat × Nat) := []
  verifyPw : PwState := {}
  readPw : PwState := {}
  /-- Sessions that have opened W rights: (slot, may write) (R403). -/
  wRights : List (Nat × Bool) := []
  deriving DecidableEq, Repr

/-! ### Sessions of the object dictionary (R407-R421) -/

/-- Roles (R408). -/
inductive Role where
  | inspect | host | maker | workshop | vendor
  deriving DecidableEq, Repr

/-- A challenge: its bytes, the time it was made (ps), whether it was used. -/
structure Challenge where
  bytes : Blob
  madePs : Nat
  used : Bool
  deriving DecidableEq, Repr

/-- An SDO transfer in progress on a service channel (R414). -/
inductive SdoTransfer where
  | none
  | download (index sub size : Nat) (got : Blob) (toggle : Bool)
  | upload (index sub : Nat) (left : Blob) (toggle : Bool)
  deriving DecidableEq, Repr

/-- An open download of the update manager (R464). -/
structure Download where
  address : Nat
  length : Nat
  got : Blob
  counter : Nat
  deriving DecidableEq, Repr

/-- A session slot (R407). -/
structure Session where
  transport : Transport
  endpoint : Nat
  role : Role := .inspect
  challenge : Option Challenge := none
  /-- UDP: session ID, last SEQ accepted, the stored RESPONSE, a DOMAIN being written (R416). -/
  udpId : Nat := 0
  lastSeq : Nat := 0
  /-- The session key of a UDP session (R415). -/
  udpKey : Blob := []
  response : Option Blob := none
  partialWrite : Option (Nat × Nat × Blob) := none
  /-- UDS: 1 default, 2 programming, 3 extended (R417, R464). -/
  diag : Nat := 1
  /-- Time (ps) of the session's last request, which its idle timeout counts from (R407, R417). -/
  lastPs : Nat := 0
  /-- The snapshot of a string read (R434): entry and bytes. -/
  snapshot : Option (Nat × Blob) := none
  /-- 0x3A10/01, 0x2201/01, 0x2202/01: the per-session entries of R413. -/
  peek : Nat := 0
  mOffset : Nat := 0
  wOffset : Nat := 0
  deriving DecidableEq, Repr

/-- Role failures of an endpoint (R408). -/
structure RoleFail where
  count : Nat := 0
  times : List Nat := []
  blocked : Bool := false
  /-- Start (ps) of the block. -/
  blockedPs : Nat := 0
  deriving DecidableEq, Repr

/-- The window's registers (R418). -/
structure OdWindow where
  /-- CMD as last written. -/
  cmd : Nat := 0
  slot : Nat := 0
  offset : Nat := 0
  length : Nat := 0
  status : Nat := 0
  total : Nat := 0
  /-- VALUE: tag and word, or VOID. -/
  value : Option (Nat × Nat) := none
  valueHi : Nat := 0
  data : Blob := []
  deriving DecidableEq, Repr

/-- The object dictionary's service state. -/
structure SessSt where
  slots : Vector (Option Session) 16 :=
    (Vector.replicate 16 none).set 15 (some { transport := .keeperFirmware, endpoint := 32 })
  fails : Vector RoleFail 33 := Vector.replicate 33 {}
  sdo : Vector SdoTransfer 10 := Vector.replicate 10 .none
  /-- Time (ps) of the last frame of each channel's transfer (R414). -/
  sdoPs : Vector Nat 10 := Vector.replicate 10 0
  window : OdWindow := {}
  nextUdpId : Nat := 1
  download : Option (Nat × Download) := none
  /-- The role write of RESTORE_DEFAULTS waits for the next cold boot (R413). -/
  restore : Bool := false
  /-- The transport settings 0x1030-0x1034 and gPTP settings in force since the keeper started (R421, R426). -/
  inForce : List (Nat × Nat) := []
  deriving DecidableEq, Repr

/-! ### The die-to-die link (R8-R10) -/

/-- Link state. -/
structure LinkSt where
  up : Bool := true
  /-- The session key both dies hold. -/
  key : Option Blob := some (List.replicate 16 0)
  /-- The last flit in each direction failed its CRC once (to Hive, to Field). -/
  failedToHive : Bool := false
  failedToField : Bool := false
  deriving DecidableEq, Repr

/-! ### States of stoppable functions (R458) -/

/-- What a State entry reads. -/
inductive FnState where
  | stopped | running | stopping | pending | down | recovering | busSleep | fault | testing | retired
  deriving DecidableEq, Repr

/-! ### The Comb (R28-R66) -/

/-- A Comb image's parts (R40-R50): the header's words and each section's entries as integers of their own
width, with the first bytes least significant (R39). -/
structure Comb where
  hdr : Blob
  acts : List (BitVec 64)
  wins : List (BitVec 256)
  flows : List (BitVec 128)
  code : List Word
  routes : List (BitVec 256)
  rlist : List Word
  pdus : List (BitVec 512)
  limits : List (BitVec 64)
  graph : List Word
  cert : List (BitVec 16)
  cmap : List Word
  /-- SHA-384 of the image up to the signature block (R50). -/
  hash : Blob
  deriving DecidableEq, Repr

/-- States of the standby bank (R62). -/
inductive BankState where
  | empty | loading | verifying | verified | refused | armed
  deriving DecidableEq, Repr

/-- An entry of the Comb set (R34, R466). -/
structure CombSetEntry where
  image : Blob
  /-- The acceptance tag stored beside it (R452). -/
  tag : Option Blob := none
  /-- Position in the activation log, 0 for never activated, larger for later. -/
  activated : Nat := 0
  deriving DecidableEq, Repr

/-- The Comb store and sequencer. -/
structure CombSt where
  active : Option Comb := none
  /-- The image the active bank was loaded from. -/
  activeImage : Blob := []
  /-- The active bank, 0 or 1: the residency bit of the active Comb (R33). -/
  bank : Nat := 0
  standby : Option Comb := none
  /-- The image in the standby bank, or being verified for it. -/
  image : Blob := []
  state : BankState := .empty
  refusal : Nat := 0
  detail : Nat := 0xFFFFFFFF
  /-- Ticks passed since the arm was registered (R63). -/
  armTicks : Nat := 0
  /-- 0x3903/01: 0 local, 1 locked, 2 holdover, 3 exceeded (R38). -/
  tickState : Nat := 0
  /-- The reference has returned and steering resumes at the next boundary (R38). -/
  refBack : Bool := false
  /-- k of the last boundary (0x3903/02). -/
  lastK : Int := 0
  /-- The phase error of the boundaries against the reference, in ps, as the last reference gave it (R36, R156, R196). -/
  phasePs : Int := 0
  /-- k of the boundary that is due, fixed when the last tick ended. -/
  dueK : Int := 0
  /-- Occurrences expanded two ticks ahead (R43): for the next tick and the one after, the action entries due. -/
  ahead1 : List (BitVec 64) := []
  ahead2 : List (BitVec 64) := []
  /-- The occurrences of the tick in progress. -/
  now : List (BitVec 64) := []
  /-- The Comb set in flash and DRAM, entries 0 to 3 (R464, R466). -/
  set : Vector (Option CombSetEntry) 4 := Vector.replicate 4 none
  activations : Nat := 0
  /-- The bank is armed as soon as the verifier accepts it (R467). -/
  autoArm : Bool := false
  /-- A restore is under way with this entry: the full verifier runs, or it is active at the next tick (R452). -/
  restore : Option Nat := none
  /-- Route positions (entry, residency mask) and PDU positions shared by both Combs (R33). -/
  routeTab : List (BitVec 256 × Nat) := []
  pduTab : List (BitVec 512 × Nat) := []
  deriving DecidableEq, Repr

/-! ### Switch core (R67-R104) -/

/-- A frame in the device, one per output it is copied to (R69, R93). -/
structure Frame where
  id : Nat
  bytes : Blob
  inPort : Nat
  outPort : Nat
  tc : Nat
  flow : Option Nat := none
  err : Bool := false
  ct : Bool := false
  ciph : Bool := false
  win : Bool := false
  hash : Nat := 0
  ts : Nat := 0
  /-- Every cell has arrived at the input. -/
  whole : Bool := true
  /-- Its output has begun to send it, or an internal destination to take it. -/
  begun : Bool := false
  /-- It is held after its cells left the queues: in a transmit buffer, a MAC, or at F29. -/
  taken : Bool := false
  /-- The external port it was received on, for MACsec plaintext (R191). -/
  rxPort : Nat := 0
  /-- The output it goes to after a cipher pass (R193, R129). -/
  next : Option Nat := none
  /-- The PDU it carries, for sealed transmission (R132). -/
  pdu : Option Nat := none
  /-- A MACsec plaintext: its headers name the port it was received on (R191). -/
  plain : Bool := false
  /-- Cells that have crossed to the output, and those its output has sent and freed already (R82). -/
  crossed : Nat := 0
  sent : Nat := 0
  /-- Frame bytes a cluster's unpacker has passed (R117). -/
  unpacked : Nat := 0
  /-- A cell of it has met a down output: the rest follows it (R97). -/
  flushed : Bool := false
  /-- The column, within its cluster, whose window output buffer it comes from (R247, R253). -/
  col : Nat := 0
  deriving DecidableEq, Repr

/-- Where a cell of an output queue stands (R81, R82). -/
inductive Pool where
  | reserved | shared | headroom | spillPending | headroomPending | dram | transit
  deriving DecidableEq, Repr

/-- A cell: its frame, its number within the frame, and its CSEQ (R69). -/
structure CellRef where
  frame : Nat
  idx : Nat
  cseq : Nat := 0
  deriving DecidableEq, Repr

/-- An output queue (R78-R82). -/
structure OutQueue where
  /-- Cells in queue order with their pools. -/
  cells : List (CellRef × Pool) := []
  /-- Frames in list order. -/
  frames : List Nat := []
  spill : Bool := false
  /-- Back-pressure is asserted (R85). -/
  xoff : Bool := false
  /-- Inputs it was asserted to. -/
  contributors : List Nat := []
  /-- Credits issued to internal sources (R85, R92). -/
  credits : Nat := 0
  /-- The DRAM segment: spilled cells in order, each with its parity group and its header and payload as written (R83). -/
  dram : List (CellRef × Nat × Blob) := []
  /-- The group being written and its cells so far. -/
  groupSeq : Nat := 0
  groupFill : Nat := 0
  /-- The parity of the groups in use: the XOR of their cells less those already read back. -/
  parity : List (Nat × Blob) := []
  /-- The frame whose cell of a group was rebuilt, by group. -/
  groupLost : List (Nat × Nat) := []
  deriving DecidableEq, Repr

/-- A fabric plane's health (R70, R74). -/
structure PlaneSt where
  failed : Bool := false
  /-- The time of a fault count within the last 100 ms (ps). -/
  faultPs : Option Nat := none
  /-- Passed its self-test, back at the next boundary or tick (R74). -/
  returning : Bool := false
  deriving DecidableEq, Repr

/-- A token bucket (R88): tokens in millionths of a token, and the time of the last refill. -/
structure Bucket where
  micro : Int := 0
  atPs : Nat := 0
  deriving DecidableEq, Repr

/-- An ingress in progress on an external port (R88-R90, R173). -/
structure Ingress where
  /-- Frame copies being written, by number. -/
  copies : List Nat
  tc : Nat
  /-- The policer's decision: the cause of a discard, or none. -/
  cause : Option Nat
  /-- Cells counted so far. -/
  cells : Nat
  head : Blob
  ts : Nat
  deriving DecidableEq, Repr

/-- A fabric port (R75, R77, R85). -/
structure FabPort where
  staging : List CellRef := []
  /-- Cells the MAC holds until staging has room. -/
  arriving : List CellRef := []
  /-- At a cluster's port, the round-robin pointer over its four window output buffers (R253). -/
  colPtr : Nat := 0
  /-- Grant pointer of the output, accept pointer of the input (R77). -/
  grantPtr : Nat := 0
  acceptPtr : Nat := 0
  /-- Classes it is back-pressured for: bit tc counts the queues asking (R85). -/
  pausedBy : List Nat := []
  /-- Cells received since back-pressure, per class (R86). -/
  graceUsed : List (Nat × Nat) := []
  /-- When the pause of a queue was asked for, by queue (ps). -/
  pausePs : List (Nat × Nat) := []
  /-- What the frame book keeps by input port: frames out and flushed of those that entered here, and the correction of the
  imbalances found (R93, R96). -/
  bookOut : Nat := 0
  bookFlushed : Nat := 0
  bookCorr : Int := 0
  deriving DecidableEq, Repr

/-- A mirror session (R102, R103). -/
structure MirrorSt where
  st : FnState := .stopped
  seq : Nat := 0
  write : Nat := 0
  /-- Captures waiting for a DRAM slot, with their times, oldest first. -/
  waiting : List (MirrorCap × Nat) := []
  ring : List (Nat × Blob) := []
  deriving DecidableEq, Repr

/-- The switch core. -/
structure FabSt where
  frames : List Frame := []
  nextFrame : Nat := 0
  ports : Vector FabPort 32 := Vector.replicate 32 {}
  queues : Vector OutQueue 256 := Vector.replicate 256 {}
  planeA : PlaneSt := {}
  planeB : PlaneSt := {}
  /-- 0x3800/02 (R74). -/
  planeTest : Nat := 0
  /-- The self-test of both planes that a cold boot runs is under way (R74). -/
  bootTest : Bool := false
  /-- In degraded mode, this tick's reservations on double slots: double slot, input, output, class (R73). -/
  doubles : List (Nat × Nat × Nat × Nat) := []
  /-- Cells each input could offer at the start of the slot before: cell, output, class (R76, R77). -/
  ready : List (Nat × List (CellRef × Nat × Nat)) := []
  /-- The cells of the double slot in progress: input, output, cell (R72). -/
  double : List (Nat × Nat × CellRef) := []
  /-- Cell sequence per input and queue: key input * 256 + queue (R69). -/
  cseq : List (Nat × Nat) := []
  freeCells : Nat := 131072
  allocCells : Nat := 0
  spillFree : Nat := 0
  spillUsed : Nat := 0
  spillInFlight : Nat := 0
  /-- Spill engine: read next (R84), and its pointers over queues for writes and reads. -/
  spillReadNext : Bool := false
  spillWPtr : Nat := 0
  spillRPtr : Nat := 0
  buckets : Vector Bucket 192 := Vector.replicate 192 {}
  ingress : Vector (Option Ingress) 24 := Vector.replicate 24 none
  mirrors : Vector MirrorSt 8 := Vector.replicate 8 {}
  /-- Current bucket-to-member maps of the path groups: cluster groups, XG aggregate (R100). -/
  pathXg : List Nat := (List.range 256).map (· % 2)
  /-- A free-list rescan is running (R96). -/
  rescan : Bool := false
  headroomHigh : Nat := 0
  deriving DecidableEq, Repr

/-! ### Signal engine (R105-R140) -/

/-- A sealed stream (R128). -/
structure StreamSt where
  fresh : Nat := 0
  resv : Nat := 0
  transmit : Bool := false
  /-- 0 unused, 1 active, 2 resynchronising, 3 exhausted. -/
  state : Nat := 0
  accepts : Nat := 0
  /-- A record of RESV is not yet committed: emissions wait (R133). -/
  waiting : Bool := false
  deriving DecidableEq, Repr

/-- A broadcast-transport session (R137). -/
structure BamSession where
  port : Nat
  sa : Nat
  pgn : Nat
  size : Nat
  packets : Nat
  next : Nat
  data : Blob
  deriving DecidableEq, Repr

/-- What the packer keeps per transmit PDU (R125, R138), by its position in the PDU table. -/
structure EmitSt where
  pdu : Nat
  /-- Age-clock time of the last emission, in ps of device time. -/
  lastPs : Option Nat
  /-- Raw values at the last emission, and last packed, per route position. -/
  lastRaw : List (Nat × Nat)
  packed : List (Nat × Nat)
  pendingChange : Bool
  /-- The payload of a broadcast sequence and the next packet (R138). -/
  bam : Option (Blob × Nat)
  deriving DecidableEq, Repr

/-- A port's J1939 address claim (R135). -/
structure ClaimSt where
  address : Nat := 0xFF
  /-- 0 idle, 1 claiming, 2 claimed, 3 LOST. -/
  state : Nat := 0
  deriving DecidableEq, Repr

/-- The signal engine. -/
structure SigSt where
  /-- Signal store: entries that differ from the power-up entry, by index, strictly rising (R108). -/
  store : List (Nat × BitVec 64) := []
  /-- The age clock (R109), in 64 us units, and the sweeper's next entry (R111). -/
  age : Nat := 0
  sweep : Nat := 0
  /-- Streams that differ from an unused one, by index. -/
  streams : List (Nat × StreamSt) := []
  emits : List EmitSt := []
  bams : List (Nat × BamSession) := []
  /-- Binding addresses seen, by binding index (R136). -/
  bindings : List (Nat × Nat) := []
  claims : Vector ClaimSt 10 := Vector.replicate 10 {}
  /-- Table entries under reload: PDU table?, index (R106). -/
  reloading : List (Bool × Nat) := []
  /-- The distance residue in mm (R134), and metres the Field die holds as a request. -/
  residue : Nat := 0
  /-- Streams that logged a MAC mismatch in the current 100 ms: stream, time (R139). -/
  sealLogged : List (Nat × Nat) := []
  deriving DecidableEq, Repr

/-! ### External ports (R141-R200) -/

/-- A frame standing in a CAN or LIN receive queue (R148). -/
structure RxItem where
  bytes : Blob
  /-- Its copies: output, where it goes after F29, the PDU it carries there. -/
  copies : List (Nat × Option Nat × Option Nat)
  hash : Nat
  tc : Nat
  ts : Nat
  deriving DecidableEq, Repr

/-- A CAN controller (R141-R159). -/
structure CanSt where
  tec : Nat := 0
  recv : Nat := 0
  /-- Transmit buffers in load order: buffer number, frame. -/
  bufs : List (Nat × Nat) := []
  rq0 : List RxItem := []
  rq1 : List RxItem := []
  /-- The reference buffer (R155), the reference state 0x0A/04, the follower's cycle count. -/
  refBuf : Option CanFrame := none
  refState : Nat := 0
  refCycle : Nat := 0
  /-- Start of frame of the last reference message (ps), and its Master_Ref_Mark (R156). -/
  lastRefPs : Option Nat := none
  refMark : Nat := 0
  deriving DecidableEq, Repr

/-- A LIN controller (R160-R165). -/
structure LinSt where
  /-- Response buffers: identifier, frame. -/
  resp : List (Nat × Nat) := []
  rq0 : List RxItem := []
  rq1 : List RxItem := []
  /-- The header on the bus: identifier, and whether it was this port's own. -/
  header : Option (Nat × Bool) := none
  /-- When the last header began (ps) and T_max of its frame (ps). -/
  lastHeaderPs : Option Nat := none
  lastTmaxPs : Nat := 0
  /-- The rate the frame in progress runs at, bit/s (R163). -/
  rate : Nat := 0
  /-- Consecutive headers with a read-back error. -/
  readback : Nat := 0
  /-- The last header had a read-back error. -/
  headerBad : Bool := false
  /-- The 100 ms after a wake-up signal are running (R165). -/
  blackout : Bool := false
  skipLoggedPs : Option Nat := none
  deriving DecidableEq, Repr

/-- A class's pause state on an Ethernet port (R182-R184). -/
structure PauseSt where
  /-- Stopped by a received pause. -/
  stopped : Bool := false
  /-- Quanta of the last pause applied. -/
  quanta : Nat := 0
  /-- The watchdog overrides the pause. -/
  override : Bool := false
  deriving DecidableEq, Repr

/-- A MACsec secure association (R189). -/
structure SaSt where
  transmit : Bool
  channel : Nat
  sci : Nat
  an : Nat
  slot : Nat
  pn : Nat
  active : Bool
  deriving DecidableEq, Repr

/-- An Ethernet or TSA port (R169-R198). -/
structure EthSt where
  linkUp : Bool := false
  /-- The frame being sent. -/
  tx : Option Nat := none
  /-- A MAC control frame waits to be sent ahead of the queues: class vector and quanta (R180). -/
  control : List (Nat × Nat) := []
  pauses : Vector PauseSt 8 := Vector.replicate 8 {}
  /-- Attempts of the frame being sent, and whether it waits in back-off (R181). -/
  attempts : Nat := 0
  backoff : Bool := false
  /-- PLCA status 0x0B/07: 0 off, 1 active, 2 inactive. -/
  plca : Nat := 0
  /-- The PHY reports a fault; jabber silences the transmitter (R187). -/
  phyFault : Bool := false
  /-- A wake burst is being sent (R188). -/
  wakeBurst : Bool := false
  sas : List SaSt := []
  /-- Frames of the port waiting at F29 for an SA (R194). -/
  pnExhausted : Bool := false
  /-- Three quarters of the PN space were passed and logged. -/
  pnLogged : Bool := false
  /-- gPTP state as the keeper's service sees the port. -/
  asCapable : Bool := false
  meanDelay : Nat := 0
  /-- Timestamps of the last frame received and sent, in ns of device time (R195). -/
  rxTs : Nat := 0
  txTs : Nat := 0
  /-- Alternation of receive and transmit lanes (R192). -/
  rxAlt : Bool := false
  txAlt : Bool := false
  /-- The MAC halted the link: SerDes off. -/
  rate : Nat := 0
  deriving DecidableEq, Repr

/-- A port test (R475-R478). -/
structure PortTestSt where
  /-- 0 idle, 1 running, 2 complete. -/
  st : Nat := 0
  stopping : Bool := false
  sent : Nat := 0
  checked : Nat := 0
  errors : Nat := 0
  /-- The mode, length and count in force, and the next sequence number of the generator. -/
  mode : Nat := 0
  count : Nat := 0
  nextSeq : Nat := 0
  expectSeq : Nat := 0
  deriving DecidableEq, Repr

/-- An external port: what every kind has, and the controller of its kind. -/
structure Port where
  st : FnState := .stopped
  downCause : Nat := 0
  /-- The flush of R97 is running; the frame and cell counts it has made. -/
  flushing : Bool := false
  flushedFrames : Nat := 0
  flushedCells : Nat := 0
  /-- The holdoff of R153 is running. -/
  holdoff : Bool := false
  /-- Waiting for 128 occurrences of 11 recessive bits (R153). -/
  recoverySeq : Bool := false
  /-- Times (ps) of the downs of the last 60 s. -/
  downTimes : List Nat := []
  /-- Integrating to the bus: 11 recessive bits for CAN, one inter-frame space for LIN (R152, R166). -/
  integrating : Bool := false
  /-- When the stop under way began (ps): what is in reception then is finished (R166). -/
  stopPs : Nat := 0
  /-- The stop under way ends with the domain off and its pads held (R157, R444). -/
  voteOff : Bool := false
  can : CanSt := {}
  lin : LinSt := {}
  eth : EthSt := {}
  test : PortTestSt := {}
  deriving DecidableEq, Repr

/-! ### Profold cores (R201-R240) -/

/-- A tagged word (R201): tag and payload. -/
structure PfWord where
  tag : BitVec 4 := 0
  val : Word := 0
  deriving DecidableEq, Repr

/-- State of an accumulator (R231). -/
inductive AccState where
  | valid | stale | fault
  deriving DecidableEq, Repr

/-- An 80-bit accumulator; in F32 mode it holds a binary32 pattern. -/
structure PfAcc where
  st : AccState := .valid
  val : Int := 0
  /-- F32 mode. -/
  f32 : Bool := false
  deriving DecidableEq, Repr

/-- What a producer in flight will write (R223). -/
inductive PfTarget where
  | reg (r : Fin 32) (w : PfWord)
  /-- The destination of a load: dropped when the instruction after it traps in load-delay mode (R226). -/
  | load (r : Fin 32) (w : PfWord)
  | acc (a : Fin 2) (v : PfAcc)
  deriving DecidableEq, Repr

/-- A write in flight: it lands at the end of cycle `due`; entries stand in issue order. -/
structure PfPending where
  due : Nat
  what : PfTarget
  deriving DecidableEq, Repr

/-- A Profold core, or a lockstep pair of them, which is invisible to code (R201-R240). -/
structure PfCore where
  g : Vector PfWord 32 := Vector.replicate 32 {}
  /-- Accumulators as a reader sees them, and with every MACD product issued so far (R223, R231). -/
  acc : Vector PfAcc 2 := Vector.replicate 2 {}
  accFull : Vector PfAcc 2 := Vector.replicate 2 {}
  status : Word := 1
  tpc : Word := 0
  tcode : Word := 0
  tinfo : Word := 0
  tvec : Word := 0
  tstatus : Word := 0
  /-- The 64-bit cycle counter, and CYCHI as the last read of CYCLO latched it (R213). -/
  cyc : Nat := 0
  /-- The least the cycle counter has reached at the last tick: 800 cycles a tick. -/
  cycMark : Nat := 0
  cycHi : Word := 0
  isalvl : Word := 0x11
  coreid : Word := 0
  ipend : Word := 0
  imask : Word := 0
  /-- Segment descriptors (R214). -/
  sg : Vector (BitVec 64) 16 := Vector.replicate 16 0
  /-- Instruction words the instruction memory holds; 0: the spec states no size (R217). -/
  imem : Nat := 0
  /-- Instruction words it has been loaded with, by address; a core whose code the spec does not place lists none (R242, R243). -/
  code : List (Nat × Word) := []
  /-- Addresses whose word has an uncorrectable error (R201). -/
  badCode : List Nat := []
  pc : Nat := 0
  /-- Data memory and the rest of the physical data space the core writes: words that are not VOID, by
  word address, addresses strictly rising (R201, R242, R255). -/
  mem : List (Nat × PfWord) := []
  pend : List PfPending := []
  /-- The instruction just before was a load or SCW: its address, whether a trap now discards its result, and the result on its
  way (R226). -/
  prevLoad : Option (Nat × Bool × PfPending) := none
  /-- The reservation: word address, cycle of its LRW (R232). -/
  resv : Option (Nat × Nat) := none
  /-- The cycle in which the last divide issued (R224). -/
  lastDiv : Option Nat := none
  /-- The instruction at the pc stands in a delay slot; the target to continue at after it (R227). -/
  slotTarget : Option Nat := none
  /-- A REP has issued: the next instruction runs this many times more, and its word once it has run (R228). -/
  rep : Option Nat := none
  repWord : Option Word := none
  /-- The round-robin pointer of the data memory: 0 the core, 1 the other agent (R22, R233). -/
  memPtr : Nat := 0
  /-- WAIT has stopped issue (R220). -/
  waiting : Bool := false
  /-- A double trap has stopped the core (R236), or the debug port has (R485). -/
  halted : Bool := false
  debugHalt : Bool := false
  /-- One instruction may issue although the debug port holds the core (R485). -/
  debugStep : Bool := false
  deriving DecidableEq, Repr

/-! ### Worker pairs, windows, keeper (R241-R258) -/

/-- Which run of a window this is (R248). -/
inductive RunKind where
  | first | rerun | shadow
  deriving DecidableEq, Repr

/-- How a run has ended (R246). -/
inductive RunEnd where
  | wend | trapped | overrun | miscompare
  deriving DecidableEq, Repr

/-- A run of a window on a pair (R244-R248). -/
structure WinRun where
  win : Nat
  col : Nat
  kind : RunKind
  /-- Input words that have been written into the data memory (R244), and those a store of their own cycle came after (R233). -/
  landed : Nat := 0
  skip : List Nat := []
  /-- The cycle of its first issue, by the core's counter (R244, R246). -/
  base : Nat := 0
  /-- Loaded and able to issue (a shadow run loads first). -/
  ready : Bool := true
  /-- Words one of the window's STORE routes names, as stored so far: the output staging (R247). -/
  staging : List (Nat × PfWord) := []
  ended : Option RunEnd := none
  deriving DecidableEq, Repr

/-- A worker pair (R241-R252). -/
structure PairSt where
  st : FnState := .running
  retired : Bool := false
  column : Option Nat := none
  run : Option WinRun := none
  /-- It is loading the code of this column, in a takeover or for a drain (R248, R252). -/
  loading : Option Nat := none
  /-- The tick since power-up in which a drain's load was complete; it takes the column at a later start (R252). -/
  loadedAt : Option Nat := none
  /-- 0x3B10 + p/07. -/
  requal : Nat := 0
  deriving DecidableEq, Repr

/-- A column's snapshot buffer and the outcome of its window in progress (R244, R248). -/
structure ColSt where
  /-- Window in progress, its start in ticks since power-up. -/
  win : Option Nat := none
  startTick : Nat := 0
  /-- Input words: data word, value, SEALV, in IN_LIST order, with the LOAD route's index. -/
  snap : List (Nat × PfWord × Bool) := []
  /-- The snapshot taken at the beginning of this tick for the window that starts in it (R112). -/
  next : Option (Nat × List (Nat × PfWord × Bool)) := none
  deriving DecidableEq, Repr

/-- A keeper slot of the boot flash (R462): its image, or the one the device was delivered with (log entry on it). -/
structure KeeperSlot where
  image : Option Blob := none
  install : Nat := 0
  /-- TRIES bits still set. -/
  tries : Nat := 3
  confirmed : Bool := false
  deriving DecidableEq, Repr

/-- The keeper's service state (R254-R257, R461-R469). [log 121 DEDUCED] -/
structure KeeperSt where
  running : Bool := true
  build : Nat := 0
  abi : Nat := 0
  fmtMin : Nat := 0x0100
  fmtMax : Nat := 0x0100
  /-- 0x3B20/04. -/
  lastCause : Nat := 0
  /-- Half the watchdog period has passed without a service (R256). -/
  half : Bool := false
  /-- Start (ps) of the watchdog's period and of the running image (R257, R462). -/
  watchPs : Nat := 0
  startPs : Nat := 0
  /-- Times (ps) of the resets of the last 60 s; vault and access restarts likewise (R469). -/
  resetTimes : List Nat := []
  vaultTimes : List Nat := []
  accessTimes : List Nat := []
  /-- Boot flash slots A and B (R462). -/
  slotA : Option KeeperSlot := some { install := 1, confirmed := true }
  slotB : Option KeeperSlot := none
  /-- The slot last started, 0 or 1, and the staged keeper (R465): slot and hash. -/
  lastStarted : Nat := 0
  staged : Option (Nat × Blob) := none
  /-- SHA-384 of the running image: h_keeper (R330). -/
  hash : Blob := (List.range 48).map Config.factoryKeeperHash
  /-- The recovery loader runs (R463). -/
  recovery : Bool := false
  /-- ISA levels that the vault's and the access sequencer's images declare, and whether the boot ROM accepted each (R240). -/
  vaultIsa : Nat := 0x11
  accessIsa : Nat := 0x10
  vaultOk : Bool := true
  accessOk : Bool := true
  deriving DecidableEq, Repr

/-! ### Access plane: LF, transponders, sessions (R259-R284) -/

/-- An enrolled key (R271): `key` is its AES-128 key in the access key store, absent until reloaded. -/
structure KeyEntry where
  index : Nat
  id : Nat
  /-- 0 fob or card, 1 transponder, 2 both. -/
  kind : Nat
  zones : Nat
  key : Option Blob
  deriving DecidableEq, Repr

/-- What the LF engine is running (R260). -/
inductive LfUser where
  | none
  /-- A pattern's run: pattern, zone, whether a Comb poll started it, the channels driven. -/
  | pattern (id zone : Nat) (comb : Bool) (driven : Nat)
  | transponder
  deriving DecidableEq, Repr

/-- Steps of a transponder transaction (R276, R277). -/
inductive TpStep where
  | idle
  | charging
  /-- An INVENTORY with this prefix is out. -/
  | inventory (pre : List Bool)
  | auth (id : Nat)
  | confirm (id : Nat)
  deriving DecidableEq, Repr

/-- The transponder path. -/
structure TpSt where
  step : TpStep := .idle
  stack : List (List Bool) := []
  found : List Nat := []
  /-- Listed transponders still to be authenticated. -/
  todo : List Nat := []
  /-- The current command was repeated once. -/
  repeated : Bool := false
  nb : Blob := []
  nk : Blob := []
  /-- The channel mask it runs on. -/
  channels : Nat := 0
  deriving DecidableEq, Repr

/-- A lock-out record (R274). -/
structure LockRec where
  /-- Failure times, AO seconds, oldest first. -/
  times : List Nat := []
  level : Nat := 0
  locked : Bool := false
  lockEnd : Nat := 0
  deriving DecidableEq, Repr

/-- An open start-lock session (R278). -/
structure StartSession where
  key : Nat
  unlock : Bool
  start : Bool
  /-- The session key ks of its last authentication (R272). -/
  ks : Blob
  /-- AO time of its timeout, in 32.768 kHz periods. -/
  endAo : Nat
  deriving DecidableEq, Repr

/-- A touch input (R268). -/
structure TouchSt where
  baseline : Nat := 0
  /-- Scans since the baseline last moved. -/
  drift : Nat := 0
  /-- The last scan stood above the threshold. -/
  above : Bool := false
  touched : Bool := false
  deriving DecidableEq, Repr

/-- LF, transponder and session state. -/
structure LfSt where
  user : LfUser := .none
  /-- Pending dynamic starts: requester 0-31 a pattern, 32 the transponder transaction (R267), 33 the loopback (R480). -/
  pending : List Nat := []
  pointer : Nat := 0
  chan : Vector FnState 8 := Vector.replicate 8 .running
  touch : Vector TouchSt 4 := Vector.replicate 4 {}
  /-- Patterns of a start request that have not ended yet (R280). -/
  startSet : List Nat := []
  session : Option StartSession := none
  /-- A fault of the outputs withdraws the release until the next session (R281). -/
  slrFault : Bool := false
  /-- Level of SLR_A while released. -/
  slrA : Bool := false
  releasing : Bool := false
  lock : Vector LockRec 9 := Vector.replicate 9 {}
  /-- The last values read of the door and start-request signals, where they were trusted BOOLs. -/
  prevDoor : Option Bool := none
  prevStart : Option Bool := none
  tp : TpSt := {}
  keys : List KeyEntry := []
  /-- The generator has been reseeded since the last power-up (R263). -/
  seeded : Bool := true
  /-- Patterns whose touch woke the device with ACCESS off wait for the key store (R269). -/
  afterWake : List Nat := []
  /-- The loopback test of R480 holds the engine. -/
  loopback : Bool := false
  deriving DecidableEq, Repr

/-! ### UWB (R285-R304) -/

/-- A valid ANSWER (R291): key index, nK, tail values by antenna in channel order. -/
structure UwbAnswer where
  slot : Nat
  index : Nat
  nk : Blob
  tails : List Nat
  deriving DecidableEq, Repr

/-- What the exchange phase still has to do (R291, R294). -/
inductive UwbWork where
  | exchange (a : UwbAnswer)
  | repoll (index slot : Nat)
  deriving DecidableEq, Repr

/-- Where an exchange stands (R293). -/
inductive ExStep where
  /-- Valid ANSWER of a ranging slot: RPOLL is still to be sent (R300). -/
  | ready
  | rpoll | forager | ack | ended
  deriving DecidableEq, Repr

/-- An exchange (R293-R298). -/
structure Exchange where
  index : Nat
  nk : Blob
  tails : List Nat
  zone : Nat
  step : ExStep := .rpoll
  /-- STS key and counter of the exchange (R295). -/
  sts : Blob := []
  stsCounter : BitVec 128 := 0
  /-- Send timestamp of RPOLL (R286); Tround1 and Treply2 of the base (R296). -/
  sent : BitVec 40 := 0
  tround1 : Nat := 0
  treply2 : Nat := 0
  angle : Int := 0
  challenge : BitVec 32 := 0
  /-- Round trips and polarities of the Forager answers, by challenge. -/
  answers : List (Nat × Int × Bool) := []
  /-- tof as numerator and denominator, rtt_f times 32, in units of 15.65 ps. -/
  tofNum : Int := 0
  tofDen : Int := 1
  rtt32 : Int := 0
  deriving DecidableEq, Repr

/-- An admitted key waiting for the end of the round: index, d_b in mm, kind of success (R299). -/
structure Admitted where
  index : Nat
  dbMm : Nat
  /-- Session key of the authentication (R272). -/
  ks : Blob
  deriving DecidableEq, Repr

/-- A poll round (R288). -/
structure UwbRound where
  pattern : Nat
  zone : Nat
  /-- Antennas of the pattern's tail, in channel order (R292). -/
  tailAnts : List Nat
  slotBase : Nat
  channel : Nat
  nb : Blob
  /-- The answer period is open; it has ended. -/
  answering : Bool := false
  answersDone : Bool := false
  collided : List Nat := []
  work : List UwbWork := []
  exchanges : Nat := 0
  repolls : Nat := 0
  /-- A REPOLL is out for this key. -/
  waitingFor : Option (Nat × Nat) := none
  /-- Keys whose exchange was aborted and which have had their second re-poll (R294). -/
  aborted : List Nat := []
  admitted : List Admitted := []
  /-- Failures in the order they arose: the key ID. -/
  failures : List Nat := []
  deriving DecidableEq, Repr

/-- The UWB radio and its rounds. -/
structure UwbSt where
  st : FnState := .running
  round : Option UwbRound := none
  exchange : Option Exchange := none
  /-- A ranging slot of the Comb: key index, zone, nB, its UCHAL was answered (R300). -/
  rslot : Option (Nat × Nat × Blob × Bool) := none
  /-- The timestamp counter, as the last timestamp taken left it (R286). -/
  counter : BitVec 40 := 0
  loopback : Bool := false
  deriving DecidableEq, Repr

/-! ### NFC (R305-R322) -/

/-- What the reader role is doing (R309-R313). -/
inductive ReaderStep where
  | off
  /-- The application SELECT is out to the first listed card. -/
  | select
  /-- A phone key: nB sent; pB sent for key index with nK. -/
  | auth1 (nb : Blob)
  | auth2 (nb nk : Blob) (index : Nat)
  /-- Offered to the keeper; taken, with a command out or not. -/
  | offered
  | keeper (waiting : Bool)
  deriving DecidableEq, Repr

/-- Roles over NFC (R315). -/
inductive NfcRole where
  | inspect | workshop | maker
  deriving DecidableEq, Repr

/-- A tag write in progress (R320). -/
structure TagWrite where
  file : Nat
  offset : Nat
  data : Blob
  role : NfcRole
  field : Bool
  deriving DecidableEq, Repr

/-- NFC0. -/
structure NfcSt where
  st : FnState := .running
  /-- An external field is detected; FIELD_DET_N is driven low. -/
  field : Bool := false
  detLow : Bool := false
  /-- The device's own field is on. -/
  own : Bool := false
  step : ReaderStep := .off
  /-- Cards listed and not served yet, first is being served. -/
  cards : List Blob := []
  /-- R(NAK)s sent for the current answer, and waiting granted by S(WTX), in periods of 13.56 MHz. -/
  naks : Nat := 0
  wtx : Nat := 0
  lastAnswer : Blob := []
  /-- Tag role: activated, application and file selected, role, nonce of AUTH. -/
  active : Bool := false
  app : Bool := false
  file : Option Nat := none
  role : NfcRole := .inspect
  uid : Blob := []
  write : Option TagWrite := none
  /-- A READ BINARY held under S(WTX) until the scan ends (R317): file, offset, length. -/
  heldRead : Option (Nat × Nat × Nat) := none
  /-- A VERIFY held under S(WTX) until the scan ends: its password. -/
  heldVerify : Option Blob := none
  /-- ATTEST held under S(WTX): its nonce. -/
  attesting : Option Blob := none
  challenge : Blob := []
  deriving DecidableEq, Repr

/-! ### Keys, attestation and life cycle (R323-R357) -/

/-- A life-cycle record (R326). -/
structure LcRec where
  seq : Nat
  state : Nat
  cause : Nat
  epoch : Nat
  share : Nat
  prev : Nat
  time : Nat
  deriving DecidableEq, Repr

/-- The vault row without its TAMPER field (R325-R327): each copy is `none` where its check fails. -/
structure VaultRow where
  lcA : Option LcRec := none
  lcB : Option LcRec := none
  /-- The previous record, copies A and B. -/
  prevA : Option LcRec := none
  prevB : Option LcRec := none
  shA : Option Blob := none
  shB : Option Blob := none
  deriving DecidableEq, Repr

/-- A key slot with its attributes (R332); KCV is computed. -/
structure KeySlot where
  key : Blob
  src : Nat
  meas : Bool
  usage : Byte
  owner : BitVec 4
  keyId : Word
  kgen : Word
  deriving DecidableEq, Repr

/-- A replacement or enrolment between its pending record and its commit (R340). -/
structure Replacement where
  requester : Nat
  tag : Byte
  /-- The slot, or the access key table index of an ENROL. -/
  target : Nat
  /-- An enrolment: its kind, zone mask and the session slot that waits for the answer. -/
  enrol : Option (Nat × Nat × Nat)
  shadow : KeySlot
  blob : Blob
  deriving DecidableEq, Repr

/-- Where an attestation under way goes (R317, R347): a session's object or the NFC tag role. -/
inductive AttestFor where
  | object | nfc
  deriving DecidableEq, Repr

/-- The vault. -/
structure VaultSt where
  row : VaultRow := {}
  /-- The AO domain's share register. -/
  aoShare : Blob := List.replicate 32 0
  /-- The derivation register: KD, formed at boot where a valid share exists. -/
  kd : Option Blob := none
  mr : Option Blob := none
  slots : Vector (Option KeySlot) 64 := Vector.replicate 64 none
  /-- Replacements under way, oldest first; each holds one of the 4 shadow registers. -/
  repl : List Replacement := []
  /-- Answers keeper firmware has not read, in completion order: tag, status, results. -/
  answers : List (Byte × Nat × Blob) := []
  /-- Committed generations of the key-replacement journal (R340): KEY_ID, KGEN. -/
  gens : List (Word × Word) := []
  /-- Blobs of enrolled access keys (R344): index, blob. -/
  accessBlobs : List (Nat × Blob) := []
  /-- The caller's nonce of an attestation under way, its algorithm set, and for whom. -/
  attesting : Option (Blob × Nat × AttestFor) := none
  /-- 0x2340/02. -/
  attestResult : Blob := []
  /-- The request queue's round-robin pointer over the requesters 0-4 (R22, R337). -/
  pointer : Nat := 0
  /-- Lockstep miscompares that the operations to come run into (R23, R338). -/
  upset : Nat := 0
  deriving DecidableEq, Repr

/-- The life cycle's running state (R349-R354). -/
structure LcSt where
  /-- The code of R349 the device runs in. -/
  state : Nat := 0
  challenge : Option Challenge := none
  debugOpen : Bool := false
  deriving DecidableEq, Repr

/-! ### Cipher lanes (R358-R372) -/

/-- A key register KEY0-KEY3 (R334). -/
structure LaneKey where
  key : Blob
  /-- Source slot of a copy; none for a direct write. -/
  slot : Option Nat
  deriving DecidableEq, Repr

/-- What a pass does (R191, R193, R129, R132, R369). -/
inductive PassKind where
  | sealRx (stream : Nat)
  | sealTx (stream : Nat)
  | macRx
  /-- MACsec transmission: key slot, AN and PN given at its start. -/
  | macTx (slot an pn : Nat)
  | keeper
  deriving DecidableEq, Repr

/-- A pass (R361, R362). -/
structure LanePass where
  kind : PassKind
  requester : Nat
  frame : Nat
  /-- Blocks still to be computed. -/
  left : Nat
  /-- It is suspended (R362), or moved here from a failed lane, whose hold buffer belongs to it (R367). -/
  suspended : Bool := false
  heldIn : Option Nat := none
  req : Option LaneReq := none
  op : Nat := 0
  /-- The keeper has reset since it asked: the answer is discarded (R369). -/
  discard : Bool := false
  deriving DecidableEq, Repr

/-- A cipher lane. -/
structure Lane where
  st : FnState := .running
  k0 : Option LaneKey := none
  k1 : Option LaneKey := none
  k2 : Option LaneKey := none
  k3 : Option LaneKey := none
  /-- The older of KEY0 and KEY1 is KEY1 (R334). -/
  older1 : Bool := false
  /-- Direct writes to a register an operation uses: they take effect when it has completed. -/
  wait2 : Option Blob := none
  wait3 : Option Blob := none
  reserved : Option LanePass := none
  dynamic : Option LanePass := none
  /-- Reserved passes waiting for a run, in the order of their first cells (R362). -/
  waitRes : List LanePass := []
  /-- Dynamic requests waiting. -/
  waitDyn : List LanePass := []
  /-- Round-robin pointer over requesters 0-5. -/
  pointer : Nat := 0
  /-- Plaintext held until its tag verifies (R368). -/
  hold : Blob := []
  /-- Blocks since the mask generator was reseeded (R366). -/
  maskBlocks : Nat := 0
  reseedLogged : Bool := false
  /-- The tests of R367 passed: back at the next hyperperiod boundary. -/
  returning : Bool := false
  /-- Reserved runs of this lane that another lane takes over (R367, R371). -/
  takenBy : Option Nat := none
  busyLoggedPs : Option Nat := none
  deriving DecidableEq, Repr

/-- The cipher complex. -/
structure LanesSt where
  lane : Vector Lane 12 := Vector.replicate 12 {}
  /-- Keeper requests queued and not begun (R369), oldest first: operation, request, answer discarded. -/
  queue : List (Nat × LaneReq × Bool) := []
  answers : List (Byte × Nat × Blob) := []
  deriving DecidableEq, Repr

/-! ### Tamper (R373-R383) -/

/-- One copy of the tamper configuration (R376, R378). -/
structure TamperCfg where
  enable : BitVec 32 := 0x000FE001
  polarity : BitVec 4 := 0
  debounce : Nat := 10
  seq : Nat := 0
  deriving DecidableEq, Repr

/-- The TAMPER field of the vault row and the tamper logic. -/
structure TamperSt where
  latch : BitVec 32 := 0
  nlatch : BitVec 32 := 0xFFFFFFFF
  first : Nat := 0xFF
  stateAt : Nat := 0
  opsAt : Nat := 0
  time : Nat := 0
  count : Nat := 0
  cfgA : Option TamperCfg := some {}
  cfgB : Option TamperCfg := some {}
  /-- Per input, the AO second of its last count. -/
  lastCount : Vector (Option Nat) 20 := Vector.replicate 20 none
  /-- Inputs tripping now (0x2500/0A). -/
  now : BitVec 32 := 0
  holdMv : Nat := 3100
  /-- A destruction waits for HOLD_OK in FIELD (R380). -/
  waiting : Bool := false
  loopResult : Nat := 0
  /-- Bits latched while the Hive die was off and not yet logged (R382). -/
  unlogged : BitVec 32 := 0
  deriving DecidableEq, Repr

/-! ### Power (R435-R456) -/

/-- Device states (R440), and start-up. -/
inductive DevState where
  | off | field | sleep | boot | on
  deriving DecidableEq, Repr

/-- Retention of DRAM (R437). -/
inductive DdrState where
  | on | retained | off
  deriving DecidableEq, Repr

/-- Power, clocks and boot. -/
structure PwrSt where
  dev : DevState := .on
  /-- VAO below its brown-out threshold (R436). -/
  brownout : Bool := false
  /-- HIVE-CORE or ACCESS was on at the brown-out. -/
  brownoutOn : Bool := false
  vao : Bool := true
  hive : Bool := true
  access : Bool := true
  ddr : DdrState := .on
  pairs : Vector Bool 16 := Vector.replicate 16 false
  ports : Vector Bool 24 := Vector.replicate 24 false
  /-- Votes by voter number (R438): HIVE-CORE, ACCESS, DDR, and each voter's own domains. -/
  voteHive : BitVec 64 := 1
  voteAccess : BitVec 64 := 1
  voteDdr : BitVec 64 := 1
  votePair : Vector Bool 16 := Vector.replicate 16 false
  /-- Votes of the pairs for their own domains, during requalification (R251, R438). -/
  voteOwn : Vector Bool 16 := Vector.replicate 16 false
  votePort : Vector Bool 24 := Vector.replicate 24 false
  /-- The step of SLEEP entry completed last; none outside an entry. -/
  entry : Option Nat := none
  /-- Ports and pairs an entry has stopped, and what it found on (R445). -/
  entryPorts : List Nat := []
  entryPairs : List Nat := []
  entryAccess : Bool := false
  /-- The device state before the entry, for 0x2000/02. -/
  entryFrom : Nat := 0
  /-- A wake latched and not acted on yet: its code. -/
  wake : Option Nat := none
  /-- 0x2100/02, and 0x2181/01. -/
  wakeCode : Nat := 0
  resetCause : Nat := 0
  /-- A boot is running: cold, and its last completed step of R453 or R454. -/
  boot : Option (Bool × Nat) := none
  /-- Boots due: cause (R451). -/
  bootDue : Option Nat := none
  /-- `clk.ao` when the running boot's wake was latched; the time it took is 0x2181/04. -/
  bootStart : Nat := 0
  /-- The boot's wake was a touch, and the unlock message has not been sent yet (R430, R455). -/
  unlockDue : Bool := false
  /-- The AES-128-XTS key of DRAM in the DDR retention cell; none while the cell is off (R437). -/
  ddrKey : Option Blob := some (List.replicate 32 0)
  /-- The boot flash port runs in 8D-8D-8D, else in 1-1-1; the dummy-cycle count of the flash's octal DTR declaration (R496). -/
  flashOctal : Bool := false
  flashDummy : Nat := 0
  /-- Pads held, by port, with bit 24 for DDR (R447). -/
  held : BitVec 26 := 0
  /-- AO divider: periods of the 32.768 kHz crystal in the current second; seconds are 0x2107/01. -/
  rtc : Nat := 0
  sub : Nat := 0
  crystal : Bool := true
  /-- Residency (R448), in periods: RUN, DOZE, SLEEP. -/
  resRun : Nat := 0
  resDoze : Nat := 0
  resSleep : Nat := 0
  /-- WAKE_SENSE levels above threshold (R443). -/
  sense : Vector Bool 4 := Vector.replicate 4 false
  holdN : Bool := false
  /-- Lock bits of 0x2180/01 (R449). -/
  pll : BitVec 13 := 0x005F
  /-- Declared intent of 0x2100/01 (R440). -/
  intent : Nat := 0
  /-- Triggers handed to the AO sequencer (R269, R444). -/
  handed : Bool := false
  /-- The keeper halted by entry step 6. -/
  seqHalted : Bool := false
  /-- `clk.ao` when entry step 6 halted the Comb sequencer (R445). -/
  haltAo : Nat := 0
  deriving DecidableEq, Repr

/-! ### Tests (R475-R486) -/

/-- A SerDes lane test (R479). -/
structure SerTest where
  running : Bool := false
  locked : Bool := false
  bits : Nat := 0
  errors : Nat := 0
  deriving DecidableEq, Repr

/-- JTAG instructions (R486). -/
inductive JtagInst where
  | reset | bypass | idcode | sample | extestPulse | extestTrain
  deriving DecidableEq, Repr

/-- Tests in progress; port tests stand with their ports. -/
structure TestSt where
  ser : Vector SerTest 6 := Vector.replicate 6 {}
  lf : Bool := false
  uwb : Bool := false
  nfc : Bool := false
  /-- The memory code under BIST. -/
  bist : Option Nat := none
  /-- A DRAM test runs in the next cold boot. -/
  dram : Bool := false
  dramFailing : Option Nat := none
  jtag : JtagInst := .reset
  deriving DecidableEq, Repr

/-! ### The machine -/

/-- The whole state of the block. [log 4 DESIGN CHOICE] -/
structure State where
  /-- Commands waiting, first in first out. -/
  pending : List Instr := []
  /-- What has left the block, newest first (log entry 4). -/
  out : List Out := []
  /-- The model's own: draws made from noise sources, and free values taken (log entries 5, 6). -/
  draws : Nat := 0
  freeCtr : Nat := 0
  /-- Values of the object dictionary's stored entries that differ from their defaults: key
  index * 256 + subindex, keys strictly rising, no entry equal to its default. -/
  od : List (Nat × Nat) := []
  /-- Stored strings and DOMAINs that are not empty, by the same key, keys strictly rising. -/
  blobs : List (Nat × Blob) := []
  fuse : Fuses := {}
  clk : Clock := {}
  evt : EventSt := {}
  store : StoreSt := {}
  sess : SessSt := {}
  link : LinkSt := {}
  comb : CombSt := {}
  fab : FabSt := {}
  sig : SigSt := {}
  port : Vector Port 24 := Vector.replicate 24 {}
  wp : Vector PfCore 16 := Vector.ofFn fun p => { coreid := BitVec.ofNat 32 p, imem := 32768 }
  keeper : PfCore := { coreid := 0x10, imem := 0x80000, status := 9 }
  vcore : PfCore := { coreid := 0x11, status := 9 }
  acore : PfCore := { coreid := 0x12, isalvl := 0x10, status := 9 }
  pairs : Vector PairSt 16 := Vector.replicate 16 {}
  cols : Vector ColSt 16 := Vector.replicate 16 {}
  kpr : KeeperSt := {}
  lf : LfSt := {}
  uwb : UwbSt := {}
  nfc : NfcSt := {}
  vault : VaultSt := {}
  lc : LcSt := {}
  lanes : LanesSt := {}
  tamper : TamperSt := {}
  pwr : PwrSt := {}
  test : TestSt := {}
  deriving DecidableEq, Repr

/-- Reasons a step stops with a fault. No command of this block stops the machine: what the spec refuses
it refuses with an abort code, a status or an event, which are effects. -/
inductive Fault where
  /-- Raised by no meaning: the spec names no condition after which the block has no next state. Safe. -/
  | stopped
  deriving DecidableEq, Repr

/-- Reasons a command has no meaning. -/
inductive Refusal where
  /-- Answered by `exec` for a command whose meaning is not written. Safe: nothing is proved of it. -/
  | notModelled (mnemonic : String)
  deriving DecidableEq, Repr

/-- The machine right after reset: an SH2424 as delivered, in BLANK, its first cold boot finished, the keeper
running, no Comb accepted (service-only mode), nothing on any wire (log entry 1). [log 1 DESIGN CHOICE; log 3 DESIGN CHOICE; log 125 DESIGN CHOICE] -/
def State.reset : State := {}

end Sys2Proof.Machine
end

