-- ==== Sys2Proof/Machine/ObjectMap.lean ====
section
/-! DEFINITION. The entries of the object dictionary (R422-R426, R428-R433 and the object tables of the
chapters): type, access, role masks, default and range of every entry, one row per line of the tables. -/

namespace Sys2Proof.Machine

/-- Rows of the object tables, part 0. -/
def objRows0 : List ObjRow := [
  -- R66 Active Comb ID
  ⟨0x3900, 1, 0x1, 0x1, 0x1, .u32, .ro, 15, 15, false, false, 0x0, 0, 4294967295, none, .volatile⟩,
  -- R66 Active generation
  ⟨0x3900, 1, 0x1, 0x2, 0x2, .u32, .ro, 15, 15, false, false, 0x0, 0, 4294967295, none, .volatile⟩,
  -- R66 Active hyperperiod
  ⟨0x3900, 1, 0x1, 0x3, 0x3, .u32, .ro, 15, 15, false, false, 0x0, 0, 4294967295, none, .volatile⟩,
  -- R66 Active hash
  ⟨0x3900, 1, 0x1, 0x4, 0x4, .ostr, .ro, 15, 15, false, false, 0x0, 0, 0, some 48, .volatile⟩,
  -- R66 Standby state
  ⟨0x3901, 1, 0x1, 0x1, 0x1, .u8, .ro, 7, 7, false, false, 0x0, 0, 255, none, .volatile⟩,
  -- R66 Standby Comb ID
  ⟨0x3901, 1, 0x1, 0x2, 0x2, .u32, .ro, 7, 7, false, false, 0x0, 0, 4294967295, none, .volatile⟩,
  -- R66 Refusal code
  ⟨0x3901, 1, 0x1, 0x3, 0x3, .u8, .ro, 7, 7, false, false, 0x0, 0, 255, none, .volatile⟩,
  -- R66 Refusal detail
  ⟨0x3901, 1, 0x1, 0x4, 0x4, .u32, .ro, 7, 7, false, false, 0xffffffff, 0, 4294967295, none, .volatile⟩,
  -- R66 Standby image
  ⟨0x3902, 1, 0x1, 0x1, 0x1, .domain, .wo, 2, 2, false, false, 0x0, 0, 0, none, .none⟩,
  -- R66 Swap command
  ⟨0x3902, 1, 0x1, 0x2, 0x2, .u8, .wo, 3, 3, false, false, 0x0, 1, 2, none, .none⟩,
  -- R66 Tick state
  ⟨0x3903, 1, 0x1, 0x1, 0x1, .u8, .ro, 15, 15, false, false, 0x0, 0, 255, none, .volatile⟩,
  -- R66 Last steering
  ⟨0x3903, 1, 0x1, 0x2, 0x2, .i16, .ro, 7, 7, false, false, 0x0, -32768, 32767, none, .volatile⟩,
  -- R66 Holdover limit
  ⟨0x3903, 1, 0x1, 0x3, 0x3, .u16, .rw, 2, 2, false, false, 0x3e8, 1, 60000, none, .config⟩,
  -- R66 Minimum generation
  ⟨0x3904, 1, 0x1, 0x1, 0x1, .u32, .rw, 2, 2, false, false, 0x0, 0, 4294967295, none, .config⟩,
  -- R66 Swaps completed
  ⟨0x3905, 1, 0x1, 0x1, 0x1, .u32, .ro, 7, 7, false, false, 0x0, 0, 4294967295, none, .volatile⟩,
  -- R66 Swaps cancelled
  ⟨0x3905, 1, 0x1, 0x2, 0x2, .u32, .ro, 7, 7, false, false, 0x0, 0, 4294967295, none, .volatile⟩,
  -- R66 Carry-over frames
  ⟨0x3905, 1, 0x1, 0x3, 0x3, .u32, .ro, 7, 7, false, false, 0x0, 0, 4294967295, none, .volatile⟩,
  -- R104 Plane state
  ⟨0x3800, 1, 0x1, 0x1, 0x1, .u8, .ro, 15, 15, false, false, 0x0, 0, 255, none, .volatile⟩,
  -- R104 Plane test
  ⟨0x3800, 1, 0x1, 0x2, 0x2, .u8, .rw, 6, 6, false, false, 0x0, 1, 1, none, .volatile⟩,
  -- R104 Free cells
  ⟨0x3800, 1, 0x1, 0x3, 0x3, .u32, .ro, 7, 7, false, false, 0x20000, 0, 4294967295, none, .volatile⟩,
  -- R104 Spill in flight
  ⟨0x3800, 1, 0x1, 0x4, 0x4, .u16, .ro, 7, 7, false, false, 0x0, 0, 65535, none, .volatile⟩,
  -- R104 Headroom in use
  ⟨0x3800, 1, 0x1, 0x5, 0x5, .u16, .ro, 7, 7, false, false, 0x0, 0, 65535, none, .volatile⟩,
  -- R104 Headroom high-water
  ⟨0x3800, 1, 0x1, 0x6, 0x6, .u16, .ro, 7, 7, false, false, 0x0, 0, 65535, none, .volatile⟩,
  -- R104 Clear high-water
  ⟨0x3800, 1, 0x1, 0x7, 0x7, .u8, .wo, 6, 6, false, false, 0x0, 0, 0, none, .none⟩,
  -- R104 Frames in
  ⟨0x3801, 1, 0x1, 0x1, 0x20, .u64, .ro, 7, 7, false, false, 0x0, 0, 18446744073709551615, none, .volatile⟩,
  -- R104 Frames out
  ⟨0x3802, 1, 0x1, 0x1, 0x20, .u64, .ro, 7, 7, false, false, 0x0, 0, 18446744073709551615, none, .volatile⟩,
  -- R104 Frames policed
  ⟨0x3803, 1, 0x1, 0x1, 0x18, .u64, .ro, 7, 7, false, false, 0x0, 0, 18446744073709551615, none, .volatile⟩,
  -- R104 Policed by cause
  ⟨0x3803, 1, 0x1, 0x21, 0x25, .u32, .ro, 7, 7, false, false, 0x0, 0, 4294967295, none, .volatile⟩,
  -- R104 Frames flushed
  ⟨0x3804, 1, 0x1, 0x1, 0x20, .u64, .ro, 7, 7, false, false, 0x0, 0, 18446744073709551615, none, .volatile⟩,
  -- R104 Queue high-water
  ⟨0x3805, 1, 0x1, 0x1, 0x20, .u32, .ro, 7, 7, false, false, 0x0, 0, 4294967295, none, .volatile⟩,
  -- R104 Reservations released
  ⟨0x3806, 1, 0x1, 0x1, 0x20, .u32, .ro, 7, 7, false, false, 0x0, 0, 4294967295, none, .volatile⟩,
  -- R104 Pause grace
  ⟨0x3807, 1, 0x1, 0x13, 0x18, .u16, .rws, 2, 2, false, false, 0x100, 0, 65535, none, .config⟩,
  -- R104 Stall limit
  ⟨0x3808, 1, 0x1, 0x1, 0x18, .u16, .rws, 2, 2, false, false, 0x64, 11, 60000, none, .config⟩,
  -- R104 Hash field mask
  ⟨0x3809, 1, 0x1, 0x1, 0x20, .u8, .rws, 2, 2, false, false, 0xff, 0, 255, none, .config⟩,
  -- R104 Path tables
  ⟨0x380a, 1, 0x1, 0x1, 0x2, .domain, .ro, 7, 7, false, false, 0x0, 0, 0, none, .volatile⟩,
  -- R104 Mirror source
  ⟨0x3810, 8, 0x1, 0x1, 0x1, .u8, .rws, 6, 6, false, false, 0x0, 0, 31, none, .config⟩,
  -- R104 Mirror direction
  ⟨0x3810, 8, 0x1, 0x2, 0x2, .u8, .rws, 6, 6, false, false, 0x0, 0, 1, none, .config⟩,
  -- R104 Mirror class mask
  ⟨0x3810, 8, 0x1, 0x3, 0x3, .u8, .rws, 6, 6, false, false, 0xff, 0, 255, none, .config⟩,
  -- R104 Ring base
  ⟨0x3810, 8, 0x1, 0x4, 0x4, .u64, .rws, 6, 6, false, false, 0x0, 0, 18446744073709551615, none, .config⟩,
  -- R104 Ring entries
  ⟨0x3810, 8, 0x1, 0x5, 0x5, .u32, .rws, 6, 6, false, false, 0x1000, 256, 1048576, none, .config⟩,
  -- R104 Write index
  ⟨0x3810, 8, 0x1, 0x6, 0x6, .u32, .ro, 7, 7, false, false, 0x0, 0, 4294967295, none, .volatile⟩,
  -- R104 Overwrites
  ⟨0x3810, 8, 0x1, 0x7, 0x7, .u32, .ro, 7, 7, false, false, 0x0, 0, 4294967295, none, .volatile⟩,
  -- R104 Enable
  ⟨0x3810, 8, 0x1, 0x8, 0x8, .bool, .rw, 6, 6, false, false, 0x0, 0, 1, none, .config⟩,
  -- R104 Skipped
  ⟨0x3810, 8, 0x1, 0x9, 0x9, .u32, .ro, 7, 7, false, false, 0x0, 0, 4294967295, none, .volatile⟩,
  -- R104 Audits run
  ⟨0x3820, 1, 0x1, 0x1, 0x1, .u32, .ro, 7, 7, false, false, 0x0, 0, 4294967295, none, .volatile⟩,
  -- R104 Imbalances
  ⟨0x3820, 1, 0x1, 0x2, 0x2, .u32, .ro, 7, 7, false, false, 0x0, 0, 4294967295, none, .volatile⟩,
  -- R104 Last imbalance
  ⟨0x3820, 1, 0x1, 0x3, 0x3, .u8, .ro, 7, 7, false, false, 0x0, 0, 255, none, .volatile⟩,
  -- R104 Cells repaired
  ⟨0x3820, 1, 0x1, 0x4, 0x4, .u32, .ro, 7, 7, false, false, 0x0, 0, 4294967295, none, .volatile⟩,
  -- R104 Frame corrections
  ⟨0x3820, 1, 0x1, 0x5, 0x5, .u32, .ro, 7, 7, false, false, 0x0, 0, 4294967295, none, .volatile⟩,
  -- R104 Parity rebuilds
  ⟨0x3821, 1, 0x1, 0x1, 0x1, .u32, .ro, 7, 7, false, false, 0x0, 0, 4294967295, none, .volatile⟩,
  -- R104 Unrecoverable groups
  ⟨0x3821, 1, 0x1, 0x2, 0x2, .u32, .ro, 7, 7, false, false, 0x0, 0, 4294967295, none, .volatile⟩,
  -- R104 Policer rate
  ⟨0x3830, 24, 0x1, 0x1, 0x8, .u32, .rws, 2, 2, false, false, 0x0, 0, 4294967295, none, .config⟩,
  -- R104 Policer depth
  ⟨0x3830, 24, 0x1, 0x9, 0x10, .u32, .rws, 2, 2, false, false, 0x0, 0, 4294967295, none, .config⟩,
  -- R140 Routes resident
  ⟨0x3a00, 1, 0x1, 0x1, 0x1, .u32, .ro, 7, 7, false, false, 0x0, 0, 4294967295, none, .volatile⟩,
  -- R140 PDUs resident
  ⟨0x3a00, 1, 0x1, 0x2, 0x2, .u16, .ro, 7, 7, false, false, 0x0, 0, 65535, none, .volatile⟩,
  -- R140 Tag mismatches
  ⟨0x3a01, 1, 0x1, 0x1, 0x1, .u32, .ro, 7, 7, false, false, 0x0, 0, 4294967295, none, .volatile⟩,
  -- R140 Fills
  ⟨0x3a01, 1, 0x1, 0x2, 0x2, .u32, .ro, 7, 7, false, false, 0x0, 0, 4294967295, none, .volatile⟩,
  -- R140 Range faults
  ⟨0x3a01, 1, 0x1, 0x3, 0x3, .u32, .ro, 7, 7, false, false, 0x0, 0, 4294967295, none, .volatile⟩,
  -- R140 Emissions suppressed
  ⟨0x3a01, 1, 0x1, 0x4, 0x4, .u32, .ro, 7, 7, false, false, 0x0, 0, 4294967295, none, .volatile⟩,
  -- R140 Length mismatches
  ⟨0x3a01, 1, 0x1, 0x5, 0x5, .u32, .ro, 7, 7, false, false, 0x0, 0, 4294967295, none, .volatile⟩]

/-- Rows of the object tables, part 1. -/
def objRows1 : List ObjRow := [
  -- R140 Seals verified
  ⟨0x3a02, 1, 0x1, 0x1, 0x1, .u32, .ro, 15, 15, false, false, 0x0, 0, 4294967295, none, .volatile⟩,
  -- R140 Seal failures
  ⟨0x3a02, 1, 0x1, 0x2, 0x2, .u32, .ro, 15, 15, false, false, 0x0, 0, 4294967295, none, .volatile⟩,
  -- R140 Freshness refusals
  ⟨0x3a02, 1, 0x1, 0x3, 0x3, .u32, .ro, 15, 15, false, false, 0x0, 0, 4294967295, none, .volatile⟩,
  -- R140 Substitutes refused
  ⟨0x3a02, 1, 0x1, 0x4, 0x4, .u32, .ro, 15, 15, false, false, 0x0, 0, 4294967295, none, .volatile⟩,
  -- R140 Exhausted-stream suppressions
  ⟨0x3a02, 1, 0x1, 0x5, 0x5, .u32, .ro, 7, 7, false, false, 0x0, 0, 4294967295, none, .volatile⟩,
  -- R140 Stream table
  ⟨0x3a03, 1, 0x1, 0x1, 0x1, .domain, .ro, 7, 7, false, false, 0x0, 0, 0, none, .volatile⟩,
  -- R140 Stream key slot
  ⟨0x3a03, 1, 0x1, 0x2, 0x2, .domain, .rws, 2, 2, false, false, 0x0, 0, 0, some 4096, .config⟩,
  -- R140 Peek index
  ⟨0x3a10, 1, 0x1, 0x1, 0x1, .u32, .rw, 7, 7, false, false, 0x0, 0, 131071, none, .volatile⟩,
  -- R140 Peek value
  ⟨0x3a10, 1, 0x1, 0x2, 0x2, .u64, .ro, 7, 7, false, false, 0x0, 0, 18446744073709551615, none, .volatile⟩,
  -- R140 J1939 NAME
  ⟨0x3a20, 10, 0x1, 0x1, 0x1, .u64, .rws, 2, 2, false, false, 0x0, 0, 18446744073709551615, none, .config⟩,
  -- R140 Preferred address
  ⟨0x3a20, 10, 0x1, 0x2, 0x2, .u8, .rws, 2, 2, false, false, 0xfe, 0, 255, none, .config⟩,
  -- R140 Claimed address
  ⟨0x3a20, 10, 0x1, 0x3, 0x3, .u8, .ro, 7, 7, false, false, 0xff, 0, 255, none, .volatile⟩,
  -- R140 Claim state
  ⟨0x3a20, 10, 0x1, 0x4, 0x4, .u8, .ro, 7, 7, false, false, 0x0, 0, 255, none, .volatile⟩,
  -- R140 BAM aborts
  ⟨0x3a2a, 1, 0x1, 0x1, 0x1, .u32, .ro, 7, 7, false, false, 0x0, 0, 4294967295, none, .volatile⟩,
  -- R140 BAM completed
  ⟨0x3a2a, 1, 0x1, 0x2, 0x2, .u32, .ro, 7, 7, false, false, 0x0, 0, 4294967295, none, .volatile⟩,
  -- R140 BAM ignored
  ⟨0x3a2a, 1, 0x1, 0x3, 0x3, .u32, .ro, 7, 7, false, false, 0x0, 0, 4294967295, none, .volatile⟩,
  -- R140 Binding table
  ⟨0x3a2b, 1, 0x1, 0x1, 0x1, .domain, .rws, 2, 2, false, false, 0x0, 0, 0, some 2304, .config⟩,
  -- R140 Distance counter
  ⟨0x3a40, 1, 0x1, 0x1, 0x1, .u64, .ro, 15, 15, false, false, 0x0, 0, 18446744073709551615, none, .record⟩,
  -- R140 Distance residue
  ⟨0x3a40, 1, 0x1, 0x2, 0x2, .u32, .ro, 15, 15, false, false, 0x0, 0, 4294967295, none, .volatile⟩,
  -- R140 Maximum step
  ⟨0x3a40, 1, 0x1, 0x3, 0x3, .u32, .rws, 2, 2, false, false, 0x2710, 1, 100000, none, .config⟩,
  -- R140 Steps rejected
  ⟨0x3a40, 1, 0x1, 0x4, 0x4, .u32, .ro, 15, 15, false, false, 0x0, 0, 4294967295, none, .volatile⟩,
  -- R167 Enable
  ⟨0x3000, 10, 0x20, 0x1, 0x1, .bool, .rw, 7, 7, false, false, 0x0, 0, 1, none, .config⟩,
  -- R167 Enable
  ⟨0x3140, 4, 0x20, 0x1, 0x1, .bool, .rw, 7, 7, false, false, 0x0, 0, 1, none, .config⟩,
  -- R167 State
  ⟨0x3000, 10, 0x20, 0x2, 0x2, .u8, .ro, 15, 15, false, false, 0x0, 0, 255, none, .volatile⟩,
  -- R167 State
  ⟨0x3140, 4, 0x20, 0x2, 0x2, .u8, .ro, 15, 15, false, false, 0x0, 0, 255, none, .volatile⟩,
  -- R167 Down cause
  ⟨0x3000, 10, 0x20, 0x3, 0x3, .u8, .ro, 7, 7, false, false, 0x0, 0, 255, none, .volatile⟩,
  -- R167 Down cause
  ⟨0x3140, 4, 0x20, 0x3, 0x3, .u8, .ro, 7, 7, false, false, 0x0, 0, 255, none, .volatile⟩,
  -- R167 Formats (CAN)
  ⟨0x3001, 10, 0x20, 0x1, 0x1, .u8, .rws, 2, 2, false, false, 0x3, 0, 7, none, .config⟩,
  -- R167 Protocol exception (CAN)
  ⟨0x3001, 10, 0x20, 0x2, 0x2, .bool, .rws, 2, 2, false, false, 0x1, 0, 1, none, .config⟩,
  -- R167 XL error signalling (CAN)
  ⟨0x3001, 10, 0x20, 0x3, 0x3, .bool, .rws, 2, 2, false, false, 0x1, 0, 1, none, .config⟩,
  -- R167 XL mode switching (CAN)
  ⟨0x3001, 10, 0x20, 0x4, 0x4, .bool, .rws, 2, 2, false, false, 0x0, 0, 1, none, .config⟩,
  -- R167 Role (LIN)
  ⟨0x3141, 4, 0x20, 0x1, 0x1, .u8, .rws, 2, 2, false, false, 0x0, 0, 1, none, .config⟩,
  -- R167 Bit rate (LIN)
  ⟨0x3141, 4, 0x20, 0x2, 0x2, .u16, .rws, 2, 2, false, false, 0x4b00, 1000, 20000, none, .config⟩,
  -- R167 Break length (LIN)
  ⟨0x3141, 4, 0x20, 0x3, 0x3, .u8, .rws, 2, 2, false, false, 0xd, 13, 26, none, .config⟩,
  -- R167 Break delimiter (LIN)
  ⟨0x3141, 4, 0x20, 0x4, 0x4, .u8, .rws, 2, 2, false, false, 0x1, 1, 4, none, .config⟩,
  -- R167 Inter-byte space (LIN)
  ⟨0x3141, 4, 0x20, 0x5, 0x5, .u8, .rws, 2, 2, false, false, 0x0, 0, 4, none, .config⟩,
  -- R167 Bit timing (CAN)
  ⟨0x3002, 10, 0x20, 0x1, 0x1, .u32, .rws, 2, 2, false, false, 0x1f1f7e00, 0, 4294967295, none, .config⟩,
  -- R167 Bit timing (CAN)
  ⟨0x3002, 10, 0x20, 0x2, 0x2, .u32, .rws, 2, 2, false, false, 0x3030a00, 0, 4294967295, none, .config⟩,
  -- R167 Bit timing (CAN)
  ⟨0x3002, 10, 0x20, 0x3, 0x3, .u32, .rws, 2, 2, false, false, 0x3030a00, 0, 4294967295, none, .config⟩,
  -- R167 Bit timing (CAN)
  ⟨0x3002, 10, 0x20, 0x4, 0x4, .u32, .rws, 2, 2, false, false, 0x800c, 0, 4294967295, none, .config⟩,
  -- R167 Transmit error counter (CAN)
  ⟨0x3003, 10, 0x20, 0x1, 0x1, .u8, .ro, 7, 7, false, false, 0x0, 0, 255, none, .volatile⟩,
  -- R167 Receive error counter (CAN)
  ⟨0x3003, 10, 0x20, 0x2, 0x2, .u8, .ro, 7, 7, false, false, 0x0, 0, 255, none, .volatile⟩,
  -- R167 Error state (CAN)
  ⟨0x3003, 10, 0x20, 0x3, 0x3, .u8, .ro, 7, 7, false, false, 0x0, 0, 2, none, .volatile⟩,
  -- R167 Recovery mode
  ⟨0x3004, 10, 0x20, 0x1, 0x1, .u8, .rws, 2, 2, false, false, 0x1, 0, 1, none, .config⟩,
  -- R167 Recovery mode
  ⟨0x3144, 4, 0x20, 0x1, 0x1, .u8, .rws, 2, 2, false, false, 0x1, 0, 1, none, .config⟩,
  -- R167 Holdoff
  ⟨0x3004, 10, 0x20, 0x2, 0x2, .u16, .rws, 2, 2, false, false, 0x64, 0, 60000, none, .config⟩,
  -- R167 Holdoff
  ⟨0x3144, 4, 0x20, 0x2, 0x2, .u16, .rws, 2, 2, false, false, 0x64, 0, 60000, none, .config⟩,
  -- R167 Down limit
  ⟨0x3004, 10, 0x20, 0x3, 0x3, .u8, .rws, 2, 2, false, false, 0x8, 1, 255, none, .config⟩,
  -- R167 Down limit
  ⟨0x3144, 4, 0x20, 0x3, 0x3, .u8, .rws, 2, 2, false, false, 0x8, 1, 255, none, .config⟩,
  -- R167 Downs
  ⟨0x3004, 10, 0x20, 0x4, 0x4, .u32, .ro, 7, 7, false, false, 0x0, 0, 4294967295, none, .volatile⟩,
  -- R167 Downs
  ⟨0x3144, 4, 0x20, 0x4, 0x4, .u32, .ro, 7, 7, false, false, 0x0, 0, 4294967295, none, .volatile⟩,
  -- R167 Filters
  ⟨0x3005, 10, 0x20, 0x1, 0x1, .domain, .rws, 2, 2, false, false, 0x0, 0, 0, some 1024, .config⟩,
  -- R167 Filters
  ⟨0x3145, 4, 0x20, 0x1, 0x1, .domain, .rws, 2, 2, false, false, 0x0, 0, 0, some 1024, .config⟩,
  -- R167 Default entry
  ⟨0x3005, 10, 0x20, 0x2, 0x2, .domain, .rws, 2, 2, false, false, 0x0, 0, 0, some 16, .config⟩,
  -- R167 Default entry
  ⟨0x3145, 4, 0x20, 0x2, 0x2, .domain, .rws, 2, 2, false, false, 0x0, 0, 0, some 16, .config⟩,
  -- R167 Receive queue fill
  ⟨0x3006, 10, 0x20, 0x1, 0x2, .u16, .ro, 7, 7, false, false, 0x0, 0, 65535, none, .volatile⟩,
  -- R167 Receive queue fill
  ⟨0x3146, 4, 0x20, 0x1, 0x2, .u16, .ro, 7, 7, false, false, 0x0, 0, 65535, none, .volatile⟩,
  -- R167 Receive queue high-water
  ⟨0x3006, 10, 0x20, 0x3, 0x4, .u16, .ro, 7, 7, false, false, 0x0, 0, 50, none, .volatile⟩,
  -- R167 Receive queue high-water
  ⟨0x3146, 4, 0x20, 0x3, 0x4, .u16, .ro, 7, 7, false, false, 0x0, 0, 50, none, .volatile⟩,
  -- R167 Buffers loaded (CAN)
  ⟨0x3007, 10, 0x20, 0x1, 0x1, .u8, .ro, 7, 7, false, false, 0x0, 0, 255, none, .volatile⟩]

/-- Rows of the object tables, part 2. -/
def objRows2 : List ObjRow := [
  -- R167 Responses loaded (LIN)
  ⟨0x3147, 4, 0x20, 0x1, 0x1, .u64, .ro, 7, 7, false, false, 0x0, 0, 18446744073709551615, none, .volatile⟩,
  -- R167 Frames received
  ⟨0x3008, 10, 0x20, 0x1, 0x1, .u32, .ro, 7, 7, false, false, 0x0, 0, 4294967295, none, .volatile⟩,
  -- R167 Frames received
  ⟨0x3148, 4, 0x20, 0x1, 0x1, .u32, .ro, 7, 7, false, false, 0x0, 0, 4294967295, none, .volatile⟩,
  -- R167 Frames sent
  ⟨0x3008, 10, 0x20, 0x2, 0x2, .u32, .ro, 7, 7, false, false, 0x0, 0, 4294967295, none, .volatile⟩,
  -- R167 Frames sent
  ⟨0x3148, 4, 0x20, 0x2, 0x2, .u32, .ro, 7, 7, false, false, 0x0, 0, 4294967295, none, .volatile⟩,
  -- R167 Lost arbitrations (CAN); no response (LIN)
  ⟨0x3008, 10, 0x20, 0x3, 0x3, .u32, .ro, 7, 7, false, false, 0x0, 0, 4294967295, none, .volatile⟩,
  -- R167 Lost arbitrations (CAN); no response (LIN)
  ⟨0x3148, 4, 0x20, 0x3, 0x3, .u32, .ro, 7, 7, false, false, 0x0, 0, 4294967295, none, .volatile⟩,
  -- R167 Bus errors (CAN); response errors (LIN)
  ⟨0x3008, 10, 0x20, 0x4, 0x4, .u32, .ro, 7, 7, false, false, 0x0, 0, 4294967295, none, .volatile⟩,
  -- R167 Bus errors (CAN); response errors (LIN)
  ⟨0x3148, 4, 0x20, 0x4, 0x4, .u32, .ro, 7, 7, false, false, 0x0, 0, 4294967295, none, .volatile⟩,
  -- R167 Not accepted (CAN); slots skipped (LIN)
  ⟨0x3008, 10, 0x20, 0x5, 0x5, .u32, .ro, 7, 7, false, false, 0x0, 0, 4294967295, none, .volatile⟩,
  -- R167 Not accepted (CAN); slots skipped (LIN)
  ⟨0x3148, 4, 0x20, 0x5, 0x5, .u32, .ro, 7, 7, false, false, 0x0, 0, 4294967295, none, .volatile⟩,
  -- R167 Protocol exceptions (CAN); read-back errors (LIN)
  ⟨0x3008, 10, 0x20, 0x6, 0x6, .u32, .ro, 7, 7, false, false, 0x0, 0, 4294967295, none, .volatile⟩,
  -- R167 Protocol exceptions (CAN); read-back errors (LIN)
  ⟨0x3148, 4, 0x20, 0x6, 0x6, .u32, .ro, 7, 7, false, false, 0x0, 0, 4294967295, none, .volatile⟩,
  -- R167 Output violations (CAN); slots ignored (LIN)
  ⟨0x3008, 10, 0x20, 0x7, 0x7, .u32, .ro, 7, 7, false, false, 0x0, 0, 4294967295, none, .volatile⟩,
  -- R167 Output violations (CAN); slots ignored (LIN)
  ⟨0x3148, 4, 0x20, 0x7, 0x7, .u32, .ro, 7, 7, false, false, 0x0, 0, 4294967295, none, .volatile⟩,
  -- R167 Wake mode (CAN)
  ⟨0x3009, 10, 0x20, 0x1, 0x1, .u8, .rws, 2, 2, false, false, 0x0, 0, 2, none, .config⟩,
  -- R167 Edge filter (CAN)
  ⟨0x3009, 10, 0x20, 0x2, 0x2, .u8, .rws, 2, 2, false, false, 0x2, 1, 10, none, .config⟩,
  -- R167 Wake ID, wake mask (CAN)
  ⟨0x3009, 10, 0x20, 0x3, 0x4, .u32, .rws, 2, 2, false, false, 0x0, 0, 536870911, none, .config⟩,
  -- R167 Wake format (CAN)
  ⟨0x3009, 10, 0x20, 0x5, 0x5, .u8, .rws, 2, 2, false, false, 0x0, 0, 1, none, .config⟩,
  -- R167 Wake DLC (CAN)
  ⟨0x3009, 10, 0x20, 0x6, 0x6, .u8, .rws, 2, 2, false, false, 0x8, 0, 8, none, .config⟩,
  -- R167 Wake data mask (CAN)
  ⟨0x3009, 10, 0x20, 0x7, 0x7, .u64, .rws, 2, 2, false, false, 0x0, 0, 18446744073709551615, none, .config⟩,
  -- R167 Wake bit rate (CAN)
  ⟨0x3009, 10, 0x20, 0x8, 0x8, .u16, .rws, 2, 2, false, false, 0x1f4, 0, 65535, none, .config⟩,
  -- R167 Wakes (CAN)
  ⟨0x3009, 10, 0x20, 0x9, 0x9, .u32, .ro, 7, 7, false, false, 0x0, 0, 4294967295, none, .volatile⟩,
  -- R167 Decoder errors (CAN)
  ⟨0x3009, 10, 0x20, 0xa, 0xa, .u8, .ro, 7, 7, false, false, 0x0, 0, 255, none, .volatile⟩,
  -- R167 Last wake ID (CAN)
  ⟨0x3009, 10, 0x20, 0xb, 0xb, .u32, .ro, 7, 7, false, false, 0x0, 0, 4294967295, none, .volatile⟩,
  -- R167 Reference role (CAN)
  ⟨0x300a, 10, 0x20, 0x1, 0x1, .u8, .rws, 2, 2, false, false, 0x0, 0, 2, none, .config⟩,
  -- R167 Reference ID (CAN)
  ⟨0x300a, 10, 0x20, 0x2, 0x2, .u32, .rws, 2, 2, false, false, 0x0, 0, 4294967295, none, .config⟩,
  -- R167 Basic cycle (CAN)
  ⟨0x300a, 10, 0x20, 0x3, 0x3, .u16, .rws, 2, 2, false, false, 0x3e8, 1000, 65535, none, .config⟩,
  -- R167 Reference state (CAN)
  ⟨0x300a, 10, 0x20, 0x4, 0x4, .u8, .ro, 7, 7, false, false, 0x0, 0, 255, none, .volatile⟩,
  -- R167 References sent, received (CAN)
  ⟨0x300a, 10, 0x20, 0x5, 0x6, .u32, .ro, 7, 7, false, false, 0x0, 0, 4294967295, none, .volatile⟩,
  -- R167 Master priority (CAN)
  ⟨0x300a, 10, 0x20, 0x7, 0x7, .u8, .rws, 2, 2, false, false, 0x7, 0, 7, none, .config⟩,
  -- R167 Sleep command on stop (LIN)
  ⟨0x314b, 4, 0x20, 0x1, 0x1, .bool, .rws, 2, 2, false, false, 0x1, 0, 1, none, .config⟩,
  -- R167 Wake-up on start (LIN)
  ⟨0x314b, 4, 0x20, 0x2, 0x2, .bool, .rws, 2, 2, false, false, 0x1, 0, 1, none, .config⟩,
  -- R199 Enable
  ⟨0x31c0, 4, 0x20, 0x1, 0x1, .bool, .rw, 7, 7, false, false, 0x0, 0, 1, none, .config⟩,
  -- R199 Enable
  ⟨0x3240, 4, 0x20, 0x1, 0x1, .bool, .rw, 7, 7, false, false, 0x0, 0, 1, none, .config⟩,
  -- R199 Enable
  ⟨0x32c0, 2, 0x20, 0x1, 0x1, .bool, .rw, 7, 7, false, false, 0x0, 0, 1, none, .config⟩,
  -- R199 State
  ⟨0x31c0, 4, 0x20, 0x2, 0x2, .u8, .ro, 15, 15, false, false, 0x0, 0, 255, none, .volatile⟩,
  -- R199 State
  ⟨0x3240, 4, 0x20, 0x2, 0x2, .u8, .ro, 15, 15, false, false, 0x0, 0, 255, none, .volatile⟩,
  -- R199 State
  ⟨0x32c0, 2, 0x20, 0x2, 0x2, .u8, .ro, 15, 15, false, false, 0x0, 0, 255, none, .volatile⟩,
  -- R199 Down cause
  ⟨0x31c0, 4, 0x20, 0x3, 0x3, .u8, .ro, 7, 7, false, false, 0x0, 0, 255, none, .volatile⟩,
  -- R199 Down cause
  ⟨0x3240, 4, 0x20, 0x3, 0x3, .u8, .ro, 7, 7, false, false, 0x0, 0, 255, none, .volatile⟩,
  -- R199 Down cause
  ⟨0x32c0, 2, 0x20, 0x3, 0x3, .u8, .ro, 7, 7, false, false, 0x0, 0, 255, none, .volatile⟩,
  -- R199 Rate (GE, XG)
  ⟨0x3241, 4, 0x20, 0x1, 0x1, .u16, .rws, 2, 2, false, false, 0x3e8, 0, 65535, none, .config⟩,
  -- R199 Rate (GE, XG)
  ⟨0x32c1, 2, 0x20, 0x1, 0x1, .u16, .rws, 2, 2, false, false, 0x2710, 0, 65535, none, .config⟩,
  -- R199 Maximum frame length
  ⟨0x31c1, 4, 0x20, 0x2, 0x2, .u16, .rws, 2, 2, false, false, 0x5f2, 64, 16383, none, .config⟩,
  -- R199 Maximum frame length
  ⟨0x3241, 4, 0x20, 0x2, 0x2, .u16, .rws, 2, 2, false, false, 0x5f2, 64, 16383, none, .config⟩,
  -- R199 Maximum frame length
  ⟨0x32c1, 2, 0x20, 0x2, 0x2, .u16, .rws, 2, 2, false, false, 0x5f2, 64, 16383, none, .config⟩,
  -- R199 Half duplex (GE)
  ⟨0x3241, 4, 0x20, 0x3, 0x3, .bool, .rws, 2, 2, false, false, 0x0, 0, 1, none, .config⟩,
  -- R199 Deliver errored
  ⟨0x31c1, 4, 0x20, 0x4, 0x4, .bool, .rws, 2, 2, false, false, 0x0, 0, 1, none, .config⟩,
  -- R199 Deliver errored
  ⟨0x3241, 4, 0x20, 0x4, 0x4, .bool, .rws, 2, 2, false, false, 0x0, 0, 1, none, .config⟩,
  -- R199 Deliver errored
  ⟨0x32c1, 2, 0x20, 0x4, 0x4, .bool, .rws, 2, 2, false, false, 0x0, 0, 1, none, .config⟩,
  -- R199 Auto-negotiation (GE, XG)
  ⟨0x3241, 4, 0x20, 0x5, 0x5, .bool, .rws, 2, 2, false, false, 0x1, 0, 1, none, .config⟩,
  -- R199 Auto-negotiation (GE, XG)
  ⟨0x32c1, 2, 0x20, 0x5, 0x5, .bool, .rws, 2, 2, false, false, 0x1, 0, 1, none, .config⟩,
  -- R199 Aggregate member (XG)
  ⟨0x32c1, 2, 0x20, 0x6, 0x6, .bool, .rws, 2, 2, false, false, 0x0, 0, 1, none, .config⟩,
  -- R199 MAC address
  ⟨0x31c1, 4, 0x20, 0x7, 0x7, .u64, .rws, 2, 2, false, false, 0x0, 0, 281474976710655, none, .config⟩,
  -- R199 MAC address
  ⟨0x3241, 4, 0x20, 0x7, 0x7, .u64, .rws, 2, 2, false, false, 0x0, 0, 281474976710655, none, .config⟩,
  -- R199 MAC address
  ⟨0x32c1, 2, 0x20, 0x7, 0x7, .u64, .rws, 2, 2, false, false, 0x0, 0, 281474976710655, none, .config⟩,
  -- R199 PVID
  ⟨0x31c2, 4, 0x20, 0x1, 0x1, .u16, .rws, 2, 2, false, false, 0x1, 1, 4094, none, .config⟩,
  -- R199 PVID
  ⟨0x3242, 4, 0x20, 0x1, 0x1, .u16, .rws, 2, 2, false, false, 0x1, 1, 4094, none, .config⟩,
  -- R199 PVID
  ⟨0x32c2, 2, 0x20, 0x1, 0x1, .u16, .rws, 2, 2, false, false, 0x1, 1, 4094, none, .config⟩]

/-- Rows of the object tables, part 3. -/
def objRows3 : List ObjRow := [
  -- R199 Default PCP
  ⟨0x31c2, 4, 0x20, 0x2, 0x2, .u8, .rws, 2, 2, false, false, 0x0, 0, 7, none, .config⟩,
  -- R199 Default PCP
  ⟨0x3242, 4, 0x20, 0x2, 0x2, .u8, .rws, 2, 2, false, false, 0x0, 0, 7, none, .config⟩,
  -- R199 Default PCP
  ⟨0x32c2, 2, 0x20, 0x2, 0x2, .u8, .rws, 2, 2, false, false, 0x0, 0, 7, none, .config⟩,
  -- R199 Ingress strip
  ⟨0x31c2, 4, 0x20, 0x3, 0x3, .bool, .rws, 2, 2, false, false, 0x0, 0, 1, none, .config⟩,
  -- R199 Ingress strip
  ⟨0x3242, 4, 0x20, 0x3, 0x3, .bool, .rws, 2, 2, false, false, 0x0, 0, 1, none, .config⟩,
  -- R199 Ingress strip
  ⟨0x32c2, 2, 0x20, 0x3, 0x3, .bool, .rws, 2, 2, false, false, 0x0, 0, 1, none, .config⟩,
  -- R199 Egress mode
  ⟨0x31c2, 4, 0x20, 0x4, 0x4, .u8, .rws, 2, 2, false, false, 0x0, 0, 2, none, .config⟩,
  -- R199 Egress mode
  ⟨0x3242, 4, 0x20, 0x4, 0x4, .u8, .rws, 2, 2, false, false, 0x0, 0, 2, none, .config⟩,
  -- R199 Egress mode
  ⟨0x32c2, 2, 0x20, 0x4, 0x4, .u8, .rws, 2, 2, false, false, 0x0, 0, 2, none, .config⟩,
  -- R199 Egress VID
  ⟨0x31c2, 4, 0x20, 0x5, 0x5, .u16, .rws, 2, 2, false, false, 0x1, 1, 4094, none, .config⟩,
  -- R199 Egress VID
  ⟨0x3242, 4, 0x20, 0x5, 0x5, .u16, .rws, 2, 2, false, false, 0x1, 1, 4094, none, .config⟩,
  -- R199 Egress VID
  ⟨0x32c2, 2, 0x20, 0x5, 0x5, .u16, .rws, 2, 2, false, false, 0x1, 1, 4094, none, .config⟩,
  -- R199 PCP-to-class map
  ⟨0x31c3, 4, 0x20, 0x1, 0x1, .u32, .rws, 2, 2, false, false, 0x76543201, 0, 4294967295, none, .config⟩,
  -- R199 PCP-to-class map
  ⟨0x3243, 4, 0x20, 0x1, 0x1, .u32, .rws, 2, 2, false, false, 0x76543201, 0, 4294967295, none, .config⟩,
  -- R199 PCP-to-class map
  ⟨0x32c3, 2, 0x20, 0x1, 0x1, .u32, .rws, 2, 2, false, false, 0x76543201, 0, 4294967295, none, .config⟩,
  -- R199 Class-to-priority map
  ⟨0x31c3, 4, 0x20, 0x2, 0x2, .u32, .rws, 2, 2, false, false, 0x76543201, 0, 4294967295, none, .config⟩,
  -- R199 Class-to-priority map
  ⟨0x3243, 4, 0x20, 0x2, 0x2, .u32, .rws, 2, 2, false, false, 0x76543201, 0, 4294967295, none, .config⟩,
  -- R199 Class-to-priority map
  ⟨0x32c3, 2, 0x20, 0x2, 0x2, .u32, .rws, 2, 2, false, false, 0x76543201, 0, 4294967295, none, .config⟩,
  -- R199 Flow-control mode (GE, XG)
  ⟨0x3243, 4, 0x20, 0x3, 0x3, .u8, .rws, 2, 2, false, false, 0x0, 0, 2, none, .config⟩,
  -- R199 Flow-control mode (GE, XG)
  ⟨0x32c3, 2, 0x20, 0x3, 0x3, .u8, .rws, 2, 2, false, false, 0x0, 0, 2, none, .config⟩,
  -- R199 PFC class mask (GE, XG)
  ⟨0x3243, 4, 0x20, 0x4, 0x4, .u8, .rws, 2, 2, false, false, 0x0, 0, 255, none, .config⟩,
  -- R199 PFC class mask (GE, XG)
  ⟨0x32c3, 2, 0x20, 0x4, 0x4, .u8, .rws, 2, 2, false, false, 0x0, 0, 255, none, .config⟩,
  -- R199 Pause watchdog limit (GE, XG)
  ⟨0x3243, 4, 0x20, 0x5, 0x5, .u16, .rws, 2, 2, false, false, 0x32, 1, 60000, none, .config⟩,
  -- R199 Pause watchdog limit (GE, XG)
  ⟨0x32c3, 2, 0x20, 0x5, 0x5, .u16, .rws, 2, 2, false, false, 0x32, 1, 60000, none, .config⟩,
  -- R199 Watchdog overrides
  ⟨0x31c3, 4, 0x20, 0x6, 0x6, .u32, .ro, 7, 7, false, false, 0x0, 0, 4294967295, none, .volatile⟩,
  -- R199 Watchdog overrides
  ⟨0x3243, 4, 0x20, 0x6, 0x6, .u32, .ro, 7, 7, false, false, 0x0, 0, 4294967295, none, .volatile⟩,
  -- R199 Watchdog overrides
  ⟨0x32c3, 2, 0x20, 0x6, 0x6, .u32, .ro, 7, 7, false, false, 0x0, 0, 4294967295, none, .volatile⟩,
  -- R199 Pause and PFC frames received, sent
  ⟨0x31c3, 4, 0x20, 0x7, 0x8, .u32, .ro, 7, 7, false, false, 0x0, 0, 4294967295, none, .volatile⟩,
  -- R199 Pause and PFC frames received, sent
  ⟨0x3243, 4, 0x20, 0x7, 0x8, .u32, .ro, 7, 7, false, false, 0x0, 0, 4294967295, none, .volatile⟩,
  -- R199 Pause and PFC frames received, sent
  ⟨0x32c3, 2, 0x20, 0x7, 0x8, .u32, .ro, 7, 7, false, false, 0x0, 0, 4294967295, none, .volatile⟩,
  -- R199 Recovery mode
  ⟨0x31c4, 4, 0x20, 0x1, 0x1, .u8, .rws, 2, 2, false, false, 0x1, 0, 1, none, .config⟩,
  -- R199 Recovery mode
  ⟨0x3244, 4, 0x20, 0x1, 0x1, .u8, .rws, 2, 2, false, false, 0x1, 0, 1, none, .config⟩,
  -- R199 Recovery mode
  ⟨0x32c4, 2, 0x20, 0x1, 0x1, .u8, .rws, 2, 2, false, false, 0x1, 0, 1, none, .config⟩,
  -- R199 Holdoff
  ⟨0x31c4, 4, 0x20, 0x2, 0x2, .u16, .rws, 2, 2, false, false, 0x64, 0, 60000, none, .config⟩,
  -- R199 Holdoff
  ⟨0x3244, 4, 0x20, 0x2, 0x2, .u16, .rws, 2, 2, false, false, 0x64, 0, 60000, none, .config⟩,
  -- R199 Holdoff
  ⟨0x32c4, 2, 0x20, 0x2, 0x2, .u16, .rws, 2, 2, false, false, 0x64, 0, 60000, none, .config⟩,
  -- R199 Down limit
  ⟨0x31c4, 4, 0x20, 0x3, 0x3, .u8, .rws, 2, 2, false, false, 0x8, 1, 255, none, .config⟩,
  -- R199 Down limit
  ⟨0x3244, 4, 0x20, 0x3, 0x3, .u8, .rws, 2, 2, false, false, 0x8, 1, 255, none, .config⟩,
  -- R199 Down limit
  ⟨0x32c4, 2, 0x20, 0x3, 0x3, .u8, .rws, 2, 2, false, false, 0x8, 1, 255, none, .config⟩,
  -- R199 Downs
  ⟨0x31c4, 4, 0x20, 0x4, 0x4, .u32, .ro, 7, 7, false, false, 0x0, 0, 4294967295, none, .volatile⟩,
  -- R199 Downs
  ⟨0x3244, 4, 0x20, 0x4, 0x4, .u32, .ro, 7, 7, false, false, 0x0, 0, 4294967295, none, .volatile⟩,
  -- R199 Downs
  ⟨0x32c4, 2, 0x20, 0x4, 0x4, .u32, .ro, 7, 7, false, false, 0x0, 0, 4294967295, none, .volatile⟩,
  -- R199 Link-up debounce (GE, XG)
  ⟨0x3244, 4, 0x20, 0x5, 0x5, .u16, .rws, 2, 2, false, false, 0xa, 0, 1000, none, .config⟩,
  -- R199 Link-up debounce (GE, XG)
  ⟨0x32c4, 2, 0x20, 0x5, 0x5, .u16, .rws, 2, 2, false, false, 0xa, 0, 1000, none, .config⟩,
  -- R199 Filters
  ⟨0x31c5, 4, 0x20, 0x1, 0x1, .domain, .rws, 2, 2, false, false, 0x0, 0, 0, some 1024, .config⟩,
  -- R199 Filters
  ⟨0x3245, 4, 0x20, 0x1, 0x1, .domain, .rws, 2, 2, false, false, 0x0, 0, 0, some 1024, .config⟩,
  -- R199 Filters
  ⟨0x32c5, 2, 0x20, 0x1, 0x1, .domain, .rws, 2, 2, false, false, 0x0, 0, 0, some 1024, .config⟩,
  -- R199 Default entry
  ⟨0x31c5, 4, 0x20, 0x2, 0x2, .domain, .rws, 2, 2, false, false, 0x0, 0, 0, some 16, .config⟩,
  -- R199 Default entry
  ⟨0x3245, 4, 0x20, 0x2, 0x2, .domain, .rws, 2, 2, false, false, 0x0, 0, 0, some 16, .config⟩,
  -- R199 Default entry
  ⟨0x32c5, 2, 0x20, 0x2, 0x2, .domain, .rws, 2, 2, false, false, 0x0, 0, 0, some 16, .config⟩,
  -- R199 MACsec enable (GE, XG)
  ⟨0x3246, 4, 0x20, 0x1, 0x1, .bool, .rws, 2, 2, false, false, 0x0, 0, 1, none, .config⟩,
  -- R199 MACsec enable (GE, XG)
  ⟨0x32c6, 2, 0x20, 0x1, 0x1, .bool, .rws, 2, 2, false, false, 0x0, 0, 1, none, .config⟩,
  -- R199 Cipher suite (GE, XG)
  ⟨0x3246, 4, 0x20, 0x2, 0x2, .u8, .rws, 2, 2, false, false, 0x0, 0, 3, none, .config⟩,
  -- R199 Cipher suite (GE, XG)
  ⟨0x32c6, 2, 0x20, 0x2, 0x2, .u8, .rws, 2, 2, false, false, 0x0, 0, 3, none, .config⟩,
  -- R199 Confidentiality offset (GE, XG)
  ⟨0x3246, 4, 0x20, 0x3, 0x3, .u8, .rws, 2, 2, false, false, 0x0, 0, 50, none, .config⟩,
  -- R199 Confidentiality offset (GE, XG)
  ⟨0x32c6, 2, 0x20, 0x3, 0x3, .u8, .rws, 2, 2, false, false, 0x0, 0, 50, none, .config⟩,
  -- R199 Encrypt (GE, XG)
  ⟨0x3246, 4, 0x20, 0x4, 0x4, .bool, .rws, 2, 2, false, false, 0x1, 0, 1, none, .config⟩,
  -- R199 Encrypt (GE, XG)
  ⟨0x32c6, 2, 0x20, 0x4, 0x4, .bool, .rws, 2, 2, false, false, 0x1, 0, 1, none, .config⟩,
  -- R199 Replay window (GE, XG)
  ⟨0x3246, 4, 0x20, 0x5, 0x5, .u32, .rws, 2, 2, false, false, 0x0, 0, 4294967295, none, .config⟩,
  -- R199 Replay window (GE, XG)
  ⟨0x32c6, 2, 0x20, 0x5, 0x5, .u32, .rws, 2, 2, false, false, 0x0, 0, 4294967295, none, .config⟩]

/-- Rows of the object tables, part 4. -/
def objRows4 : List ObjRow := [
  -- R199 Receive lanes, transmit lanes (GE, XG)
  ⟨0x3246, 4, 0x20, 0x6, 0x7, .u16, .rws, 2, 2, false, false, 0xffff, 0, 65535, none, .config⟩,
  -- R199 Receive lanes, transmit lanes (GE, XG)
  ⟨0x32c6, 2, 0x20, 0x6, 0x7, .u16, .rws, 2, 2, false, false, 0xffff, 0, 65535, none, .config⟩,
  -- R199 Transmit SCI (GE, XG)
  ⟨0x3246, 4, 0x20, 0x8, 0x8, .u64, .rws, 2, 2, false, false, 0x0, 0, 18446744073709551615, none, .config⟩,
  -- R199 Transmit SCI (GE, XG)
  ⟨0x32c6, 2, 0x20, 0x8, 0x8, .u64, .rws, 2, 2, false, false, 0x0, 0, 18446744073709551615, none, .config⟩,
  -- R199 SA table (GE, XG)
  ⟨0x3246, 4, 0x20, 0x9, 0x9, .domain, .ro, 7, 7, false, false, 0x0, 0, 0, none, .volatile⟩,
  -- R199 SA table (GE, XG)
  ⟨0x32c6, 2, 0x20, 0x9, 0x9, .domain, .ro, 7, 7, false, false, 0x0, 0, 0, none, .volatile⟩,
  -- R199 Frames verified (GE, XG)
  ⟨0x3247, 4, 0x20, 0x1, 0x1, .u32, .ro, 7, 7, false, false, 0x0, 0, 4294967295, none, .volatile⟩,
  -- R199 Frames verified (GE, XG)
  ⟨0x32c7, 2, 0x20, 0x1, 0x1, .u32, .ro, 7, 7, false, false, 0x0, 0, 4294967295, none, .volatile⟩,
  -- R199 ICV failures (GE, XG)
  ⟨0x3247, 4, 0x20, 0x2, 0x2, .u32, .ro, 7, 7, false, false, 0x0, 0, 4294967295, none, .volatile⟩,
  -- R199 ICV failures (GE, XG)
  ⟨0x32c7, 2, 0x20, 0x2, 0x2, .u32, .ro, 7, 7, false, false, 0x0, 0, 4294967295, none, .volatile⟩,
  -- R199 Replay refusals (GE, XG)
  ⟨0x3247, 4, 0x20, 0x3, 0x3, .u32, .ro, 7, 7, false, false, 0x0, 0, 4294967295, none, .volatile⟩,
  -- R199 Replay refusals (GE, XG)
  ⟨0x32c7, 2, 0x20, 0x3, 0x3, .u32, .ro, 7, 7, false, false, 0x0, 0, 4294967295, none, .volatile⟩,
  -- R199 Frames protected (GE, XG)
  ⟨0x3247, 4, 0x20, 0x4, 0x4, .u32, .ro, 7, 7, false, false, 0x0, 0, 4294967295, none, .volatile⟩,
  -- R199 Frames protected (GE, XG)
  ⟨0x32c7, 2, 0x20, 0x4, 0x4, .u32, .ro, 7, 7, false, false, 0x0, 0, 4294967295, none, .volatile⟩,
  -- R199 Too long to protect (GE, XG)
  ⟨0x3247, 4, 0x20, 0x5, 0x5, .u32, .ro, 7, 7, false, false, 0x0, 0, 4294967295, none, .volatile⟩,
  -- R199 Too long to protect (GE, XG)
  ⟨0x32c7, 2, 0x20, 0x5, 0x5, .u32, .ro, 7, 7, false, false, 0x0, 0, 4294967295, none, .volatile⟩,
  -- R199 Frames received, sent
  ⟨0x31c8, 4, 0x20, 0x1, 0x2, .u32, .ro, 7, 7, false, false, 0x0, 0, 4294967295, none, .volatile⟩,
  -- R199 Frames received, sent
  ⟨0x3248, 4, 0x20, 0x1, 0x2, .u32, .ro, 7, 7, false, false, 0x0, 0, 4294967295, none, .volatile⟩,
  -- R199 Frames received, sent
  ⟨0x32c8, 2, 0x20, 0x1, 0x2, .u32, .ro, 7, 7, false, false, 0x0, 0, 4294967295, none, .volatile⟩,
  -- R199 Errored frames
  ⟨0x31c8, 4, 0x20, 0x3, 0x3, .u32, .ro, 7, 7, false, false, 0x0, 0, 4294967295, none, .volatile⟩,
  -- R199 Errored frames
  ⟨0x3248, 4, 0x20, 0x3, 0x3, .u32, .ro, 7, 7, false, false, 0x0, 0, 4294967295, none, .volatile⟩,
  -- R199 Errored frames
  ⟨0x32c8, 2, 0x20, 0x3, 0x3, .u32, .ro, 7, 7, false, false, 0x0, 0, 4294967295, none, .volatile⟩,
  -- R199 Fragments
  ⟨0x31c8, 4, 0x20, 0x4, 0x4, .u32, .ro, 7, 7, false, false, 0x0, 0, 4294967295, none, .volatile⟩,
  -- R199 Fragments
  ⟨0x3248, 4, 0x20, 0x4, 0x4, .u32, .ro, 7, 7, false, false, 0x0, 0, 4294967295, none, .volatile⟩,
  -- R199 Fragments
  ⟨0x32c8, 2, 0x20, 0x4, 0x4, .u32, .ro, 7, 7, false, false, 0x0, 0, 4294967295, none, .volatile⟩,
  -- R199 Not accepted
  ⟨0x31c8, 4, 0x20, 0x5, 0x5, .u32, .ro, 7, 7, false, false, 0x0, 0, 4294967295, none, .volatile⟩,
  -- R199 Not accepted
  ⟨0x3248, 4, 0x20, 0x5, 0x5, .u32, .ro, 7, 7, false, false, 0x0, 0, 4294967295, none, .volatile⟩,
  -- R199 Not accepted
  ⟨0x32c8, 2, 0x20, 0x5, 0x5, .u32, .ro, 7, 7, false, false, 0x0, 0, 4294967295, none, .volatile⟩,
  -- R199 Collisions (TSA, GE)
  ⟨0x31c8, 4, 0x20, 0x6, 0x6, .u32, .ro, 7, 7, false, false, 0x0, 0, 4294967295, none, .volatile⟩,
  -- R199 Collisions (TSA, GE)
  ⟨0x3248, 4, 0x20, 0x6, 0x6, .u32, .ro, 7, 7, false, false, 0x0, 0, 4294967295, none, .volatile⟩,
  -- R199 Attempts beyond 16 (TSA, GE)
  ⟨0x31c8, 4, 0x20, 0x7, 0x7, .u32, .ro, 7, 7, false, false, 0x0, 0, 4294967295, none, .volatile⟩,
  -- R199 Attempts beyond 16 (TSA, GE)
  ⟨0x3248, 4, 0x20, 0x7, 0x7, .u32, .ro, 7, 7, false, false, 0x0, 0, 4294967295, none, .volatile⟩,
  -- R199 Errored delivered
  ⟨0x31c8, 4, 0x20, 0x8, 0x8, .u32, .ro, 7, 7, false, false, 0x0, 0, 4294967295, none, .volatile⟩,
  -- R199 Errored delivered
  ⟨0x3248, 4, 0x20, 0x8, 0x8, .u32, .ro, 7, 7, false, false, 0x0, 0, 4294967295, none, .volatile⟩,
  -- R199 Errored delivered
  ⟨0x32c8, 2, 0x20, 0x8, 0x8, .u32, .ro, 7, 7, false, false, 0x0, 0, 4294967295, none, .volatile⟩,
  -- R199 Wake mode (TSA)
  ⟨0x31c9, 4, 0x20, 0x1, 0x1, .u8, .rws, 2, 2, false, false, 0x0, 0, 1, none, .config⟩,
  -- R199 Wake filter (TSA)
  ⟨0x31c9, 4, 0x20, 0x2, 0x2, .u8, .rws, 2, 2, false, false, 0x4, 1, 16, none, .config⟩,
  -- R199 Wake burst on start (TSA)
  ⟨0x31c9, 4, 0x20, 0x3, 0x3, .bool, .rws, 2, 2, false, false, 0x0, 0, 1, none, .config⟩,
  -- R199 Wakes (TSA)
  ⟨0x31c9, 4, 0x20, 0x9, 0x9, .u32, .ro, 7, 7, false, false, 0x0, 0, 4294967295, none, .volatile⟩,
  -- R199 Ingress, egress PHY latency
  ⟨0x31ca, 4, 0x20, 0x1, 0x2, .u16, .rws, 2, 2, false, false, 0x0, 0, 65535, none, .config⟩,
  -- R199 Ingress, egress PHY latency
  ⟨0x324a, 4, 0x20, 0x1, 0x2, .u16, .rws, 2, 2, false, false, 0x0, 0, 65535, none, .config⟩,
  -- R199 Ingress, egress PHY latency
  ⟨0x32ca, 2, 0x20, 0x1, 0x2, .u16, .rws, 2, 2, false, false, 0x0, 0, 65535, none, .config⟩,
  -- R199 Timestamp tolerance
  ⟨0x31ca, 4, 0x20, 0x3, 0x3, .u16, .ro, 7, 7, false, false, 0x0, 0, 65535, none, .volatile⟩,
  -- R199 Timestamp tolerance
  ⟨0x324a, 4, 0x20, 0x3, 0x3, .u16, .ro, 7, 7, false, false, 0x0, 0, 65535, none, .volatile⟩,
  -- R199 Timestamp tolerance
  ⟨0x32ca, 2, 0x20, 0x3, 0x3, .u16, .ro, 7, 7, false, false, 0x0, 0, 65535, none, .volatile⟩,
  -- R199 gPTP enable
  ⟨0x31ca, 4, 0x20, 0x4, 0x4, .bool, .rws, 2, 2, false, false, 0x0, 0, 1, none, .config⟩,
  -- R199 gPTP enable
  ⟨0x324a, 4, 0x20, 0x4, 0x4, .bool, .rws, 2, 2, false, false, 0x0, 0, 1, none, .config⟩,
  -- R199 gPTP enable
  ⟨0x32ca, 2, 0x20, 0x4, 0x4, .bool, .rws, 2, 2, false, false, 0x0, 0, 1, none, .config⟩,
  -- R199 asCapable
  ⟨0x31ca, 4, 0x20, 0x5, 0x5, .bool, .ro, 7, 7, false, false, 0x0, 0, 1, none, .volatile⟩,
  -- R199 asCapable
  ⟨0x324a, 4, 0x20, 0x5, 0x5, .bool, .ro, 7, 7, false, false, 0x0, 0, 1, none, .volatile⟩,
  -- R199 asCapable
  ⟨0x32ca, 2, 0x20, 0x5, 0x5, .bool, .ro, 7, 7, false, false, 0x0, 0, 1, none, .volatile⟩,
  -- R199 Mean link delay
  ⟨0x31ca, 4, 0x20, 0x6, 0x6, .u32, .ro, 7, 7, false, false, 0x0, 0, 4294967295, none, .volatile⟩,
  -- R199 Mean link delay
  ⟨0x324a, 4, 0x20, 0x6, 0x6, .u32, .ro, 7, 7, false, false, 0x0, 0, 4294967295, none, .volatile⟩,
  -- R199 Mean link delay
  ⟨0x32ca, 2, 0x20, 0x6, 0x6, .u32, .ro, 7, 7, false, false, 0x0, 0, 4294967295, none, .volatile⟩,
  -- R199 PLCA enable (TSA)
  ⟨0x31cb, 4, 0x20, 0x1, 0x1, .bool, .rws, 2, 2, false, false, 0x0, 0, 1, none, .config⟩,
  -- R199 PLCA node ID, node count (TSA)
  ⟨0x31cb, 4, 0x20, 0x2, 0x2, .u8, .rws, 2, 2, false, false, 0x0, 0, 254, none, .config⟩,
  -- R199 PLCA node ID, node count (TSA)
  ⟨0x31cb, 4, 0x20, 0x3, 0x3, .u8, .rws, 2, 2, false, false, 0x8, 1, 255, none, .config⟩,
  -- R199 PLCA TO timer (TSA)
  ⟨0x31cb, 4, 0x20, 0x4, 0x4, .u8, .rws, 2, 2, false, false, 0x20, 1, 255, none, .config⟩,
  -- R199 PLCA burst count, burst timer (TSA)
  ⟨0x31cb, 4, 0x20, 0x5, 0x5, .u8, .rws, 2, 2, false, false, 0x0, 0, 255, none, .config⟩,
  -- R199 PLCA burst count, burst timer (TSA)
  ⟨0x31cb, 4, 0x20, 0x6, 0x6, .u8, .rws, 2, 2, false, false, 0x80, 1, 255, none, .config⟩]

/-- Rows of the object tables, part 5. -/
def objRows5 : List ObjRow := [
  -- R199 PLCA status (TSA)
  ⟨0x31cb, 4, 0x20, 0x7, 0x7, .u8, .ro, 7, 7, false, false, 0x0, 0, 255, none, .volatile⟩,
  -- R199 BEACON losses (TSA)
  ⟨0x31cb, 4, 0x20, 0x8, 0x8, .u32, .ro, 7, 7, false, false, 0x0, 0, 4294967295, none, .volatile⟩,
  -- R258 Pairs fitted
  ⟨0x3b00, 1, 0x1, 0x1, 0x1, .u16, .const, 15, 15, false, false, 0xffff, 0, 65535, none, .const⟩,
  -- R258 Pairs retired
  ⟨0x3b00, 1, 0x1, 0x2, 0x2, .u16, .ro, 15, 15, false, false, 0x0, 0, 65535, none, .volatile⟩,
  -- R258 Column holders
  ⟨0x3b00, 1, 0x1, 0x3, 0x3, .ostr, .ro, 7, 7, false, false, 0x0, 0, 0, some 16, .volatile⟩,
  -- R258 Windows committed
  ⟨0x3b01, 1, 0x1, 0x1, 0x1, .u32, .ro, 7, 7, false, false, 0x0, 0, 4294967295, none, .volatile⟩,
  -- R258 Masked by rerun
  ⟨0x3b01, 1, 0x1, 0x2, 0x2, .u32, .ro, 7, 7, false, false, 0x0, 0, 4294967295, none, .volatile⟩,
  -- R258 Takeovers
  ⟨0x3b01, 1, 0x1, 0x3, 0x3, .u32, .ro, 7, 7, false, false, 0x0, 0, 4294967295, none, .volatile⟩,
  -- R258 Windows trapped
  ⟨0x3b01, 1, 0x1, 0x4, 0x4, .u32, .ro, 7, 7, false, false, 0x0, 0, 4294967295, none, .volatile⟩,
  -- R258 Windows overrun
  ⟨0x3b01, 1, 0x1, 0x5, 0x5, .u32, .ro, 7, 7, false, false, 0x0, 0, 4294967295, none, .volatile⟩,
  -- R258 Windows missed
  ⟨0x3b01, 1, 0x1, 0x6, 0x6, .u32, .ro, 15, 15, false, false, 0x0, 0, 4294967295, none, .volatile⟩,
  -- R258 Enable
  ⟨0x3b10, 16, 0x1, 0x1, 0x1, .bool, .rw, 6, 6, false, false, 0x1, 0, 1, none, .config⟩,
  -- R258 State
  ⟨0x3b10, 16, 0x1, 0x2, 0x2, .u8, .ro, 15, 15, false, false, 0x1, 0, 255, none, .volatile⟩,
  -- R258 Column held
  ⟨0x3b10, 16, 0x1, 0x3, 0x3, .u8, .ro, 7, 7, false, false, 0xff, 0, 255, none, .volatile⟩,
  -- R258 Retired
  ⟨0x3b10, 16, 0x1, 0x4, 0x4, .bool, .ro, 15, 15, false, false, 0x0, 0, 1, none, .volatile⟩,
  -- R258 Last trap
  ⟨0x3b10, 16, 0x1, 0x5, 0x5, .u64, .ro, 7, 7, false, false, 0x0, 0, 18446744073709551615, none, .volatile⟩,
  -- R258 Miscompares
  ⟨0x3b10, 16, 0x1, 0x6, 0x6, .u32, .ro, 7, 7, false, false, 0x0, 0, 4294967295, none, .volatile⟩,
  -- R258 Requalify
  ⟨0x3b10, 16, 0x1, 0x7, 0x7, .u8, .rw, 6, 6, false, false, 0x0, 1, 1, none, .volatile⟩,
  -- R258 Keeper state
  ⟨0x3b20, 1, 0x1, 0x1, 0x1, .u8, .ro, 7, 7, false, false, 0x1, 0, 255, none, .volatile⟩,
  -- R258 Keeper build
  ⟨0x3b20, 1, 0x1, 0x2, 0x2, .u32, .ro, 15, 15, false, false, 0x0, 0, 4294967295, none, .volatile⟩,
  -- R258 Keeper resets
  ⟨0x3b20, 1, 0x1, 0x3, 0x3, .u32, .ro, 7, 7, false, false, 0x0, 0, 4294967295, none, .volatile⟩,
  -- R258 Last reset cause
  ⟨0x3b20, 1, 0x1, 0x4, 0x4, .u8, .ro, 7, 7, false, false, 0x0, 0, 255, none, .volatile⟩,
  -- R258 Watchdog period
  ⟨0x3b20, 1, 0x1, 0x5, 0x5, .u16, .rws, 2, 2, false, false, 0x64, 10, 1000, none, .config⟩,
  -- R258 Watchdog service
  ⟨0x3b20, 1, 0x1, 0x6, 0x6, .u8, .wo, 31, 31, true, true, 0x0, 0, 255, none, .none⟩,
  -- R283 VLF voltage
  ⟨0x4000, 1, 0x1, 0x1, 0x1, .u16, .ro, 7, 7, false, false, 0x0, 0, 65535, none, .volatile⟩,
  -- R283 Patterns run
  ⟨0x4000, 1, 0x1, 0x3, 0x3, .u32, .ro, 7, 7, false, false, 0x0, 0, 4294967295, none, .volatile⟩,
  -- R283 Patterns pre-empted
  ⟨0x4000, 1, 0x1, 0x4, 0x4, .u32, .ro, 7, 7, false, false, 0x0, 0, 4294967295, none, .volatile⟩,
  -- R283 Patterns skipped
  ⟨0x4000, 1, 0x1, 0x5, 0x5, .u32, .ro, 7, 7, false, false, 0x0, 0, 4294967295, none, .volatile⟩,
  -- R283 Comb polls ignored
  ⟨0x4000, 1, 0x1, 0x6, 0x6, .u32, .ro, 7, 7, false, false, 0x0, 0, 4294967295, none, .volatile⟩,
  -- R283 Triggers merged
  ⟨0x4000, 1, 0x1, 0x7, 0x7, .u32, .ro, 7, 7, false, false, 0x0, 0, 4294967295, none, .volatile⟩,
  -- R283 Wake ID
  ⟨0x4001, 1, 0x1, 0x1, 0x1, .u32, .rws, 2, 2, false, false, 0x0, 0, 16777215, none, .config⟩,
  -- R283 Pattern table
  ⟨0x4002, 1, 0x1, 0x1, 0x1, .domain, .rws, 2, 2, false, false, 0x0, 0, 0, some 512, .config⟩,
  -- R283 Touch thresholds
  ⟨0x4003, 1, 0x1, 0x1, 0x4, .u8, .rws, 2, 2, false, false, 0xa, 1, 255, none, .config⟩,
  -- R283 Scan period
  ⟨0x4003, 1, 0x1, 0x5, 0x5, .u8, .rws, 2, 2, false, false, 0x4, 1, 50, none, .config⟩,
  -- R283 Touches
  ⟨0x4003, 1, 0x1, 0x6, 0x6, .u32, .ro, 7, 7, false, false, 0x0, 0, 4294967295, none, .volatile⟩,
  -- R283 Enable
  ⟨0x4010, 8, 0x1, 0x1, 0x1, .bool, .rw, 6, 6, false, false, 0x1, 0, 1, none, .config⟩,
  -- R283 State
  ⟨0x4010, 8, 0x1, 0x2, 0x2, .u8, .ro, 7, 7, false, false, 0x1, 0, 255, none, .volatile⟩,
  -- R283 Last peak
  ⟨0x4010, 8, 0x1, 0x4, 0x4, .u16, .ro, 7, 7, false, false, 0x0, 0, 65535, none, .volatile⟩,
  -- R283 Opens, shorts, not reached
  ⟨0x4010, 8, 0x1, 0x5, 0x7, .u32, .ro, 7, 7, false, false, 0x0, 0, 4294967295, none, .volatile⟩,
  -- R283 Session state
  ⟨0x4300, 1, 0x1, 0x1, 0x1, .u8, .ro, 15, 15, false, false, 0x0, 0, 255, none, .volatile⟩,
  -- R283 Session key ID
  ⟨0x4300, 1, 0x1, 0x2, 0x2, .u32, .ro, 7, 7, false, false, 0x0, 0, 4294967295, none, .volatile⟩,
  -- R283 Session timeout
  ⟨0x4300, 1, 0x1, 0x3, 0x3, .u16, .rws, 2, 2, false, false, 0x78, 5, 1800, none, .config⟩,
  -- R283 Sessions opened
  ⟨0x4300, 1, 0x1, 0x4, 0x4, .u32, .ro, 15, 15, false, false, 0x0, 0, 4294967295, none, .record⟩,
  -- R283 SLR faults
  ⟨0x4300, 1, 0x1, 0x6, 0x6, .u32, .ro, 15, 15, false, false, 0x0, 0, 4294967295, none, .volatile⟩,
  -- R283 Door signal
  ⟨0x4301, 1, 0x1, 0x1, 0x1, .u32, .rws, 2, 2, false, false, 0xffffffff, 0, 4294967295, none, .config⟩,
  -- R283 Start request signal
  ⟨0x4301, 1, 0x1, 0x2, 0x2, .u32, .rws, 2, 2, false, false, 0xffffffff, 0, 4294967295, none, .config⟩,
  -- R283 Zone flags
  ⟨0x4302, 1, 0x1, 0x1, 0x1, .ostr, .rws, 2, 2, false, false, 0x0, 0, 0, some 8, .config⟩,
  -- R283 Locked
  ⟨0x4310, 9, 0x1, 0x1, 0x1, .bool, .ro, 15, 15, false, false, 0x0, 0, 1, none, .record⟩,
  -- R283 Level
  ⟨0x4310, 9, 0x1, 0x2, 0x2, .u8, .ro, 15, 15, false, false, 0x0, 0, 255, none, .record⟩,
  -- R283 Failures in window
  ⟨0x4310, 9, 0x1, 0x3, 0x3, .u8, .ro, 7, 7, false, false, 0x0, 0, 255, none, .record⟩,
  -- R283 Lock remaining
  ⟨0x4310, 9, 0x1, 0x4, 0x4, .u16, .ro, 7, 7, false, false, 0x0, 0, 65535, none, .volatile⟩,
  -- R283 Lock-outs
  ⟨0x4310, 9, 0x1, 0x5, 0x5, .u32, .ro, 15, 15, false, false, 0x0, 0, 4294967295, none, .record⟩,
  -- R283 Answers while locked
  ⟨0x4310, 9, 0x1, 0x6, 0x6, .u32, .ro, 7, 7, false, false, 0x0, 0, 4294967295, none, .volatile⟩,
  -- R283 Key table
  ⟨0x4320, 1, 0x1, 0x1, 0x1, .domain, .ro, 7, 7, false, false, 0x0, 0, 0, none, .volatile⟩,
  -- R283 Keys enrolled
  ⟨0x4320, 1, 0x1, 0x2, 0x2, .u8, .ro, 15, 15, false, false, 0x0, 0, 255, none, .volatile⟩,
  -- R283 Charge time
  ⟨0x4321, 1, 0x1, 0x1, 0x1, .u8, .rws, 2, 2, false, false, 0x5, 1, 20, none, .config⟩,
  -- R283 Last inventory
  ⟨0x4321, 1, 0x1, 0x2, 0x2, .domain, .ro, 7, 7, false, false, 0x0, 0, 0, none, .volatile⟩,
  -- R283 Transponder channels
  ⟨0x4321, 1, 0x1, 0x4, 0x4, .u8, .rws, 2, 2, false, false, 0x0, 0, 3, none, .config⟩,
  -- R283 Inventory overflows
  ⟨0x4321, 1, 0x1, 0x5, 0x5, .u32, .ro, 7, 7, false, false, 0x0, 0, 4294967295, none, .volatile⟩,
  -- R303 Enable
  ⟨0x4100, 1, 0x1, 0x1, 0x1, .bool, .rw, 6, 6, false, false, 0x1, 0, 1, none, .config⟩]

/-- Rows of the object tables, part 6. -/
def objRows6 : List ObjRow := [
  -- R303 State
  ⟨0x4100, 1, 0x1, 0x2, 0x2, .u8, .ro, 7, 7, false, false, 0x1, 0, 255, none, .volatile⟩,
  -- R303 Comb slot channel
  ⟨0x4100, 1, 0x1, 0x3, 0x3, .u8, .rws, 2, 2, false, false, 0x9, 5, 9, none, .config⟩,
  -- R303 Preamble code
  ⟨0x4100, 1, 0x1, 0x4, 0x4, .u8, .rws, 2, 2, false, false, 0x9, 9, 12, none, .config⟩,
  -- R303 Transmit power reduction
  ⟨0x4100, 1, 0x1, 0x5, 0x5, .u8, .rws, 2, 2, false, false, 0x0, 0, 40, none, .config⟩,
  -- R303 Antenna delay
  ⟨0x4100, 1, 0x1, 0x6, 0x6, .u16, .rws, 2, 2, false, false, 0x0, 0, 65535, none, .config⟩,
  -- R303 Antenna spacing
  ⟨0x4100, 1, 0x1, 0x8, 0x8, .u16, .rws, 2, 2, false, false, 0xb4, 50, 400, none, .config⟩,
  -- R303 Rounds
  ⟨0x4100, 1, 0x1, 0x9, 0x9, .u32, .ro, 7, 7, false, false, 0x0, 0, 4294967295, none, .volatile⟩,
  -- R303 Keys admitted
  ⟨0x4100, 1, 0x1, 0xa, 0xa, .u32, .ro, 15, 15, false, false, 0x0, 0, 4294967295, none, .volatile⟩,
  -- R303 Collisions
  ⟨0x4100, 1, 0x1, 0xb, 0xb, .u32, .ro, 7, 7, false, false, 0x0, 0, 4294967295, none, .volatile⟩,
  -- R303 Re-polls
  ⟨0x4100, 1, 0x1, 0xc, 0xc, .u32, .ro, 7, 7, false, false, 0x0, 0, 4294967295, none, .volatile⟩,
  -- R303 Forager failures
  ⟨0x4100, 1, 0x1, 0xd, 0xd, .u32, .ro, 15, 15, false, false, 0x0, 0, 4294967295, none, .volatile⟩,
  -- R303 Relay-bound failures
  ⟨0x4100, 1, 0x1, 0xe, 0xe, .u32, .ro, 15, 15, false, false, 0x0, 0, 4294967295, none, .volatile⟩,
  -- R303 LF plausibility failures
  ⟨0x4100, 1, 0x1, 0xf, 0xf, .u32, .ro, 15, 15, false, false, 0x0, 0, 4294967295, none, .volatile⟩,
  -- R303 Plausibility not checked
  ⟨0x4100, 1, 0x1, 0x10, 0x10, .u32, .ro, 7, 7, false, false, 0x0, 0, 4294967295, none, .volatile⟩,
  -- R303 Beyond limit
  ⟨0x4100, 1, 0x1, 0x11, 0x11, .u32, .ro, 7, 7, false, false, 0x0, 0, 4294967295, none, .volatile⟩,
  -- R303 Exchanges aborted
  ⟨0x4100, 1, 0x1, 0x12, 0x12, .u32, .ro, 7, 7, false, false, 0x0, 0, 4294967295, none, .volatile⟩,
  -- R303 Round overflows
  ⟨0x4100, 1, 0x1, 0x13, 0x13, .u32, .ro, 7, 7, false, false, 0x0, 0, 4294967295, none, .volatile⟩,
  -- R303 Comb slots idle
  ⟨0x4100, 1, 0x1, 0x14, 0x14, .u32, .ro, 7, 7, false, false, 0x0, 0, 4294967295, none, .volatile⟩,
  -- R303 Exchanges pre-empted
  ⟨0x4100, 1, 0x1, 0x15, 0x15, .u32, .ro, 7, 7, false, false, 0x0, 0, 4294967295, none, .volatile⟩,
  -- R303 Distance limit
  ⟨0x4110, 8, 0x1, 0x1, 0x1, .u16, .rws, 2, 2, false, false, 0xc8, 10, 1000, none, .config⟩,
  -- R303 Sector enable
  ⟨0x4110, 8, 0x1, 0x2, 0x2, .bool, .rws, 2, 2, false, false, 0x0, 0, 1, none, .config⟩,
  -- R303 Sector minimum, maximum
  ⟨0x4110, 8, 0x1, 0x3, 0x3, .i8, .rws, 2, 2, false, false, 0xa6, -90, 90, none, .config⟩,
  -- R303 Sector minimum, maximum
  ⟨0x4110, 8, 0x1, 0x4, 0x4, .i8, .rws, 2, 2, false, false, 0x5a, -90, 90, none, .config⟩,
  -- R303 Reference antenna
  ⟨0x4110, 8, 0x1, 0x5, 0x5, .u8, .rws, 2, 2, false, false, 0x0, 0, 7, none, .config⟩,
  -- R303 Field minimum, maximum
  ⟨0x4110, 8, 0x1, 0x6, 0x6, .u8, .rws, 2, 2, false, false, 0x0, 0, 255, none, .config⟩,
  -- R303 Field minimum, maximum
  ⟨0x4110, 8, 0x1, 0x7, 0x7, .u8, .rws, 2, 2, false, false, 0xff, 0, 255, none, .config⟩,
  -- R303 Key UWB parameters
  ⟨0x4120, 1, 0x1, 0x1, 0x1, .domain, .rws, 2, 2, false, false, 0x0, 0, 0, some 128, .config⟩,
  -- R303 Last results
  ⟨0x4120, 1, 0x1, 0x2, 0x2, .domain, .ro, 7, 7, false, false, 0x0, 0, 0, some 512, .volatile⟩,
  -- R321 Enable
  ⟨0x4200, 1, 0x1, 0x1, 0x1, .bool, .rw, 6, 6, false, false, 0x1, 0, 1, none, .config⟩,
  -- R321 State
  ⟨0x4200, 1, 0x1, 0x2, 0x2, .u8, .ro, 7, 7, false, false, 0x1, 0, 255, none, .volatile⟩,
  -- R321 Mode
  ⟨0x4200, 1, 0x1, 0x3, 0x3, .u8, .rws, 2, 2, false, false, 0x2, 0, 2, none, .config⟩,
  -- R321 Poll period
  ⟨0x4200, 1, 0x1, 0x4, 0x4, .u16, .rws, 2, 2, false, false, 0x1f4, 100, 10000, none, .config⟩,
  -- R321 Field wake
  ⟨0x4200, 1, 0x1, 0x6, 0x6, .bool, .rws, 2, 2, false, false, 0x1, 0, 1, none, .config⟩,
  -- R321 Field detections
  ⟨0x4200, 1, 0x1, 0x7, 0x7, .u32, .ro, 7, 7, false, false, 0x0, 0, 4294967295, none, .volatile⟩,
  -- R321 FIELD sessions
  ⟨0x4200, 1, 0x1, 0x8, 0x8, .u32, .ro, 15, 15, false, false, 0x0, 0, 4294967295, none, .record⟩,
  -- R321 Reader bit-rate limit
  ⟨0x4200, 1, 0x1, 0x9, 0x9, .u16, .rws, 2, 2, false, false, 0x350, 106, 848, none, .config⟩,
  -- R321 Reader exchange
  ⟨0x4200, 1, 0x1, 0xa, 0xa, .domain, .rw, 31, 31, true, true, 0x0, 0, 0, none, .volatile⟩,
  -- R321 Last inventory
  ⟨0x4200, 1, 0x1, 0xb, 0xb, .domain, .ro, 7, 7, false, false, 0x0, 0, 0, none, .volatile⟩,
  -- R321 Inventory overflows
  ⟨0x4200, 1, 0x1, 0xc, 0xc, .u32, .ro, 7, 7, false, false, 0x0, 0, 4294967295, none, .volatile⟩,
  -- R321 Cards lost
  ⟨0x4200, 1, 0x1, 0xd, 0xd, .u32, .ro, 7, 7, false, false, 0x0, 0, 4294967295, none, .volatile⟩,
  -- R321 Tag writes committed
  ⟨0x4200, 1, 0x1, 0xe, 0xe, .u32, .ro, 15, 15, false, false, 0x0, 0, 4294967295, none, .record⟩,
  -- R321 Tag writes interrupted
  ⟨0x4200, 1, 0x1, 0xf, 0xf, .u32, .ro, 15, 15, false, false, 0x0, 0, 4294967295, none, .record⟩,
  -- R321 VERIFY state
  ⟨0x4200, 1, 0x1, 0x10, 0x10, .u32, .ro, 7, 7, false, false, 0x0, 0, 4294967295, none, .record⟩,
  -- R321 Phone-key bound
  ⟨0x4200, 1, 0x1, 0x11, 0x11, .u8, .rws, 2, 2, false, false, 0xa, 2, 50, none, .config⟩,
  -- R321 Snapshot interval
  ⟨0x4200, 1, 0x1, 0x12, 0x12, .u16, .rws, 2, 2, false, false, 0x3c, 1, 1440, none, .config⟩,
  -- R321 Polls skipped
  ⟨0x4200, 1, 0x1, 0x13, 0x13, .u32, .ro, 7, 7, false, false, 0x0, 0, 4294967295, none, .volatile⟩,
  -- R321 NDEF file
  ⟨0x4201, 1, 0x1, 0x1, 0x1, .domain, .rw, 2, 2, false, false, 0x0, 0, 0, some 1024, .config⟩,
  -- R321 Workshop file
  ⟨0x4201, 1, 0x1, 0x2, 0x2, .domain, .rw, 6, 6, false, false, 0x0, 0, 0, some 1024, .config⟩,
  -- R321 Attestation snapshot
  ⟨0x4201, 1, 0x1, 0x3, 0x3, .domain, .ro, 15, 15, false, false, 0x0, 0, 0, none, .volatile⟩,
  -- R321 Write log
  ⟨0x4201, 1, 0x1, 0x4, 0x4, .domain, .ro, 15, 15, false, false, 0x0, 0, 0, none, .volatile⟩,
  -- R357 Life-cycle state
  ⟨0x2010, 1, 0x1, 0x1, 0x1, .u8, .ro, 31, 31, false, false, 0x0, 0, 255, none, .record⟩,
  -- R357 Last cause
  ⟨0x2010, 1, 0x1, 0x2, 0x2, .u8, .ro, 31, 31, false, false, 0x0, 0, 255, none, .record⟩,
  -- R357 Transition request
  ⟨0x2010, 1, 0x1, 0x3, 0x3, .domain, .wo, 22, 22, false, false, 0x0, 0, 0, none, .none⟩,
  -- R357 Challenge
  ⟨0x2010, 1, 0x1, 0x4, 0x4, .ostr, .ro, 22, 22, false, false, 0x0, 0, 0, some 32, .volatile⟩,
  -- R357 Epoch
  ⟨0x2010, 1, 0x1, 0x5, 0x5, .u8, .ro, 31, 31, false, false, 0x0, 0, 255, none, .record⟩,
  -- R357 Life-cycle record writes
  ⟨0x2010, 1, 0x1, 0x6, 0x6, .u32, .ro, 15, 15, false, false, 0x0, 0, 4294967295, none, .record⟩,
  -- R357 Debug port open
  ⟨0x2010, 1, 0x1, 0x7, 0x7, .bool, .ro, 31, 31, false, false, 0x0, 0, 1, none, .volatile⟩,
  -- R357 Device UID
  ⟨0x2300, 1, 0x1, 0x1, 0x1, .ostr, .const, 31, 31, false, false, 0x0, 0, 0, some 16, .record⟩,
  -- R357 Identity public keys
  ⟨0x2300, 1, 0x1, 0x2, 0x2, .domain, .ro, 31, 31, false, false, 0x0, 0, 0, none, .volatile⟩,
  -- R357 Identity certificate chain
  ⟨0x2300, 1, 0x1, 0x3, 0x3, .domain, .rw, 2, 2, false, false, 0x0, 0, 0, none, .config⟩]

/-- Rows of the object tables, part 7. -/
def objRows7 : List ObjRow := [
  -- R357 Import public key
  ⟨0x2300, 1, 0x1, 0x4, 0x4, .ostr, .ro, 7, 7, false, false, 0x0, 0, 0, none, .volatile⟩,
  -- R357 Comb-key sets
  ⟨0x2300, 1, 0x1, 0x5, 0x5, .domain, .rw, 2, 2, false, false, 0x0, 0, 0, none, .config⟩,
  -- R357 Comb-key revoke
  ⟨0x2300, 1, 0x1, 0x6, 0x6, .u8, .wo, 2, 2, false, false, 0x0, 0, 15, none, .none⟩,
  -- R357 Vault request
  ⟨0x2310, 1, 0x1, 0x1, 0x1, .domain, .wo, 31, 31, true, true, 0x0, 0, 0, none, .none⟩,
  -- R357 Vault answer
  ⟨0x2310, 1, 0x1, 0x2, 0x2, .domain, .ro, 31, 31, true, true, 0x0, 0, 0, none, .volatile⟩,
  -- R357 Slot table
  ⟨0x2320, 1, 0x1, 0x1, 0x1, .domain, .ro, 7, 7, false, false, 0x0, 0, 0, none, .volatile⟩,
  -- R357 Committed generations
  ⟨0x2320, 1, 0x1, 0x2, 0x2, .domain, .ro, 7, 7, false, false, 0x0, 0, 0, none, .volatile⟩,
  -- R357 Enrol
  ⟨0x2330, 1, 0x1, 0x1, 0x1, .domain, .wo, 6, 6, false, false, 0x0, 0, 0, none, .none⟩,
  -- R357 Revoke key
  ⟨0x2330, 1, 0x1, 0x2, 0x2, .u32, .wo, 6, 6, false, false, 0x0, 0, 4294967295, none, .none⟩,
  -- R357 Attestation nonce
  ⟨0x2340, 1, 0x1, 0x1, 0x1, .ostr, .wo, 15, 15, false, false, 0x0, 0, 0, none, .none⟩,
  -- R357 Attestation result
  ⟨0x2340, 1, 0x1, 0x2, 0x2, .domain, .ro, 15, 15, false, false, 0x0, 0, 0, none, .volatile⟩,
  -- R357 Algorithm set
  ⟨0x2340, 1, 0x1, 0x3, 0x3, .u8, .rw, 2, 2, false, false, 0x3, 1, 3, none, .config⟩,
  -- R357 Attestation sequence
  ⟨0x2340, 1, 0x1, 0x4, 0x4, .u32, .ro, 15, 15, false, false, 0x0, 0, 4294967295, none, .record⟩,
  -- R357 Loads
  ⟨0x2350, 1, 0x1, 0x1, 0x1, .u32, .ro, 7, 7, false, false, 0x0, 0, 4294967295, none, .volatile⟩,
  -- R357 Load refusals
  ⟨0x2350, 1, 0x1, 0x2, 0x2, .u32, .ro, 7, 7, false, false, 0x0, 0, 4294967295, none, .volatile⟩,
  -- R357 Replacements committed
  ⟨0x2350, 1, 0x1, 0x3, 0x3, .u32, .ro, 7, 7, false, false, 0x0, 0, 4294967295, none, .volatile⟩,
  -- R357 Replacements discarded
  ⟨0x2350, 1, 0x1, 0x4, 0x4, .u32, .ro, 7, 7, false, false, 0x0, 0, 4294967295, none, .volatile⟩,
  -- R357 Vault reruns
  ⟨0x2350, 1, 0x1, 0x5, 0x5, .u32, .ro, 7, 7, false, false, 0x0, 0, 4294967295, none, .volatile⟩,
  -- R357 Vault faults
  ⟨0x2350, 1, 0x1, 0x6, 0x6, .u32, .ro, 7, 7, false, false, 0x0, 0, 4294967295, none, .volatile⟩,
  -- R357 KEY2, KEY3
  ⟨0x2480, 12, 0x1, 0x1, 0x2, .ostr, .wo, 31, 31, true, true, 0x0, 0, 0, none, .none⟩,
  -- R357 Lane key status
  ⟨0x2480, 12, 0x1, 0x5, 0x5, .domain, .ro, 7, 7, false, false, 0x0, 0, 0, none, .volatile⟩,
  -- R372 Lanes in service
  ⟨0x2400, 1, 0x1, 0x1, 0x1, .u16, .ro, 15, 15, false, false, 0xfff, 0, 65535, none, .volatile⟩,
  -- R372 Standby lane
  ⟨0x2400, 1, 0x1, 0x2, 0x2, .u8, .ro, 7, 7, false, false, 0xff, 0, 255, none, .volatile⟩,
  -- R372 Lane request
  ⟨0x2410, 1, 0x1, 0x1, 0x1, .domain, .wo, 31, 31, true, true, 0x0, 0, 0, none, .none⟩,
  -- R372 Lane answer
  ⟨0x2410, 1, 0x1, 0x2, 0x2, .domain, .ro, 31, 31, true, true, 0x0, 0, 0, none, .volatile⟩,
  -- R372 Passes completed
  ⟨0x2420, 1, 0x1, 0x1, 0x1, .u32, .ro, 7, 7, false, false, 0x0, 0, 4294967295, none, .volatile⟩,
  -- R372 Miscompares
  ⟨0x2420, 1, 0x1, 0x2, 0x2, .u32, .ro, 7, 7, false, false, 0x0, 0, 4294967295, none, .volatile⟩,
  -- R372 Resumptions
  ⟨0x2420, 1, 0x1, 0x3, 0x3, .u32, .ro, 7, 7, false, false, 0x0, 0, 4294967295, none, .volatile⟩,
  -- R372 Passes abandoned
  ⟨0x2420, 1, 0x1, 0x4, 0x4, .u32, .ro, 15, 15, false, false, 0x0, 0, 4294967295, none, .volatile⟩,
  -- R372 Tamper aborts
  ⟨0x2420, 1, 0x1, 0x5, 0x5, .u32, .ro, 15, 15, false, false, 0x0, 0, 4294967295, none, .volatile⟩,
  -- R372 Reseed failures
  ⟨0x2420, 1, 0x1, 0x6, 0x6, .u32, .ro, 7, 7, false, false, 0x0, 0, 4294967295, none, .volatile⟩,
  -- R372 Reserved runs busy
  ⟨0x2420, 1, 0x1, 0x7, 0x7, .u32, .ro, 7, 7, false, false, 0x0, 0, 4294967295, none, .volatile⟩,
  -- R372 Tag failures
  ⟨0x2420, 1, 0x1, 0x8, 0x8, .u32, .ro, 7, 7, false, false, 0x0, 0, 4294967295, none, .volatile⟩,
  -- R372 Enable
  ⟨0x2480, 12, 0x1, 0x3, 0x3, .bool, .rw, 6, 6, false, false, 0x1, 0, 1, none, .config⟩,
  -- R372 State
  ⟨0x2480, 12, 0x1, 0x4, 0x4, .u8, .ro, 7, 7, false, false, 0x1, 0, 255, none, .volatile⟩,
  -- R372 Lane passes
  ⟨0x2480, 12, 0x1, 0x6, 0x6, .u32, .ro, 7, 7, false, false, 0x0, 0, 4294967295, none, .volatile⟩,
  -- R372 Lane miscompares
  ⟨0x2480, 12, 0x1, 0x7, 0x7, .u32, .ro, 7, 7, false, false, 0x0, 0, 4294967295, none, .volatile⟩,
  -- R383 Tamper latch
  ⟨0x2500, 1, 0x1, 0x1, 0x1, .u32, .ro, 31, 31, false, false, 0x0, 0, 4294967295, none, .record⟩,
  -- R383 First latch
  ⟨0x2500, 1, 0x1, 0x2, 0x2, .u32, .ro, 31, 31, false, false, 0x0, 0, 4294967295, none, .record⟩,
  -- R383 First latch time
  ⟨0x2500, 1, 0x1, 0x3, 0x3, .u32, .ro, 31, 31, false, false, 0x0, 0, 4294967295, none, .record⟩,
  -- R383 Tamper count
  ⟨0x2500, 1, 0x1, 0x4, 0x4, .u32, .ro, 31, 31, false, false, 0x0, 0, 4294967295, none, .record⟩,
  -- R383 Input enable
  ⟨0x2500, 1, 0x1, 0x5, 0x5, .u32, .rw, 2, 2, false, false, 0xfe001, 0, 4294967295, none, .config⟩,
  -- R383 Enclosure polarity
  ⟨0x2500, 1, 0x1, 0x6, 0x6, .u8, .rw, 2, 2, false, false, 0x0, 0, 255, none, .config⟩,
  -- R383 Enclosure debounce
  ⟨0x2500, 1, 0x1, 0x7, 0x7, .u8, .rw, 2, 2, false, false, 0xa, 1, 255, none, .config⟩,
  -- R383 Hold-up voltage
  ⟨0x2500, 1, 0x1, 0x8, 0x8, .u16, .ro, 7, 7, false, false, 0x0, 0, 65535, none, .volatile⟩,
  -- R383 Hold-up state
  ⟨0x2500, 1, 0x1, 0x9, 0x9, .u8, .ro, 15, 15, false, false, 0x0, 0, 255, none, .volatile⟩,
  -- R383 Inputs now
  ⟨0x2500, 1, 0x1, 0xa, 0xa, .u32, .ro, 7, 7, false, false, 0x0, 0, 4294967295, none, .volatile⟩,
  -- R383 Loop check
  ⟨0x2500, 1, 0x1, 0xb, 0xb, .u8, .rw, 2, 2, false, false, 0x0, 0, 255, none, .volatile⟩,
  -- R406 Store state
  ⟨0x2200, 1, 0x1, 0x1, 0x1, .u8, .ro, 15, 15, false, false, 0x0, 0, 255, none, .volatile⟩,
  -- R406 Scan time
  ⟨0x2200, 1, 0x1, 0x2, 0x2, .u32, .ro, 7, 7, false, false, 0x0, 0, 4294967295, none, .volatile⟩,
  -- R406 Inconsistent records
  ⟨0x2200, 1, 0x1, 0x3, 0x3, .u32, .ro, 15, 15, false, false, 0x0, 0, 4294967295, none, .volatile⟩,
  -- R406 Copies rewritten
  ⟨0x2200, 1, 0x1, 0x4, 0x4, .u32, .ro, 7, 7, false, false, 0x0, 0, 4294967295, none, .volatile⟩,
  -- R406 Transactions discarded
  ⟨0x2200, 1, 0x1, 0x5, 0x5, .u32, .ro, 7, 7, false, false, 0x0, 0, 4294967295, none, .volatile⟩,
  -- R406 Counters from intent
  ⟨0x2200, 1, 0x1, 0x6, 0x6, .u32, .ro, 7, 7, false, false, 0x0, 0, 4294967295, none, .volatile⟩,
  -- R406 Compactions
  ⟨0x2200, 1, 0x1, 0x7, 0x7, .u32, .ro, 7, 7, false, false, 0x0, 0, 4294967295, none, .volatile⟩,
  -- R406 Free space
  ⟨0x2200, 1, 0x1, 0x8, 0x8, .ostr, .ro, 7, 7, false, false, 0x0, 0, 0, some 12, .volatile⟩,
  -- R406 M offset
  ⟨0x2201, 1, 0x1, 0x1, 0x1, .u32, .rw, 7, 7, false, false, 0x0, 0, 65535, none, .volatile⟩,
  -- R406 M data
  ⟨0x2201, 1, 0x1, 0x2, 0x2, .domain, .rw, 7, 2, false, false, 0x0, 0, 0, none, .volatile⟩,
  -- R406 Block protect
  ⟨0x2201, 1, 0x1, 0x3, 0x3, .u8, .rw, 2, 2, false, false, 0x0, 0, 3, none, .config⟩,
  -- R406 W offset
  ⟨0x2202, 1, 0x1, 0x1, 0x1, .u32, .rw, 6, 6, false, false, 0x0, 0, 8191, none, .volatile⟩]

/-- Rows of the object tables, part 8. -/
def objRows8 : List ObjRow := [
  -- R406 W data
  ⟨0x2202, 1, 0x1, 0x2, 0x2, .domain, .rw, 6, 6, false, false, 0x0, 0, 0, none, .volatile⟩,
  -- R406 Read password
  ⟨0x2202, 1, 0x1, 0x3, 0x3, .ostr, .wo, 4, 4, false, false, 0x0, 0, 0, some 16, .none⟩,
  -- R406 Write password
  ⟨0x2202, 1, 0x1, 0x4, 0x4, .ostr, .wo, 4, 4, false, false, 0x0, 0, 0, some 16, .none⟩,
  -- R406 Read-password state
  ⟨0x2202, 1, 0x1, 0x5, 0x5, .u32, .ro, 7, 7, false, false, 0x0, 0, 4294967295, none, .record⟩,
  -- R406 Set passwords
  ⟨0x2202, 1, 0x1, 0x6, 0x6, .ostr, .wo, 2, 2, false, false, 0x0, 0, 0, some 32, .none⟩,
  -- R421 Restore defaults
  ⟨0x1011, 1, 0x1, 0x1, 0x1, .u32, .wo, 2, 2, false, false, 0x0, 0, 4294967295, none, .none⟩,
  -- R421 Challenge
  ⟨0x1020, 1, 0x1, 0x1, 0x1, .ostr, .ro, 31, 31, false, false, 0x0, 0, 0, some 32, .volatile⟩,
  -- R421 Role request
  ⟨0x1020, 1, 0x1, 0x2, 0x2, .domain, .wo, 31, 31, false, false, 0x0, 0, 0, none, .none⟩,
  -- R421 Session role
  ⟨0x1020, 1, 0x1, 0x3, 0x3, .u8, .ro, 31, 31, false, false, 0x0, 0, 255, none, .volatile⟩,
  -- R421 Role failures
  ⟨0x1020, 1, 0x1, 0x4, 0x4, .u32, .ro, 7, 7, false, false, 0x0, 0, 4294967295, none, .volatile⟩,
  -- R421 Host key slot
  ⟨0x1021, 1, 0x1, 0x1, 0x1, .u8, .rw, 2, 2, false, false, 0xff, 0, 255, none, .config⟩,
  -- R421 Workshop key hashes
  ⟨0x1021, 1, 0x1, 0x2, 0x2, .domain, .rw, 2, 2, false, false, 0x0, 0, 0, some 256, .config⟩,
  -- R421 SDO service ports
  ⟨0x1030, 1, 0x1, 0x1, 0x1, .u16, .rw, 2, 2, false, false, 0x1, 0, 1023, none, .config⟩,
  -- R421 SDO node ID
  ⟨0x1031, 1, 0x1, 0x1, 0xa, .u8, .rw, 2, 2, false, false, 0x7f, 1, 127, none, .config⟩,
  -- R421 SDO segment timeout
  ⟨0x1032, 1, 0x1, 0x1, 0x1, .u16, .rw, 2, 2, false, false, 0x3e8, 100, 10000, none, .config⟩,
  -- R421 UDP and DoIP ports
  ⟨0x1033, 1, 0x1, 0x1, 0x1, .u32, .rw, 2, 2, false, false, 0x0, 0, 16777215, none, .config⟩,
  -- R421 UDP port number
  ⟨0x1033, 1, 0x1, 0x2, 0x2, .u16, .rw, 2, 2, false, false, 0xc86e, 1024, 65535, none, .config⟩,
  -- R421 Idle timeout
  ⟨0x1033, 1, 0x1, 0x3, 0x3, .u16, .rw, 2, 2, false, false, 0x3c, 10, 3600, none, .config⟩,
  -- R421 Tag failures
  ⟨0x1033, 1, 0x1, 0x4, 0x4, .u32, .ro, 7, 7, false, false, 0x0, 0, 4294967295, none, .volatile⟩,
  -- R421 DoIP logical address
  ⟨0x1034, 1, 0x1, 0x1, 0x1, .u16, .rw, 2, 2, false, false, 0x1001, 0, 65535, none, .config⟩,
  -- R421 ISO 15765-2 request, response ID
  ⟨0x1034, 1, 0x1, 0x2, 0x2, .u32, .rw, 2, 2, false, false, 0x7e0, 0, 4294967295, none, .config⟩,
  -- R421 ISO 15765-2 request, response ID
  ⟨0x1034, 1, 0x1, 0x3, 0x3, .u32, .rw, 2, 2, false, false, 0x7e8, 0, 4294967295, none, .config⟩,
  -- R421 Sessions open
  ⟨0x1035, 1, 0x1, 0x1, 0x1, .u8, .ro, 7, 7, false, false, 0x0, 0, 255, none, .volatile⟩,
  -- R426 Device type
  ⟨0x1000, 1, 0x1, 0x0, 0x0, .u32, .const, 31, 31, false, false, 0x0, 0, 4294967295, none, .const⟩,
  -- R426 Error register
  ⟨0x1001, 1, 0x1, 0x0, 0x0, .u8, .ro, 31, 31, false, false, 0x0, 0, 255, none, .volatile⟩,
  -- R426 Device name
  ⟨0x1008, 1, 0x1, 0x0, 0x0, .vstr, .const, 31, 31, false, false, 0x0, 0, 0, none, .const⟩,
  -- R426 Hardware version
  ⟨0x1009, 1, 0x1, 0x0, 0x0, .vstr, .const, 31, 31, false, false, 0x0, 0, 0, none, .const⟩,
  -- R426 Software version
  ⟨0x100a, 1, 0x1, 0x0, 0x0, .vstr, .ro, 31, 31, false, false, 0x0, 0, 0, none, .volatile⟩,
  -- R426 Vendor ID
  ⟨0x1018, 1, 0x1, 0x1, 0x1, .u32, .const, 31, 31, false, false, 0x3d9, 0, 4294967295, none, .const⟩,
  -- R426 Product code
  ⟨0x1018, 1, 0x1, 0x2, 0x2, .u32, .const, 31, 31, false, false, 0x2424, 0, 4294967295, none, .const⟩,
  -- R426 Revision number
  ⟨0x1018, 1, 0x1, 0x3, 0x3, .u32, .const, 31, 31, false, false, 0x0, 0, 4294967295, none, .record⟩,
  -- R426 Serial number
  ⟨0x1018, 1, 0x1, 0x4, 0x4, .u32, .const, 31, 31, false, false, 0x0, 0, 4294967295, none, .record⟩,
  -- R426 gPTP domain number
  ⟨0x1040, 1, 0x1, 0x1, 0x1, .u8, .rw, 2, 2, false, false, 0x0, 0, 127, none, .config⟩,
  -- R426 Priority1, priority2
  ⟨0x1040, 1, 0x1, 0x2, 0x2, .u8, .rw, 2, 2, false, false, 0xf8, 0, 255, none, .config⟩,
  -- R426 Priority1, priority2
  ⟨0x1040, 1, 0x1, 0x3, 0x3, .u8, .rw, 2, 2, false, false, 0xf8, 0, 255, none, .config⟩,
  -- R426 Clock class
  ⟨0x1040, 1, 0x1, 0x4, 0x4, .u8, .rw, 2, 2, false, false, 0xf8, 0, 255, none, .config⟩,
  -- R426 Clock accuracy
  ⟨0x1040, 1, 0x1, 0x5, 0x5, .u8, .rw, 2, 2, false, false, 0xfe, 0, 255, none, .config⟩,
  -- R426 Log sync interval
  ⟨0x1040, 1, 0x1, 0x6, 0x6, .i8, .rw, 2, 2, false, false, 0xfd, -5, 1, none, .config⟩,
  -- R426 Log pdelay interval
  ⟨0x1040, 1, 0x1, 0x7, 0x7, .i8, .rw, 2, 2, false, false, 0x0, -3, 3, none, .config⟩,
  -- R426 Log announce interval
  ⟨0x1040, 1, 0x1, 0x8, 0x8, .i8, .rw, 2, 2, false, false, 0x0, -3, 3, none, .config⟩,
  -- R426 gPTP state
  ⟨0x1040, 1, 0x1, 0x9, 0x9, .u8, .ro, 7, 7, false, false, 0x0, 0, 255, none, .volatile⟩,
  -- R426 Slave port
  ⟨0x1040, 1, 0x1, 0xa, 0xa, .u8, .ro, 7, 7, false, false, 0xff, 0, 255, none, .volatile⟩,
  -- R426 Offset from master
  ⟨0x1040, 1, 0x1, 0xb, 0xb, .i64, .ro, 7, 7, false, false, 0x0, -9223372036854775808, 9223372036854775807, none, .volatile⟩,
  -- R428 Operating mode
  ⟨0x2000, 1, 0x1, 0x1, 0x1, .u8, .ro, 31, 31, false, false, 0x1, 0, 255, none, .volatile⟩,
  -- R428 Device state
  ⟨0x2000, 1, 0x1, 0x2, 0x2, .u8, .ro, 15, 15, false, false, 0x0, 0, 255, none, .volatile⟩,
  -- R428 Device reset
  ⟨0x2000, 1, 0x1, 0x3, 0x3, .u32, .wo, 22, 22, false, false, 0x0, 0, 4294967295, none, .none⟩,
  -- R428 Part code
  ⟨0x2000, 1, 0x1, 0x4, 0x4, .u16, .const, 31, 31, false, false, 0x2424, 0, 65535, none, .const⟩,
  -- R428 Ports fitted
  ⟨0x2000, 1, 0x1, 0x5, 0x5, .u32, .const, 31, 31, false, false, 0xffffff, 0, 4294967295, none, .const⟩,
  -- R428 Clusters fitted
  ⟨0x2000, 1, 0x1, 0x6, 0x6, .u8, .const, 31, 31, false, false, 0xf, 0, 255, none, .const⟩,
  -- R429 State request
  ⟨0x2100, 1, 0x1, 0x1, 0x1, .u8, .wo, 3, 3, false, false, 0x0, 0, 2, none, .none⟩,
  -- R429 Last wake source
  ⟨0x2100, 1, 0x1, 0x2, 0x2, .u8, .ro, 15, 15, false, false, 0x0, 0, 255, none, .ao⟩,
  -- R429 Wake enable
  ⟨0x2100, 1, 0x1, 0x3, 0x3, .u32, .rw, 2, 2, false, false, 0x1ffff, 0, 131071, none, .config⟩,
  -- R429 HIVE-CORE voters
  ⟨0x2101, 1, 0x1, 0x1, 0x1, .u64, .ro, 7, 7, false, false, 0x0, 0, 18446744073709551615, none, .volatile⟩,
  -- R429 ACCESS voters
  ⟨0x2101, 1, 0x1, 0x2, 0x2, .u64, .ro, 7, 7, false, false, 0x0, 0, 18446744073709551615, none, .volatile⟩,
  -- R429 DDR voters
  ⟨0x2101, 1, 0x1, 0x3, 0x3, .u64, .ro, 7, 7, false, false, 0x0, 0, 18446744073709551615, none, .volatile⟩,
  -- R429 Pair domains on
  ⟨0x2101, 1, 0x1, 0x4, 0x4, .u16, .ro, 7, 7, false, false, 0x0, 0, 65535, none, .volatile⟩,
  -- R429 Port domains on
  ⟨0x2101, 1, 0x1, 0x5, 0x5, .u32, .ro, 7, 7, false, false, 0x0, 0, 4294967295, none, .volatile⟩,
  -- R429 Keeper votes
  ⟨0x2102, 1, 0x1, 0x1, 0x1, .u8, .rw, 31, 31, true, true, 0x3, 0, 3, none, .config⟩,
  -- R429 HOLD_N level
  ⟨0x2103, 1, 0x1, 0x1, 0x1, .bool, .ro, 7, 7, false, false, 0x0, 0, 1, none, .volatile⟩,
  -- R429 Residency RUN, DOZE, SLEEP
  ⟨0x2104, 1, 0x1, 0x1, 0x3, .u64, .ro, 15, 15, false, false, 0x0, 0, 18446744073709551615, none, .ao⟩]

/-- Rows of the object tables, part 9. -/
def objRows9 : List ObjRow := [
  -- R429 WAKE_SENSE thresholds
  ⟨0x2105, 1, 0x1, 0x1, 0x4, .u16, .rw, 2, 2, false, false, 0x5dc, 100, 3000, none, .config⟩,
  -- R429 WAKE_SENSE hysteresis
  ⟨0x2105, 1, 0x1, 0x5, 0x8, .u16, .rw, 2, 2, false, false, 0x64, 0, 500, none, .config⟩,
  -- R429 WAKE_SENSE levels
  ⟨0x2105, 1, 0x1, 0x9, 0x9, .u8, .ro, 7, 7, false, false, 0x0, 0, 255, none, .volatile⟩,
  -- R429 Pad release
  ⟨0x2106, 1, 0x1, 0x1, 0x1, .u8, .wo, 31, 31, true, true, 0x0, 0, 255, none, .none⟩,
  -- R429 Pads held
  ⟨0x2106, 1, 0x1, 0x2, 0x2, .u32, .ro, 7, 7, false, false, 0x0, 0, 4294967295, none, .volatile⟩,
  -- R429 AO real-time clock
  ⟨0x2107, 1, 0x1, 0x1, 0x1, .u32, .ro, 15, 15, false, false, 0x0, 0, 4294967295, none, .ao⟩,
  -- R429 RTC alarm
  ⟨0x2107, 1, 0x1, 0x2, 0x2, .u32, .rw, 3, 3, false, false, 0x0, 0, 4294967295, none, .config⟩,
  -- R429 Entry aborts
  ⟨0x2108, 1, 0x1, 0x1, 0x6, .u32, .ro, 7, 7, false, false, 0x0, 0, 4294967295, none, .ao⟩,
  -- R429 Die temperatures
  ⟨0x2109, 1, 0x1, 0x1, 0x2, .i16, .ro, 15, 15, false, false, 0x0, -32768, 32767, none, .volatile⟩,
  -- R429 AO supply
  ⟨0x2109, 1, 0x1, 0x3, 0x3, .u16, .ro, 7, 7, false, false, 0x0, 0, 65535, none, .volatile⟩,
  -- R429 Core supply
  ⟨0x2109, 1, 0x1, 0x4, 0x4, .u16, .ro, 7, 7, false, false, 0x0, 0, 65535, none, .volatile⟩,
  -- R430 Clocks locked
  ⟨0x2180, 1, 0x1, 0x1, 0x1, .u16, .ro, 7, 7, false, false, 0x0, 0, 65535, none, .volatile⟩,
  -- R430 Loss-of-lock events
  ⟨0x2180, 1, 0x1, 0x2, 0x2, .u32, .ro, 7, 7, false, false, 0x0, 0, 4294967295, none, .ao⟩,
  -- R430 Die-to-die replays
  ⟨0x2180, 1, 0x1, 0x3, 0x3, .u32, .ro, 7, 7, false, false, 0x0, 0, 4294967295, none, .ao⟩,
  -- R430 Last reset cause
  ⟨0x2181, 1, 0x1, 0x1, 0x1, .u8, .ro, 15, 15, false, false, 0x0, 0, 255, none, .ao⟩,
  -- R430 Cold boots
  ⟨0x2181, 1, 0x1, 0x2, 0x2, .u32, .ro, 7, 7, false, false, 0x0, 0, 4294967295, none, .ao⟩,
  -- R430 Warm boots
  ⟨0x2181, 1, 0x1, 0x3, 0x3, .u32, .ro, 7, 7, false, false, 0x0, 0, 4294967295, none, .ao⟩,
  -- R430 Last boot time
  ⟨0x2181, 1, 0x1, 0x4, 0x4, .u32, .ro, 7, 7, false, false, 0x0, 0, 4294967295, none, .ao⟩,
  -- R430 Device time
  ⟨0x2182, 1, 0x1, 0x1, 0x1, .u64, .ro, 7, 7, false, false, 0x0, 0, 18446744073709551615, none, .volatile⟩,
  -- R430 Tick
  ⟨0x2182, 1, 0x1, 0x2, 0x2, .u32, .ro, 7, 7, false, false, 0x0, 0, 4294967295, none, .volatile⟩,
  -- R430 Hyperperiods
  ⟨0x2182, 1, 0x1, 0x3, 0x3, .u64, .ro, 7, 7, false, false, 0x0, 0, 18446744073709551615, none, .volatile⟩,
  -- R431 Tests running
  ⟨0x5000, 1, 0x1, 0x1, 0x1, .u64, .ro, 7, 7, false, false, 0x0, 0, 18446744073709551615, none, .volatile⟩,
  -- R431 Test mode
  ⟨0x5010, 24, 0x1, 0x1, 0x1, .u8, .rw, 6, 6, false, false, 0x0, 0, 5, none, .config⟩,
  -- R431 Frame length
  ⟨0x5010, 24, 0x1, 0x2, 0x2, .u16, .rw, 6, 6, false, false, 0x40, 0, 65535, none, .config⟩,
  -- R431 Frame count
  ⟨0x5010, 24, 0x1, 0x3, 0x3, .u32, .rw, 6, 6, false, false, 0x0, 0, 4294967295, none, .config⟩,
  -- R431 PHY test mode number
  ⟨0x5010, 24, 0x1, 0x4, 0x4, .u8, .rw, 6, 6, false, false, 0x1, 1, 4, none, .config⟩,
  -- R431 Start, stop
  ⟨0x5010, 24, 0x1, 0x5, 0x5, .u8, .wo, 6, 6, false, false, 0x0, 1, 2, none, .none⟩,
  -- R431 Test state
  ⟨0x5010, 24, 0x1, 0x6, 0x6, .u8, .ro, 7, 7, false, false, 0x0, 0, 255, none, .volatile⟩,
  -- R431 Frames sent, checked, in error
  ⟨0x5010, 24, 0x1, 0x7, 0x9, .u32, .ro, 7, 7, false, false, 0x0, 0, 4294967295, none, .volatile⟩,
  -- R431 PRBS polynomial
  ⟨0x5030, 6, 0x1, 0x1, 0x1, .u8, .rw, 6, 6, false, false, 0x1f, 7, 31, none, .config⟩,
  -- R431 Direction
  ⟨0x5030, 6, 0x1, 0x2, 0x2, .u8, .rw, 6, 6, false, false, 0x3, 0, 3, none, .config⟩,
  -- R431 Start, stop
  ⟨0x5030, 6, 0x1, 0x3, 0x3, .u8, .wo, 6, 6, false, false, 0x0, 1, 2, none, .none⟩,
  -- R431 Bits checked
  ⟨0x5030, 6, 0x1, 0x4, 0x4, .u64, .ro, 7, 7, false, false, 0x0, 0, 18446744073709551615, none, .volatile⟩,
  -- R431 Bit errors
  ⟨0x5030, 6, 0x1, 0x5, 0x5, .u64, .ro, 7, 7, false, false, 0x0, 0, 18446744073709551615, none, .volatile⟩,
  -- R431 Checker locked
  ⟨0x5030, 6, 0x1, 0x6, 0x6, .bool, .ro, 7, 7, false, false, 0x0, 0, 1, none, .volatile⟩,
  -- R431 LF loopback channel
  ⟨0x5040, 1, 0x1, 0x1, 0x1, .u8, .rw, 6, 6, false, false, 0x0, 0, 7, none, .config⟩,
  -- R431 LF loopback start
  ⟨0x5040, 1, 0x1, 0x2, 0x2, .u8, .wo, 6, 6, false, false, 0x0, 1, 1, none, .none⟩,
  -- R431 LF loopback result
  ⟨0x5040, 1, 0x1, 0x3, 0x3, .u32, .ro, 7, 7, false, false, 0x0, 0, 4294967295, none, .volatile⟩,
  -- R431 UWB loopback start
  ⟨0x5041, 1, 0x1, 0x1, 0x1, .u8, .wo, 6, 6, false, false, 0x0, 1, 1, none, .none⟩,
  -- R431 UWB loopback result
  ⟨0x5041, 1, 0x1, 0x2, 0x2, .u32, .ro, 7, 7, false, false, 0x0, 0, 4294967295, none, .volatile⟩,
  -- R431 NFC load check start
  ⟨0x5042, 1, 0x1, 0x1, 0x1, .u8, .wo, 6, 6, false, false, 0x0, 1, 1, none, .none⟩,
  -- R431 NFC load check result
  ⟨0x5042, 1, 0x1, 0x2, 0x2, .u16, .ro, 7, 7, false, false, 0x0, 0, 65535, none, .volatile⟩,
  -- R431 BIST target
  ⟨0x5050, 1, 0x1, 0x1, 0x1, .u8, .rw, 6, 6, false, false, 0x0, 0, 255, none, .config⟩,
  -- R431 BIST start
  ⟨0x5050, 1, 0x1, 0x2, 0x2, .u8, .wo, 6, 6, false, false, 0x0, 1, 1, none, .none⟩,
  -- R431 BIST result
  ⟨0x5050, 1, 0x1, 0x3, 0x3, .u32, .ro, 7, 7, false, false, 0x0, 0, 4294967295, none, .volatile⟩,
  -- R431 DRAM test start
  ⟨0x5051, 1, 0x1, 0x1, 0x1, .u8, .wo, 18, 18, false, false, 0x0, 1, 1, none, .none⟩,
  -- R431 DRAM test result
  ⟨0x5051, 1, 0x1, 0x2, 0x2, .u32, .ro, 23, 23, false, false, 0x0, 0, 4294967295, none, .volatile⟩,
  -- R431 Boundary scan available
  ⟨0x5060, 1, 0x1, 0x1, 0x1, .bool, .ro, 23, 23, false, false, 0x0, 0, 1, none, .volatile⟩,
  -- R433 Sources present
  ⟨0x6000, 1, 0x1, 0x1, 0x1, .u64, .const, 15, 15, false, false, 0xffffffffff, 0, 18446744073709551615, none, .const⟩,
  -- R433 Rings at three-quarters
  ⟨0x6000, 1, 0x1, 0x2, 0x2, .u64, .ro, 7, 7, false, false, 0x0, 0, 18446744073709551615, none, .volatile⟩,
  -- R433 Ring base
  ⟨0x6010, 40, 0x1, 0x1, 0x1, .u64, .rw, 7, 0, false, true, 0x0, 0, 18446744073709551615, none, .config⟩,
  -- R433 Ring entries
  ⟨0x6010, 40, 0x1, 0x2, 0x2, .u32, .rw, 7, 0, false, true, 0x400, 64, 65536, none, .config⟩,
  -- R433 Write index
  ⟨0x6010, 40, 0x1, 0x3, 0x3, .u32, .ro, 7, 7, false, false, 0x0, 0, 4294967295, none, .volatile⟩,
  -- R433 Read index
  ⟨0x6010, 40, 0x1, 0x4, 0x4, .u32, .rw, 7, 0, false, true, 0x0, 0, 4294967295, none, .volatile⟩,
  -- R433 Next sequence
  ⟨0x6010, 40, 0x1, 0x5, 0x5, .u32, .ro, 7, 7, false, false, 0x0, 0, 4294967295, none, .volatile⟩,
  -- R433 Overwrites
  ⟨0x6010, 40, 0x1, 0x6, 0x6, .u32, .ro, 7, 7, false, false, 0x0, 0, 4294967295, none, .volatile⟩,
  -- R433 Records written
  ⟨0x6010, 40, 0x1, 0x7, 0x7, .u32, .ro, 7, 7, false, false, 0x0, 0, 4294967295, none, .volatile⟩]

/-- Every row of the object tables. -/
def objRows : List ObjRow :=
  objRows0 ++ objRows1 ++ objRows2 ++ objRows3 ++ objRows4 ++ objRows5 ++ objRows6 ++ objRows7 ++ objRows8 ++ objRows9

end Sys2Proof.Machine
end

