-- ==== Sys2Proof/Machine/Ops.lean ====
section
/-! DEFINITION. The operations every meaning shares: bytes and bits, maps in canonical form, the object
values, time, draws, round robin (R22), events (R470-R474) and records (R384-R396). -/

namespace Sys2Proof.Machine

/-- What a meaning answers. -/
abbrev Res := Host.Outcome State Fault Refusal

/-- The answer of a meaning that takes `s` to `t`. A command has its effect on everything but the queue of waiting
commands, which is the sender's. [log 8 DEDUCED] -/
def conclude (s t : State) : Res := .next { t with pending := s.pending }

/-! ### Bits and bytes -/

/-- Bits `hi` to `lo` of a number (R4). -/
def bitsOf (v hi lo : Nat) : Nat := (v >>> lo) % 2 ^ (hi + 1 - lo)

/-- `n` bytes of `v`, least significant first. [log 12 DEDUCED] -/
def leBytes (n v : Nat) : Blob := (List.range n).map fun i => BitVec.ofNat 8 (v >>> (8 * i))

/-- `n` bytes of `v`, most significant first. -/
def beBytes (n v : Nat) : Blob := (leBytes n v).reverse

/-- The number whose bytes, least significant first, these are. -/
def ofLe (b : Blob) : Nat := b.foldr (fun x a => x.toNat + 256 * a) 0

/-- The number whose bytes, most significant first, these are. -/
def ofBe (b : Blob) : Nat := b.foldl (fun a x => a * 256 + x.toNat) 0

/-- `n` bytes from offset `o`, as far as the string goes. -/
def sub (b : Blob) (o n : Nat) : Blob := (b.drop o).take n

/-- `n` bytes from offset `o`, with 0x00 past the end. -/
def subPad (b : Blob) (o n : Nat) : Blob := (List.range n).map fun i => b.getD (o + i) 0

/-- `b` with the bytes from `o` on replaced by `d`; 0x00 stands between its end and `o`. -/
def patch (b : Blob) (o : Nat) (d : Blob) : Blob :=
  b.take o ++ List.replicate (o - b.length) 0 ++ d ++ b.drop (o + d.length)

/-- A constant of Config as a string of `n` bytes. -/
def bytesOf (n : Nat) (f : Nat → Byte) : Blob := (List.range n).map f

/-- Zero bytes. -/
def zeros (n : Nat) : Blob := List.replicate n 0

/-- `n` rounded up to a multiple of `m`. -/
def roundUp (n m : Nat) : Nat := (n + m - 1) / m * m

/-- Quotient rounded up. -/
def ceilDiv (a b : Nat) : Nat := (a + b - 1) / b

/-- `n` split into pieces of `k` elements (the last may be shorter); `fuel` bounds the pieces. -/
def chunksAux {α : Type} (k : Nat) : Nat → List α → List (List α)
  | 0, _ => []
  | _, [] => []
  | f + 1, l => l.take k :: chunksAux k f (l.drop k)

/-- A list split into pieces of `k` elements. -/
def chunks {α : Type} (k : Nat) (l : List α) : List (List α) := chunksAux k (l.length + 1) l

/-- The number a two's complement field of `w` bits holds. -/
def signedOf (w v : Nat) : Int := if v % 2 ^ w < 2 ^ (w - 1) then (v % 2 ^ w : Nat) else (v % 2 ^ w : Nat) - (2 ^ w : Nat)

/-- Two's complement of `v` in `w` bits. -/
def unsignedOf (w : Nat) (v : Int) : Nat := (v % (2 ^ w : Nat)).toNat

/-! ### Vectors addressed by numbers -/

/-- Element `i` changed by `f`; nothing where `i` is past the end. -/
def vmod {α : Type} {n : Nat} (v : Vector α n) (i : Nat) (f : α → α) : Vector α n :=
  if h : i < n then v.set i (f v[i]) else v

/-! ### Maps with rising keys -/

/-- The value of a key. -/
def mapGet {α : Type} (k : Nat) : List (Nat × α) → Option α
  | [] => none
  | (a, v) :: r => if a = k then some v else mapGet k r

/-- The map with `k` holding `v`. -/
def mapPut {α : Type} (k : Nat) (v : α) : List (Nat × α) → List (Nat × α)
  | [] => [(k, v)]
  | (a, w) :: r => if k < a then (k, v) :: (a, w) :: r else if a = k then (k, v) :: r else (a, w) :: mapPut k v r

/-- The map without `k`. -/
def mapDel {α : Type} (k : Nat) (m : List (Nat × α)) : List (Nat × α) := m.filter fun e => e.1 ≠ k

/-- Keys strictly rising. -/
def keysRise {α : Type} : List (Nat × α) → Bool
  | [] => true
  | [_] => true
  | (a, _) :: (b, w) :: r => a < b && keysRise ((b, w) :: r)

/-! ### Object values (R410, R412, R413) -/

/-- The key of an entry. -/
def odKey (idx sb : Nat) : Nat := idx * 256 + sb

/-- Offset `off`, subindex `sb` of port `n`'s block (R425). -/
def pk (n off sb : Nat) : Nat := odKey (0x3000 + 0x20 * n + off) sb

/-- Whether a row of the tables describes an entry. -/
def ObjRow.has (r : ObjRow) (idx sb : Nat) : Bool :=
  r.i0 ≤ idx && (idx - r.i0) % (max r.stride 1) == 0 && (idx - r.i0) / (max r.stride 1) < r.n && r.s0 ≤ sb && sb ≤ r.s1

/-- The row of the tables for an entry. -/
def findRow (idx sb : Nat) : Option ObjRow := objRows.find? (·.has idx sb)

/-- The default of an entry, by key. -/
def odDefault (k : Nat) : Nat := ((findRow (k / 256) (k % 256)).map (·.dflt)).getD 0

/-- The stored value of an entry. -/
def val (s : State) (k : Nat) : Nat := (mapGet k s.od).getD (odDefault k)

/-- The stored values with entry `k` holding `v`, in canonical form. -/
def odSet (m : List (Nat × Nat)) (k v : Nat) : List (Nat × Nat) :=
  if v = odDefault k then mapDel k m else mapPut k v m

/-- Store a value in an entry. -/
def setVal (k v : Nat) (s : State) : State := { s with od := odSet s.od k v }

/-- A stored string or DOMAIN. -/
def blob (s : State) (k : Nat) : Blob := (mapGet k s.blobs).getD []

/-- Store a string or DOMAIN. -/
def setBlob (k : Nat) (b : Blob) (s : State) : State :=
  { s with blobs := if b = [] then mapDel k s.blobs else mapPut k b s.blobs }

/-- A counter of 32 bits that saturates, raised by `n` (R6). -/
def countN (k n : Nat) (s : State) : State := setVal k (min (val s k + n) 0xFFFFFFFF) s

/-- A counter of 32 bits that saturates, raised by 1. -/
def count (k : Nat) (s : State) : State := countN k 1 s

/-- A counter of 64 bits that wraps. -/
def count64 (k : Nat) (s : State) : State := setVal k ((val s k + 1) % 2 ^ 64) s

/-- A Boolean entry. -/
def flag (s : State) (k : Nat) : Bool := val s k ≠ 0

/-! ### What leaves the block -/

/-- Record something that leaves the block (log entry 4). [log 4 DESIGN CHOICE] -/
def emit (o : Out) (s : State) : State := { s with out := o :: s.out }

/-! ### Time (R28, R456) -/

/-- Picoseconds of one fabric slot (15.625 ns). -/
def slotPs : Nat := 15625
/-- Picoseconds of a tick. -/
def tickPs : Nat := 1000000

/-- Device time in ps. [log 9 DESIGN CHOICE] -/
def nowPs (s : State) : Nat := s.clk.tickPs + s.clk.slot * slotPs
/-- Device time in ns, 0x2182/01. -/
def nowNs (s : State) : Nat := nowPs s / 1000 % 2 ^ 64
/-- The AO real-time clock, seconds (0x2107/01). -/
def aoSec (s : State) : Nat := s.pwr.rtc

/-- One millisecond and one second in ps. -/
def msPs : Nat := 1000000000
def secPs : Nat := 1000000000000

/-! ### Open values and noise -/

/-- A fresh free value below `bound` (log entry 5). [log 5 DESIGN CHOICE] -/
def free (bound : Nat) (s : State) : Nat × State :=
  (Config.freeValue s.freeCtr % max bound 1, { s with freeCtr := s.freeCtr + 1 })

/-- `n` bytes from a noise source or generator (log entry 6). [log 6 DESIGN CHOICE] -/
def draw (n : Nat) (s : State) : Blob × State :=
  (bytesOf n (Config.random s.draws), { s with draws := s.draws + 1 })

/-! ### Round robin (R22) -/

/-- The requester at or next above the pointer among `n`. [log 92 DEDUCED] -/
def rrPick (n ptr : Nat) (want : Nat → Bool) : Option Nat :=
  ((List.range n).map fun i => (ptr + i) % n).find? want

/-- The pointer after a grant. -/
def rrNext (n win : Nat) : Nat := (win + 1) % n

/-! ### Events (R470-R474) -/

/-- Field-die sources (R473). -/
def fieldSource (src : Nat) : Bool := src ∈ [10, 11, 13, 14, 15]

/-- A record with GAP set (R471). -/
def EventRec.withGap (e : EventRec) : EventRec := { e with flags := e.flags ||| 4 }

/-- The first record of a source in a list gets GAP; the flag tells whether there was one. [log 110 DEDUCED] -/
def markGap (src : Nat) : List EventRec → List EventRec × Bool
  | [] => ([], false)
  | e :: r => if e.source = src then (e.withGap :: r, true) else ((e :: (markGap src r).1), (markGap src r).2)

/-- A ring's staging FIFO takes a record; the oldest is dropped from a full one, and the next record written carries
GAP (R472). -/
def EventRing.stage (r : EventRing) (e : EventRec) : EventRing :=
  if r.staging.length < 32 then { r with staging := r.staging ++ [e] }
  else match r.staging.tail ++ [e] with
  | [] => r
  | h :: t => { r with staging := h.withGap :: t }

/-- The shared buffer takes a record; the oldest is dropped from a full one, and the next of its source carries GAP (R473). -/
def EventSt.defer (v : EventSt) (e : EventRec) : EventSt :=
  if v.deferred.length < 64 then { v with deferred := v.deferred ++ [e] }
  else match v.deferred with
  | [] => v
  | old :: rest =>
    let (l, marked) := markGap old.source (rest ++ [e])
    { v with deferred := l, deferredGap := if marked || v.deferredGap.contains old.source then v.deferredGap else v.deferredGap ++ [old.source] }

/-- A record goes to its source's staging FIFO, or for a Field-die source, while the Hive die is off, to
the shared buffer (R472, R473). [log 110 DEDUCED] -/
def stageEvent (e : EventRec) (s : State) : State :=
  let e := if s.evt.deferredGap.contains e.source then e.withGap else e
  let v := { s.evt with deferredGap := s.evt.deferredGap.filter (· ≠ e.source) }
  if s.pwr.hive ∨ ¬ fieldSource e.source then
    { s with evt := { v with rings := vmod v.rings e.source (·.stage e) } }
  else { s with evt := v.defer { e with flags := e.flags ||| 1 } }

/-- Details that keep a summary window of 1 s per key (R470). [log 110 DEDUCED] -/
def summarised (cls detail : Nat) : Bool := cls == 1 && (detail == 0x0006 || detail == 0x000A)

/-- Log an event of source `src` (R470, R471). `obj` is the key of the object that counts the case, 0 for none. [log 111 DESIGN CHOICE] -/
def logEvent (src cls detail obj : Nat) (data : Blob) (s : State) : State :=
  let rec0 : EventRec :=
    { seq := 0, source := src, cls := cls, detail := detail, time := nowNs s,
      obj := obj / 256 + obj % 256 * 65536, flags := 0, data := subPad data 0 8 }
  if summarised cls detail then
    let key := ofLe (data.take 1)
    match s.evt.windows.find? fun w => w.detail == detail && w.key == key with
    | none =>
      stageEvent { rec0 with data := subPad (data.take 4) 0 8 }
        { s with evt := { s.evt with windows := s.evt.windows ++
            [{ detail := detail, key := key, source := src, cls := cls, obj := rec0.obj, first := [], count := 0, openPs := nowPs s }] } }
    | some _ =>
      { s with evt := { s.evt with windows := s.evt.windows.map fun w =>
          if w.detail == detail && w.key == key then
            { w with count := w.count + 1, first := if w.count = 0 then subPad data 0 4 else w.first }
          else w } }
  else stageEvent rec0 s

/-- Class codes of R471. -/
def clsMasked : Nat := 1
def clsUnmasked : Nat := 2
def clsPartner : Nat := 3
def clsState : Nat := 4
def clsSecurity : Nat := 5
def clsRefusal : Nat := 6
def clsThreshold : Nat := 7
def clsBoot : Nat := 8

/-! ### Record logs (R384-R396) -/

/-- Bytes of a sector behind its header (R385, R386). -/
def sectorBytes : Nat := 8160

/-- Bytes a record takes (R387). -/
def LogRec.size (r : LogRec) : Nat := 20 + roundUp r.payload.length 4

/-- The record of a position, where rule 2 finds it good (R395, R396). -/
def RecPos.good (p : RecPos) : Option LogRec :=
  match p.a, p.b with
  | some a, some b => if a.payload = b.payload then some a else none
  | some a, none => some a
  | none, some b => some b
  | none, none => none

/-- SEQ comparison modulo 2^32 (R388). -/
def seqNewer (a b : Nat) : Bool :=
  let d := (a + 2 ^ 32 - b % 2 ^ 32) % 2 ^ 32
  0 < d && d < 2 ^ 31

/-- The positions of the pairs in use. -/
def LogArea.positions (l : LogArea) : List RecPos := (l.pairs.filter (·.st == .active)).flatMap (·.recs)

/-- The good records of the area. -/
def LogArea.records (l : LogArea) : List LogRec := l.positions.filterMap (·.good)

/-- A COMMIT record covers a SEQ (R389). [log 91 DEDUCED] -/
def LogRec.covers (c : LogRec) (q : Nat) : Bool :=
  c.commit && !seqNewer (ofLe (sub c.payload 0 4)) q && !seqNewer q (ofLe (sub c.payload 4 4))

/-- The records that stand or have stood: those outside transactions and those of committed ones (R388, R389). -/
def LogArea.committed (l : LogArea) : List LogRec :=
  l.records.filter fun r => !r.commit && (!r.txn || l.records.any (·.covers r.seq))

/-- The newest of some records. -/
def newestRec : List LogRec → Option LogRec
  | [] => none
  | r :: rest => match newestRec rest with
    | none => some r
    | some b => if seqNewer r.seq b.seq then some r else some b

/-- The record that stands for a (TYPE, ID) (R388). [log 91 DEDUCED] -/
def LogArea.stands (l : LogArea) (type id : Nat) : Option LogRec :=
  newestRec (l.committed.filter fun r => r.type == type && r.id == id)

/-- Its content; none for a deleted or absent one. -/
def LogArea.content (l : LogArea) (type id : Nat) : Option Blob :=
  (l.stands type id).bind fun r => if r.delete then none else some r.payload

/-- Bytes used of a pair. -/
def LogPair.used (p : LogPair) : Nat := (p.recs.map fun q =>
  (((q.a.orElse fun _ => q.b).map (·.size)).getD 0)).sum

/-- A pair takes a record at its end. -/
def LogPair.push (p : LogPair) (r : LogRec) (copyB : Bool) : LogPair :=
  { p with recs := p.recs ++ [{ offset := 32 + p.used, a := some r, b := if copyB then some r else none }] }

/-- The pair the area takes when its current one is full: its next FRESH pair other than the reserve (R393). -/
def LogArea.nextFresh (l : LogArea) : Option Nat :=
  ((List.range l.pairs.length).map fun i => (l.cur + 1 + i) % l.pairs.length).find? fun i =>
    i ≠ l.reserve && (l.pairs.getD i {}).st == .fresh

/-- Append a record, copy A and, where asked, copy B; the area's SEQ steps (R388). None where the
reserve is the only FRESH pair left (R393). -/
def LogArea.append (l : LogArea) (r : LogRec) (copyB : Bool) : Option LogArea :=
  let r := { r with seq := (l.seq + 1) % 2 ^ 32 }
  let put (i : Nat) (start : Bool) : LogArea :=
    { l with
      cur := i, seq := r.seq,
      pairs := l.pairs.modify i fun p =>
        (if start then { p with st := .active, pgen := ((l.pairs.map (·.pgen)).foldl max 0 + 1) % 2 ^ 32, recs := [] } else p).push r copyB }
  let c := l.pairs.getD l.cur {}
  if c.st == .fresh && l.cur ≠ l.reserve then some (put l.cur true)
  else if c.st == .active && c.used + r.size ≤ sectorBytes then some (put l.cur false)
  else (l.nextFresh).map fun i => put i true

/-- A record belongs to the transaction that is being written. -/
def LogArea.inOpenTxn (l : LogArea) (r : LogRec) : Bool :=
  r.txn && (match l.openFrom with | some f => !seqNewer f r.seq | none => false)

/-- A record is live (R393): it stands. A COMMIT record is live while a record it covers stands in the area, because
a transaction's records stand together (R389). [log 91 DEDUCED] -/
def LogArea.live (l : LogArea) (r : LogRec) : Bool :=
  if r.commit then l.records.any fun q => q.txn && r.covers q.seq && l.stands q.type q.id == some q
  else l.stands r.type r.id == some r || l.inOpenTxn r

/-- The ACTIVE pair with the fewest live bytes (R393). -/
def LogArea.victim (l : LogArea) : Option Nat :=
  let cand := (List.range l.pairs.length).filter fun i => (l.pairs.getD i {}).st == .active
  let bytes (i : Nat) : Nat := (((l.pairs.getD i {}).recs.filterMap (·.good)).filter l.live).map (·.size) |>.sum
  cand.foldl (fun b i => match b with
    | none => some i
    | some j => if bytes i < bytes j then some i else some j) none

/-- Start a compaction (R393): the victim's live records, in SEQ order, are to be copied to the reserve. -/
def LogArea.startCompact (l : LogArea) : LogArea :=
  match l.copying, l.victim with
  | none, some v => { l with
      copying := some (v, ((l.pairs.getD v {}).recs.filterMap (·.good)).filter l.live),
      pairs := l.pairs.modify l.reserve fun p => { p with recs := [] } }
  | _, _ => l

/-- One record of a compaction, with a new SEQ; one whose ID has a newer record by now is skipped. With none left the
reserve becomes ACTIVE, and the victim is zeroed and becomes the reserve. The flag: the compaction has ended. -/
def LogArea.copyOne (l : LogArea) : LogArea × Bool :=
  match l.copying with
  | none => (l, false)
  | some (v, []) =>
    ({ l with
       copying := none, cur := l.reserve, reserve := v,
       pairs := (l.pairs.modify l.reserve fun p =>
         { p with st := .active, pgen := ((l.pairs.map (·.pgen)).foldl max 0 + 1) % 2 ^ 32 }).modify v fun p =>
         { p with st := .fresh, recs := [] } }, true)
  | some (v, r :: rest) =>
    if l.live r then
      let q := { r with seq := (l.seq + 1) % 2 ^ 32, txn := l.inOpenTxn r }
      ({ l with seq := q.seq, copying := some (v, rest), pairs := l.pairs.modify l.reserve (·.push q true) }, false)
    else ({ l with copying := some (v, rest) }, false)

/-- Compact within a time allowance in units of 0.05 us: a record takes two copies of 2 us + 0.05 us per byte (R391). -/
def LogArea.copyFor : Nat → Nat → LogArea → LogArea × Bool
  | 0, _, l => (l, false)
  | n + 1, left, l =>
    match l.copying with
    | none => (l, false)
    | some (_, []) => l.copyOne
    | some (_, r :: _) =>
      let cost := 2 * (40 + r.size)
      if cost ≤ left then (l.copyOne.1).copyFor n (left - cost) else (l, false)

/-- A compaction run to its end. -/
def LogArea.compact (l : LogArea) : LogArea := (l.startCompact.copyFor 100000 1000000000000).1

/-- Append, compacting first where no FRESH pair but the reserve is left. None: the record cannot fit even
after compaction. The number counts compactions. -/
def LogArea.appendFit (l : LogArea) (r : LogRec) (copyB : Bool) : Option (LogArea × Nat) :=
  match l.append r copyB with
  | some l' => some (l', 0)
  | none => (l.compact.append r copyB).map fun l' => (l', 1)

/-- The log of an area: 0 M, 1 W, 2 S. -/
def StoreSt.area (t : StoreSt) : Nat → LogArea
  | 0 => t.m
  | 1 => t.w
  | _ => t.sys

/-- The store with the log of an area replaced. -/
def StoreSt.setArea (t : StoreSt) (a : Nat) (l : LogArea) : StoreSt :=
  match a with
  | 0 => { t with m := l }
  | 1 => { t with w := l }
  | _ => { t with sys := l }

/-- The store's pointer moves past the requester it has granted (R22, R391). -/
def StoreSt.grant (t : StoreSt) (who : Nat) : StoreSt := { t with pointer := rrNext 5 who }

/-- The requester that writes a record type (R390): 0 AO sequencer, 1 vault, 2 access island, 4 keeper. -/
def recordOwner (a type : Nat) : Nat := if a = 2 then (if type = 0x21 then 2 else 1) else if type = 0x03 then 0 else 4

/-- An operation of the keeper on the record store is complete: its line 9 (R256). -/
def storeLine (who : Nat) (s : State) : State :=
  if who = 4 then { s with keeper := { s.keeper with ipend := s.keeper.ipend ||| BitVec.twoPow 32 9 } } else s

/-- Commit one record on both copies (R388), its requester granted; none where the area cannot take it (R393). -/
def storePut (a type id : Nat) (delete : Bool) (payload : Blob) (s : State) : Option State :=
  ((s.store.area a).appendFit ⟨type, id, 0, false, false, delete, payload⟩ true).map fun (l, c) =>
    storeLine (recordOwner a type) (countN (odKey 0x2200 7) c { s with store := (s.store.setArea a l).grant (recordOwner a type) })

/-- A series of records written as one transaction, its COMMIT record last (R389). `first`: the SEQ the series has begun with
already. None where the area cannot take it; the number counts compactions. -/
def LogArea.appendTxn (l : LogArea) (first : Option Nat) (rs : List LogRec) : Option (LogArea × Nat) :=
  let step (acc : Option (LogArea × Nat)) (r : LogRec) : Option (LogArea × Nat) :=
    match acc with
    | none => none
    | some (l, c) => (l.appendFit { r with txn := true } true).map fun (m, d) =>
        ({ m with openFrom := m.openFrom.orElse fun _ => some m.seq }, c + d)
  match rs.foldl step (some ({ l with openFrom := first }, 0)) with
  | none => none
  | some (m, c) =>
    (m.appendFit ⟨0x7F, 0, 0, false, true, false, leBytes 4 (m.openFrom.getD 0) ++ leBytes 4 m.seq⟩ true).map fun (n, d) =>
      ({ n with openFrom := none }, c + d)

/-- A transaction of the vault in area S, which never runs out of space (R389, R390). -/
def commitTxn (first : Option Nat) (rs : List LogRec) (s : State) : State :=
  match s.store.sys.appendTxn first rs with
  | none => s
  | some (l, c) => countN (odKey 0x2200 7) c { s with store := (s.store.setArea 2 l).grant 1 }

/-- Commit a record of area S, which never runs out of space (R390). -/
def commitS (type id : Nat) (payload : Blob) (s : State) : State :=
  (storePut 2 type id false payload s).getD s

/-- Remove an item of area S by a DELETE record. -/
def deleteS (type id : Nat) (s : State) : State := (storePut 2 type id true [] s).getD s

/-- Store a value that is kept through power loss: the entry and its configuration record (R390, R413). [log 91 DEDUCED] -/
def keepVal (k v : Nat) (s : State) : State := commitS 0x23 k (leBytes 8 v) (setVal k v s)

/-- The records of a kept string or DOMAIN (R390): the four Comb-key sets, the four parts of the identity chain, or its
configuration record; one of 2,048 bytes or more goes on in further records, the last shorter than 2,048. -/
def keptRecords (k : Nat) (b : Blob) : List LogRec :=
  let r (type id : Nat) (p : Blob) : LogRec := ⟨type, id, 0, false, false, false, p⟩
  if k = odKey 0x2300 5 then (List.range 4).map fun i => r 0x13 i (sub b (2017 * i) 2017)
  else if k = odKey 0x2300 3 then (List.range 4).map fun i => r 0x14 i (sub b (2048 * i) 2048)
  else (List.range (b.length / 2048 + 1)).map fun i => r 0x23 (k + 2 ^ 24 * i) (sub b (2048 * i) 2048)

/-- Store a kept string or DOMAIN: its record, or its records as one transaction (R389). [log 91 DEDUCED] -/
def keepBlob (k : Nat) (b : Blob) (s : State) : State :=
  match keptRecords k b with
  | [r] => commitS r.type r.id r.payload (setBlob k b s)
  | rs => commitTxn none rs (setBlob k b s)

/-- What the records of a kept string or DOMAIN hold; none without any. -/
def keptBlob (s : State) (k : Nat) : Option Blob :=
  let at' (type id : Nat) : Option Blob := s.store.sys.content type id
  if k = odKey 0x2300 5 ∨ k = odKey 0x2300 3 then
    let parts := (List.range 4).map fun i => at' (if k = odKey 0x2300 5 then 0x13 else 0x14) i
    if parts.all (·.isNone) then none else some (parts.flatMap (·.getD []))
  else
    let rec go : Nat → Nat → Blob
      | 0, _ => []
      | n + 1, i => match at' 0x23 (k + 2 ^ 24 * i) with
        | none => []
        | some p => if p.length < 2048 then p else p ++ go n (i + 1)
    if (at' 0x23 k).isNone then none else some (go 16 0)

/-! ### The key-replacement journal (R340, R389) -/

/-- The pending record of a replacement begins its transaction. -/
def openJournal (id : Nat) (payload : Blob) (s : State) : State :=
  match s.store.sys.appendFit ⟨0x10, id, 0, true, false, false, payload⟩ true with
  | none => s
  | some (l, c) => countN (odKey 0x2200 7) c { s with store := (s.store.setArea 2 l).grant 1 }

/-- Pending records without their COMMIT. -/
def LogArea.pendingRecs (l : LogArea) : List LogRec :=
  l.records.filter fun r => r.type == 0x10 && r.txn && !(l.records.any (·.covers r.seq))

/-- A pending record without its COMMIT is discarded (R340, R341). -/
def discardJournal (id : Nat) (s : State) : State :=
  let l := s.store.sys
  let gone := (l.pendingRecs.filter (·.id == id)).map (·.seq)
  { s with store := { s.store with sys := { l with pairs := l.pairs.map fun p => { p with recs := p.recs.filter fun c =>
      match c.good with | some r => !(r.txn && gone.contains r.seq) | none => true } } } }

/-- The replacement commits: its further records and the COMMIT that ends the transaction its pending record began. -/
def commitJournal (id : Nat) (rs : List LogRec) (s : State) : State :=
  commitTxn (((s.store.sys.pendingRecs.filter (·.id == id)).head?).map (·.seq)) rs s

/-! ### Monotonic counters (R397, R398) -/

/-- Limit of a counter slot. -/
def counterLimit (c : Nat) : Nat := if c = 0 then 2 ^ 64 - 1 else 0xFFFFFFFF

/-- The committed value of a counter. -/
def counterVal (s : State) (c : Nat) : Nat := ((s.store.counters[c]?).map (·.a)).getD 0

/-- The requester of a counter's updates: the vault for attestations, the tag role for 3 to 5, the AO sequencer for the distance, the
access island for the others. [log 92 DEDUCED] -/
def counterOwner (c : Nat) : Nat := if c = 0 then 0 else if c = 2 then 1 else if 3 ≤ c ∧ c ≤ 5 then 3 else 2

/-- `update(c, n)` of R398, its requester granted (R391). [log 92 DEDUCED] -/
def counterAdd (c n : Nat) (s : State) : State :=
  { s with store := { s.store with pointer := rrNext 5 (counterOwner c), counters := vmod s.store.counters c fun x =>
      let v := min (x.a + n) (counterLimit c)
      if v = x.a then x else { a := v, aGood := true, b := v, bGood := true, intent := v, intentGood := true } } }

/-! ### Parts of the state -/

/-- Port `n` changed by `f`. -/
def modPort (n : Nat) (f : Port → Port) (s : State) : State := { s with port := vmod s.port n f }

/-- Port `n`. -/
def portAt (s : State) (n : Nat) : Port := (s.port[n]?).getD {}

/-- The kinds of external ports (R15). -/
inductive PortKind where
  | can | lin | tsa | ge | xg
  deriving DecidableEq, Repr

/-- The kind of port `n` (R15). -/
def portKind (n : Nat) : PortKind :=
  if n < 10 then .can else if n < 14 then .lin else if n < 18 then .tsa else if n < 22 then .ge else .xg

/-- SH2412 (R2). -/
def isSmall (s : State) : Bool := s.fuse.part == 2

/-- Ports fitted (0x2000/05). -/
def portsFitted (s : State) : Nat := if isSmall s then 0x000CCC3F else 0x00FFFFFF
def portFitted (s : State) (n : Nat) : Bool := (portsFitted s).testBit n
/-- Clusters and pairs fitted (R2, R424). -/
def clusterFitted (s : State) (k : Nat) : Bool := k < (if isSmall s then 2 else 4)
def pairFitted (s : State) (p : Nat) : Bool := p < (if isSmall s then 8 else 16)

/-- Ethernet ports, TSA included. -/
def isEth (n : Nat) : Bool := 14 ≤ n && n < 24

/-- Key of a port's Enable, State and Down cause. -/
def portEnableKey (n : Nat) : Nat := pk n 0 1

/-- An interrupt line of the keeper is set (R211, R256): 0 watchdog half, 1 vault, 2 object request, 3 boundary, 4 standby
bank, 5 event ring, 6 pair, 7 port, 8 access island, 9 record store. [log 74 DESIGN CHOICE] -/
def keeperLine (n : Nat) (s : State) : State :=
  { s with keeper := { s.keeper with ipend := s.keeper.ipend ||| BitVec.twoPow 32 n } }

/-- MAC address of an Ethernet port: base + 0x01/07, MAC_BASE + n - 14 until it is written (R199, R323). -/
def portMac (s : State) (n : Nat) : Nat := (mapGet (pk n 1 7) s.od).getD ((Config.fuseMacBase.toNat + (n - 14)) % 2 ^ 48)

/-- Transmit SCI of a port: base + 0x06/08, the MAC address with port number 1 until it is written (R199). -/
def portSci (s : State) (n : Nat) : Nat := (mapGet (pk n 6 8) s.od).getD (portMac s n * 65536 + 1)

/-- The device's service-only mode (R468). -/
def serviceOnly (s : State) : Bool := s.comb.active.isNone

/-- A state's code in the State entry of a port (R166, R172). -/
def FnState.portCode : FnState → Nat
  | .stopped => 0 | .running => 1 | .stopping => 2 | .pending => 3 | .down => 4
  | .recovering => 5 | .busSleep => 6 | .fault => 4 | .testing => 5 | .retired => 4

end Sys2Proof.Machine
end

