-- ==== Sys2Proof/Machine/Access.lean ====
section
/-! DEFINITION. Sessions and the checks every access to the object dictionary passes (R3, R407-R412, R423-R425). -/

namespace Sys2Proof.Machine

/-- Abort codes (R410, R412). -/
def abNoObject : Nat := 0x06020000
def abNoSub : Nat := 0x06090011
def abRole : Nat := 0x06010000
def abReadWo : Nat := 0x06010001
def abWriteRo : Nat := 0x06010002
def abType : Nat := 0x06070010
def abLong : Nat := 0x06070012
def abShort : Nat := 0x06070013
def abState : Nat := 0x08000022
def abRange : Nat := 0x06090030
def abProof : Nat := 0x08000000
def abBusy : Nat := 0x08000020
def abProtected : Nat := 0x08000021
def abFull : Nat := 0x05040005

/-- Bit of a role in a role mask (R410). -/
def Role.bit : Role → Nat
  | .host => 0 | .maker => 1 | .workshop => 2 | .inspect => 3 | .vendor => 4

/-- Code of a role (R408). -/
def Role.code : Role → Nat
  | .inspect => 0 | .host => 1 | .maker => 2 | .workshop => 3 | .vendor => 4

/-- A session slot's session, while the keeper serves accesses (R420). -/
def sessionAt (s : State) (slot : Nat) : Option Session :=
  if s.kpr.running ∧ ¬ s.kpr.recovery ∧ s.pwr.hive ∧ ¬ s.pwr.seqHalted then (s.sess.slots[slot]?).join else none

/-- Session `slot` changed by `f`. -/
def modSession (slot : Nat) (f : Session → Session) (s : State) : State :=
  { s with sess := { s.sess with slots := vmod s.sess.slots slot (·.map f) } }

/-- Bytes of a scalar type (R412); none for strings. -/
def ObjTy.bytes : ObjTy → Option Nat
  | .bool | .u8 | .i8 => some 1
  | .u16 | .i16 => some 2
  | .u32 | .i32 | .real32 => some 4
  | .u64 | .i64 => some 8
  | .vstr | .ostr | .domain => none

/-- Window tag of a scalar type (R412, R202). -/
def ObjTy.tag : ObjTy → BitVec 4
  | .bool => 1 | .u8 => 2 | .u16 => 3 | .u32 => 4
  | .i8 => 5 | .i16 => 6 | .i32 => 7 | .real32 => 8
  | .u64 | .i64 | .vstr | .ostr | .domain => 0xD

/-- Signed types. -/
def ObjTy.signed : ObjTy → Bool
  | .i8 | .i16 | .i32 | .i64 => true
  | _ => false

/-- An index some row of the tables defines. -/
def indexDefined (idx : Nat) : Bool := objRows.any fun r => r.has idx r.s0

/-- Highest subindex of an index (R422). -/
def topSub (idx : Nat) : Nat := ((objRows.filter fun r => r.has idx r.s0).map (·.s1)).foldl max 0

/-- Ports and indices absent on the SH2412 (R3, R424): the whole index. -/
def indexAbsent (s : State) (idx : Nat) : Bool :=
  isSmall s &&
  ((0x30C0 ≤ idx && idx ≤ 0x313F) || (0x3180 ≤ idx && idx ≤ 0x31BF) || (0x3200 ≤ idx && idx ≤ 0x323F) ||
   (0x3280 ≤ idx && idx ≤ 0x32FF) ||
   (0x3830 ≤ idx && idx ≤ 0x3847 && !portFitted s (idx - 0x3830)) ||
   (0x3A26 ≤ idx && idx ≤ 0x3A29) || (0x3B18 ≤ idx && idx ≤ 0x3B1F) ||
   (0x5010 ≤ idx && idx ≤ 0x5027 && !portFitted s (idx - 0x5010)) ||
   (0x5032 ≤ idx && idx ≤ 0x5035) ||
   (0x6020 ≤ idx && idx ≤ 0x6037 && !portFitted s (idx - 0x6020)) ||
   idx = 0x6016 || idx = 0x6017)

/-- Subindices absent on the SH2412 of an index that exists there (R3, R424). -/
def subAbsent (s : State) (idx sb : Nat) : Bool :=
  isSmall s && 1 ≤ sb &&
  ((idx ∈ [0x3801, 0x3802, 0x3804, 0x3805, 0x3806, 0x3809] &&
      ((sb ≤ 24 && !portFitted s (sb - 1)) || sb = 0x1B || sb = 0x1C)) ||
   (idx ∈ [0x3803, 0x3808] && sb ≤ 24 && !portFitted s (sb - 1)) ||
   (idx = 0x3807 && 0x15 ≤ sb && sb ≤ 0x18) ||
   (idx = 0x1031 && 7 ≤ sb && sb ≤ 0x0A))

/-- The row of subindex 0x00 of an index (R422). -/
def subZeroRow (idx : Nat) : ObjRow :=
  ⟨idx, 1, 1, 0, 0, .u8, .const, 31, 31, false, false, topSub idx, 0, 255, none, .const⟩

/-- The row that describes an entry, subindex 0x00 included. -/
def entryRow (idx sb : Nat) : Option ObjRow :=
  match findRow idx sb with
  | some r => some r
  | none => if sb = 0 ∧ indexDefined idx then some (subZeroRow idx) else none

/-- Whether a session is the keeper firmware's slot 15 (R407, R409). -/
def Session.isKeeper (x : Session) : Bool := x.transport == .keeperFirmware

/-- The owner of an RWS entry is stopped (R411). -/
def FnState.isStopped (f : FnState) : Bool := f == .stopped || f == .down || f == .fault

/-- Every LF channel reads stopped. -/
def lfStopped (s : State) : Bool := s.lf.chan.toList.all (·.isStopped)

/-- The owner of an RWS entry reads STOPPED, DOWN or FAULT (R411). -/
def ownerStopped (s : State) (idx sb : Nat) : Bool :=
  let port (n : Nat) : Bool := (portAt s n).st.isStopped
  if 0x3000 ≤ idx ∧ idx < 0x3300 then port ((idx - 0x3000) / 0x20)
  else if idx = 0x3807 ∨ idx = 0x3808 then port (sb - 1)
  else if idx = 0x3809 ∧ sb ≤ 24 then port (sb - 1)
  else if 0x3830 ≤ idx ∧ idx ≤ 0x3847 then port (idx - 0x3830)
  else if 0x3A20 ≤ idx ∧ idx ≤ 0x3A29 then port (idx - 0x3A20)
  else if 0x3810 ≤ idx ∧ idx ≤ 0x3817 then ((s.fab.mirrors[idx - 0x3810]?).getD {}).st.isStopped
  else if 0x4001 ≤ idx ∧ idx ≤ 0x4003 ∨ idx = 0x4321 then lfStopped s
  else if 0x4100 ≤ idx ∧ idx ≤ 0x4120 then s.uwb.st.isStopped
  else if 0x4200 ≤ idx ∧ idx ≤ 0x42FF then s.nfc.st.isStopped
  else if idx = 0x4300 ∧ sb = 3 ∨ idx = 0x4301 ∨ idx = 0x4302 then s.uwb.st.isStopped && lfStopped s
  else if idx = 0x3A03 ∧ sb = 2 then true
  else serviceOnly s

/-- The entries INSPECT may write (R410). -/
def inspectMayWrite (idx sb : Nat) : Bool := (idx = 0x1020 && sb = 2) || (idx = 0x2340 && sb = 1)

/-- Checks 1 to 3 of R410 for one direction. [log 95 DEDUCED] -/
def allow (s : State) (x : Session) (write : Bool) (idx sb : Nat) : Except Nat ObjRow :=
  if indexAbsent s idx || subAbsent s idx sb || !indexDefined idx then .error abNoObject
  else match entryRow idx sb with
  | none => .error abNoSub
  | some r =>
    if r.keeperRd && r.keeperWr && !x.isKeeper then .error abNoObject
    else
      let mask := if write then r.wr else r.rd
      let keeperOk := x.isKeeper && (!write || r.keeperWr)
      let roleOk := mask.testBit x.role.bit && !(write && r.keeperWr) &&
        !(write && x.role == .inspect && !inspectMayWrite idx sb)
      if !(keeperOk || roleOk) then .error abRole
      else if !write && r.acc == .wo then .error abReadWo
      else if write && (r.acc == .ro || r.acc == .const) then .error abWriteRo
      else .ok r

/-- Check 4 of R410: the value as the entry's number, or its bytes (R412). [log 95 DEDUCED] -/
def typed (r : ObjRow) (v : OdValue) : Except Nat (Nat × Blob) :=
  match r.ty.bytes, v with
  | some n, .num b x => if b < n then .error abShort else if b > n ∨ 2 ^ (8 * n) ≤ x then .error abLong else .ok (x, [])
  | some n, .tagged t x => if t ≠ r.ty.tag ∨ 2 ^ (8 * n) ≤ x then .error abType else .ok (x, [])
  | some n, .bytes b => if b.length < n then .error abShort else if b.length > n then .error abLong else .ok (ofLe b, [])
  | none, .bytes b =>
    match r.len with
    | some l => if b.length ≠ l then .error abType else .ok (0, b)
    | none => if r.ty == .vstr && 255 < b.length then .error abLong
              else if 16777215 < b.length then .error abLong else .ok (0, b)
  | none, .num _ _ => .error abType
  | none, .tagged _ _ => .error abType

/-- Check 6 of R410, where the tables give a range. [log 95 DEDUCED] -/
def inRange (r : ObjRow) (x : Nat) : Bool :=
  match r.ty.bytes with
  | none => true
  | some n =>
    let y : Int := if r.ty.signed then signedOf (8 * n) x else x
    r.lo ≤ y && y ≤ r.hi

/-- What a write's own effect answers: the new state or an abort code. -/
abbrev Access := Except Nat State

/-- State conditions that entries carry beside RWS (check 5): the life-cycle state for the Comb keys (R324) and the tamper
inputs (R376), a pair that is not retired for its Enable (R252). [log 95 DEDUCED] -/
def stateOpen (s : State) (idx sb : Nat) : Bool :=
  if idx = 0x2300 ∧ (sb = 3 ∨ sb = 5) then s.lc.state == 1
  else if idx = 0x2300 ∧ sb = 6 then s.lc.state == 1 || s.lc.state == 2
  else if idx = 0x2500 ∧ 5 ≤ sb ∧ sb ≤ 7 then s.lc.state == 0 || s.lc.state == 1
  else if 0x3B10 ≤ idx ∧ idx ≤ 0x3B1F ∧ sb = 1 then !((s.pairs[idx - 0x3B10]?).getD {}).retired
  else true

/-- A write in a session, with the checks of R410 in order; `cond` is the entry's own state condition (check 5)
and `eff` the entry-specific conditions and the effect (check 7). [log 95 DEDUCED] -/
def checkedWrite (s : State) (x : Session) (idx sb : Nat) (v : OdValue) (cond : Bool)
    (eff : Nat → Blob → Access) : Access := do
  let r ← allow s x true idx sb
  let (n, b) ← typed r v
  if r.acc == .rws && !ownerStopped s idx sb then .error abState
  else if !cond || !stateOpen s idx sb then .error abState
  else if !inRange r n then .error abRange
  else eff n b

/-- A request of a session: its idle time begins anew (R407, R417). -/
def touchSession (slot : Nat) (s : State) : State := modSession slot (fun y => { y with lastPs := nowPs s }) s

/-- The answers to a session's request: done with its data, or aborted. -/
def answerDone (slot : Nat) (d : Blob) (s : State) : State := emit (.odDone slot d) (touchSession slot s)
def answerAbort (slot code : Nat) (s : State) : State := emit (.odAbort slot code) (touchSession slot s)

/-- The answer of a write to its session. -/
def answerWrite (slot : Nat) (s : State) : Access → State
  | .ok s' => answerDone slot [] s'
  | .error c => answerAbort slot c s

/-- A write of one entry by a command: checked, carried out, answered; nothing happens without a session. -/
def writeEntry (slot idx sb : Nat) (v : OdValue) (cond : Bool) (eff : Session → Nat → Blob → Access) (s : State) : State :=
  match sessionAt s slot with
  | none => s
  | some x => answerWrite slot s (checkedWrite s x idx sb v cond (eff x))

/-- A number as the entry's type carries it. -/
def numFor (idx sb v : Nat) : OdValue :=
  .num (((entryRow idx sb).bind (·.ty.bytes)).getD 4) v

/-- Store a scalar: kept entries commit a configuration record before the answer (R413). -/
def storeScalar (r : ObjRow) (idx sb v : Nat) (s : State) : State :=
  if r.keep == .config then keepVal (odKey idx sb) v s
  else if r.keep == .none then s
  else setVal (odKey idx sb) v s

/-- Store a string or DOMAIN. -/
def storeBytes (r : ObjRow) (idx sb : Nat) (b : Blob) (s : State) : State :=
  if r.keep == .config then keepBlob (odKey idx sb) b s
  else if r.keep == .none then s
  else setBlob (odKey idx sb) b s

/-- The plain effect of a write: the value is stored. -/
def storeEntry (idx sb : Nat) (s : State) (n : Nat) (b : Blob) : State :=
  match entryRow idx sb with
  | none => s
  | some r => if r.ty.bytes.isSome then storeScalar r idx sb n s else storeBytes r idx sb b s

/-- A session opened on a transport takes the lowest free slot of 0-14, as INSPECT (R407). -/
def openSlot (s : State) : Option Nat :=
  (List.range 15).find? fun i => ((s.sess.slots[i]?).join).isNone

/-- A session put into a slot. -/
def putSession (i : Nat) (x : Option Session) (s : State) : State :=
  { s with sess := { s.sess with slots := vmod s.sess.slots i fun _ => x } }

/-- Close a session: its slot is free, its W rights and any download or transfer with it end (R407, R464). -/
def closeSession (i : Nat) (s : State) : State :=
  let s := putSession i none s
  { s with
    store := { s.store with wRights := s.store.wRights.filter (·.1 ≠ i) },
    sess := { s.sess with download := s.sess.download.filter (·.1 ≠ i) } }

/-- Close every session of an endpoint (a stop of its port, R407). -/
def closeEndpoint (n : Nat) (s : State) : State :=
  (List.range 15).foldl (fun s i =>
    match (s.sess.slots[i]?).join with
    | some x => if x.endpoint = n then closeSession i s else s
    | none => s) s

end Sys2Proof.Machine
end

