-- ==== Sys2Proof/Machine/Crypto.lean ====
section
/-! DEFINITION. The check sums and symmetric cryptography the spec names: CRC-32C and CRC-16 (R387),
CRC-32 of IEEE 802.3 (R174), AES with its modes (R360), AES-CMAC and the KDF of R328, AES-KW and AES-KWP
(R335, R343), SHA-384 (R330). They follow the standards the rules cite. -/

namespace Sys2Proof.Machine

/-! ### Check sums -/

/-- One bit of a reflected CRC. -/
def crcStepR (poly c : Nat) : Nat := if c % 2 = 1 then (c / 2) ^^^ poly else c / 2

/-- A byte of a reflected CRC. -/
def crcByteR (poly c : Nat) (b : Byte) : Nat :=
  (List.range 8).foldl (fun c _ => crcStepR poly c) (c ^^^ b.toNat)

/-- A reflected 32-bit CRC with initial value and final inversion 0xFFFFFFFF. -/
def crc32R (poly : Nat) (d : Blob) : Nat := d.foldl (crcByteR poly) 0xFFFFFFFF ^^^ 0xFFFFFFFF

/-- CRC-32C. -/
def crc32c (d : Blob) : Nat := crc32R 0x82F63B78 d

/-- The CRC-32 of IEEE 802.3. -/
def crc32 (d : Blob) : Nat := crc32R 0xEDB88320 d

/-- CRC-16, polynomial 0x1021, with an initial value. -/
def crc16 (init : Nat) (d : Blob) : Nat :=
  d.foldl (fun c b => (List.range 8).foldl (fun c _ =>
    if c.testBit 15 then (c * 2 ^^^ 0x1021) % 65536 else c * 2 % 65536) (c ^^^ (b.toNat * 256))) init

/-- The low `n` bits of `v`, most significant first. -/
def bitsMsb (n v : Nat) : List Bool := (List.range n).map fun i => v.testBit (n - 1 - i)
/-- The number some bits, most significant first, spell. -/
def ofBits (l : List Bool) : Nat := l.foldl (fun a b => 2 * a + b.toNat) 0
/-- Bits of a byte string. -/
def blobBits (b : Blob) : List Bool := b.flatMap fun x => bitsMsb 8 x.toNat

/-- A CRC-8 over bits, initial value 0xFF. -/
def crc8 (poly : Nat) (l : List Bool) : Nat :=
  l.foldl (fun c b => let d := c * 2 % 256; if c.testBit 7 != b then d ^^^ poly else d) 0xFF

/-! ### SHA-384

FIPS 180-4 takes its constants from roots of the first primes; they are computed here from the primes. The eight working
values travel as a list, first to last. -/

/-- The largest number whose `k`-th power is at most `n`, found from its bit `b - 1` down. -/
def rootBits (k n : Nat) : Nat → Nat → Nat
  | 0, r => r
  | b + 1, r => rootBits k n b (if (r + 2 ^ b) ^ k ≤ n then r + 2 ^ b else r)

/-- The first 64 bits behind the binary point of the `k`-th root of a prime below 512. -/
def rootFraction (k p : Nat) : BitVec 64 := BitVec.ofNat 64 (rootBits k (p * 2 ^ (64 * k)) 69 0)

/-- The primes below 410: 80 of them. -/
def smallPrimes : List Nat := (List.range 410).filter fun n => 2 ≤ n && (List.range n).all fun d => d < 2 || n % d ≠ 0

/-- A 64-bit word as the XOR of its rotations and one shift to the right (a shift of 64 leaves nothing). -/
def mixWord (rots : List Nat) (shift : Nat) (x : BitVec 64) : BitVec 64 :=
  rots.foldl (fun a n => a ^^^ x.rotateRight n) (x >>> shift)

/-- Words 16 to 79 of the schedule follow from the 16 before each; newest first, `n` still to come. -/
def shaExtend : Nat → List (BitVec 64) → List (BitVec 64)
  | 0, w => w
  | n + 1, w => shaExtend n ((w.getD 15 0 + mixWord [1, 8] 7 (w.getD 14 0) + w.getD 6 0 + mixWord [19, 61] 6 (w.getD 1 0)) :: w)

/-- One round on the eight values, with its constant and schedule word added to one number. -/
def shaStep (v : List (BitVec 64)) (kw : BitVec 64) : List (BitVec 64) :=
  match v with
  | [a, b, c, d, e, f, g, h] =>
    let t := h + mixWord [14, 18, 41] 64 e + ((e &&& f) ||| (g &&& ~~~e)) + kw
    let m := (a &&& (b ||| c)) ||| (b &&& c)
    [t + mixWord [28, 34, 39] 64 a + m, a, b, c, d + t, e, f, g]
  | _ => v

/-- One block of 128 bytes. -/
def shaAbsorb (h : List (BitVec 64)) (blk : Blob) : List (BitVec 64) :=
  let w := (shaExtend 64 ((chunks 8 blk).map fun x => BitVec.ofNat 64 (ofBe x)).reverse).reverse
  let kw := List.zipWith (fun p x => rootFraction 3 p + x) smallPrimes w
  List.zipWith (· + ·) h (kw.foldl shaStep h)

/-- SHA-384, 48 bytes. [log 7 DESIGN CHOICE] -/
def sha384 (m : Blob) : Blob :=
  let p := m ++ [0x80]
  let q := p ++ zeros ((240 - p.length % 128) % 128) ++ beBytes 16 (8 * m.length)
  (((chunks 128 q).foldl shaAbsorb (((smallPrimes.drop 8).take 8).map (rootFraction 2))).take 6).flatMap fun w => beBytes 8 w.toNat

/-! ### AES -/

/-- Multiplication by x in GF(2^8). -/
def gfX (a : Byte) : Byte := if a.msb then (a <<< 1) ^^^ 0x1B else a <<< 1

/-- Multiplication in GF(2^8). -/
def gfMul (a b : Byte) : Byte :=
  ((List.range 8).foldl (fun (p : Byte × Byte) i =>
    (if b.getLsbD i then p.1 ^^^ p.2 else p.1, gfX p.2)) (0, a)).1

/-- The inverse in GF(2^8), with 0 for 0: the 254th power. -/
def gfInv (a : Byte) : Byte :=
  let a2 := gfMul a a
  let a3 := gfMul a2 a
  let a12 := gfMul (gfMul a3 a3) (gfMul a3 a3)
  let a15 := gfMul a12 a3
  let a240 := (List.range 4).foldl (fun x _ => gfMul x x) a15
  gfMul a240 (gfMul a12 a2)

/-- The S-box. -/
def aesS (a : Byte) : Byte :=
  let b := gfInv a
  b ^^^ b.rotateLeft 1 ^^^ b.rotateLeft 2 ^^^ b.rotateLeft 3 ^^^ b.rotateLeft 4 ^^^ 0x63

/-- The inverse S-box. -/
def aesSInv (a : Byte) : Byte :=
  gfInv (a.rotateLeft 1 ^^^ a.rotateLeft 3 ^^^ a.rotateLeft 6 ^^^ 0x05)

/-- Exclusive or of two byte strings, as long as the shorter. -/
def xorB (a b : Blob) : Blob := a.zipWith (· ^^^ ·) b

/-- Key expansion, newest word first; `i` is the number of the next word. -/
def aesExpand (nk : Nat) : Nat → Nat → Byte → List Blob → List Blob
  | 0, _, _, w => w
  | n + 1, i, rc, w =>
    let t := w.headD []
    let t' := if i % nk = 0 then
        xorB ((t.drop 1 ++ t.take 1).map aesS) [rc, 0, 0, 0]
      else if nk = 8 ∧ i % nk = 4 then t.map aesS else t
    aesExpand nk n (i + 1) (if i % nk = 0 then gfX rc else rc) (xorB (w.getD (nk - 1) []) t' :: w)

/-- The round keys, 16 bytes each: 11, 13 or 15 of them. -/
def aesRoundKeys (k : Blob) : List Blob :=
  let nk := k.length / 4
  let w := (aesExpand nk (4 * (nk + 7) - nk) nk 1 (chunks 4 k).reverse).reverse
  (chunks 4 w).map List.flatten

/-- ShiftRows; `inv` for its inverse. -/
def aesShift (inv : Bool) (s : Blob) : Blob :=
  (List.range 16).map fun i => s.getD ((if inv then i + 16 - 4 * (i % 4) else i + 4 * (i % 4)) % 16) 0

/-- MixColumns with these first-row coefficients. -/
def aesMix (c0 c1 c2 c3 : Byte) (s : Blob) : Blob :=
  (chunks 4 s).flatMap fun col => (List.range 4).map fun i =>
    gfMul c0 (col.getD i 0) ^^^ gfMul c1 (col.getD ((i + 1) % 4) 0) ^^^
    gfMul c2 (col.getD ((i + 2) % 4) 0) ^^^ gfMul c3 (col.getD ((i + 3) % 4) 0)

/-- AES encryption of one block. [log 7 DESIGN CHOICE] -/
def aesEnc (k b : Blob) : Blob :=
  let rk := aesRoundKeys k
  let s0 := xorB b (rk.headD [])
  let mid := (rk.drop 1).dropLast
  let s1 := mid.foldl (fun s r => xorB (aesMix 2 3 1 1 (aesShift false (s.map aesS))) r) s0
  xorB (aesShift false (s1.map aesS)) (rk.getLastD [])

/-- AES decryption of one block. -/
def aesDec (k b : Blob) : Blob :=
  let rk := (aesRoundKeys k).reverse
  let s0 := aesShift true ((xorB b (rk.headD []))) |>.map aesSInv
  let mid := (rk.drop 1).dropLast
  let s1 := mid.foldl (fun s r => (aesShift true (aesMix 14 11 13 9 (xorB s r))).map aesSInv) s0
  xorB s1 (rk.getLastD [])

/-- An AES key has 16, 24 or 32 bytes. -/
def aesKeyLen (n : Nat) : Bool := n = 16 || n = 24 || n = 32

/-! ### Modes (R360) -/

/-- Doubling in the CMAC field, big-endian block. -/
def cmacDouble (b : Blob) : Blob :=
  let v := ofBe b
  beBytes 16 (if v.testBit 127 then (v * 2) % 2 ^ 128 ^^^ 0x87 else v * 2)

/-- AES-CMAC (NIST SP 800-38B). -/
def aesCmac (k m : Blob) : Blob :=
  let l := aesEnc k (zeros 16)
  let k1 := cmacDouble l
  let blocks := if m = [] then [[]] else chunks 16 m
  let last := blocks.getLastD []
  let x := (blocks.dropLast).foldl (fun x b => aesEnc k (xorB x b)) (zeros 16)
  let fin := if last.length = 16 then xorB last k1
    else xorB (last ++ [0x80] ++ zeros (15 - last.length)) (cmacDouble k1)
  aesEnc k (xorB x fin)

/-- CTR: the whole block counts as a 128-bit big-endian integer and wraps. -/
def aesCtr (k icb m : Blob) : Blob :=
  ((chunks 16 m).zipIdx.map fun (b, i) => xorB b (aesEnc k (beBytes 16 ((ofBe icb + i) % 2 ^ 128)))).flatten

/-- CBC encryption; the length is a multiple of 16. -/
def aesCbcEnc (k iv m : Blob) : Blob :=
  ((chunks 16 m).foldl (fun (p : Blob × Blob) b => let c := aesEnc k (xorB p.1 b); (c, p.2 ++ c)) (iv, [])).2

/-- CBC decryption. -/
def aesCbcDec (k iv c : Blob) : Blob :=
  ((chunks 16 c).foldl (fun (p : Blob × Blob) b => (b, p.2 ++ xorB p.1 (aesDec k b))) (iv, [])).2

/-- Multiplication in the GCM field: bit 0 of the standard is the most significant bit. -/
def ghashMul (x y : Nat) : Nat :=
  ((List.range 128).foldl (fun (p : Nat × Nat) i =>
    (if x.testBit (127 - i) then p.1 ^^^ p.2 else p.1,
     if p.2 % 2 = 1 then (p.2 / 2) ^^^ (0xE1 * 2 ^ 120) else p.2 / 2)) (0, y)).1

/-- `m` padded with zeros to whole blocks. -/
def padBlock (m : Blob) : Blob := m ++ zeros ((16 - m.length % 16) % 16)

/-- GHASH. -/
def ghash (h : Nat) (m : Blob) : Nat := (chunks 16 m).foldl (fun y b => ghashMul (y ^^^ ofBe b) h) 0

/-- The whole tag of GCM, 12-byte IV. -/
def gcmTag (k iv aad c : Blob) : Blob :=
  let h := ofBe (aesEnc k (zeros 16))
  let g := ghash h (padBlock aad ++ padBlock c ++ beBytes 8 (8 * aad.length) ++ beBytes 8 (8 * c.length))
  xorB (beBytes 16 g) (aesEnc k (iv ++ [0, 0, 0, 1]))

/-- The counter mode of GCM: only the low 32 bits count. -/
def gcmCtr (k iv m : Blob) : Blob :=
  ((chunks 16 m).zipIdx.map fun (b, i) => xorB b (aesEnc k (iv ++ beBytes 4 ((i + 2) % 2 ^ 32)))).flatten

/-- AES-GCM encryption: ciphertext and the whole tag. -/
def gcmEnc (k iv aad m : Blob) : Blob × Blob :=
  let c := gcmCtr k iv m
  (c, gcmTag k iv aad c)

/-- AES-GCM decryption; none where the tag, of the length given, does not verify. -/
def gcmDec (k iv aad c tag : Blob) : Option Blob :=
  if (gcmTag k iv aad c).take tag.length = tag then some (gcmCtr k iv c) else none

/-- CBC-MAC of whole blocks. -/
def cbcMac (k m : Blob) : Blob := (chunks 16 m).foldl (fun x b => aesEnc k (xorB x b)) (zeros 16)

/-- The CBC-MAC input of CCM (NIST SP 800-38C): tag of `t` bytes. -/
def ccmInput (n aad m : Blob) (t : Nat) : Blob :=
  let q := 15 - n.length
  let flags := (if aad = [] then 0 else 64) + (t - 2) / 2 * 8 + (q - 1)
  let a := if aad = [] then [] else padBlock (beBytes 2 aad.length ++ aad)
  BitVec.ofNat 8 flags :: n ++ beBytes q m.length ++ a ++ padBlock m

/-- The counter blocks of CCM. -/
def ccmCtr (k n m : Blob) (first : Nat) : Blob :=
  let q := 15 - n.length
  ((chunks 16 m).zipIdx.map fun (b, i) =>
    xorB b (aesEnc k (BitVec.ofNat 8 (q - 1) :: n ++ beBytes q ((i + first) % 2 ^ (8 * q))))).flatten

/-- AES-CCM encryption: ciphertext and tag. -/
def ccmEnc (k n aad m : Blob) (t : Nat) : Blob × Blob :=
  (ccmCtr k n m 1, ccmCtr k n ((cbcMac k (ccmInput n aad m t)).take t) 0)

/-- AES-CCM decryption. -/
def ccmDec (k n aad c tag : Blob) : Option Blob :=
  let m := ccmCtr k n c 1
  if (ccmEnc k n aad m tag.length).2 = tag then some m else none

/-- Multiplication of an XTS tweak by x, little-endian. -/
def xtsDouble (t : Blob) : Blob :=
  let v := ofLe t
  leBytes 16 (if v.testBit 127 then (v * 2) % 2 ^ 128 ^^^ 0x87 else v * 2)

/-- XTS of one data unit of whole blocks (IEEE 1619); `enc` or decryption. -/
def aesXtsUnit (enc : Bool) (k1 k2 : Blob) (sector : Nat) (m : Blob) : Blob :=
  ((chunks 16 m).foldl (fun (p : Blob × Blob) b =>
    let y := xorB ((if enc then aesEnc else aesDec) k1 (xorB b p.1)) p.1
    (xtsDouble p.1, p.2 ++ y)) (aesEnc k2 (leBytes 16 (sector % 2 ^ 128)), [])).2

/-- XTS over data units of `unit` bytes, sectors counting on. -/
def aesXts (enc : Bool) (k1 k2 : Blob) (sector unit : Nat) (m : Blob) : Blob :=
  ((chunks unit m).zipIdx.map fun (u, i) => aesXtsUnit enc k1 k2 (sector + i) u).flatten

/-- The wrapping function W of NIST SP 800-38F on semi-blocks. -/
def kwWrap (k a : Blob) (p : List Blob) : Blob :=
  let n := p.length
  let st := (List.range (6 * n)).foldl (fun (s : Blob × List Blob) t =>
    let b := aesEnc k (s.1 ++ s.2.headD [])
    (xorB (b.take 8) (beBytes 8 (t + 1)), s.2.tail ++ [b.drop 8])) (a, p)
  st.1 ++ st.2.flatten

/-- The unwrapping function. -/
def kwUnwrap (k : Blob) (c : Blob) : Blob × List Blob :=
  let r := (chunks 8 c).drop 1
  let n := r.length
  (List.range (6 * n)).foldl (fun (s : Blob × List Blob) t =>
    let b := aesDec k (xorB s.1 (beBytes 8 (6 * n - t)) ++ s.2.getLastD [])
    (b.take 8, b.drop 8 :: s.2.dropLast)) (c.take 8, r)

/-- AES Key Wrap (RFC 3394). -/
def aesKw (k p : Blob) : Blob := kwWrap k (List.replicate 8 0xA6) (chunks 8 p)

/-- AES Key Unwrap. -/
def aesKwInv (k c : Blob) : Option Blob :=
  if c.length % 8 ≠ 0 ∨ c.length < 24 then none
  else
    let (a, p) := kwUnwrap k c
    if a = List.replicate 8 0xA6 then some p.flatten else none

/-- AES-KWP of a string longer than 8 bytes. -/
def aesKwp (k p : Blob) : Blob :=
  kwWrap k ([0xA6, 0x59, 0x59, 0xA6] ++ beBytes 4 p.length) (chunks 8 (p ++ zeros ((8 - p.length % 8) % 8)))

/-- AES-KWP unwrapping, with its integrity check. -/
def aesKwpInv (k c : Blob) : Option Blob :=
  if c.length % 8 ≠ 0 ∨ c.length < 24 then none
  else
    let (a, p) := kwUnwrap k c
    let q := p.flatten
    let n := ofBe (a.drop 4)
    if a.take 4 = [0xA6, 0x59, 0x59, 0xA6] ∧ n ≤ q.length ∧ q.length < n + 8 ∧ q.drop n = zeros (q.length - n)
    then some (q.take n) else none

/-- The 4 ASCII bytes of a label. -/
def label (s : String) : Blob := s.toList.map fun c => BitVec.ofNat 8 c.toNat

/-- The KDF of R328; `bits` is a multiple of 8. -/
def kdf (ki lbl ctx : Blob) (bits : Nat) : Blob :=
  (((List.range (ceilDiv bits 128)).map fun i =>
    aesCmac ki (beBytes 4 (i + 1) ++ lbl ++ [0] ++ ctx ++ beBytes 4 bits)).flatten).take (bits / 8)

/-- KCV of a key (R332). -/
def kcvOf (k : Blob) : Blob := (aesCmac k (zeros 16)).take 4

/-- First 256 bits of SHA-384 (R323). -/
def keyHash (b : Blob) : Blob := (sha384 b).take 32

end Sys2Proof.Machine
end

