-- ==== Sys2Proof/Machine/CombImage.lean ====
section
/-! DEFINITION. The Comb image and its entries (R28-R50): reading an image, the fields of every section, and when
an action entry occurs. -/

namespace Sys2Proof.Machine

/-! ### Header (R40) -/

/-- A field of the header: bits `hi` to `lo` of the word at byte offset `o`. -/
def hdrField (h : Blob) (o hi lo : Nat) : Nat := bitsOf (ofLe (sub h o 4)) hi lo

def Comb.id (c : Comb) : Nat := hdrField c.hdr 0x08 31 0
def Comb.generation (c : Comb) : Nat := hdrField c.hdr 0x0C 31 0
def Comb.stepping (c : Comb) : Nat := hdrField c.hdr 0x10 15 0
def Comb.part (c : Comb) : Nat := hdrField c.hdr 0x10 17 16
def Comb.isa (c : Comb) : Nat := hdrField c.hdr 0x10 31 24
def Comb.keeperAbi (c : Comb) : Nat := hdrField c.hdr 0x14 15 0
def Comb.buildMin (c : Comb) : Nat := hdrField c.hdr 0x18 31 0
def Comb.buildMax (c : Comb) : Nat := hdrField c.hdr 0x1C 31 0
def Comb.hyper (c : Comb) : Nat := hdrField c.hdr 0x20 20 0
def Comb.nAct (c : Comb) : Nat := hdrField c.hdr 0x24 18 0
def Comb.nWin (c : Comb) : Nat := hdrField c.hdr 0x28 14 0
def Comb.nFlow (c : Comb) : Nat := hdrField c.hdr 0x28 30 16
def Comb.tsrc (c : Comb) : Nat := hdrField c.hdr 0x2C 1 0
def Comb.tref (c : Comb) : Nat := hdrField c.hdr 0x2C 12 8
def Comb.period (c : Comb) (i : Nat) : Nat := hdrField c.hdr (0x30 + 4 * i) 31 0
def Comb.spillMib (c : Comb) : Nat := hdrField c.hdr 0x70 10 0
def Comb.guard (c : Comb) : Nat := hdrField c.hdr 0x74 12 0
def Comb.pausable (c : Comb) (n : Nat) : Bool := (hdrField c.hdr 0x78 31 8).testBit n

/-- Disciplined time (R35). -/
def Comb.disciplined (c : Comb) : Bool := c.tsrc == 1 || c.tsrc == 2

/-- The steering range p in slots (R36). -/
def steerRange (hyper : Nat) : Nat := hyper * 64 * 100 / 1000000

/-- P: the steering range under disciplined time, 0 under local time. -/
def Comb.p (c : Comb) : Nat := if c.disciplined then steerRange c.hyper else 0

/-- Reserved header bits are 0 (R40). -/
def headerReserved (h : Blob) : Bool :=
  hdrField h 0x10 23 18 == 0 && hdrField h 0x14 31 16 == 0 && hdrField h 0x20 31 21 == 0 && hdrField h 0x24 31 19 == 0 &&
  hdrField h 0x28 15 15 == 0 && hdrField h 0x28 31 31 == 0 && hdrField h 0x2C 7 2 == 0 && hdrField h 0x2C 31 13 == 0 &&
  hdrField h 0x70 31 11 == 0 && hdrField h 0x74 31 13 == 0

/-! ### Action entries (R42) -/

def actType (a : BitVec 64) : Nat := bitsOf a.toNat 63 60
def actTick (a : BitVec 64) : Nat := bitsOf a.toNat 59 40
/-- Bits [39:0] of an entry. -/
def actBits (a : BitVec 64) (hi lo : Nat) : Nat := bitsOf a.toNat hi lo

/-- Period index and repeat count. -/
def actPeriod (a : BitVec 64) : Nat :=
  match actType a with
  | 1 => actBits a 14 11
  | 2 => actBits a 21 18
  | 3 => actBits a 25 22
  | 4 | 5 | 6 => actBits a 31 28
  | 7 => actBits a 23 20
  | _ => 0
def actRepeat (a : BitVec 64) : Nat :=
  match actType a with
  | 1 => actBits a 10 0
  | 2 => actBits a 17 7
  | 3 => actBits a 21 11
  | 4 | 5 | 6 => actBits a 27 17
  | 7 => actBits a 19 9
  | _ => 0

/-- First slot and slot count of the types that have a slot run. -/
def actRun (a : BitVec 64) : Option (Nat × Nat) :=
  match actType a with
  | 1 | 3 => some (actBits a 39 34, actBits a 33 28 + 1)
  | 7 => some (actBits a 35 30, actBits a 29 24 + 1)
  | _ => none

/-- Type 0x1: input, output, class. -/
def actIn (a : BitVec 64) : Nat := actBits a 27 23
def actOut (a : BitVec 64) : Nat := actBits a 22 18
def actTc (a : BitVec 64) : Nat := actBits a 17 15
/-- Type 0x2: window and column. -/
def actWin (a : BitVec 64) : Nat := actBits a 39 26
def actCol (a : BitVec 64) : Nat := actBits a 25 22
/-- Type 0x3: client. -/
def actClient (a : BitVec 64) : Nat := actBits a 27 26
/-- Types 0x4 and 0x5: pattern or key, and zone. -/
def actPattern (a : BitVec 64) : Nat := actBits a 39 35
def actZone (a : BitVec 64) : Nat := actBits a 34 32
/-- Type 0x5: duration in ticks. -/
def actDuration (a : BitVec 64) : Nat := actBits a 16 5
/-- Type 0x6: LIN channel and identifier. -/
def actLin (a : BitVec 64) : Nat := actBits a 39 38
def actIdent (a : BitVec 64) : Nat := actBits a 37 32
/-- Type 0x7: lane. -/
def actLane (a : BitVec 64) : Nat := actBits a 39 36

/-- Reserved bits of an entry are 0. -/
def actReserved (a : BitVec 64) : Bool :=
  match actType a with
  | 0 => actBits a 39 0 == 0
  | 2 => actBits a 6 0 == 0
  | 3 => actBits a 10 0 == 0
  | 4 | 6 => actBits a 16 0 == 0
  | 5 => actBits a 4 0 == 0
  | 7 => actBits a 8 0 == 0
  | _ => true

/-- The entry occurs at tick `t`: at its first tick, or k periods later for k up to the repeat count. -/
def Comb.occurs (c : Comb) (a : BitVec 64) (t : Nat) : Bool :=
  let per := c.period (actPeriod a)
  actType a ≠ 0 && actTick a ≤ t &&
  (t == actTick a || (per ≠ 0 && (t - actTick a) % per == 0 && (t - actTick a) / per ≤ actRepeat a))

/-- The action entries due at tick `t`, with their indices, in image order. -/
def Comb.dueIdx (c : Comb) (t : Nat) : List (BitVec 64 × Nat) := c.acts.zipIdx.filter fun e => c.occurs e.1 t

/-- The action entries due at tick `t`. -/
def Comb.due (c : Comb) (t : Nat) : List (BitVec 64) := c.acts.filter (c.occurs · t)

/-- The ticks at which an entry occurs. -/
def Comb.ticksOf (c : Comb) (a : BitVec 64) : List Nat :=
  if actType a = 0 then []
  else if c.period (actPeriod a) = 0 then [actTick a]
  else (List.range (actRepeat a + 1)).map fun k => actTick a + k * c.period (actPeriod a)

/-! ### Windows, flows, limits, map (R44, R46, R49, R80) -/

def winBits (w : BitVec 256) (hi lo : Nat) : Nat := bitsOf w.toNat hi lo
def winCodeOfs (w : BitVec 256) : Nat := winBits w 255 232
def winCodeLen (w : BitVec 256) : Nat := winBits w 231 216
def winWcet (w : BitVec 256) : Nat := winBits w 215 192
def winDeadline (w : BitVec 256) : Nat := winBits w 191 172
def winInList (w : BitVec 256) : Nat := winBits w 171 152
def winInCount (w : BitVec 256) : Nat := winBits w 151 140
def winOutList (w : BitVec 256) : Nat := winBits w 139 120
def winOutCount (w : BitVec 256) : Nat := winBits w 119 108
def winSnapWords (w : BitVec 256) : Nat := winBits w 107 92
def winOutCells (w : BitVec 256) : Nat := winBits w 91 80
def winUsesCipher (w : BitVec 256) : Bool := w.getLsbD 79

def flowBits (f : BitVec 128) (hi lo : Nat) : Nat := bitsOf f.toNat hi lo
def flowIn (f : BitVec 128) : Nat := flowBits f 127 123
def flowOut (f : BitVec 128) : Nat := flowBits f 122 118
def flowTc (f : BitVec 128) : Nat := flowBits f 117 115
def flowMaxLen (f : BitVec 128) : Nat := flowBits f 114 101
def flowWin (f : BitVec 128) : Nat := flowBits f 100 87
def flowWinEn (f : BitVec 128) : Bool := f.getLsbD 86
def flowCiph (f : BitVec 128) : Bool := f.getLsbD 85
def flowLane (f : BitVec 128) : Nat := flowBits f 84 81
def flowBacklog (f : BitVec 128) : Nat := flowBits f 80 65
def flowEgress (f : BitVec 128) : Nat := flowBits f 64 45
def flowBound (f : BitVec 128) : Nat := flowBits f 44 13

/-- The limits of queue 8 f + tc; a queue past the end of the section has all fields 0. -/
def Comb.limit (c : Comb) (q : Nat) : BitVec 64 := c.limits.getD q 0
def limReserved (l : BitVec 64) : Nat := bitsOf l.toNat 16 0
def limMaximum (l : BitVec 64) : Nat := bitsOf l.toNat 33 17
def limSpill (l : BitVec 64) : Bool := l.getLsbD 34
def limXoffOfs (l : BitVec 64) : Nat := bitsOf l.toNat 46 35
def limXonHyst (l : BitVec 64) : Nat := bitsOf l.toNat 58 47

def mapPrimary (w : Word) : Nat := bitsOf w.toNat 3 0
def mapAbsent (w : Word) : Bool := w.getLsbD 19
/-- The valid spares of a map word, in order. -/
def mapSpares (w : Word) : List Nat :=
  ([0, 1, 2].filter fun j => w.getLsbD (16 + j)).map fun j => bitsOf w.toNat (4 * j + 7) (4 * j + 4)
def Comb.mapWord (c : Comb) (col : Nat) : Word := c.cmap.getD col 0

/-! ### Routes and PDUs (R114, R123) -/

def rtBits (r : BitVec 256) (hi lo : Nat) : Nat := bitsOf r.toNat hi lo
def rtKind (r : BitVec 256) : Nat := rtBits r 253 251
def rtSig (r : BitVec 256) : Nat := rtBits r 250 234
def rtTarget (r : BitVec 256) : Nat := rtBits r 233 217
def rtBitpos (r : BitVec 256) : Nat := rtBits r 216 200
/-- Field length in bits. -/
def rtLen (r : BitVec 256) : Nat := rtBits r 199 194 + 1
def rtBig (r : BitVec 256) : Bool := r.getLsbD 193
def rtSigned (r : BitVec 256) : Bool := r.getLsbD 192
def rtTag (r : BitVec 256) : BitVec 4 := r.extractLsb' 188 4
def rtMul (r : BitVec 256) : Int := signedOf 16 (rtBits r 187 172)
def rtShift (r : BitVec 256) : Nat := rtBits r 171 167
def rtOffset (r : BitVec 256) : Int := signedOf 32 (rtBits r 166 135)
def rtSpecial (r : BitVec 256) : Nat := rtBits r 134 133
def rtFill (r : BitVec 256) : Nat := rtBits r 132 131
def rtAge (r : BitVec 256) : Nat := rtBits r 130 115
def rtDeadband (r : BitVec 256) : Nat := rtBits r 114 99
def rtSealDep (r : BitVec 256) : Bool := r.getLsbD 98
def rtDist (r : BitVec 256) : Bool := r.getLsbD 97
def rtLo (r : BitVec 256) : Nat := rtBits r 96 65
def rtHi (r : BitVec 256) : Nat := rtBits r 64 33
def rtRangeEn (r : BitVec 256) : Bool := r.getLsbD 32

def pduBits (d : BitVec 512) (hi lo : Nat) : Nat := bitsOf d.toNat hi lo
def pduProto (d : BitVec 512) : Nat := pduBits d 509 506
def pduPort (d : BitVec 512) : Nat := pduBits d 505 501
def pduTransmit (d : BitVec 512) : Bool := d.getLsbD 500
def pduJ1939 (d : BitVec 512) : Bool := d.getLsbD 499
def pduKey (d : BitVec 512) : Nat := pduBits d 498 467
def pduSaMode (d : BitVec 512) : Nat := pduBits d 466 465
def pduSa (d : BitVec 512) : Nat := pduBits d 464 457
def pduPaylen (d : BitVec 512) : Nat := pduBits d 456 443
def pduCmask (d : BitVec 512) : Nat := pduBits d 442 439
def pduEmitWin (d : BitVec 512) : Nat := pduBits d 438 425
def pduTxMode (d : BitVec 512) : Nat := pduBits d 424 423
def pduMinGap (d : BitVec 512) : Nat := pduBits d 422 407
def pduMaxGap (d : BitVec 512) : Nat := pduBits d 406 391
def pduTc (d : BitVec 512) : Nat := pduBits d 390 388
def pduSeal (d : BitVec 512) : Nat := pduBits d 387 386
def pduStream (d : BitVec 512) : Nat := pduBits d 385 374
def pduDataId (d : BitVec 512) : Nat := pduBits d 373 358
/-- Bits of transmitted freshness. -/
def pduTrunc (d : BitVec 512) : Nat := 8 * (pduBits d 357 356 + 1)
def pduAccWin (d : BitVec 512) : Nat := pduBits d 355 340
def pduDa (d : BitVec 512) : Nat := pduBits d 339 292
def pduTci (d : BitVec 512) : Nat := pduBits d 291 276
def pduEtype (d : BitVec 512) : Nat := pduBits d 275 260
def pduCanFlags (d : BitVec 512) : Nat := pduBits d 259 252
def pduXlSdt (d : BitVec 512) : Nat := pduBits d 251 244

/-- Offset of payload byte 0 in a frame as the fabric carries it (R107, R123): an Ethernet frame's first byte after the
EtherType, a CAN or LIN frame's byte 16. [log 32 DEDUCED] -/
def pduOffset (proto : Nat) : Nat := if proto = 6 then 14 else if proto = 7 then 18 else 16

/-- The payload byte that holds a field's last bit (R114, R118). A big-endian field runs from its most significant bit
towards bit 0 of its byte and on in the next byte. -/
def rtLastByte (r : BitVec 256) : Nat :=
  let p := rtBitpos r
  if rtBig r then p / 8 + (7 - p % 8 + (rtLen r - 1)) / 8 else (p + rtLen r - 1) / 8

/-- The traffic of a column: windows that start on it (R31). -/
def Comb.winsOf (c : Comb) (col : Nat) : List Nat :=
  ((c.acts.filter fun a => actType a == 2 && actCol a == col).map actWin).eraseDups
/-- A column has window starts. -/
def Comb.bears (c : Comb) (col : Nat) : Bool := c.acts.any fun a => actType a == 2 && actCol a == col
/-- The columns a window starts on, lowest first. -/
def Comb.colsOf (c : Comb) (w : Nat) : List Nat :=
  (List.range 16).filter fun col => c.acts.any fun a => actType a == 2 && actCol a == col && actWin a == w
/-- Window entry. -/
def Comb.win? (c : Comb) (w : Nat) : Option (BitVec 256) := c.wins[w]?
/-- Routes a window's list names. -/
def Comb.listRoutes (c : Comb) (first n : Nat) : List (BitVec 256) :=
  ((c.rlist.drop first).take n).filterMap fun w => c.routes[bitsOf w.toNat 16 0]?

/-! ### Reading an image (R39, R41, R50) -/

/-- Entry sizes in bytes of sections 0x01 to 0x0B. -/
def sectionSizes : List Nat := [8, 32, 16, 4, 32, 4, 64, 8, 4, 2, 4]

/-- Offset, length and CRC of section `k` (counted from 0), and its type. -/
def dirEntry (img : Blob) (k : Nat) : Nat × Nat × Nat × Nat :=
  (ofLe (sub img (0x80 + 16 * k) 4), ofLe (sub img (0x84 + 16 * k) 4), ofLe (sub img (0x88 + 16 * k) 4), ofLe (sub img (0x8C + 16 * k) 4))

/-- The bytes of section `k`. -/
def sectionBytes (img : Blob) (k : Nat) : Blob := let (_, o, l, _) := dirEntry img k; sub img o l

/-- A section's entries as numbers. -/
def sectionEntries (img : Blob) (k : Nat) : List Nat := (chunks (sectionSizes.getD k 1) (sectionBytes img k)).map ofLe

/-- Start of the signature block (R39). -/
def sigStart (img : Blob) : Nat := let (_, o, l, _) := dirEntry img 10; roundUp (o + l) 64

/-- Algorithm set and Comb-key identifier. -/
def sigAlgs (img : Blob) : Nat := ofLe (sub img (sigStart img) 2)
def sigKeyId (img : Blob) : Nat := ofLe (sub img (sigStart img + 2) 2)
def sigHash (img : Blob) : Blob := sub img (sigStart img + 4) 48
def sigEcdsa (img : Blob) : Blob := sub img (sigStart img + 52) 64
def sigMldsa (img : Blob) : Blob := sub img (sigStart img + (if (sigAlgs img).testBit 0 then 116 else 52)) 3309
/-- Bytes of the signature block. -/
def sigLen (img : Blob) : Nat := 52 + (if (sigAlgs img).testBit 0 then 64 else 0) + (if (sigAlgs img).testBit 1 then 3309 else 0)

/-- No entry applies (R511). -/
def noDetail : Nat := 0xFFFFFFFF
/-- A refusal detail (R511). -/
def detailOf (sect i : Nat) : Nat := sect * 2 ^ 24 + i % 2 ^ 24

/-- The header check of R52, code 0x01: the detail of its first failure. [log 16 DEDUCED] -/
def imageFault (img : Blob) : Option Nat :=
  let h := img.take 128
  if img.length < 304 || hdrField h 0 31 0 ≠ 0x424D4F43 || hdrField h 4 15 0 ≠ 0x0100 || hdrField h 4 31 16 ≠ 0x80 ||
     hdrField h 0x78 7 0 ≠ 11 || hdrField h 0x7C 31 0 ≠ crc32c (h.take 124) then some noDetail
  else if (List.range 11).any fun k => (dirEntry img k).1 ≠ k + 1 then some noDetail
  else
    match (List.range 11).find? fun k =>
      let (_, o, l, crc) := dirEntry img k
      let before := if k = 0 then 304 else (dirEntry img (k - 1)).2.1 + (dirEntry img (k - 1)).2.2.1
      o % 64 ≠ 0 || o < before || img.length < o + l || l % sectionSizes.getD k 1 ≠ 0 || crc ≠ crc32c (sectionBytes img k) with
    | some k => some (detailOf (k + 1) 0xFFFFFF)
    | none => if img.length ≠ sigStart img + sigLen img || 3 < sigAlgs img then some noDetail else none

/-- The parts of an image. [log 16 DEDUCED] -/
def parseComb (img : Blob) : Comb :=
  { hdr := img.take 128
    acts := (sectionEntries img 0).map (BitVec.ofNat 64)
    wins := (sectionEntries img 1).map (BitVec.ofNat 256)
    flows := (sectionEntries img 2).map (BitVec.ofNat 128)
    code := (sectionEntries img 3).map (BitVec.ofNat 32)
    routes := (sectionEntries img 4).map (BitVec.ofNat 256)
    rlist := (sectionEntries img 5).map (BitVec.ofNat 32)
    pdus := (sectionEntries img 6).map (BitVec.ofNat 512)
    limits := (sectionEntries img 7).map (BitVec.ofNat 64)
    graph := (sectionEntries img 8).map (BitVec.ofNat 32)
    cert := (sectionEntries img 9).map (BitVec.ofNat 16)
    cmap := (sectionEntries img 10).map (BitVec.ofNat 32)
    hash := sha384 (img.take (sigStart img)) }

/-! ### Flow matching (R46, R47) -/

/-- The traversals of a flow: through each cluster its window starts on, and through F29. -/
def Comb.traversals (c : Comb) (f : BitVec 128) : List (Nat × Nat) :=
  let last := if flowCiph f then [29, flowOut f] else [flowOut f]
  let paths : List (List Nat) :=
    if flowWinEn f then
      (List.range 4).filterMap fun k =>
        if (c.colsOf (flowWin f)).any fun col => col / 4 == k then some (flowIn f :: (24 + k) :: last) else none
    else [flowIn f :: last]
  paths.flatMap fun p => p.zip p.tail

/-- The lowest-numbered flow with this traversal and class (R47). -/
def Comb.flowOf (c : Comb) (inp out tc : Nat) : Option Nat :=
  (c.flows.zipIdx.find? fun e => flowTc e.1 == tc && (c.traversals e.1).contains (inp, out)).map (·.2)

end Sys2Proof.Machine
end

