-- ==== Sys2Proof/Machine/SigStore.lean ====
section
/-! DEFINITION. The signal store (R108-R112): an entry, a write and a read of it. -/

namespace Sys2Proof.Machine

/-- The entry after a Hive-die power-up: VOID, NOAGE (R108). -/
def sigPowerUp : BitVec 64 := BitVec.twoPow 64 43

/-- An entry as it stands. -/
def sigRaw (s : State) (i : Nat) : BitVec 64 := (mapGet i s.sig.store).getD sigPowerUp

/-- The fields of an entry (R108). -/
def sigValue (e : BitVec 64) : Word := e.extractLsb' 0 32
def sigTag (e : BitVec 64) : BitVec 4 := e.extractLsb' 32 4
def sigWseq (e : BitVec 64) : Nat := (e.extractLsb' 36 7).toNat
def sigNoAge (e : BitVec 64) : Bool := e.getLsbD 43
def sigExpiry (e : BitVec 64) : Nat := (e.extractLsb' 44 18).toNat
def sigExp (e : BitVec 64) : Bool := e.getLsbD 62
def sigSealV (e : BitVec 64) : Bool := e.getLsbD 63

/-- An entry of these fields. -/
def sigMake (value : Word) (tag : BitVec 4) (wseq : Nat) (noAge : Bool) (expiry : Nat) (exp sealv : Bool) : BitVec 64 :=
  BitVec.ofNat 64 (value.toNat + tag.toNat * 2 ^ 32 + wseq % 128 * 2 ^ 36 + noAge.toNat * 2 ^ 43 +
    expiry % 2 ^ 18 * 2 ^ 44 + exp.toNat * 2 ^ 62 + sealv.toNat * 2 ^ 63)

/-- Put an entry, in canonical form. -/
def sigPut (i : Nat) (e : BitVec 64) (s : State) : State :=
  { s with sig := { s.sig with store := if e = sigPowerUp then mapDel i s.sig.store else mapPut i e s.sig.store } }

/-- A write (R109): WSEQ steps, EXP clears, the age bound starts now; without one EXPIRY is 0. [log 120 DESIGN CHOICE] -/
def sigWrite (i : Nat) (tag : BitVec 4) (value : Word) (sealv : Bool) (age : Nat) (s : State) : State :=
  let e := sigRaw s i
  sigPut i (sigMake value tag (sigWseq e + 1) (age == 0) (if age = 0 then 0 else s.sig.age + age) false sealv) s

/-- An entry is stale (R110). -/
def sigStale (s : State) (e : BitVec 64) : Bool :=
  sigExp e || (!sigNoAge e &&
    (let d := (sigExpiry e + 2 ^ 18 - s.sig.age % 2 ^ 18) % 2 ^ 18
     !(1 ≤ d && d ≤ 65535)))

/-- A read (R110): tag and payload. -/
def sigRead (s : State) (i : Nat) : PfWord :=
  let e := sigRaw s i
  let t := sigTag e
  { tag := if t = 0 ∨ t = 0xE ∨ t = 0xF then t else if sigStale s e then 0xE else t, val := sigValue e }

/-- The age sweeper's visit of one entry (R111). -/
def sigSweepOne (s : State) (i : Nat) : State :=
  let e := sigRaw s i
  if sigStale s e ∧ ¬ sigExp e ∧ sigTag e ≠ 0 then sigPut i (e ||| BitVec.twoPow 64 62) s else s

end Sys2Proof.Machine
end

