-- ==== Sys2Proof/Machine/Votes.lean ====
section
/-! DEFINITION. Power votes and wakes (R437-R442): the tallies and the wake latch, which commands of every family
change. What the tallies lead to (powering a domain, entering SLEEP) are commands of their own. -/

namespace Sys2Proof.Machine

/-- Bit `i` of a tally set or cleared. -/
def tally (v : BitVec 64) (i : Nat) (on : Bool) : BitVec 64 :=
  if on then v ||| BitVec.twoPow 64 i else v &&& ~~~BitVec.twoPow 64 i

/-- The ACCESS domain goes off: its keys, generator state and rounds are lost, and SLR_A and SLR_B are held low (R269,
R437, R447). -/
def accessOff (s : State) : State :=
  if !s.pwr.access then s
  else { s with
    acore := { coreid := 0x12, isalvl := 0x10, status := 9 }
    uwb := { s.uwb with round := none, exchange := none, rslot := none, counter := 0, loopback := false }
    test := { s.test with lf := false, uwb := false }
    lf := { s.lf with
      loopback := false
      keys := s.lf.keys.map fun k => { k with key := none }
      seeded := false, session := none, releasing := false, slrA := false, tp := {}
      user := if s.lf.user = .transponder then .none else s.lf.user }
    pwr := { s.pwr with access := false, held := s.pwr.held ||| BitVec.twoPow 26 25, pll := s.pwr.pll &&& ~~~BitVec.twoPow 13 4 } }

/-- A voter's vote in one domain (R438). ACCESS, a pair domain and a port domain go off with their last vote (R437); what
HIVE-CORE and DDR do is an entry's work (R444). [log 104 DEDUCED] -/
def setVote (voter : Nat) (d : Domain) (on : Bool) (s : State) : State :=
  match d with
  | .hiveCore => { s with pwr := { s.pwr with voteHive := tally s.pwr.voteHive voter on } }
  | .access =>
    let s := { s with pwr := { s.pwr with voteAccess := tally s.pwr.voteAccess voter on } }
    if s.pwr.voteAccess = 0 then accessOff s else s
  | .ddr => { s with pwr := { s.pwr with voteDdr := tally s.pwr.voteDdr voter on } }
  | .pair p =>
    let s := { s with pwr := if voter = 5 then { s.pwr with votePair := s.pwr.votePair.set p on }
                             else { s.pwr with voteOwn := s.pwr.voteOwn.set p on } }
    { s with pwr := { s.pwr with pairs := vmod s.pwr.pairs p fun x => x && (s.pwr.votePair[p] || s.pwr.voteOwn[p]) } }
  | .port p => { s with pwr := { s.pwr with votePort := s.pwr.votePort.set p on, ports := vmod s.pwr.ports p fun x => x && on } }

/-- The vault's vote in HIVE-CORE: a request runs over several steps (R438). -/
def vaultVotes (s : State) : Bool := s.pwr.hive && (!s.vault.repl.isEmpty || s.vault.attesting.isSome)

/-- The voters of HIVE-CORE as 0x2101/01 shows them (R438): those that hold a vote, the vault while a request runs, the Comb
sequencer while it runs, and each pair and port while its domain is on. [log 104 DEDUCED] -/
def hiveVoters (s : State) : BitVec 64 :=
  let dependent : Nat := (if s.comb.active.isSome && s.pwr.hive && !s.pwr.seqHalted then 2 ^ 5 else 0) +
    ((List.range 16).map fun p => if s.pwr.pairs.toList.getD p false then 2 ^ (8 + p) else 0).sum +
    ((List.range 24).map fun n => if s.pwr.ports.toList.getD n false then 2 ^ (24 + n) else 0).sum
  s.pwr.voteHive ||| BitVec.ofNat 64 dependent ||| (if vaultVotes s then 2 else 0)

/-- An independent HIVE-CORE vote is held (R439): bits 0 to 4. [log 104 DEDUCED] -/
def hiveVoted (s : State) : Bool := bitsOf s.pwr.voteHive.toNat 4 0 ≠ 0 || vaultVotes s

/-- A source is enabled in 0x2100/03; codes 18 and 19 always are (R442). -/
def wakeEnabled (s : State) (code : Nat) : Bool :=
  code = 17 || code = 18 || code = 19 || (1 ≤ code && code ≤ 16 && (val s (odKey 0x2100 3)).testBit (code - 1))

/-- Latch a wake (R442): in SLEEP or during entry; of several the lowest code stands. With HIVE-CORE on it has no
effect, and during a boot it is merged into that boot. [log 107 DEDUCED] -/
def latchWake (code : Nat) (s : State) : State :=
  if wakeEnabled s code ∧ s.pwr.vao ∧ (s.pwr.dev = .sleep ∨ s.pwr.entry.isSome) then
    { s with pwr := { s.pwr with wake := some (match s.pwr.wake with | none => code | some c => min c code) } }
  else s

/-- A Hive-die reset with this cause is due (R451). -/
def bootDue (cause : Nat) (s : State) : State := { s with pwr := { s.pwr with bootDue := some cause } }

/-- The keeper's votes for ACCESS and DDR follow 0x2102/01 (R438). [log 104 DEDUCED] -/
def applyKeeperVotes (s : State) : State :=
  setVote 0 .ddr ((val s (odKey 0x2102 1)).testBit 1) (setVote 0 .access ((val s (odKey 0x2102 1)).testBit 0) s)

/-- Code of the device state in 0x2000/02 (R428) outside an entry: 0 RUN, 1 DOZE (R440). -/
def runOrDoze (s : State) : Nat := if s.pwr.pairs.toList.any id then 0 else 1

/-- Code of the device state in STATE_AT (R378). -/
def stateAtCode (s : State) : Nat :=
  match s.pwr.dev with
  | .boot => 0 | .on => runOrDoze s + 1 | .sleep => 3 | .field => 4 | .off => 0

end Sys2Proof.Machine
end

