-- ==== Sys2Proof/Machine/Sessions.lean ====
section
/-! DEFINITION. Start-lock sessions and lock-out records (R274, R278-R282), which LF, UWB, NFC and tamper share. -/

namespace Sys2Proof.Machine

/-- Inputs of R373. -/
def tamperInputs : BitVec 32 := 0x000FFFFF

/-- The tamper latch as it reads (R377). -/
def latchRead (s : State) : BitVec 32 := if s.tamper.nlatch = ~~~s.tamper.latch then s.tamper.latch else tamperInputs

/-- The start lock is released (R279); a fault of the outputs withdraws the release until the next session (R281),
and the pads are held low whenever ACCESS is off (R447). [log 71 DEDUCED] -/
def released (s : State) : Bool :=
  (match s.lf.session with | some x => x.start | none => false) && !serviceOnly s &&
  (s.lc.state == 1 || s.lc.state == 2) && latchRead s == 0 && !s.lf.slrFault && s.pwr.access && !s.pwr.held.getLsbD 25

/-- Session state of R282 and 0x4300/01. -/
def sessionState (s : State) : Nat :=
  match s.lf.session with
  | none => 0
  | some x => if !x.start then 1 else if released s then 2 else 3

/-- The time a session opened or restarted now ends at, in AO periods (R279). -/
def sessionEnd (s : State) : Nat := s.clk.ao + val s (odKey 0x4300 3) * 32768

/-- Zone flags of 0x4302/01 (R278): UNLOCK, START. -/
def zoneFlags (s : State) (z : Nat) : Bool × Bool :=
  let b := (subPad (blob s (odKey 0x4302 1)) z 1).headD 0
  (b.getLsbD 0, b.getLsbD 1)

/-- A successful authentication (R278): opens a session, restarts the same key's, or is logged. -/
def openSession (key : Nat) (unlock start : Bool) (ks : Blob) (s : State) : State :=
  match s.lf.session with
  | some x =>
    if x.key = key then
      { s with lf := { s.lf with session := some { x with
          unlock := x.unlock || unlock, start := x.start || start, ks := ks, endAo := sessionEnd s } } }
    else logEvent 12 clsSecurity 0 (odKey 0x4300 2) (leBytes 4 key) s
  | none =>
    let s := { s with lf := { s.lf with session := some ⟨key, unlock, start, ks, sessionEnd s⟩, slrFault := false } }
    let s := counterAdd 1 1 s
    let s := setVote 2 .access true (setVote 2 .hiveCore true s)
    let s := keeperLine 8 (logEvent 12 clsState (sessionState s) (odKey 0x4300 1) (leBytes 4 key) s)
    if s.pwr.hive then s else latchWake 18 s

/-- The end of a session (R279): the release is withdrawn; the outputs go low at the next half-period edge. The
access engine's HIVE-CORE vote lasts until the signals of R282 carry the change (R438). -/
def endSession (s : State) : State :=
  match s.lf.session with
  | none => s
  | some _ =>
    let s := { s with lf := { s.lf with session := none } }
    let s := if s.uwb.round.isNone then setVote 2 .access false s else s
    keeperLine 8 (logEvent 12 clsState 0 (odKey 0x4300 1) [] s)

/-- Both outputs low at once (R281, R26). -/
def slrLow (s : State) : State := { s with lf := { s.lf with releasing := false, slrA := false } }

/-- The access engine writes its signals through F31 (R282), with SEALV and an age bound of 3,125 units; with the
signals written, its HIVE-CORE vote for a change ends (R438). -/
def writeAccessSignals (s : State) : State :=
  if s.pwr.hive ∧ s.pwr.access ∧ ¬ s.pwr.handed then
    let b (v : Bool) : Word := if v then 1 else 0
    let key := match s.lf.session with | some x => x.key | none => 0
    let un := match s.lf.session with | some x => x.unlock | none => false
    let s1 := sigWrite 131064 2 (BitVec.ofNat 32 (sessionState s)) true 3125 s
    let s2 := sigWrite 131065 4 (BitVec.ofNat 32 key) true 3125 s1
    let s3 := sigWrite 131066 4 (BitVec.ofNat 32 (counterVal s 1)) true 3125 s2
    let s4 := sigWrite 131067 1 (b un) true 3125 s3
    let s5 := sigWrite 131068 1 (b (released s)) true 3125 s4
    if s.lf.session.isNone then setVote 2 .hiveCore false s5 else s5
  else s

/-! ### Lock-out (R274) -/

/-- The record of a zone 0-7, or 8 for the transponder path. -/
def lockAt (s : State) (z : Nat) : LockRec := (s.lf.lock[z]?).getD {}

/-- A record as its committed bytes. [log 71 DEDUCED; log 93 DESIGN CHOICE] -/
def LockRec.bytes (r : LockRec) : Blob :=
  leBytes 1 r.level ++ leBytes 1 r.locked.toNat ++ leBytes 1 r.times.length ++ [0] ++ leBytes 4 r.lockEnd ++
    r.times.flatMap (leBytes 4)

/-- A record written and committed (R274, R390 type 0x21). -/
def putLock (z : Nat) (r : LockRec) (s : State) : State :=
  commitS 0x21 z r.bytes { s with lf := { s.lf with lock := vmod s.lf.lock z fun _ => r } }

/-- Seconds a lock of this level lasts. -/
def lockSeconds (level : Nat) : Nat := 240 * 2 ^ (level - 1)

/-- `on failure(z)` of R274. -/
def lockFailure (z : Nat) (s : State) : State :=
  let now := aoSec s
  let r := lockAt s z
  let times := (r.times.filter fun t => now ≤ t + 60) ++ [now]
  if times.length ≥ 5 then
    let level := min (r.level + 1) 5
    let s := putLock z { times := [], level := level, locked := true, lockEnd := now + lockSeconds level } s
    let s := counterAdd (8 + z) 1 s
    logEvent 12 clsSecurity 0 (odKey (0x4310 + z) 5) (leBytes 1 z ++ leBytes 1 level) s
  else putLock z { r with times := times } s

/-- `on success(z)` of R274. -/
def lockSuccess (z : Nat) (s : State) : State := putLock z { lockAt s z with times := [], level := 0 } s

/-- At a Hive-die or AO power-up (R274): every failure time is now, and a lock runs its full duration again. -/
def lockPowerUp (s : State) : State :=
  (List.range 9).foldl (fun s z =>
    let r := lockAt s z
    if r.times = [] ∧ ¬ r.locked then s else
      putLock z { r with
        times := r.times.map fun _ => aoSec s,
        lockEnd := if r.locked then aoSec s + lockSeconds r.level else r.lockEnd } s) s

/-- A zone is locked. -/
def zoneLocked (s : State) (z : Nat) : Bool := (lockAt s z).locked

end Sys2Proof.Machine
end

