-- ==== Sys2Proof/Machine/TrustOps.lean ====
section
/-! DEFINITION. Operations of the trust plane (R323-R336, R348-R356): derivation, blobs, slots, the vault row,
the erase and the life-cycle record. -/

namespace Sys2Proof.Machine

/-! ### Fuses and derivation (R323, R327-R330) -/

/-- Values programmed at Amvelys. -/
def fuseRoot : Blob := bytesOf 32 Config.fuseRoot
def fuseIdSeed : Blob := bytesOf 32 Config.fuseIdSeed
def fusePair : Blob := bytesOf 32 Config.fusePair
def fuseUid : Blob := bytesOf 16 Config.fuseUid
def fuseVendorKh : Blob := bytesOf 32 Config.fuseVendorKh

/-- The epoch as one byte. -/
def epochByte (s : State) : Blob := [BitVec.ofNat 8 s.fuse.epoch]

/-- Order of the P-256 group. -/
def p256n : Nat := 0xFFFFFFFF00000000FFFFFFFFFFFFFFFFBCE6FAADA7179E84F3B9CAC2FC632551

/-- A private key from 320 derived bits: (value mod (n - 1)) + 1 (R329). [log 7 DESIGN CHOICE] -/
def reduceP256 (v : Blob) : Blob := beBytes 32 (ofBe v % (p256n - 1) + 1)

/-- Keys of R329. -/
def idEcKey : Blob := reduceP256 (kdf fuseRoot (label "IDEC") fuseIdSeed 320)
def idMlSeed : Blob := kdf fuseRoot (label "IDML") fuseIdSeed 256
def wrpuOf (s : State) (kd : Blob) : Blob := kdf kd (label "WRPU") (epochByte s) 256
def wrpmOf (s : State) (kd mr : Blob) : Blob := kdf kd (label "WRPM") (epochByte s ++ mr) 256
/-- [log 79 DEDUCED] -/
def importKey (s : State) (kd : Blob) : Blob := reduceP256 (kdf kd (label "IMPT") (epochByte s) 320)

/-- SHA-384 over the worker code section, little-endian words (R330). -/
def codeHash (c : Comb) : Blob := sha384 (c.code.flatMap fun w => leBytes 4 w.toNat)

/-- The measurement of a keeper hash and a Comb (R330). -/
def mrOf (keeper : Blob) (c : Comb) : Blob := sha384 (keeper ++ codeHash c ++ c.hash)

/-- MR set from the keeper that runs and the active Comb (R330). -/
def setMr (s : State) : State :=
  match s.comb.active with
  | none => s
  | some c => { s with vault := { s.vault with mr := some (mrOf s.kpr.hash c) } }

/-! ### Slots (R332, R334) -/

/-- A key register that copies this slot. -/
def copiesSlot (i : Nat) (k : Option LaneKey) : Bool := match k with | some x => x.slot == some i | none => false

/-- A change of a slot invalidates every lane copy of it (R334). -/
def dropCopies (i : Nat) (s : State) : State :=
  { s with lanes := { s.lanes with lane := s.lanes.lane.map fun l =>
      { l with k0 := if copiesSlot i l.k0 then none else l.k0, k1 := if copiesSlot i l.k1 then none else l.k1 } } }

/-- A slot written or cleared. -/
def putSlot (i : Nat) (k : Option KeySlot) (s : State) : State :=
  dropCopies i { s with vault := { s.vault with slots := vmod s.vault.slots i fun _ => k } }

/-- The key of a slot. -/
def slotAt (s : State) (i : Nat) : Option KeySlot := (s.vault.slots[i]?).join

/-- A replacement of this slot is under way (R340). -/
def slotPending (s : State) (i : Nat) : Bool := s.vault.repl.any fun r => r.enrol.isNone && r.target == i

/-- KLEN code of R332. -/
def klenCode (n : Nat) : Nat := if n = 16 then 1 else if n = 24 then 2 else if n = 32 then 3 else 0

/-- A slot's attribute entry (R332), 16 bytes. -/
def slotAttr (s : State) (i : Nat) : Blob :=
  match slotAt s i with
  | none => zeros 16
  | some k =>
    leBytes 4 (1 + klenCode k.key.length * 2 + k.src * 8 + k.meas.toNat * 32 + (slotPending s i).toNat * 64 +
      k.usage.toNat * 256 + k.owner.toNat * 65536) ++ leBytes 4 k.keyId.toNat ++ leBytes 4 k.kgen.toNat ++ kcvOf k.key

/-- OWNER bit of a vault requester (R337): the keeper 0, the access island 2. -/
def ownerBitOf (rq : Nat) : Option Nat := if rq = 0 then some 0 else if rq = 1 then some 2 else none

/-- A use of a slot as an input (R333): the key, where OWNER bit `o` and USAGE bit `u` (8-15) allow it. -/
def slotFor (s : State) (i o u : Nat) : Option KeySlot :=
  match slotAt s i with
  | none => none
  | some k => if k.owner.getLsbD o && k.usage.getLsbD (u - 8) then some k else none

/-- The committed generation of a KEY_ID (R340). -/
def committedGen (s : State) (id : Word) : Nat :=
  match s.vault.gens.find? (·.1 == id) with | some g => g.2.toNat | none => 0

/-! ### Blobs (R335, R336) -/

/-- MAGIC of a blob. -/
def blobMagic : Nat := 0x42574B31

/-- The header of a blob of these fields, HCRC included. -/
def blobHeader (flags klen epoch : Nat) (usage : Byte) (owner : BitVec 4) (keyId kgen : Word) : Blob :=
  let h := leBytes 4 blobMagic ++ leBytes 1 1 ++ leBytes 1 flags ++ leBytes 1 klen ++ leBytes 1 epoch ++
    [usage] ++ leBytes 3 owner.toNat ++ leBytes 4 keyId.toNat ++ leBytes 4 kgen.toNat ++ zeros 8
  h ++ leBytes 4 (crc32c h)

/-- Fields of a header. -/
def hdrFlags (b : Blob) : Nat := ofLe (sub b 5 1)
def hdrKlen (b : Blob) : Nat := ofLe (sub b 6 1)
def hdrEpoch (b : Blob) : Nat := ofLe (sub b 7 1)
def hdrUsage (b : Blob) : Byte := (sub b 8 1).headD 0
def hdrOwner (b : Blob) : BitVec 4 := BitVec.ofNat 4 (ofLe (sub b 9 1))
def hdrKeyId (b : Blob) : Word := BitVec.ofNat 32 (ofLe (sub b 12 4))
def hdrKgen (b : Blob) : Word := BitVec.ofNat 32 (ofLe (sub b 16 4))
def hdrMeas (b : Blob) : Bool := (hdrFlags b).testBit 0

/-- Check 1 of R336 on a header. [log 79 DEDUCED] -/
def headerGood (b : Blob) : Bool :=
  32 ≤ b.length && ofLe (sub b 0 4) == blobMagic && ofLe (sub b 4 1) == 1 && hdrFlags b < 8 &&
  (hdrKlen b == 16 || hdrKlen b == 24 || hdrKlen b == 32) &&
  ofLe (sub b 9 3) < 16 && sub b 20 8 == zeros 8 && ofLe (sub b 28 4) == crc32c (b.take 28)

/-- First 16 bytes of SHA-384 over a header. -/
def binderOf (h : Blob) : Blob := (sha384 (h.take 32)).take 16

/-- The status of a request that needs a share (R336, R337, R349). -/
def shareStatus (s : State) : Option Nat :=
  if s.lc.state = 0 then some 0x08
  else if s.lc.state = 4 ∨ s.lc.state = 5 ∨ s.lc.state = 6 ∨ s.vault.kd.isNone then some 0x0E
  else none

/-- The wrapping key of a blob (R335), where MR is set if it is measured. -/
def wrapKey (s : State) (meas : Bool) : Option Blob :=
  match s.vault.kd, meas, s.vault.mr with
  | some kd, false, _ => some (wrpuOf s kd)
  | some kd, true, some mr => some (wrpmOf s kd mr)
  | _, _, _ => none

/-- The checks of R336 in order, and the key. -/
def openBlob (s : State) (b : Blob) : Except Nat KeySlot :=
  if !headerGood b || b.length ≠ 56 + hdrKlen b then .error 0x01
  else match shareStatus s with
  | some c => .error c
  | none =>
    if hdrEpoch b ≠ s.fuse.epoch then .error 0x03
    else match wrapKey s (hdrMeas b) with
    | none => .error 0x04
    | some wk =>
      if (hdrKgen b).toNat < committedGen s (hdrKeyId b) then .error 0x0F
      else match aesKwpInv wk (b.drop 32) with
      | none => .error 0x02
      | some p =>
        if p.length = hdrKlen b + 16 ∧ p.drop (hdrKlen b) = binderOf b then
          .ok { key := p.take (hdrKlen b), src := if (hdrFlags b).testBit 2 then 3 else 0, meas := hdrMeas b,
                usage := hdrUsage b, owner := hdrOwner b, keyId := hdrKeyId b, kgen := hdrKgen b }
        else .error 0x02

/-- A blob of a key under the current epoch and, where measured, the given wrapping key. -/
def makeBlob (wk : Blob) (flags epoch : Nat) (k : KeySlot) : Blob :=
  let h := blobHeader flags k.key.length epoch k.usage k.owner k.keyId k.kgen
  h ++ aesKwp wk (k.key ++ binderOf h)

/-! ### The vault row (R325-R327) -/

/-- The record of two copies under recovery rule 2: good where both agree or one alone is valid. -/
def rule2 {α : Type} [DecidableEq α] (a b : Option α) : Option α :=
  match a, b with
  | some x, some y => if x = y then some x else none
  | some x, none => some x
  | none, some y => some y
  | none, none => none

/-- The current record good, and the record in use: the previous one where the current is not good (R326). -/
def lcRecord (s : State) : Option LcRec :=
  match rule2 s.vault.row.lcA s.vault.row.lcB with
  | some r => some r
  | none => rule2 s.vault.row.prevA s.vault.row.prevB

/-- The key share of the row: none where both copies are invalid or it is all 0 (R327). -/
def rowShare (s : State) : Option Blob :=
  match rule2 s.vault.row.shA s.vault.row.shB with
  | some x => if x = zeros 32 then none else some x
  | none => none

/-- Write a life-cycle record on both copies; the one it replaces becomes the previous record. SEQ is the one
after the record in use, saturating (R326). [log 82 DEDUCED] -/
def writeLc (state cause epoch share : Nat) (s : State) : State :=
  let old := lcRecord s
  let r : LcRec :=
    { seq := min (((old.map (·.seq)).getD 0) + 1) 0xFFFFFFFF, state := state, cause := cause, epoch := epoch,
      share := share, prev := (old.map (·.state)).getD 0, time := aoSec s }
  { s with vault := { s.vault with row := { s.vault.row with
      lcA := some r, lcB := some r, prevA := old, prevB := old } } }

/-- The SHARE field updated in place (R352, R355); no new record, so SEQ stands (log entry on R326). [log 82 DEDUCED] -/
def setShareField (v : Nat) (s : State) : State :=
  let f (r : Option LcRec) : Option LcRec := r.map fun x => { x with share := v }
  { s with vault := { s.vault with row := { s.vault.row with lcA := f s.vault.row.lcA, lcB := f s.vault.row.lcB } } }

/-- A new key share (R327): copies A and B, then SHARE = 1. -/
def newShare (s : State) : State :=
  let (sh, s) := draw 32 s
  setShareField 1 { s with vault := { s.vault with row := { s.vault.row with shA := some sh, shB := some sh }, aoShare := sh } }

/-- The AO domain loads its share register at AO power-up; where one copy of the row alone is valid it rewrites the
other (R327). -/
def loadShare (s : State) : State :=
  match rowShare s with
  | some sh => { s with vault := { s.vault with aoShare := sh, row := { s.vault.row with shA := some sh, shB := some sh } } }
  | none => { s with vault := { s.vault with aoShare := zeros 32 } }

/-- The share as the AO share register shows it to the vault: none where it reads all 0 (R327). -/
def aoShareOf (s : State) : Option Blob := if s.vault.aoShare = zeros 32 then none else some s.vault.aoShare

/-- Program the next EPOCH bit (R354). -/
def burnEpoch (s : State) : State := { s with fuse := { s.fuse with epoch := min (s.fuse.epoch + 1) 32 } }

/-! ### The erase (R348) -/

/-- What an erase destroys in the AO domain. -/
def eraseShare (s : State) : State :=
  { s with vault := { s.vault with row := { s.vault.row with shA := none, shB := none }, aoShare := zeros 32 } }

/-- Key registers of a lane at 0. -/
def Lane.clearKeys (l : Lane) : Lane := { l with k0 := none, k1 := none, k2 := none, k3 := none, wait2 := none, wait3 := none }

/-- What an erase destroys on the Hive die. -/
def eraseHive (s : State) : State :=
  { s with
    vault := { s.vault with kd := none, slots := Vector.replicate 64 none, repl := [] },
    lanes := { s.lanes with lane := s.lanes.lane.map Lane.clearKeys },
    lf := { s.lf with
      keys := s.lf.keys.map fun k => { k with key := none }
      session := s.lf.session.map fun x => { x with ks := [] } }
    uwb := { s.uwb with exchange := s.uwb.exchange.map fun e => { e with sts := [] } } }

/-- The erase of R348: everything in its table, and nothing else. -/
def eraseAll (s : State) : State := eraseHive (eraseShare s)

/-! ### Answers (R337) -/

/-- A vault answer: keeper firmware's wait to be read, the others' are delivered. [log 80 DESIGN CHOICE] -/
def vaultAnswer (rq : Nat) (tag : Byte) (status : Nat) (data : Blob) (s : State) : State :=
  if rq = 0 then keeperLine 1 { s with vault := { s.vault with answers := s.vault.answers ++ [(tag, status, data)] } }
  else emit (.vault rq tag.toNat status data) s

/-- Places of a requester that are taken (R337). [log 80 DESIGN CHOICE] -/
def placesTaken (s : State) (rq : Nat) : Nat :=
  (if rq = 0 then s.vault.answers.length else 0) + (s.vault.repl.filter fun r => r.enrol.isNone && r.requester == rq).length

/-- The journal's ID of a replacement (R390): the slot, for an enrolment 64 and its index. -/
def Replacement.journal (r : Replacement) : Nat := if r.enrol.isSome then 64 + r.target else r.target

/-- Every request the vault has under way is aborted by tamper: it answers 0x0B and releases nothing; a REPLACE loses
its shadow and its journal is recovered under rule 3 (R338, R342, R380). -/
def abortVault (s : State) : State :=
  let s := s.vault.repl.foldl (fun s r => let s := discardJournal r.journal s; match r.enrol with
    | none => vaultAnswer r.requester r.tag 0x0B [] s
    | some (_, _, slot) => emit (.odAbort slot abBusy) s) s
  countN (odKey 0x2350 4) s.vault.repl.length { s with vault := { s.vault with repl := [], attesting := none } }

/-! ### Transitions (R350, R352) -/

/-- A cold boot follows a transition other than FIELD_LOCK and one to TAMPERED (R451). [log 83 DEDUCED] -/
def scrapAt32 (s : State) : State :=
  let s := writeLc 6 0x08 s.fuse.epoch 2 s
  let s := setShareField 3 (eraseAll s)
  { s with fuse := { s.fuse with scrap := true }, lc := { s.lc with state := 6, debugOpen := false } }

/-- A transition from step 2 of R352: record, erase, epoch, share. One that needs an advance at epoch 32 goes to
SCRAPPED instead (R354). -/
def transition (target cause : Nat) (advance erase share : Bool) (s : State) : State :=
  if advance ∧ s.fuse.epoch = 32 then bootDue 5 (scrapAt32 (abortVault s))
  else
    let old := ((lcRecord s).map (·.share)).getD 0
    let s := writeLc target cause (s.fuse.epoch + advance.toNat) (if erase then 2 else old) s
    let s := if erase then setShareField 3 (eraseAll (abortVault s)) else s
    let s := if advance then burnEpoch s else s
    let s := if share then newShare s else s
    { s with
      lc := { s.lc with state := target, debugOpen := target == 3 || target == 4, challenge := none },
      fuse := { s.fuse with prov := s.fuse.prov || target == 1, scrap := s.fuse.scrap || target == 6 } }

end Sys2Proof.Machine
end

