-- ==== Sys2Proof/Machine/Verifier.lean ====
section
/-! DEFINITION. The verifier (R51-R60, R508, R511) with the structure checks other chapters add (R113, R115, R118,
R127, R134, R138, R243, R282, R300, R364, R367), the vault's signature check (R324), placement (R33) and the
acceptance tag (R452). -/

namespace Sys2Proof.Machine

/-- A check's answer: none where it passes, else the refusal code and detail of its first failure (R59, R511). -/
abbrev Check := Option (Nat × Nat)

/-- A rule over the entries of a section: the first entry that breaks it. -/
def firstBad {α : Type} (sect code : Nat) (l : List α) (bad : α → Bool) : Check :=
  (l.zipIdx.find? fun e => bad e.1).map fun e => (code, detailOf sect e.2)

/-- A rule over the whole image. -/
def wholeBad (code : Nat) (bad : Bool) : Check := if bad then some (code, noDetail) else none

/-- The first failure of some checks, in order. -/
def firstOf (l : List (Unit → Check)) : Check := l.findSome? fun f => f ()

/-! ### Signatures (R50, R324) -/

/-- The stored Comb-key set of an identifier (0x2300/05): four sets of 2,017 bytes, of which the parts a set has
stand first; the P-256 key and the ML-DSA key of it. -/
def combKeySet (s : State) (i : Nat) : Blob := sub (blob s (odKey 0x2300 5)) (2017 * i) 2017

/-- The keys of a set by the length that hashes to the fuse: both, P-256 alone, ML-DSA alone. -/
def combKeys (s : State) (i : Nat) : Option (Option Blob × Option Blob) :=
  let set := combKeySet s i
  let kh := s.fuse.combKh.getD i []
  if kh = [] ∨ kh = zeros 32 then none
  else if (sha384 set).take 32 = kh then some (some (set.take 65), some (set.drop 65))
  else if (sha384 (set.take 65)).take 32 = kh then some (some (set.take 65), none)
  else if (sha384 (set.take 1952)).take 32 = kh then some (none, some (set.take 1952))
  else none

/-- The vault accepts the image's hash and signatures (R50, R324). In BLANK and in states without a Comb no hash
stands in the fuses, or the life cycle admits none (R349). -/
def signaturesGood (s : State) (img : Blob) : Bool :=
  let body := img.take (sigStart img)
  let i := sigKeyId img
  let algs := sigAlgs img
  sigHash img == sha384 body && i ≤ 3 && !s.fuse.combRev.testBit i && s.lc.state ≠ 0 && s.lc.state ≠ 6 &&
  (match combKeys s i with
   | none => false
   | some (ec, ml) =>
     (algs.testBit 0 || !s.fuse.combPol.testBit 0) && (algs.testBit 1 || !s.fuse.combPol.testBit 1) &&
     (!algs.testBit 0 || (match ec with | some k => Config.ecdsaVerify k body (sigEcdsa img) | none => false)) &&
     (!algs.testBit 1 || (match ml with | some k => Config.mldsaVerify k body (sigMldsa img) | none => false)))

/-! ### Port settings (R508) -/

/-- CAN clock periods of a nominal bit: BRP · (1 + TSEG1 + TSEG2) (R142). -/
def canBitClocks (s : State) (n : Nat) : Nat :=
  let w := val s (pk n 2 1)
  (bitsOf w 4 0 + 1) * (1 + (bitsOf w 15 8 + 1) + (bitsOf w 22 16 + 1))

/-- Bit rate of a port, as the quotient of two numbers, in bit/s (R508). -/
def portRate (s : State) (n : Nat) : Nat × Nat :=
  match portKind n with
  | .can => (80000000, canBitClocks s n)
  | .lin => (val s (pk n 1 2), 1)
  | .tsa => (10000000, 1)
  | .ge | .xg => (val s (pk n 1 1) * 1000000, 1)

/-- Crossing bounds of R18 in ps, into and out of the fabric, with the SER FIFO and the die-to-die link. -/
def crossPs (s : State) (f : Nat) : Nat × Nat :=
  if f < 14 then (18400, 39500)
  else if f < 18 then (405900 + 120000, 1202000 + 120000)
  else if f < 22 then
    match val s (pk f 1 1) with
    | 2500 => (9100 + 12800, 11600 + 12800)
    | 1000 => (13900 + 32000, 26000 + 32000)
    | 100 => (45900 + 160000, 122000 + 160000)
    | _ => (405900 + 1600000, 1202000 + 1600000)
  else if f < 24 then (12300 + 25600, 21200 + 25600)
  else if f < 30 then (7200, 5800)
  else if f = 30 then (7800, 7600)
  else (12400, 21500)

/-- Largest payload of a sealed PDU (R127); none where sealing is refused. -/
def sealLimit (s : State) (d : BitVec 512) : Option Nat :=
  match pduProto d with
  | 2 | 3 => some 64
  | 4 => some 2048
  | 6 => some (val s (pk (pduPort d) 1 2) - 18)
  | 7 => some (val s (pk (pduPort d) 1 2) - 22)
  | _ => none

/-! ### Structure, code 0x04 -/

/-- Rules on the header and on counts (R35, R37, R40, R41). [log 15 DEDUCED] -/
def headerBad (c : Comb) : Bool :=
  !headerReserved c.hdr || c.tsrc == 3 || c.period 0 ≠ 0 || c.hyper < 1000 || 1048576 < c.hyper ||
  c.nAct < 1 || 262144 < c.nAct || c.nAct ≠ c.acts.length || 16384 < c.nWin || c.nWin ≠ c.wins.length ||
  16384 < c.nFlow || c.nFlow ≠ c.flows.length || 1024 < c.spillMib || 262144 < c.code.length || 131072 < c.routes.length ||
  262144 < c.rlist.length || 16384 < c.pdus.length || 256 < c.limits.length || 65536 < c.graph.length ||
  c.cert.length ≠ 316 || c.cmap.length ≠ 16 ||
  (c.tsrc == 1 && !(14 ≤ c.tref && c.tref ≤ 23)) || (c.tsrc == 2 && 9 < c.tref) ||
  (c.disciplined && c.guard < steerRange c.hyper)

/-- An action entry by itself (R42, R49, R300). A padding entry has no occurrence; its first tick too must lie below H,
which is the model's choice. [log 122 DESIGN CHOICE] -/
def actBad (c : Comb) (a : BitVec 64) : Bool :=
  let per := c.period (actPeriod a)
  7 < actType a || !actReserved a || c.hyper ≤ actTick a || (actRepeat a ≠ 0 && per == 0) ||
  c.hyper ≤ actTick a + actRepeat a * per ||
  (match actRun a with | some (f, n) => 64 < f + n | none => false) ||
  (actType a == 2 && (c.wins.length ≤ actWin a || mapAbsent (c.mapWord (actCol a)))) ||
  (actType a == 5 && actDuration a < 2500) || (actType a == 7 && 11 < actLane a)

/-- Entries stand sorted by first tick, then type (R42). -/
def actOrder (l : List (BitVec 64)) : Check :=
  ((l.zip l.tail).zipIdx.find? fun e => actTick e.1.2 * 16 + actType e.1.2 < actTick e.1.1 * 16 + actType e.1.1).map
    fun e => (0x04, detailOf 1 (e.2 + 1))

/-- At most 1,024 occurrences in a tick (R43), and none begins in the guard band under disciplined time (R37). [log 15 DEDUCED] -/
def tickBad (c : Comb) (t : Nat) : Check :=
  let due := c.dueIdx t
  match due[1024]? with
  | some e => some (0x04, detailOf 1 e.2)
  | none =>
    if c.disciplined then
      (due.find? fun e => 64 * c.hyper - c.guard ≤ 64 * t + (match actRun e.1 with | some (f, _) => f | none => 0)).map
        fun e => (0x04, detailOf 1 e.2)
    else none

/-- A window entry (R44, R243). -/
def winBad (c : Comb) (w : BitVec 256) : Bool :=
  winBits w 78 0 ≠ 0 || winCodeLen w < 1 || 32768 < winCodeLen w || winDeadline w < 1 || 256 < winOutCells w ||
  c.code.length < winCodeOfs w + winCodeLen w || winSnapWords w ≠ winInCount w ||
  c.rlist.length < winInList w + winInCount w || c.rlist.length < winOutList w + winOutCount w

/-- List entries of a window that name a route of another kind (R116). [log 16 DEDUCED] -/
def listKind (c : Comb) (first n kind : Nat) : Check :=
  (((c.rlist.zipIdx.drop first).take n).find? fun e => match c.routes[bitsOf e.1.toNat 16 0]? with
    | some r => rtKind r ≠ kind
    | none => true).map fun e => (0x04, detailOf 6 e.2)

/-- The code of one column's windows fits its instruction memory (R243). -/
def columnCode (c : Comb) (col : Nat) : Check :=
  let ws := c.winsOf col
  if 32768 < (ws.map fun w => match c.win? w with | some x => winCodeLen x | none => 0).sum then
    some (0x04, detailOf 2 (ws.foldl min 16384))
  else none

/-- A route by itself (R114, R115, R282, R134). An image holds RES 0: the model's choice. [log 122 DESIGN CHOICE] -/
def routeBad (c : Comb) (r : BitVec 256) : Bool :=
  let k := rtKind r
  let t := (rtTag r).toNat
  rtBits r 31 0 ≠ 0 || rtBits r 255 254 ≠ 0 || 3 < k || rtSpecial r == 3 || 32 < rtLen r || t == 0 || t == 14 || t == 15 ||
  (k ≤ 1 && c.pdus.length ≤ rtTarget r) || (2 ≤ k && 32767 < rtTarget r) ||
  ((t == 8 || 11 ≤ t) && (rtMul r ≠ 1 || rtShift r ≠ 0 || rtOffset r ≠ 0 || rtSpecial r ≠ 0)) ||
  (t == 8 && rtLen r ≠ 32) || ((k == 0 || k == 3) && 131064 ≤ rtSig r) ||
  (rtDist r && (k ≠ 0 || (t ≠ 3 && t ≠ 4) ||
    (match c.pdus[rtTarget r]? with | some d => pduSeal d ≠ 1 && pduSeal d ≠ 2 | none => true)))

/-- A route that writes a signal an earlier route writes (R113), or a second DIST route (R134). -/
def routeRepeat (c : Comb) : Check :=
  let writes (r : BitVec 256) : Bool := rtKind r == 0 || rtKind r == 3
  (c.routes.zipIdx.find? fun e =>
    (writes e.1 && (c.routes.take e.2).any fun q => writes q && rtSig q == rtSig e.1) ||
    (rtDist e.1 && (c.routes.take e.2).any rtDist)).map fun e => (0x04, detailOf 5 e.2)

/-- The cell of a frame in which a route's field ends. -/
def rtCell (c : Comb) (r : BitVec 256) : Nat :=
  match c.pdus[rtTarget r]? with
  | some d => (pduOffset (pduProto d) + rtLastByte r) / 64
  | none => 0

/-- More than 32 routes of one PDU completed by one cell (R118, R243). -/
def cellRoutes (c : Comb) : Check :=
  (c.routes.zipIdx.find? fun e => rtKind e.1 ≤ 1 &&
    32 ≤ ((c.routes.take e.2).filter fun q => rtKind q == rtKind e.1 && rtTarget q == rtTarget e.1 && rtCell c q == rtCell c e.1).length).map
    fun e => (0x04, detailOf 5 e.2)

/-- Ticks at which a window starts, rising. -/
def Comb.startTicks (c : Comb) (w : Nat) : List Nat :=
  (((c.acts.filter fun a => actType a == 2 && actWin a == w).flatMap c.ticksOf).eraseDups).mergeSort

/-- Cyclic distances between successive positions of a rising list, the last across the end of `span`, longer by `extra`. -/
def cyclicGaps (l : List Nat) (span extra : Nat) : List Nat :=
  match l with
  | [] => []
  | a :: _ => (l.zip l.tail).map (fun e => e.2 - e.1) ++ [a + span + extra - l.getLastD a]

/-- A PDU sent by broadcast transport keeps its interval (R138). -/
def bamGood (c : Comb) (d : BitVec 512) : Bool :=
  pduTxMode d == 0 && pduMinGap d == 0 &&
  (let g := cyclicGaps (c.startTicks (pduEmitWin d)) c.hyper 0
   !g.isEmpty && g.all fun x => 50000 ≤ x && x ≤ 200000)

/-- A PDU entry (R123, R127, R138). An image holds RES 0: the model's choice. [log 122 DESIGN CHOICE] -/
def pduBad (s : State) (c : Comb) (d : BitVec 512) : Bool :=
  pduBits d 243 0 ≠ 0 || pduBits d 511 510 ≠ 0 || 7 < pduProto d || 23 < pduPort d || pduSaMode d == 3 || pduTxMode d == 3 ||
  pduSeal d == 3 || (pduSeal d == 2 && pduTransmit d) || (pduJ1939 d && pduProto d ≠ 1 && pduProto d ≠ 3) ||
  (pduTransmit d && c.wins.length ≤ pduEmitWin d) ||
  (pduSeal d ≠ 0 && (match sealLimit s d with | some l => l < pduPaylen d + pduTrunc d / 8 + 8 | none => true)) ||
  (pduTransmit d && pduJ1939 d && pduProto d ≤ 1 && 8 < pduPaylen d && !bamGood c d)

/-- Graph edges (R48). -/
def edgeWaiter (e : Word) : Nat := bitsOf e.toNat 31 22
def edgeProvider (e : Word) : Nat := bitsOf e.toNat 21 12

/-- A map word (R49). [log 16 DEDUCED] -/
def mapBad (c : Comb) (col : Nat) : Bool :=
  let w := c.mapWord col
  let k := col / 4
  let cluster := (List.range 4).map fun j => c.mapWord (4 * k + j)
  bitsOf w.toNat 31 20 ≠ 0 || cluster.any (fun x => mapAbsent x ≠ mapAbsent w) ||
  (if mapAbsent w then bitsOf w.toNat 18 0 ≠ 0 || c.bears col
   else mapPrimary w / 4 ≠ k || (mapSpares w).any fun p => p / 4 ≠ k ||
     !(List.range 4).any fun j => mapPrimary (c.mapWord (4 * k + j)) == p && !mapAbsent (c.mapWord (4 * k + j)) && !c.bears (4 * k + j))

/-- The structure check of R52, in the order of the sections. A flow's LANE lies in 0-11 whether or not CIPH_EN is set: the
model's choice. [log 16 DEDUCED; log 122 DESIGN CHOICE] -/
def structureCheck (s : State) (c : Comb) : Check :=
  firstOf [
    fun _ => wholeBad 0x04 (headerBad c),
    fun _ => firstBad 1 0x04 c.acts (actBad c),
    fun _ => actOrder c.acts,
    fun _ => (List.range c.hyper).findSome? (tickBad c),
    fun _ => wholeBad 0x04 ((List.range 12).all fun l => c.acts.any fun a => actType a == 7 && actLane a == l),
    fun _ => firstBad 6 0x04 c.rlist fun w => bitsOf w.toNat 31 17 ≠ 0 || c.routes.length ≤ bitsOf w.toNat 16 0,
    fun _ => firstBad 2 0x04 c.wins (winBad c),
    fun _ => c.wins.findSome? fun w => (listKind c (winInList w) (winInCount w) 2).orElse fun _ => listKind c (winOutList w) (winOutCount w) 3,
    fun _ => (List.range 16).findSome? (columnCode c),
    fun _ => firstBad 3 0x04 c.flows fun f => flowBits f 12 0 ≠ 0 || 11 < flowLane f ||
      (flowWinEn f && c.wins.length ≤ flowWin f) || (flowCiph f && flowMaxLen f < 1024),
    fun _ => firstBad 5 0x04 c.routes (routeBad c),
    fun _ => routeRepeat c,
    fun _ => firstBad 7 0x04 c.pdus (pduBad s c),
    fun _ => cellRoutes c,
    fun _ => firstBad 8 0x04 c.limits fun l => bitsOf l.toNat 63 59 ≠ 0,
    fun _ => firstBad 9 0x04 c.graph fun e => bitsOf e.toNat 11 0 ≠ 0 || 315 < edgeWaiter e || 315 < edgeProvider e,
    fun _ => firstBad 10 0x04 c.cert.zipIdx fun e => 315 < e.1.toNat || (c.cert.take e.2).contains e.1,
    fun _ => ((List.range 16).find? (mapBad c)).map fun k => (0x04, detailOf 11 k)]

/-! ### Check 6, code 0x0B (R53) -/

/-- Fabric ports of the SH2412 that carry no traffic (R2). -/
def fabricUnused (s : State) (f : Nat) : Bool :=
  isSmall s && ((6 ≤ f && f ≤ 9) || f == 12 || f == 13 || f == 16 || f == 17 || (20 ≤ f && f ≤ 23) || f == 26 || f == 27)

/-- A port can be paused (R53, R182). -/
def pausableNow (s : State) (n : Nat) : Bool :=
  18 ≤ n && n ≤ 23 && portFitted s n && val s (pk n 1 3) == 0 && (val s (pk n 3 3) == 1 || val s (pk n 3 3) == 2)

/-- Check 6 against the silicon, the running keeper and the ports. [log 16 DEDUCED] -/
def compatCheck (s : State) (c : Comb) : Check :=
  firstOf [
    fun _ => wholeBad 0x0B (!c.stepping.testBit s.fuse.stepping || !c.part.testBit (if isSmall s then 1 else 0) || 0x11 < c.isa ||
      c.keeperAbi ≠ s.kpr.abi || s.kpr.build < c.buildMin || c.buildMax < s.kpr.build),
    fun _ => wholeBad 0x0B ((List.range 24).any fun n => c.pausable n && !pausableNow s n),
    fun _ => firstBad 1 0x0B c.acts fun a => (actType a == 1 && (fabricUnused s (actIn a) || fabricUnused s (actOut a))) ||
      (actType a == 6 && fabricUnused s (10 + actLin a)),
    fun _ => firstBad 3 0x0B c.flows fun f => fabricUnused s (flowIn f) || fabricUnused s (flowOut f),
    fun _ => firstBad 8 0x0B c.limits.zipIdx fun e => fabricUnused s (e.2 / 8) && e.1 ≠ 0,
    fun _ => if isSmall s then firstBad 11 0x0B c.cmap.zipIdx fun e => 8 ≤ e.2 && !mapAbsent e.1 else none]

/-! ### Placement, code 0x0C (R33) -/

/-- A section placed beside the active Comb's: an entry equal to one there takes its position; `cap` positions exist. -/
def placeCheck {α : Type} [DecidableEq α] (sect cap : Nat) (mine theirs : List α) : Check :=
  let fresh (i : Nat) : Nat := i - (mine.take i).foldl (fun n x => n + (if (theirs.contains x) then 1 else 0)) 0
  (mine.zipIdx.find? fun e => !theirs.contains e.1 && cap ≤ theirs.length + fresh e.2).map fun e => (0x0C, detailOf sect e.2)

/-- Routes and PDUs find a position each. [log 16 DEDUCED] -/
def placementCheck (s : State) (c : Comb) : Check :=
  let act := s.comb.active
  (placeCheck 5 131072 c.routes ((act.map (·.routes)).getD [])).orElse fun _ =>
    placeCheck 7 16384 c.pdus ((act.map (·.pdus)).getD [])

/-! ### Check 1, code 0x05 (R54) -/

/-- The edges derived from the Comb, with the entry each was derived from. The output of a sealed PDU enters the queue of F29
first (R132), so that queue is the one its window buffer waits for. -/
def derivedEdges (c : Comb) : List ((Nat × Nat) × Nat) :=
  (c.acts.zipIdx.filter fun e => actType e.1 == 1).map
    (fun e => ((284 + actIn e.1, 8 * actOut e.1 + actTc e.1), detailOf 1 e.2)) ++
  (List.range c.wins.length).flatMap (fun w =>
    (c.colsOf w).flatMap fun col =>
      (c.pdus.filter fun d => pduTransmit d && pduEmitWin d == w).map
        (fun d => ((256 + col, 8 * (if pduSeal d = 1 then 29 else pduPort d) + pduTc d), detailOf 2 w)) ++
      (List.range 8).map fun tc => ((8 * (24 + col / 4) + tc, 256 + col), detailOf 2 w)) ++
  c.flows.zipIdx.flatMap fun e =>
    let f := e.1
    ((284 + flowIn f, 8 * flowOut f + flowTc f), detailOf 3 e.2) ::
    (if flowCiph f then
      [((272 + flowLane f, 8 * flowOut f + flowTc f), detailOf 3 e.2), ((8 * 29 + flowTc f, 272 + flowLane f), detailOf 3 e.2)]
     else [])

/-- Position of a node in the certificate. -/
def certPos (c : Comb) (n : Nat) : Nat := (c.cert.findIdx? (·.toNat == n)).getD 316

/-- Every derived edge stands in the graph, and every edge of the graph points forward. -/
def creditCheck (c : Comb) : Check :=
  match (derivedEdges c).find? fun e => !c.graph.any fun g => edgeWaiter g == e.1.1 && edgeProvider g == e.1.2 with
  | some e => some (0x05, e.2)
  | none => firstBad 9 0x05 c.graph fun g => certPos c (edgeProvider g) ≤ certPos c (edgeWaiter g)

/-! ### Check 2, code 0x06 (R55) -/

/-- Two slot runs share a slot. -/
def runsMeet (a b : BitVec 64) : Bool :=
  match actRun a, actRun b with
  | some (f, n), some (g, m) => f < g + m && g < f + n
  | _, _ => false

/-- Two occurrences of one tick ask for the same resource. -/
def slotsClash (a b : BitVec 64) : Bool :=
  runsMeet a b && actType a == actType b &&
  (match actType a with
   | 1 => actIn a == actIn b || actOut a == actOut b
   | 7 => actLane a == actLane b
   | _ => true)

/-- Slots reserved by some occurrences at a port. -/
def slotsAt (l : List (BitVec 64)) (port : BitVec 64 → Nat) (f : Nat) : Nat :=
  ((l.filter fun a => actType a == 1 && port a == f).map fun a => match actRun a with | some (_, n) => n | none => 0).sum

/-- The first entry whose occurrence in tick `t` breaks a rule of R55. -/
def slotBad (c : Comb) (t : Nat) : Check :=
  let due := c.dueIdx t
  (due.zipIdx.find? fun e =>
    let before := (due.take e.2).map (·.1)
    let upTo := before ++ [e.1.1]
    before.any (slotsClash e.1.1) ||
    (actType e.1.1 == 1 && (32 < slotsAt upTo actIn (actIn e.1.1) || 32 < slotsAt upTo actOut (actOut e.1.1)))).map
    fun e => (0x06, detailOf 1 e.1.2)

/-! ### Check 3, codes 0x07 and 0x08 (R45, R56, R60) -/

/-- The handover bound in ps (R45). -/
def handoverPs (w : BitVec 256) : Nat := 400000 + ceilDiv (4 * winCodeLen w + 8 * winSnapWords w) 8 * 1250

/-- Starts of a column: tick and window, in tick order. -/
def Comb.startsOf (c : Comb) (col : Nat) : List (Nat × Nat) :=
  ((c.acts.filter fun a => actType a == 2 && actCol a == col).flatMap fun a => (c.ticksOf a).map fun t => (t, actWin a)).mergeSort
    fun a b => a.1 ≤ b.1

/-- Window timing of R56. The guard band is in use where G is not 0. [log 15 DEDUCED] -/
def timingBad (c : Comb) (w : Nat) (e : BitVec 256) : Bool :=
  let ticks := c.startTicks w
  !ticks.isEmpty &&
  (1000000 * winDeadline e < 2 * 1250 * winWcet e + handoverPs e ||
   ticks.any fun t => 64 * c.hyper < 64 * (t + winDeadline e) + c.guard)

/-- A start that comes before the previous start of its column plus that window's DEADLINE. -/
def spacingBad (c : Comb) (col : Nat) : Check :=
  let l := c.startsOf col
  ((l.zip l.tail).find? fun e =>
    e.2.1 < e.1.1 + (match c.win? e.1.2 with | some w => winDeadline w | none => 0)).map fun e => (0x07, detailOf 2 e.2.2)

/-- Slot positions of a traversal's reservations, or of a lane's reserved slots, rising. -/
def slotStarts (c : Comb) (want : BitVec 64 → Bool) : List Nat :=
  (((c.acts.filter want).flatMap fun a => (c.ticksOf a).flatMap fun t =>
    match actRun a with | some (f, n) => (List.range n).map fun i => 64 * t + f + i | none => []).eraseDups).mergeSort

/-- Largest cyclic distance in slots, longer by P across the boundary; none without a slot. -/
def slotGap (c : Comb) (want : BitVec 64 → Bool) : Option Nat :=
  match cyclicGaps (slotStarts c want) (64 * c.hyper) c.p with
  | [] => none
  | g => some (g.foldl max 0)

/-- The paths of a flow: the cluster its window runs on, or none, and the fabric ports in order (R46, R60). -/
def flowPaths (c : Comb) (f : BitVec 128) : List (Option Nat × List Nat) :=
  let last := if flowCiph f then [29, flowOut f] else [flowOut f]
  if flowWinEn f then
    (List.range 4).filterMap fun k =>
      if (c.colsOf (flowWin f)).any fun col => col / 4 == k then some (some k, flowIn f :: (24 + k) :: last) else none
  else [(none, flowIn f :: last)]

/-- R60's bound of one path in ns, rounded up; none where a traversal or the lane has no reserved slot. The sum is
formed in units of 1 ps / r_out. An internal output has no bit rate, and its term of EGRESS falls away: the model's choice. [log 122 DESIGN CHOICE] -/
def pathBound (s : State) (c : Comb) (f : BitVec 128) (path : Option Nat × List Nat) : Option Nat :=
  let n := ceilDiv (flowMaxLen f) 64
  let hops := path.2.zip path.2.tail
  let trav : Option Nat := hops.zipIdx.foldl (fun acc e => match acc, slotGap c fun a =>
      actType a == 1 && actIn a == e.1.1 && actOut a == e.1.2 && actTc a == flowTc f with
    | some t, some g =>
      some (t + (crossPs s e.1.1).1 + (crossPs s e.1.2).2 + ((if e.2 = 0 then flowBacklog f else 0) + n) * g * slotPs + 1000000)
    | _, _ => none) (some 140625)
  let win : Option Nat := match path.1, c.win? (flowWin f) with
    | none, _ => some 0
    | some k, some w =>
      let ticks := (((c.acts.filter fun a => actType a == 2 && actWin a == flowWin f && actCol a / 4 == k).flatMap c.ticksOf).eraseDups).mergeSort
      some ((64 * (cyclicGaps ticks c.hyper 0).foldl max 0 + c.p) * slotPs + winDeadline w * 1000000)
    | some _, none => none
  let ciph : Option Nat :=
    if flowCiph f then (slotGap c fun a => actType a == 7 && actLane a == flowLane f).map fun g =>
      g * slotPs + ceilDiv (80 * flowMaxLen f) 68 * 1000
    else some 0
  match trav, win, ciph with
  | some t, some w, some x =>
    let (r, d) := if flowOut f < 24 then portRate s (flowOut f) else (0, 1)
    if r = 0 then some (ceilDiv (t + w + x) 1000)
    else some (ceilDiv ((t + w + x) * r + 8 * flowEgress f * secPs * d) (1000 * r))
  | _, _, _ => none

/-- Flow bound and backlog. A flow whose window starts nowhere has no path, and is refused as one without a bound: the model's
choice. [log 122 DESIGN CHOICE] -/
def flowBad (s : State) (c : Comb) (f : BitVec 128) : Bool :=
  let paths := flowPaths c f
  paths.isEmpty || paths.any fun p =>
    (match pathBound s c f p with | none => true | some b => flowBound f < b) ||
    limReserved (c.limit (8 * p.2.getD 1 0 + flowTc f)) < flowBacklog f

/-! ### Check 4, code 0x09 (R57) -/

/-- A pair is fitted and not retired. -/
def pairUsable (s : State) (p : Nat) : Bool := pairFitted s p && !((s.pairs[p]?).getD {}).retired

/-- The pair a column starts on: its primary, or with that retired its first valid spare that is not (R65). -/
def startHolder (s : State) (c : Comb) (col : Nat) : Option Nat :=
  let w := c.mapWord col
  if mapAbsent w then none
  else if pairUsable s (mapPrimary w) then some (mapPrimary w)
  else (mapSpares w).find? (pairUsable s)

/-- The check for one column with window starts. -/
def spareBad (s : State) (c : Comb) (col : Nat) : Check :=
  let k := col / 4
  let free := (List.range 4).map (4 * k + ·) |>.filter fun x => !mapAbsent (c.mapWord x) && !c.bears x
  let spares := (mapSpares (c.mapWord col)).filter (pairUsable s)
  if !c.bears col then none
  else if free.isEmpty || !free.any fun x => pairUsable s (mapPrimary (c.mapWord x)) then some (0x09, detailOf 11 (4 * k))
  else match startHolder s c col with
  | none => some (0x09, detailOf 11 col)
  | some h => if (spares.filter (· ≠ h)).isEmpty then some (0x09, detailOf 11 col) else none

/-- Check 4. -/
def spareCheck (s : State) (c : Comb) : Check := (List.range 16).findSome? (spareBad s c)

/-! ### Check 5, code 0x0A (R58) -/

/-- Cells that limits may hold. -/
def limitPool : Nat := 126976

/-- Nodes reached in the graph from some nodes; `fuel` edges are enough. -/
def reachFrom (c : Comb) : Nat → List Nat → List Nat
  | 0, l => l
  | n + 1, l =>
    let next := ((c.graph.filter fun g => l.contains (edgeWaiter g)).map edgeProvider).filter (!l.contains ·)
    if next.isEmpty then l else reachFrom c n (l ++ next.eraseDups)

/-- Check 5. -/
def limitCheck (c : Comb) : Check :=
  let qs := (List.range 256).map fun q => (q, c.limit q)
  let spill := qs.filter fun e => limSpill e.2
  let one (bad : Nat × BitVec 64 → Bool) : Check := (qs.find? bad).map fun e => (0x0A, detailOf 8 e.1)
  let reached := reachFrom c 316 (((List.range 24).filter fun n => !c.pausable n).map (284 + ·))
  firstOf [
    fun _ => wholeBad 0x0A (limitPool < (qs.map fun e => limReserved e.2).sum),
    fun _ => one fun e => limMaximum e.2 < limReserved e.2 || limitPool < limMaximum e.2,
    fun _ => one fun e => limSpill e.2 && c.spillMib == 0,
    fun _ => wholeBad 0x0A (c.spillMib * 1048576 < (spill.map fun e => 72 * (limMaximum e.2 - limReserved e.2)).sum),
    fun _ => wholeBad 0x0A ((List.range 18).any c.pausable),
    fun _ => one fun e => !limSpill e.2 && reached.contains e.1 && limMaximum e.2 ≠ limReserved e.2]

/-! ### The verifier (R52) -/

/-- The checks of R52 in their order; none: the Comb is accepted. [log 16 DEDUCED] -/
def verifyComb (s : State) (img : Blob) : Check :=
  match imageFault img with
  | some d => some (0x01, d)
  | none =>
    let c := parseComb img
    firstOf [
      fun _ => wholeBad 0x02 (!signaturesGood s img),
      fun _ => wholeBad 0x03 (c.generation < val s (odKey 0x3904 1)),
      fun _ => structureCheck s c,
      fun _ => compatCheck s c,
      fun _ => placementCheck s c,
      fun _ => creditCheck c,
      fun _ => (List.range c.hyper).findSome? (slotBad c),
      fun _ => (c.wins.zipIdx.find? fun e => timingBad c e.2 e.1).map fun e => (0x07, detailOf 2 e.2),
      fun _ => (List.range 16).findSome? (spacingBad c),
      fun _ => firstBad 3 0x08 c.flows (flowBad s c),
      fun _ => spareCheck s c,
      fun _ => limitCheck c]

/-! ### Residency (R33) and the acceptance tag (R452) -/

/-- Entries put into a shared table with the residency bit of a bank; an equal entry gains the bit. -/
def placeAll {α : Type} [DecidableEq α] (bit : Nat) (mine : List α) (tab : List (α × Nat)) : List (α × Nat) :=
  mine.foldl (fun t x =>
    if t.any fun e => e.1 = x then t.map fun e => if e.1 = x then (e.1, e.2 ||| 2 ^ bit) else e else t ++ [(x, 2 ^ bit)]) tab

/-- The residency bit of a bank cleared; positions without a bit are free. -/
def unplace {α : Type} (bit : Nat) (tab : List (α × Nat)) : List (α × Nat) :=
  (tab.map fun e => (e.1, if e.2.testBit bit then e.2 - 2 ^ bit else e.2)).filter fun e => e.2 ≠ 0

/-- A Comb's routes and PDUs in the shared tables. [log 20 DEDUCED] -/
def placeComb (bit : Nat) (c : Comb) (m : CombSt) : CombSt :=
  { m with routeTab := placeAll bit c.routes m.routeTab, pduTab := placeAll bit c.pdus m.pduTab }

/-- The residency bits of a bank cleared. -/
def unplaceComb (bit : Nat) (m : CombSt) : CombSt :=
  { m with routeTab := unplace bit m.routeTab, pduTab := unplace bit m.pduTab }

/-- The residency bit of the standby bank. -/
def CombSt.standbyBit (m : CombSt) : Nat := 1 - m.bank

/-- A refusal of the standby bank: REFUSED, nothing of it in effect, the code and detail stored, an event (R51). -/
def refuseStandby (code detail : Nat) (s : State) : State :=
  logEvent 1 clsRefusal code (odKey 0x3901 3) (leBytes 4 detail)
    { s with comb := { unplaceComb s.comb.standbyBit s.comb with
        standby := none, image := [], state := .refused, refusal := code, detail := detail } }

end Sys2Proof.Machine
end

