-- ==== Sys2Proof/Machine/FabOps.lean ====
section
/-! DEFINITION. The switch core's operations (R67-R101): frames and cells, limits and pools, back-pressure, credits, the
flush of a port, flow hashing, and the books. -/

namespace Sys2Proof.Machine

/-! ### Frames and queues -/

/-- The switch core changed by `f`. -/
def modFab (f : FabSt → FabSt) (s : State) : State := { s with fab := f s.fab }

/-- A frame copy by number. -/
def frameAt (s : State) (id : Nat) : Option Frame := s.fab.frames.find? (·.id == id)

/-- A frame copy changed. -/
def modFrame (id : Nat) (f : Frame → Frame) (s : State) : State :=
  modFab (fun b => { b with frames := b.frames.map fun x => if x.id = id then f x else x }) s

/-- A frame copy leaves the device. -/
def dropFrame (id : Nat) (s : State) : State := modFab (fun b => { b with frames := b.frames.filter (·.id ≠ id) }) s

/-- Cells of a frame (R68). -/
def Frame.cells (f : Frame) : Nat := ceilDiv f.bytes.length 64

/-- Cell `i` is the frame's last: the frame is complete at its input and ends with it. -/
def Frame.ends (f : Frame) (i : Nat) : Bool := f.whole && i + 1 == f.cells

/-- Queue number of an output and class (R78). -/
def queueNo (out tc : Nat) : Nat := 8 * out + tc
/-- A frame's output queue. -/
def Frame.queue (f : Frame) : Nat := queueNo f.outPort f.tc

def queueAt (s : State) (q : Nat) : OutQueue := (s.fab.queues[q]?).getD {}
def modQueue (q : Nat) (f : OutQueue → OutQueue) (s : State) : State := modFab (fun b => { b with queues := vmod b.queues q f }) s
def fabPortAt (s : State) (p : Nat) : FabPort := (s.fab.ports[p]?).getD {}
def modFabPort (p : Nat) (f : FabPort → FabPort) (s : State) : State := modFab (fun b => { b with ports := vmod b.ports p f }) s

/-- Cells counted against a queue's limits (R80). -/
def OutQueue.occupancy (q : OutQueue) : Nat := q.cells.length

/-- A cell stands on chip. -/
def Pool.onChip : Pool → Bool
  | .reserved | .shared | .headroom | .spillPending | .headroomPending => true
  | .dram | .transit => false

/-- A cell waits for its write to the DRAM tail (R81, R84). -/
def Pool.toSpill : Pool → Bool
  | .spillPending | .headroomPending => true
  | _ => false

/-! ### The cell header (R69) -/

/-- The fields of a header. -/
structure CellHdr where
  first : Bool
  last : Bool
  inPort : Nat
  outPort : Nat
  tc : Nat
  /-- Valid bytes of the cell. -/
  valid : Nat
  len : Nat
  cseq : Nat
  flow : Option Nat
  err : Bool
  ct : Bool
  ciph : Bool
  win : Bool
  hash : Nat
  ts : Nat

/-- The 128 bits of a header, HCRC in its low byte. -/
def CellHdr.bits (h : CellHdr) : Nat :=
  let ctype := if h.first then (if h.last then 3 else 1) else if h.last then 2 else 0
  let fields : List (Nat × Nat) :=
    [(2, ctype), (5, h.inPort), (5, h.outPort), (3, h.tc), (6, h.valid - 1), (14, h.len), (16, h.cseq), (14, h.flow.getD 0),
     (1, h.flow.isSome.toNat), (1, h.err.toNat), (1, h.ct.toNat), (1, h.ciph.toNat), (1, h.win.toNat), (8, h.hash), (32, h.ts), (10, 0)]
  let body := fields.foldl (fun a e => a * 2 ^ e.1 + e.2 % 2 ^ e.1) 0
  body * 256 + crc8 0x2F (bitsMsb 120 body)

/-- The header of a cell of a frame; until the frame is complete at its input, FRAME_LEN is the length the input has seen. -/
def Frame.header (f : Frame) (c : CellRef) : CellHdr :=
  { first := c.idx == 0, last := f.ends c.idx, inPort := if f.plain then f.rxPort else f.inPort, outPort := f.outPort, tc := f.tc
    valid := if f.ends c.idx then f.bytes.length - 64 * c.idx else 64, len := f.bytes.length, cseq := c.cseq, flow := f.flow
    err := f.err, ct := f.ct, ciph := f.ciph, win := f.win, hash := f.hash, ts := f.ts }

/-- Header and payload of a cell: its 80 bytes. -/
def Frame.image (f : Frame) (c : CellRef) : Blob := beBytes 16 (f.header c).bits ++ subPad f.bytes (64 * c.idx) 64

/-! ### Limits (R80, R509) and pools (R81) -/

/-- The limits in force: the active Comb's, or those of R509. -/
def limitOf (s : State) (q : Nat) : BitVec 64 :=
  match s.comb.active with
  | some c => c.limit q
  | none => BitVec.ofNat 64 (256 + 256 * 2 ^ 17 + 16 * 2 ^ 35 + 16 * 2 ^ 47)

/-- XOFF and XON thresholds. -/
def xoffAt (s : State) (q : Nat) : Nat := limMaximum (limitOf s q) - limXoffOfs (limitOf s q)
def xonAt (s : State) (q : Nat) : Nat := xoffAt s q - limXonHyst (limitOf s q)

/-- Cells of a pool in use over all queues. -/
def poolUsed (s : State) (want : Pool → Bool) : Nat :=
  (s.fab.queues.toList.map fun q => (q.cells.filter fun c => want c.2).length).sum

/-- Cells of the shared pool that are free. -/
def sharedFree (s : State) : Nat :=
  limitPool - ((List.range 256).map fun q => limReserved (limitOf s q)).sum -
    poolUsed s fun p => p == .shared || p == .spillPending

/-- Cells of headroom in use (0x3800/05). -/
def headroomUsed (s : State) : Nat := poolUsed s fun p => p == .headroom || p == .headroomPending

/-- Where a cell bound for a queue is placed (R81), and whether the queue then is in spill mode; none: it stays in
staging. `begun`: an earlier cell of its frame stands in the queue or has left it. -/
def placeCell (s : State) (q : Nat) (begun : Bool) : Option (Pool × Bool) :=
  let x := queueAt s q
  let l := limitOf s q
  if limMaximum l ≤ x.occupancy then
    if begun ∧ headroomUsed s < 3584 then
      if !x.spill then some (.headroom, false) else if s.fab.spillInFlight < 512 then some (.headroomPending, true) else none
    else none
  else if x.spill then (if 0 < sharedFree s ∧ s.fab.spillInFlight < 512 then some (.spillPending, true) else none)
  else if x.occupancy < limReserved l then some (.reserved, false)
  else if !limSpill l then (if 0 < sharedFree s then some (.shared, false) else none)
  else if 0 < sharedFree s ∧ s.fab.spillInFlight < 512 then some (.spillPending, true) else none

/-! ### The books' cell counters (R92) -/

/-- A cell is allocated, or freed, on chip. -/
def allocCell (s : State) : State := modFab (fun b => { b with freeCells := b.freeCells - 1, allocCells := b.allocCells + 1 }) s
def freeCell (s : State) : State := modFab (fun b => { b with freeCells := b.freeCells + 1, allocCells := b.allocCells - 1 }) s

/-- Capacity of the spill region in cells. -/
def spillCapacity (s : State) : Nat := match s.comb.active with | some c => c.spillMib * 1048576 / 72 | none => 0

/-- What leaves with a cell of a pool: an on-chip cell is freed, a spilled one leaves the region. -/
def releasePool (p : Pool) (s : State) : State :=
  match p with
  | .reserved | .shared | .headroom => freeCell s
  | .spillPending | .headroomPending => freeCell (modFab (fun b => { b with spillInFlight := b.spillInFlight - 1 }) s)
  | .dram => modFab (fun b => { b with spillUsed := b.spillUsed - 1, spillFree := b.spillFree + 1 }) s
  | .transit => freeCell (modFab (fun b => { b with spillInFlight := b.spillInFlight - 1 }) s)

/-! ### Counters by port (R104) -/

def framesInKey (f : Nat) : Nat := odKey 0x3801 (f + 1)
def framesOutKey (f : Nat) : Nat := odKey 0x3802 (f + 1)
def policedKey (n : Nat) : Nat := odKey 0x3803 (n + 1)
def flushedKey (f : Nat) : Nat := odKey 0x3804 (f + 1)
def releasedKey (f : Nat) : Nat := odKey 0x3806 (f + 1)

/-- A frame copy leaves its output, or is flushed at port `n`: the counter of that port, and the book of its input (R93). -/
def countOut (f : Frame) (s : State) : State :=
  count64 (framesOutKey f.outPort) (modFabPort f.inPort (fun p => { p with bookOut := p.bookOut + 1 }) s)
def countFlushed (n : Nat) (f : Frame) (s : State) : State :=
  count64 (flushedKey n) (modFabPort f.inPort (fun p => { p with bookFlushed := p.bookFlushed + 1 }) s)

/-- A frame copy of an external port is discarded at the policer stage (R89, R93). -/
def countPoliced (n cause copies : Nat) (s : State) : State :=
  (List.range copies).foldl (fun s _ => count (odKey 0x3803 (0x20 + cause)) (count64 (policedKey n) s)) s

/-! ### Ports as sources and sinks -/

/-- The output can still send: it is not down, and no flush gate is closed. -/
def outputDown (s : State) (f : Nat) : Bool := f < 24 && ((portAt s f).st == .down || (portAt s f).flushing)

/-- A GE or XG port that can be paused (R85, R182): full duplex, mode 1 or 2. -/
def canPause (s : State) (n : Nat) : Bool :=
  18 ≤ n && n < 24 && val s (pk n 1 3) == 0 && (val s (pk n 3 3) == 1 || val s (pk n 3 3) == 2)

/-- Priority of a class (base + 0x03/02), class of a priority (base + 0x03/01). -/
def prioOf (s : State) (n tc : Nat) : Nat := bitsOf (val s (pk n 3 2)) (4 * tc + 2) (4 * tc)
def classOf (s : State) (n pcp : Nat) : Nat := bitsOf (val s (pk n 3 1)) (4 * pcp + 2) (4 * pcp)

/-- The class takes part in PFC on the port: mode 2 and its bit set; otherwise 802.3 pause is sent (R85). [log 23 DEDUCED] -/
def pfcFor (s : State) (n tc : Nat) : Bool := val s (pk n 3 3) == 2 && (val s (pk n 3 4)).testBit tc

/-- The class-enable vector a back-pressure signal carries: the priority's bit under PFC, 0 for 802.3 pause. -/
def pauseVector (s : State) (n tc : Nat) : Nat := if pfcFor s n tc then 2 ^ prioOf s n tc else 0

/-- A pause or PFC frame is sent after the frame in transmission and ahead of every queued frame (R180, R182). [log 23 DEDUCED] -/
def sendPause (n vec quanta : Nat) (s : State) : State :=
  if ((portAt s n).eth.tx).isSome then modPort n (fun p => { p with eth := { p.eth with control := p.eth.control ++ [(vec, quanta)] } }) s
  else count (pk n 3 8) (emit (.pause n vec quanta) s)

/-! ### Back-pressure (R85) -/

/-- Inputs with a cell in the queue or staged for it. -/
def contributorsOf (s : State) (q : Nat) : List Nat :=
  (List.range 32).filter fun i =>
    ((queueAt s q).cells.any fun c => (frameAt s c.1.frame).any fun f => f.inPort == i) ||
    (fabPortAt s i).staging.any fun c => (frameAt s c.frame).any fun f => f.queue == q

/-- Ask an input to stop for a queue's class. -/
def askPause (q i : Nat) (s : State) : State :=
  if (fabPortAt s i).pausedBy.contains q then s
  else
    let s := modFabPort i (fun p => { p with pausedBy := p.pausedBy ++ [q], pausePs := mapPut q (nowPs s) p.pausePs }) s
    if canPause s i then sendPause i (pauseVector s i (q % 8)) 0xFFFF s else s

/-- The input is back-pressured for a class: by PFC for its priority, or by an 802.3 pause, which stops every class (R85, R86). -/
def pausedFor (s : State) (n tc : Nat) : Bool :=
  (fabPortAt s n).pausedBy.any fun q => pauseVector s n (q % 8) == 0 || pauseVector s n (q % 8) == pauseVector s n tc

/-- Withdraw that request; the release is sent once no other queue asks for the same pause (R85, R99). -/
def dropPause (q i : Nat) (s : State) : State :=
  if (fabPortAt s i).pausedBy.contains q then
    let s := modFabPort i (fun p => { p with
      pausedBy := p.pausedBy.filter (· ≠ q), pausePs := p.pausePs.filter (·.1 ≠ q) }) s
    let s := modFabPort i (fun p => { p with graceUsed := p.graceUsed.filter fun e => pausedFor s i e.1 }) s
    let vec := pauseVector s i (q % 8)
    if canPause s i ∧ ¬ (fabPortAt s i).pausedBy.any fun r => pauseVector s i (r % 8) == vec then sendPause i vec 0 s else s
  else s

/-- Assert or release a queue's back-pressure after its occupancy changed (R85). A queue above a new maximum asserts
it too (R64). -/
def pressure (q : Nat) (s : State) : State :=
  let x := queueAt s q
  let n := x.occupancy
  if x.xoff then
    if n ≤ xonAt s q then
      let s := modQueue q (fun x => { x with xoff := false, contributors := [] }) s
      x.contributors.foldl (fun s i => dropPause q i s) s
    else
      let more := (contributorsOf s q).filter (!x.contributors.contains ·)
      let s := modQueue q (fun x => { x with contributors := x.contributors ++ more }) s
      more.foldl (fun s i => askPause q i s) s
  else if xoffAt s q ≤ n ∧ 0 < n then
    let cs := contributorsOf s q
    let s := modQueue q (fun x => { x with xoff := true, contributors := cs }) s
    cs.foldl (fun s i => askPause q i s) s
  else s

/-! ### Staging (R75, R85) -/

/-- A cell waiting at its source may enter staging: an internal source holds a credit of its queue. -/
def mayStage (s : State) (p : Nat) (c : CellRef) : Bool :=
  p < 24 || (match frameAt s c.frame with
    | some f => (queueAt s f.queue).credits < xoffAt s f.queue && !(queueAt s f.queue).xoff
    | none => true)

/-- CSEQ of the next cell from an input to an output queue, and its step (R69): 16 bits, wraps to 0. -/
def cseqOf (s : State) (p q : Nat) : Nat := (mapGet (p * 256 + q) s.fab.cseq).getD 0
def stepCseq (p q : Nat) (s : State) : State :=
  modFab (fun b => { b with cseq := mapPut (p * 256 + q) ((cseqOf s p q + 1) % 2 ^ 16) b.cseq }) s

/-- The column, within its cluster, whose window output buffer a cell stands in. -/
def columnOf (s : State) (c : CellRef) : Nat := ((frameAt s c.frame).map (·.col)).getD 0

/-- The cell a source stages next: the oldest that may enter; at a cluster's port the oldest of the window output buffer that the
round-robin pointer gives (R253). -/
def nextStaged (s : State) (p : Nat) : Option CellRef :=
  let x := fabPortAt s p
  let may := x.arriving.filter (mayStage s p)
  if 24 ≤ p ∧ p < 28 then
    (rrPick 4 x.colPtr fun k => may.any fun c => columnOf s c == k).bind fun k => may.find? fun c => columnOf s c == k
  else may.head?

/-- One cell from the source into staging, with its CSEQ; a queue in back-pressure asks the input too (R85). -/
def stageOne (p : Nat) (s : State) : State :=
  let x := fabPortAt s p
  if 16 ≤ x.staging.length ∨ s.fab.freeCells = 0 then s
  else match nextStaged s p with
  | none => s
  | some c =>
    let s := modFabPort p (fun x => { x with colPtr := if 24 ≤ p ∧ p < 28 then rrNext 4 (columnOf s c) else x.colPtr }) s
    match frameAt s c.frame with
    | none => modFabPort p (fun x => { x with arriving := x.arriving.filter (· ≠ c) }) s
    | some f =>
      let c' : CellRef := { c with cseq := cseqOf s p f.queue }
      let s := modFabPort p (fun x => { x with arriving := x.arriving.filter (· ≠ c), staging := x.staging ++ [c'] }) (allocCell s)
      let s := stepCseq p f.queue s
      let s := if p < 24 then s else modQueue f.queue (fun q => { q with credits := q.credits + 1 }) s
      if (queueAt s f.queue).xoff then pressure f.queue s else s

/-- Cells move into staging while there is room. -/
def fillStaging (p : Nat) (s : State) : State := (List.range 16).foldl (fun s _ => stageOne p s) s

/-- Cells `first` up to `n` of a frame arrive at its input. -/
def sendCells (id first n : Nat) (s : State) : State :=
  match frameAt s id with
  | none => s
  | some f =>
    let cs : List CellRef := (List.range (n - first)).map fun i => { frame := id, idx := first + i }
    fillStaging f.inPort (modFabPort f.inPort (fun p => { p with arriving := p.arriving ++ cs }) s)

/-- A frame copy enters the device: it counts as in at its first cell (R93) and is matched to a flow (R47). -/
def addFrame (f : Frame) (s : State) : State × Nat :=
  let id := s.fab.nextFrame
  let flow := s.comb.active.bind fun c => c.flowOf f.inPort f.outPort f.tc
  let win := f.inPort < 24 && (match s.comb.active, flow with | some c, some i => flowWinEn (c.flows.getD i 0) | _, _ => false)
  (count64 (framesInKey f.inPort) (modFab (fun b => { b with
      nextFrame := id + 1, frames := b.frames ++ [{ f with id := id, flow := flow, win := win }] }) s), id)

/-- A whole frame enters at a fabric port. -/
def sendFrame (f : Frame) (s : State) : State :=
  let (s, id) := addFrame f s
  sendCells id 0 f.cells s

/-! ### Leaving -/

/-- XOR of two cells' images. -/
def xorCell (a b : Blob) : Blob := (List.range 80).map fun i => a.getD i 0 ^^^ b.getD i 0

/-- A cell leaves the DRAM segment: its group's parity is kept over the cells that remain (R83). -/
def OutQueue.undram (q : OutQueue) (c : CellRef) : OutQueue :=
  match q.dram.find? (·.1 == c) with
  | none => q
  | some (_, g, img) =>
    let rest := q.dram.filter (·.1 ≠ c)
    let live (e : Nat) : Bool := rest.any (·.2.1 == e) || e == q.groupSeq
    { q with
      dram := rest
      parity := (mapPut g (xorCell ((mapGet g q.parity).getD []) img) q.parity).filter (live ·.1)
      groupLost := q.groupLost.filter (live ·.1) }

/-- A queue with an empty DRAM segment and nothing in transit leaves spill mode; a short group is closed (R82, R83). -/
def OutQueue.unspill (q : OutQueue) : OutQueue :=
  if q.spill ∧ ¬ q.cells.any fun c => c.2 == .dram || c.2 == .transit || c.2.toSpill then
    { q with spill := false, dram := [], parity := [], groupLost := [], groupFill := 0
             groupSeq := if q.groupFill = 0 then q.groupSeq else (q.groupSeq + 1) % 2 ^ 32 }
  else q

/-- Cells of one frame leave its queue: they are freed and their credits returned; queue order and frame list close up. -/
def takeCells (id : Nat) (s : State) : State :=
  match frameAt s id with
  | none => s
  | some f =>
    let mine := (queueAt s f.queue).cells.filter fun c => c.1.frame == id
    let s := modQueue f.queue (fun q => { q with
      cells := q.cells.filter fun c => c.1.frame ≠ id, frames := q.frames.filter (· ≠ id),
      credits := if f.inPort < 24 then q.credits else q.credits - mine.length }) s
    let s := mine.foldl (fun s c => releasePool c.2 s) s
    pressure f.queue (modQueue f.queue (fun q => (mine.foldl (fun q c => q.undram c.1) q).unspill) s)

/-- Cells of a frame that never crossed are freed from its input's staging and source. -/
def dropStaged (id : Nat) (s : State) : State :=
  match frameAt s id with
  | none => s
  | some f =>
    let n := ((fabPortAt s f.inPort).staging.filter (·.frame == id)).length
    let s := modFabPort f.inPort (fun p => { p with
      staging := p.staging.filter (·.frame ≠ id), arriving := p.arriving.filter (·.frame ≠ id) }) s
    let s := if f.inPort < 24 then s else modQueue f.queue (fun q => { q with credits := q.credits - n }) s
    (List.range n).foldl (fun s _ => freeCell s) s

/-- Every cell of a frame goes, and the frame. -/
def removeFrame (id : Nat) (s : State) : State :=
  match frameAt s id with
  | none => s
  | some f => fillStaging f.inPort (dropFrame id (takeCells id (dropStaged id s)))

/-- A frame has left the output MAC or was taken by an internal destination: it counts as out (R93). -/
def frameOut (id : Nat) (s : State) : State :=
  match frameAt s id with
  | none => s
  | some f => removeFrame id (countOut f s)

/-- A frame is discarded at the output and counted as flushed. -/
def frameFlushed (id : Nat) (s : State) : State :=
  match frameAt s id with
  | none => s
  | some f => removeFrame id (countFlushed f.outPort f s)

/-- Frames of a port's eight queues, in order of service (R78). -/
def servedOrder (s : State) (out : Nat) : List Nat :=
  (List.range 8).flatMap fun i => (queueAt s (queueNo out (7 - i))).frames

/-- A frame stands complete in its queue. -/
def frameComplete (s : State) (id : Nat) : Bool := (frameAt s id).any fun f => f.whole && f.crossed == f.cells

/-- A frame's cells all stand on chip in its queue, but for those its output has sent already. -/
def frameReady (s : State) (id : Nat) : Bool :=
  match frameAt s id with
  | none => false
  | some f => f.whole && ((queueAt s f.queue).cells.filter fun c => c.1.frame == id && c.2.onChip).length + f.sent == f.cells

/-! ### Cut-through (R79, R90) -/

/-- An output is idle (R79). -/
def outputIdle (s : State) (f : Nat) : Bool :=
  (if isEth f then ((portAt s f).eth.tx).isNone else true) && !(servedOrder s f).any (frameComplete s)

/-- The output's bit rate is not higher than the input's; an internal port, for which the spec states no rate, holds no frame
back. [log 122 DESIGN CHOICE] -/
def rateAdmits (s : State) (inp out : Nat) : Bool :=
  24 ≤ out || 24 ≤ inp || (portRate s out).1 * (portRate s inp).2 ≤ (portRate s inp).1 * (portRate s out).2

/-- A cut-through decision at a frame's first cell (R90). [log 122 DESIGN CHOICE] -/
def cutThrough (s : State) (inp out tc : Nat) : Bool :=
  14 ≤ out && outputIdle s out && !(s.fab.planeA.failed || s.fab.planeB.failed) &&
  rateAdmits s inp out &&
  (match s.comb.active with
   | some c => c.acts.any fun a => actType a == 1 && actIn a == inp && actOut a == out && actTc a == tc
   | none => false)

/-! ### Policing (R86, R88) -/

/-- Bucket of a port and class refilled up to now: tokens in millionths of a bit, ceiling 8 b (R88). [log 26 DEDUCED] -/
def bucketNow (s : State) (n tc : Nat) : Bucket :=
  let b := (s.fab.buckets[8 * n + tc]?).getD {}
  let rate := val s (odKey (0x3830 + n) (1 + tc))
  let top : Int := 8 * val s (odKey (0x3830 + n) (9 + tc)) * 1000000
  { micro := min top (b.micro + ((nowPs s - b.atPs) * rate / 1000 : Nat)), atPs := nowPs s }

/-- The bucket holds at least one token, and its rate is not 0, which admits nothing (R88, R104). [log 26 DEDUCED] -/
def bucketAdmits (s : State) (n tc : Nat) : Bool :=
  val s (odKey (0x3830 + n) (1 + tc)) ≠ 0 && 1000000 ≤ (bucketNow s n tc).micro

/-- A bucket takes the refill of the time that has passed: before its rate or depth changes, and at a charge. -/
def settleBucket (n tc : Nat) (s : State) : State :=
  modFab (fun b => { b with buckets := vmod b.buckets (8 * n + tc) fun _ => bucketNow s n tc }) s

/-- Every bucket at its reset value, 8 b tokens (R92). -/
def resetBuckets (s : State) : State :=
  modFab (fun b => { b with buckets := Vector.ofFn fun i =>
    { micro := 8 * val s (odKey (0x3830 + i.val / 8) (9 + i.val % 8)) * 1000000, atPs := nowPs s } }) s

/-- `8 L` tokens go at a frame's last cell. [log 26 DEDUCED] -/
def bucketCharge (n tc len : Nat) (s : State) : State :=
  modFab (fun b => { b with buckets := vmod b.buckets (8 * n + tc) fun _ =>
    let x := bucketNow s n tc
    { x with micro := max (-131064 * 1000000) (x.micro - 8 * len * 1000000) } }) s

/-- The class is back-pressured at this input and its pause grace is used up (R86). -/
def graceOver (s : State) (n tc : Nat) : Bool :=
  canPause s n && pausedFor s n tc &&
  val s (odKey 0x3807 (n + 1)) ≤ (mapGet tc (fabPortAt s n).graceUsed).getD 0

/-- Time the pause of a class has lasted at an input, in ps. -/
def pausedSince (s : State) (n tc : Nat) : Nat :=
  ((fabPortAt s n).pausePs.filter fun e => pauseVector s n (e.1 % 8) == 0 || pauseVector s n (e.1 % 8) == pauseVector s n tc).foldl
    (fun m e => max m (nowPs s - e.2)) 0

/-- Cells received while paused count against the grace (R86). [log 26 DEDUCED] -/
def graceCount (n tc cells : Nat) (s : State) : State :=
  if canPause s n ∧ pausedFor s n tc then
    modFabPort n (fun p => { p with graceUsed := mapPut tc ((mapGet tc p.graceUsed).getD 0 + cells) p.graceUsed }) s
  else s

/-- The policer's decision at a first cell: a cause of R89, or none. [log 26 DEDUCED] -/
def policeCause (s : State) (n tc : Nat) : Option Nat :=
  if graceOver s n tc then some 2 else if bucketAdmits s n tc then none else some 1

/-- A source that cannot be paused finds staging and a frame's queue full: cause 5 (R89). -/
def sourceFull (s : State) (n out tc : Nat) : Bool :=
  isEth n && !canPause s n && 16 ≤ (fabPortAt s n).staging.length && (out < 24 || out == 29) && !outputDown s out &&
  (placeCell s (queueNo out tc) false).isNone

/-! ### Flow hash and path groups (R100, R101) -/

/-- The fields of a frame that R100 can select, in the order of the mask's bits. -/
structure HashFields where
  da : Blob := []
  sa : Blob := []
  vid : Blob := []
  etype : Blob := []
  ip : Blob := []
  ports : Blob := []
  canId : Blob := []
  inp : Nat := 0

/-- The bucket of a frame under an input's field mask (0x3809). [log 29 DEDUCED] -/
def hashBucket (s : State) (h : HashFields) : Nat :=
  let m := val s (odKey 0x3809 (h.inp + 1))
  let pick (i : Nat) (b : Blob) : Blob := if m.testBit i then b else []
  crc32c (pick 0 h.da ++ pick 1 h.sa ++ pick 2 h.vid ++ pick 3 h.etype ++ pick 4 h.ip ++ pick 5 h.ports ++ pick 6 h.canId ++
    pick 7 (leBytes 1 h.inp)) % 256

/-- The cluster a PDU's CMASK selects for a bucket: of several that the part has, the member of the bucket's number (R2, R100, R123). [log 29 DEDUCED] -/
def clusterFor (s : State) (cmask bucket : Nat) : Option Nat :=
  let ks := (List.range 4).filter fun k => cmask.testBit k && clusterFitted s k
  ks[bucket % max ks.length 1]?

/-- XG0 and XG1 form an aggregate. [log 29 DEDUCED] -/
def aggregated (s : State) : Bool := flag s (pk 22 1 6) && flag s (pk 23 1 6)

/-- Destination ports with the aggregate's two members as one destination, pinned by the bucket (R100). [log 29 DEDUCED] -/
def pinAggregate (s : State) (bucket : Nat) (dests : List Nat) : List Nat :=
  if aggregated s ∧ (22 ∈ dests ∨ 23 ∈ dests) then
    (dests.filter fun d => d ≠ 22 ∧ d ≠ 23) ++ [22 + s.fab.pathXg.getD bucket 0]
  else dests

/-- A member of the aggregate that runs. -/
def memberUp (s : State) (m : Nat) : Bool := (portAt s (22 + m)).st == .running

/-- A down member's buckets move to the other member where it is up; with none left they stay (R101). [log 29 DEDUCED] -/
def moveBuckets (n : Nat) (s : State) : State :=
  if aggregated s ∧ (n = 22 ∨ n = 23) ∧ memberUp s (23 - n) then
    modFab (fun b => { b with pathXg := b.pathXg.map fun m => if m = n - 22 then 23 - n else m }) s
  else s

/-- A frame of a bucket waits for a member, in its queues or at F29. -/
def bucketBusy (s : State) (m i : Nat) : Bool :=
  s.fab.frames.any fun f => f.hash == i && (f.outPort == 22 + m || (f.outPort == 29 && f.next == some (22 + m)))

/-- At a boundary a member that is up takes back its buckets whose flows have nothing queued on the other; it takes those of
a member that is down as well (R101). A bucket's home is its number modulo 2. [log 29 DEDUCED] -/
def returnBuckets (s : State) : State :=
  if aggregated s then
    let home (m i : Nat) : Nat :=
      if bucketBusy s m i then m
      else if memberUp s (i % 2) then i % 2
      else if !memberUp s m && memberUp s (1 - m) then 1 - m else m
    modFab (fun b => { b with pathXg := b.pathXg.zipIdx.map fun e => home e.1 e.2 }) s
  else s

/-! ### Port down and flush (R97-R99) -/

/-- Frames that wait at F29 for a port's transmit lanes. [log 52 DEDUCED] -/
def waitingAtF29 (s : State) (n : Nat) : List Nat :=
  (s.fab.frames.filter fun f => f.outPort == 29 && f.next == some n && !f.taken).map (·.id)

/-- Frames bound for a port that the flush takes: in its queues, in its buffers, in transmission. -/
def flushSet (s : State) (n : Nat) : List Nat :=
  (s.fab.frames.filter fun f => f.outPort == n &&
    (f.taken || (queueAt s f.queue).frames.contains f.id || (queueAt s f.queue).cells.any fun c => c.1.frame == f.id)).map (·.id)

/-- Flush some frames of a port and count them. A frame of the MACsec queue at F29 counts at the port (R194). [log 25 DEDUCED] -/
def flushFrames (n : Nat) (ids : List Nat) (s : State) : State :=
  ids.foldl (fun s id =>
    match frameAt s id with
    | none => s
    | some f =>
      modPort n (fun p => { p with flushedFrames := p.flushedFrames + 1, flushedCells := p.flushedCells + f.cells })
        (removeFrame id (countFlushed n f s))) s

/-- A cut-through frame whose input fails leaves with an inverted FCS; it is counted in 0x3804 and as a frame out (R91). [log 25 DEDUCED] -/
def stompFrame (id : Nat) (s : State) : State :=
  match frameAt s id with
  | none => s
  | some f =>
    count64 (flushedKey f.outPort) (modFrame id (fun f => { f with err := true, whole := true }) s)

/-- An internal destination other than F29 has taken a whole frame: it counts as out; the keeper gets its bytes (R93). -/
def endInternal (id : Nat) (s : State) : State :=
  match frameAt s id with
  | none => s
  | some f =>
    if f.whole ∧ f.crossed = f.cells ∧ 24 ≤ f.outPort ∧ f.outPort ≠ 29 then
      dropFrame id (countOut f (if f.outPort = 28 then emit (.toKeeper f.bytes f.err) s else s))
    else s

/-- A reception in progress on a port that goes down ends: cause 4, or in cut-through an inverted FCS (R89, R91, R97). -/
def cutReception (n : Nat) (s : State) : State :=
  match (s.fab.ingress[n]?).join with
  | none => s
  | some g =>
    let s := modFab (fun b => { b with ingress := vmod b.ingress n fun _ => none }) s
    g.copies.foldl (fun s id =>
      match frameAt s id with
      | none => s
      | some f =>
        if f.ct then endInternal id (stompFrame id s)
        else removeFrame id (countPoliced n 4 1 s)) s

/-- Clear the state a port does not keep through a down or a stop: buffers, pauses, what it was sending. -/
def Port.cleared (p : Port) : Port :=
  { p with
    integrating := false
    can := { p.can with bufs := [], refBuf := none }
    lin := { p.lin with resp := [], header := none, readback := 0, headerBad := false }
    eth := { p.eth with tx := none, control := [], pauses := Vector.replicate 8 {}, attempts := 0, backoff := false, pnExhausted := false } }

/-- Gate closed: everything the port's output holds is flushed (steps 1-5 of R97); its queues start empty. -/
def beginFlush (n : Nat) (s : State) : State :=
  let s := modPort n (fun p => { p with flushing := true, flushedFrames := 0, flushedCells := 0 }) s
  let s := flushFrames n (flushSet s n) s
  modPort n Port.cleared s

/-- Every request for a pause on a port stops with the flush of that port's queues (step 6). -/
def releaseQueues (n : Nat) (s : State) : State :=
  (List.range 8).foldl (fun s tc =>
    let q := queueNo n tc
    let cs := (queueAt s q).contributors
    let s := modQueue q (fun x => { x with xoff := false, contributors := [] }) s
    cs.foldl (fun s i => dropPause q i s) s) s

/-- Downs of a port within the last 60 s, this one included. -/
def downsNow (s : State) (n : Nat) : List Nat :=
  ((portAt s n).downTimes.filter fun t => nowPs s ≤ t + 60 * secPs) ++ [nowPs s]

/-! ### The time reference of a port (R35, R38, R196) -/

/-- The time reference is lost: the sequencer reports holdover and holds k = 0. -/
def loseReference (s : State) : State :=
  if s.comb.tickState = 1 ∨ (s.comb.tickState = 2 ∧ s.comb.refBack) then
    logEvent 1 clsState 2 (odKey 0x3903 1) [] { s with comb := { s.comb with tickState := 2, refBack := false } }
  else { s with comb := { s.comb with refBack := false } }

/-- A port leaves the time-aware system: it is no longer asCapable, and if it was the slave port, the device is grandmaster
or without an asCapable port, and a reference taken from it is lost (R196). -/
def leaveGptp (n : Nat) (s : State) : State :=
  let s := modPort n (fun p => { p with eth := { p.eth with asCapable := false, meanDelay := 0 } }) s
  if val s (odKey 0x1040 9) = 1 ∧ val s (odKey 0x1040 0xA) = n then
    let ports := (List.range 10).map (14 + ·)
    let st := if ports.any fun p => (portAt s p).eth.asCapable then 2 else if ports.any fun p => flag s (pk p 0xA 4) then 3 else 0
    let s := setVal (odKey 0x1040 0xB) 0 (setVal (odKey 0x1040 0xA) 0xFF (setVal (odKey 0x1040 9) st s))
    match s.comb.active with
    | some c => if c.tsrc = 1 ∧ c.tref = n then loseReference s else s
    | none => s
  else s

/-- What a port's State reads changes (R458): its domain is voted while it is not STOPPED or DOWN (R438), the keeper's
line 7 is set, and the change is logged with the down cause (R471). [log 46 DEDUCED] -/
def setPortState (n : Nat) (st : FnState) (s : State) : State :=
  if (portAt s n).st = st then s
  else
    let on : Bool := st != .stopped && st != .down
    let s := modPort n (fun p => { p with st := st }) s
    let s := if isEth n ∧ st ≠ .running then leaveGptp n s else s
    let s := { s with pwr := { s.pwr with
        votePort := vmod s.pwr.votePort n fun _ => on, ports := vmod s.pwr.ports n fun x => x && on } }
    keeperLine 7 (logEvent (16 + n) clsState (st.portCode + 256 * (portAt s n).downCause) (pk n 0 2) [] s)

/-- A port is declared down with a cause (R97, R153, R171): its flush begins, its buckets move, the down is counted; a
port that has reached its down limit is held down, with an event of its own. [log 46 DEDUCED] -/
def declareDown (n cause : Nat) (s : State) : State :=
  let times := downsNow s n
  let s := cutReception n s
  let s := modPort n (fun p => { p with downCause := cause, downTimes := times, holdoff := false, recoverySeq := false }) s
  let s := setPortState n .down s
  let s := moveBuckets n (beginFlush n (count (pk n 4 4) s))
  if val s (pk n 4 3) ≤ times.length then
    logEvent (16 + n) clsState (4 + 4 * 256) (pk n 0 2) [] (modPort n (fun p => { p with downCause := 4 }) s)
  else s

/-- The cause of a down on a port that is shutting down: the flush runs, and the shut-down ends with it (R457, R458). -/
def portDown (n cause : Nat) (s : State) : State :=
  match (portAt s n).st with
  | .running | .recovering | .busSleep => declareDown n cause s
  | .stopping | .pending =>
    if (portAt s n).flushing then s
    else beginFlush n (logEvent (16 + n) clsState (4 + 256 * cause) (pk n 0 2) [] (count (pk n 4 4) (cutReception n s)))
  | _ => s

/-! ### The books (R93-R96) -/

/-- Frames held that entered at a port: in the device and not counted out. [log 24 DEDUCED] -/
def framesHeld (s : State) (p : Nat) : Nat := (s.fab.frames.filter fun f => f.inPort == p && !(f.taken && f.outPort == 29)).length

/-- Left side minus right side of the frame book of the frames that entered at a port, less the corrections already recorded,
modulo 2^64 (R93, R96). -/
def frameImbalance (s : State) (p : Nat) : Int :=
  let x := fabPortAt s p
  let d : Int := (val s (framesInKey p) : Nat) - (x.bookOut : Nat) - (framesHeld s p : Nat) -
    (if p < 24 then val s (policedKey p) else 0 : Nat) - (x.bookFlushed : Nat) - x.bookCorr
  signedOf 64 (unsignedOf 64 d)

/-- The ports whose frame book a boundary finds out of balance; a port under flush is left to the next one (R95). [log 24 DEDUCED] -/
def frameImbalances (s : State) : List (Nat × Int) :=
  ((List.range 32).filter fun p => !(p < 24 && (portAt s p).flushing) && frameImbalance s p ≠ 0).map fun p => (p, frameImbalance s p)

/-- Credits held by internal sources: their cells staged for a queue or in it (R85). -/
def creditsHeld (s : State) (q : Nat) : Nat :=
  let internal (c : CellRef) : Bool := (frameAt s c.frame).any fun f => 24 ≤ f.inPort && f.queue == q
  ((queueAt s q).cells.filter fun c => internal c.1).length +
    ((List.range 8).map fun i => ((fabPortAt s (24 + i)).staging.filter internal).length).sum

/-- Queues whose issued credits are not the ones their sources hold, with the difference. [log 24 DEDUCED] -/
def creditImbalances (s : State) : List (Nat × Int) :=
  ((List.range 256).filter fun q => (queueAt s q).credits ≠ creditsHeld s q).map fun q =>
    (q, ((queueAt s q).credits : Int) - creditsHeld s q)

/-- Policers outside their token bounds (R93). -/
def tokenImbalances (s : State) : List (Nat × Int) :=
  ((List.range 192).filter fun i => ((s.fab.buckets[i]?).getD {}).micro < -131064 * 1000000).map fun i =>
    (i, (((s.fab.buckets[i]?).getD {}).micro + 131064 * 1000000) / 1000000)

/-- The imbalances of the five books, in the order of their codes (0x3820/03): code, what it concerns, difference. [log 24 DEDUCED] -/
def imbalances (s : State) : List (Nat × Nat × Int) :=
  let cells : Int := (s.fab.freeCells + s.fab.allocCells : Nat) - 131072
  let spill : Int := (s.fab.spillUsed + s.fab.spillFree : Nat) - (spillCapacity s : Nat)
  (if cells ≠ 0 then [(1, 0xFFFFFF, cells)] else []) ++
  (if spill ≠ 0 then [(2, 0xFFFFFF, spill)] else []) ++
  ((creditImbalances s).map fun e => (3, e.1, e.2)) ++ ((frameImbalances s).map fun e => (4, e.1, e.2)) ++
  ((tokenImbalances s).map fun e => (5, e.1, e.2))

/-- The audit of a boundary (R95, R96): every imbalance is counted and logged, a frame imbalance recorded as a
correction, and a rescan started. [log 24 DEDUCED] -/
def audit (s : State) : State :=
  let s := count (odKey 0x3820 1) s
  (imbalances s).foldl (fun s e =>
    let d := min (max e.2.2 (-(2 ^ 31))) (2 ^ 31 - 1)
    let s := setVal (odKey 0x3820 3) e.1 (count (odKey 0x3820 2) s)
    let s := if e.1 = 4 then
        countN (odKey 0x3820 5) e.2.2.natAbs (modFabPort e.2.1 (fun p => { p with bookCorr := p.bookCorr + e.2.2 }) s) else s
    let s := logEvent 2 clsUnmasked 0x28 (odKey 0x3820 2) (leBytes 1 e.1 ++ leBytes 3 e.2.1 ++ leBytes 4 (unsignedOf 32 d)) s
    modFab (fun b => { b with rescan := true }) s) s

/-- Rematch every frame held against the new flow table (R64). [log 17 DEDUCED] -/
def rematchFlows (s : State) : State :=
  match s.comb.active with
  | none => s
  | some c =>
    let now (f : Frame) : Option Nat := c.flowOf f.inPort f.outPort f.tc
    let lost := (s.fab.frames.filter fun f => (now f).isNone).length
    countN (odKey 0x3905 3) lost (modFab (fun b => { b with frames := b.frames.map fun f => { f with flow := now f } }) s)

end Sys2Proof.Machine
end

