-- ==== Sys2Proof/Machine/TagArea.lean ====
section
/-! DEFINITION. The tag area of the record store (R399-R401): its files, reads and the snapshot's replacement. -/

namespace Sys2Proof.Machine

/-- Length of a tag file (R314, R399); 0 for no file. -/
def tagFileLen (file : Nat) : Nat :=
  if file = 0xE103 then 15 else if file = 0xE104 then 1024 else if file = 0xA101 then 4608
  else if file = 0xA102 then 1024 else if file = 0xA103 then 1024 else 0

/-- The capability container as delivered (R314). -/
def capContainer : Blob := [0x00, 0x0F, 0x20, 0x00, 0xF6, 0x00, 0xF6, 0x04, 0x06, 0xE1, 0x04, 0x04, 0x00, 0x00, 0x00]

/-- The bytes of a file of one copy, 0x00 where nothing was written. -/
def tagFileGet (file : Nat) (c : List (Nat × Blob)) : Blob :=
  subPad ((mapGet file c).getD (if file = 0xE103 then capContainer else [])) 0 (tagFileLen file)

/-- Bytes written into a file of one copy. -/
def tagFilePut (file off : Nat) (d : Blob) (c : List (Nat × Blob)) : List (Nat × Blob) :=
  mapPut file ((patch (tagFileGet file c) off d).take (tagFileLen file)) c

/-- A file as its readers see it: while a snapshot's intent is open, 0xA101 is served from copy B (R401). -/
def tagFile (s : State) (file : Nat) : Blob :=
  let t := s.store.tag
  let open_ : Bool := match t.intent with | some i => i.kind == 1 && t.commit ≠ i.journal | none => false
  tagFileGet file (if file = 0xA101 ∧ open_ then t.copyB else t.copyA)

/-- The write whose intent is open is carried to its commit (R400): data and log entry in copies A and B, then the commit
slot. It is one grant of the store (R391). With the AO supply present the counter of committed writes steps (R398, R400). [log 78 DESIGN CHOICE] -/
def commitIntent (s : State) : State :=
  match s.store.tag.intent with
  | none => s
  | some i =>
    let w (c : List (Nat × Blob)) : List (Nat × Blob) := tagFilePut 0xA103 (32 * i.index) i.newLog (tagFilePut i.file i.offset i.newData c)
    let t := s.store.tag
    let t := { t with copyA := w t.copyA, copyB := w t.copyB, commit := i.journal, logSeq := i.journal, intent := none }
    let s := { s with store := s.store.grant 3 }
    if s.pwr.vao then counterAdd 3 1 { s with store := { s.store with tag := { t with foldseq := i.journal } } }
    else { s with store := { s.store with tag := t } }

/-- The snapshot of 0xA101 replaced whole: intent, copy A, commit, copy B (R401); a tag write that holds the intent slot
completes first (R400). The file is the length, the attestation, then 0x00 (R314). [log 85 DEDUCED] -/
def snapshotPut (content : Blob) (s : State) : State :=
  let s := commitIntent s
  let c := subPad (beBytes 2 content.length ++ content) 0 (tagFileLen 0xA101)
  let t := s.store.tag
  { s with store := { s.store.grant 1 with tag := { t with
      copyA := tagFilePut 0xA101 0 c t.copyA, copyB := tagFilePut 0xA101 0 c t.copyB } } }

end Sys2Proof.Machine
end

