-- ==== Sys2Proof/Machine/Attest.lean ====
section
/-! DEFINITION. Attestations (R345, R346): the CBOR payload and the COSE_Sign1 structures. -/

namespace Sys2Proof.Machine

/-- A CBOR head: major type and argument in the shortest form (RFC 8949). -/
def cborHead (major v : Nat) : Blob :=
  let m := major * 32
  if v < 24 then leBytes 1 (m + v)
  else if v < 256 then leBytes 1 (m + 24) ++ beBytes 1 v
  else if v < 65536 then leBytes 1 (m + 25) ++ beBytes 2 v
  else if v < 2 ^ 32 then leBytes 1 (m + 26) ++ beBytes 4 v
  else leBytes 1 (m + 27) ++ beBytes 8 v

/-- Unsigned integer, byte string, array and map heads. -/
def cborUint (v : Nat) : Blob := cborHead 0 v
def cborBytes (b : Blob) : Blob := cborHead 2 b.length ++ b
def cborArray (l : List Blob) : Blob := cborHead 4 l.length ++ l.flatten
def cborMap (l : List (Nat × Blob)) : Blob := cborHead 5 l.length ++ l.flatMap fun e => cborUint e.1 ++ e.2

/-- Integer of an alg header: −7 or −49. -/
def cborNeg (n : Nat) : Blob := cborHead 1 (n - 1)

/-- The certificates of the identity chain (0x2300/03), leaf first, at most 4: DER objects with a long or short
length, split by their own lengths. [log 85 DEDUCED] -/
def derSplit : Nat → Blob → List Blob
  | 0, _ => []
  | n + 1, b =>
    if b.length < 2 then []
    else
      let l := (b.getD 1 0).toNat
      let len := if l < 128 then 2 + l else 2 + (l - 128) + ofBe (sub b 2 (l - 128))
      b.take len :: derSplit n (b.drop len)

/-- The payload of R346. [log 85 DEDUCED] -/
def attestPayload (nonce : Blob) (kind : Nat) (s : State) : Blob :=
  let c := s.comb.active
  let lockouts := ((List.range 8).map fun z => counterVal s (8 + z)).sum
  let imp := match s.vault.kd with | some kd => Config.ecPublic (importKey s kd) | none => []
  cborMap [
    (1, cborUint 1), (2, cborBytes fuseUid), (3, cborUint s.fuse.part), (4, cborUint s.fuse.stepping),
    (5, cborArray ((derSplit 4 (blob s (odKey 0x2300 3))).map fun d => cborBytes (keyHash d))),
    (6, cborUint s.lc.state), (7, cborUint s.fuse.epoch), (8, cborUint (((lcRecord s).map (·.cause)).getD 0)),
    (9, cborUint (latchRead s).toNat), (10, cborBytes (subPad s.kpr.hash 0 48)),
    (11, cborBytes (match c with | some x => codeHash x | none => zeros 48)),
    (12, cborBytes (match c with | some x => x.hash | none => zeros 48)),
    (13, cborArray (match c with
      | some x => [cborUint (ofLe (sub x.hdr 8 4)), cborUint (ofLe (sub x.hdr 12 4))]
      | none => [cborUint 0, cborUint 0])),
    (14, cborUint s.kpr.build),
    (15, cborMap [(1, cborUint (counterVal s 0)), (2, cborUint (counterVal s 1)), (3, cborUint (counterVal s 3)),
      (4, cborUint lockouts)]),
    (16, cborBytes (keyHash imp)), (17, cborBytes nonce), (18, cborUint kind), (19, cborUint (counterVal s 2)),
    (20, cborUint (aoSec s))]

/-- The protected header: alg and kid (R345). -/
def coseProtected (alg : Blob) (pub : Blob) : Blob := cborMap [(1, alg), (4, cborBytes ((keyHash pub).take 8))]

/-- The bytes that are signed (RFC 9052). -/
def coseSigned (prot payload : Blob) : Blob :=
  cborArray [cborHead 3 10 ++ label "Signature1", cborBytes prot, cborBytes [], cborBytes payload]

/-- COSE_Sign1, tag 18. [log 85 DEDUCED] -/
def coseSign1 (prot payload sig : Blob) : Blob :=
  cborHead 6 18 ++ cborArray [cborBytes prot, cborHead 5 0, cborBytes payload, cborBytes sig]

/-- ES256 over the payload (R345), its k drawn from the TRNG (R347). -/
def signEs256 (p : Blob) (s : State) : Blob × State :=
  let (k, s) := draw 32 s
  let h := coseProtected (cborNeg 7) (Config.ecPublic idEcKey)
  (coseSign1 h p (Config.ecdsaSign idEcKey k (coseSigned h p)), s)

/-- ML-DSA-65 over the payload (R345), hedged with TRNG randomness; none where the vault abandons it after 100 iterations
(R347). -/
def signMldsa (p : Blob) (s : State) : Option Blob × State :=
  let (r, s) := draw 32 s
  let h := coseProtected (cborNeg 49) (Config.mldsaPublic idMlSeed)
  ((Config.mldsaSign idMlSeed r (coseSigned h p)).map (coseSign1 h p), s)

/-- An attestation (R345): the sequence steps, then the payload is signed under the algorithm set; none where a signature was
abandoned. [log 85 DEDUCED] -/
def attestation (nonce : Blob) (algs kind : Nat) (s : State) : Option Blob × State :=
  let s := counterAdd 2 1 s
  let p := attestPayload nonce kind s
  if algs = 1 then
    let (e, s) := signEs256 p s
    (some e, s)
  else if algs = 2 then signMldsa p s
  else
    let (e, s) := signEs256 p s
    let (m, s) := signMldsa p s
    (m.map fun m => cborArray [e, m], s)

end Sys2Proof.Machine
end

