-- ==== Sys2Proof/Machine/Vault.lean ====
section
/-! DEFINITION. Vault requests, key replacement, access keys and attestation (R332-R347, R469, R510). -/

namespace Sys2Proof.Machine

/-! ### Serving a request (R337) -/

/-- Slots a request may name. -/
def slotNameable (i : Nat) : Bool := i < 56

/-- A requester that can ask now: the keeper while it runs, the access island while powered, the boot ROM during boot. [log 80 DESIGN CHOICE] -/
def mayRequest (s : State) (rq : Nat) : Bool :=
  s.pwr.hive && (match rq with
    | 0 => s.kpr.running && !s.kpr.recovery
    | 1 => s.pwr.access
    | 4 => s.pwr.boot.isSome
    | _ => true)

/-- A request is granted: the queue's pointer moves past its requester (R22, R337). [log 80 DESIGN CHOICE] -/
def grantVault (rq : Nat) (s : State) : State := { s with vault := { s.vault with pointer := rrNext 5 rq } }

/-- The lockstep compare of a request's operation (R23, R338). The first miscompare aborts it, releases nothing and reruns it; the
flag: the rerun miscompares too. [log 59 DESIGN CHOICE] -/
def lockstep (op : Nat) (s : State) : Bool × State :=
  match s.vault.upset with
  | 0 => (false, s)
  | n + 1 =>
    let s := logEvent 8 clsMasked 0x0008 0 (leBytes 1 op) (count (odKey 0x2350 5)
      { s with vault := { s.vault with upset := n - 1 } })
    if n = 0 then (false, s) else (true, logEvent 8 clsUnmasked 0x0024 0 (leBytes 1 op) (count (odKey 0x2350 6) s))

/-- A request of opcode `op` served: refused with 0x13 where all 4 places are taken; otherwise granted, and answered with what `f`
gives, or with 0x0C after a second miscompare. [log 79 DEDUCED] -/
def serve (op rq : Nat) (tag : Byte) (f : State → Nat × Blob × State) (s : State) : State :=
  if !mayRequest s rq then s
  else if 4 ≤ placesTaken s rq then vaultAnswer rq tag 0x13 [] s
  else match lockstep op (grantVault rq s) with
  | (true, s) => vaultAnswer rq tag 0x0C [] s
  | (false, s) =>
    let (st, d, s') := f s
    vaultAnswer rq tag st d s'

/-- A request that places, replaces, clears or names a stored key: keeper and boot ROM only (R337). -/
def forKeeper (rq : Nat) : Bool := rq == 0 || rq == 4

/-- LOAD (R336, R337). [log 79 DEDUCED] -/
def loadReq (rq slot : Nat) (b : Blob) (s : State) : Nat × Blob × State :=
  if !forKeeper rq then (0x07, [], s)
  else if !slotNameable slot then (0x06, [], s)
  else match openBlob s b with
  | .error c => (c, [], count (odKey 0x2350 2) s)
  | .ok k => (0x00, kcvOf k.key, count (odKey 0x2350 1) (putSlot slot (some k) s))

/-- Serve a LOAD. -/
def vaultLoad (rq : Nat) (tag : Byte) (slot : Nat) (b : Blob) (s : State) : State := serve 0x01 rq tag (loadReq rq slot b) s

/-- LOAD. -/
def execVaultLoad (rq : Fin 5) (tag : Byte) (slot : Nat) (b : Blob) (s : State) : Res := conclude s (vaultLoad rq tag slot b s)

/-- CLEAR: all states (R337). -/
def clearReq (rq slot : Nat) (s : State) : Nat × Blob × State :=
  if !forKeeper rq then (0x07, [], s)
  else if !slotNameable slot then (0x06, [], s)
  else (0x00, [], putSlot slot none s)

/-- Serve a CLEAR. -/
def vaultClear (rq : Nat) (tag : Byte) (slot : Nat) (s : State) : State := serve 0x02 rq tag (clearReq rq slot) s

/-- CLEAR. -/
def execVaultClear (rq : Fin 5) (tag : Byte) (slot : Nat) (s : State) : Res := conclude s (vaultClear rq tag slot s)

/-- GENERATE: a TRNG key, as a blob and where asked in a slot. The generation of a generated key is not
stated: a free value (log entry 5). [log 79 DEDUCED] -/
def generateReq (rq klen : Nat) (usage : Byte) (owner : BitVec 4) (meas : Bool) (keyId : Word) (slot : Nat)
    (s : State) : Nat × Blob × State :=
  if !forKeeper rq then (0x07, [], s)
  else if !slotNameable slot && slot ≠ 0xFF then (0x06, [], s)
  else match shareStatus s with
  | some c => (c, [], s)
  | none =>
    if !aesKeyLen klen then (0x12, [], s)
    else match wrapKey s meas with
    | none => (0x04, [], s)
    | some wk =>
      let (key, s) := draw klen s
      let (g, s) := free (2 ^ 32) s
      let k : KeySlot := { key := key, src := 2, meas := meas, usage := usage, owner := owner, keyId := keyId, kgen := BitVec.ofNat 32 g }
      (0x00, makeBlob wk meas.toNat s.fuse.epoch k ++ kcvOf key, if slot = 0xFF then s else putSlot slot (some k) s)

/-- Serve a GENERATE. -/
def vaultGenerate (rq : Nat) (tag : Byte) (klen : Nat) (usage : Byte) (owner : BitVec 4) (meas : Bool) (keyId : Word)
    (slot : Nat) (s : State) : State := serve 0x03 rq tag (generateReq rq klen usage owner meas keyId slot) s

/-- GENERATE. -/
def execVaultGenerate (rq : Fin 5) (tag : Byte) (klen : Nat) (usage : Byte) (owner : BitVec 4) (meas : Bool)
    (keyId : Word) (slot : Nat) (s : State) : Res := conclude s (vaultGenerate rq tag klen usage owner meas keyId slot s)

/-- IMPORT (R337): the KEK of the ECDH result; the device blob has the given header with the current epoch. [log 79 DEDUCED] -/
def importReq (eph hdr kwp : Blob) (s : State) : Nat × Blob × State :=
  if !headerGood hdr || hdr.length ≠ 32 then (0x01, [], s)
  else match shareStatus s, s.vault.kd with
  | some c, _ => (c, [], s)
  | none, none => (0x0E, [], s)
  | none, some kd =>
    match wrapKey s (hdrMeas hdr) with
    | none => (0x04, [], s)
    | some wk =>
      match Config.ecdh (importKey s kd) eph with
      | none => (0x02, [], s)
      | some z =>
        match aesKwpInv (kdf z (label "IMKK") (fuseUid ++ binderOf hdr) 256) kwp with
        | none => (0x02, [], s)
        | some p =>
          if p.length = hdrKlen hdr + 16 ∧ p.drop (hdrKlen hdr) = binderOf hdr then
            let k : KeySlot := { key := p.take (hdrKlen hdr), src := 0, meas := hdrMeas hdr, usage := hdrUsage hdr,
                                 owner := hdrOwner hdr, keyId := hdrKeyId hdr, kgen := hdrKgen hdr }
            (0x00, makeBlob wk (hdrFlags hdr) s.fuse.epoch k, s)
          else (0x02, [], s)

/-- Serve an IMPORT. -/
def vaultImport (rq : Nat) (tag : Byte) (eph hdr kwp : Blob) (s : State) : State := serve 0x04 rq tag (importReq eph hdr kwp) s

/-- IMPORT. -/
def execVaultImport (rq : Fin 5) (tag : Byte) (ephemeral header kwp : Blob) (s : State) : Res :=
  conclude s (vaultImport rq tag ephemeral header kwp s)

/-- REWRAP (R339): to the measurement of the standby bank's Comb and the running or the staged keeper. [log 79 DEDUCED] -/
def rewrapReq (b : Blob) (staged : Bool) (s : State) : Nat × Blob × State :=
  match openBlob s b with
  | .error c => (c, [], s)
  | .ok k =>
    let keeper := if staged then s.kpr.staged.map (·.2) else some s.kpr.hash
    match s.comb.standby, keeper, s.vault.kd, s.comb.state == .verified || s.comb.state == .armed, k.meas with
    | some c, some h, some kd, true, true =>
      (0x00, makeBlob (wrpmOf s kd (mrOf h c)) (hdrFlags b) s.fuse.epoch k, s)
    | _, _, _, _, _ => (0x08, [], s)

/-- Serve a REWRAP. -/
def vaultRewrap (rq : Nat) (tag : Byte) (b : Blob) (staged : Bool) (s : State) : State := serve 0x05 rq tag (rewrapReq b staged) s

/-- REWRAP. -/
def execVaultRewrap (rq : Fin 5) (tag : Byte) (blob : Blob) (stagedKeeper : Bool) (s : State) : Res :=
  conclude s (vaultRewrap rq tag blob stagedKeeper s)

/-- A USER key (R329). -/
def userKey (s : State) (kd lbl ctx : Blob) (meas : Bool) (klen : Nat) : Blob :=
  kdf kd (label "USER") (epochByte s ++ subPad lbl 0 8 ++ ctx ++ (if meas then s.vault.mr.getD [] else [])) (8 * klen)

/-- DERIVE. KEY_ID and generation of a derived key are not stated: free values (log entry 5). [log 79 DEDUCED] -/
def deriveReq (rq : Nat) (lbl ctx : Blob) (klen : Nat) (usage : Byte) (owner : BitVec 4) (meas : Bool) (slot : Nat)
    (s : State) : Nat × Blob × State :=
  if !forKeeper rq then (0x07, [], s)
  else if !slotNameable slot then (0x06, [], s)
  else match shareStatus s, s.vault.kd with
  | some c, _ => (c, [], s)
  | none, none => (0x0E, [], s)
  | none, some kd =>
    if !aesKeyLen klen || lbl.length ≠ 8 || 32 < ctx.length then (0x12, [], s)
    else if meas && s.vault.mr.isNone then (0x04, [], s)
    else
      let key := userKey s kd lbl ctx meas klen
      let (id, s) := free (2 ^ 32) s
      let (g, s) := free (2 ^ 32) s
      (0x00, kcvOf key, putSlot slot (some ⟨key, 1, meas, usage, owner, BitVec.ofNat 32 id, BitVec.ofNat 32 g⟩) s)

/-- Serve a DERIVE. -/
def vaultDerive (rq : Nat) (tag : Byte) (lbl ctx : Blob) (klen : Nat) (usage : Byte) (owner : BitVec 4) (meas : Bool)
    (slot : Nat) (s : State) : State := serve 0x06 rq tag (deriveReq rq lbl ctx klen usage owner meas slot) s

/-- DERIVE. -/
def execVaultDerive (rq : Fin 5) (tag : Byte) (label context : Blob) (klen : Nat) (usage : Byte) (owner : BitVec 4)
    (meas : Bool) (slot : Nat) (s : State) : Res := conclude s (vaultDerive rq tag label context klen usage owner meas slot s)

/-! ### Replacement (R340-R342, R344) -/

/-- The pending record of a replacement, as committed bytes (R340 step 2). -/
def pendingBytes (target : Nat) (b : Blob) (kcv : Word) : Blob :=
  leBytes 4 target ++ sub b 12 8 ++ sha384 b ++ leBytes 4 kcv.toNat

/-- Steps 1 to 4 of R340: shadow, checks, KCV; none is the accepted case. [log 80 DESIGN CHOICE] -/
def beginReplace (journal target : Nat) (b : Blob) (kcv : Option Word) (s : State) : Except (Nat × State) (KeySlot × State) :=
  if 4 ≤ s.vault.repl.length then .error (0x0A, s)
  else
    let s1 := openJournal journal (pendingBytes target b (kcv.getD 0)) s
    match openBlob s1 b with
    | .error c => .error (c, count (odKey 0x2350 4) (discardJournal journal s1))
    | .ok k =>
      if kcv.isSome && kcv ≠ some (BitVec.ofNat 32 (ofLe (kcvOf k.key))) then
        .error (0x09, count (odKey 0x2350 4) (discardJournal journal s1))
      else .ok (k, s1)

/-- REPLACE: accepted requests answer when they are committed; refused ones at once. -/
def vaultReplace (rq : Nat) (tag : Byte) (slot : Nat) (b : Blob) (kcv : Word) (s : State) : State :=
  if !mayRequest s rq then s
  else if 4 ≤ placesTaken s rq then vaultAnswer rq tag 0x13 [] s
  else if !forKeeper rq then vaultAnswer rq tag 0x07 [] s
  else if !slotNameable slot then vaultAnswer rq tag 0x06 [] s
  else if slotPending s slot then vaultAnswer rq tag 0x05 [] s
  else match lockstep 0x07 (grantVault rq s) with
  | (true, s) => vaultAnswer rq tag 0x0C [] s
  | (false, s) => match beginReplace slot slot b (some kcv) s with
    | .error (c, s') => vaultAnswer rq tag c [] s'
    | .ok (k, s') =>
      { s' with vault := { s'.vault with repl := s'.vault.repl ++
          [{ requester := rq, tag := tag, target := slot, enrol := none, shadow := k, blob := b }] } }

/-- REPLACE. -/
def execVaultReplace (rq : Fin 5) (tag : Byte) (slot : Nat) (blob : Blob) (kcv : Word) (s : State) : Res :=
  conclude s (vaultReplace rq tag slot blob kcv s)

/-- The committed generation of a KEY_ID set (R340 step 5). -/
def setGen (id g : Word) (s : State) : State :=
  { s with vault := { s.vault with gens := (s.vault.gens.filter (·.1 ≠ id)) ++ [(id, g)] } }

/-- A record of area S that is not written yet. -/
def newRecord (type id : Nat) (payload : Blob) : LogRec := ⟨type, id, 0, false, false, false, payload⟩

/-- The key slot of a sealed stream (0x3A03/02): byte j of the DOMAIN. -/
def streamSlot (s : State) (j : Nat) : Nat := ((subPad (blob s (odKey 0x3A03 2)) j 1).headD 0).toNat

/-- The state of a stream. -/
def streamAt (s : State) (j : Nat) : StreamSt := (mapGet j s.sig.streams).getD {}

/-- A stream changed. -/
def putStream (j : Nat) (x : StreamSt) (s : State) : State :=
  { s with sig := { s.sig with streams := if x = {} then mapDel j s.sig.streams else mapPut j x s.sig.streams } }

/-- The recorded value of a stream; none without a record. -/
def streamRecord (s : State) (j : Nat) : Option Nat :=
  (s.store.sys.content 0x20 (j / 64)).map fun b => ofLe (sub b (4 * (j % 64)) 4)

/-- The freshness record of group `g`: the values held of the streams in use, of the others the value the record has
(R133, R390 type 0x20). -/
def groupBytes (s : State) (g : Nat) : Blob :=
  (List.range 64).flatMap fun i =>
    let x := streamAt s (64 * g + i)
    leBytes 4 (if x.state = 0 then (streamRecord s (64 * g + i)).getD 0 else if x.transmit then x.resv else x.fresh)

/-- The freshness record of the group of stream `j` is committed. [log 34 DEDUCED; log 93 DESIGN CHOICE] -/
def commitFreshness (j : Nat) (s : State) : State := commitS 0x20 (j / 64) (groupBytes s (j / 64)) s

/-- Every sealed stream whose SLOT names the slot starts anew (R342): FRESH 0, STATE 1; RESV is 65,536 for a transmit
stream and 0 for a receive stream (R132, R133). [log 34 DEDUCED] -/
def resetStreams (slot : Nat) (s : State) : State :=
  s.sig.streams.foldl (fun s e =>
    if streamSlot s e.1 = slot ∧ e.2.state ≠ 0 then
      putStream e.1 { e.2 with fresh := 0, resv := if e.2.transmit then 65536 else 0, state := 1, accepts := 0, waiting := false } s
    else s) s

/-- The groups of those streams, whose freshness records go into the commit of the replacement. -/
def resetGroups (slot : Nat) (s : State) : List Nat :=
  ((s.sig.streams.filter fun e => streamSlot s e.1 = slot && e.2.state ≠ 0).map (·.1 / 64)).eraseDups

/-- An enrolled access key as its committed bytes (R390 type 0x12). [log 93 DESIGN CHOICE] -/
def accessRecord (e : KeyEntry) (b : Blob) : Blob := leBytes 4 e.id ++ leBytes 1 e.kind ++ leBytes 1 e.zones ++ zeros 2 ++ b

/-- The entry of an enrolment placed at its index, keeping the table in index order. -/
def putKey (e : KeyEntry) (s : State) : State :=
  { s with lf := { s.lf with keys := (s.lf.keys.filter (·.index < e.index)) ++ [e] ++ (s.lf.keys.filter (e.index < ·.index)) } }

/-- Steps 5 to 7 of R340 for the oldest replacement. -/
def replaceCommitted (s : State) : State :=
  match s.vault.repl with
  | [] => s
  | r :: rest =>
    let gen := newRecord 0x11 r.shadow.keyId.toNat (leBytes 4 r.shadow.kgen.toNat)
    let s := setGen r.shadow.keyId r.shadow.kgen s
    let s := count (odKey 0x2350 3) { s with vault := { s.vault with repl := rest } }
    match r.enrol with
    | none =>
      let gs := resetGroups r.target s
      let s := resetStreams r.target s
      let s := commitJournal r.journal (gen :: gs.map fun g => newRecord 0x20 g (groupBytes s g)) s
      vaultAnswer r.requester r.tag 0x00 [] (putSlot r.target (some r.shadow) s)
    | some (kind, zones, slot) =>
      let e : KeyEntry := { index := r.target, id := r.shadow.keyId.toNat, kind := kind, zones := zones, key := some r.shadow.key }
      let s := putKey e { s with vault := { s.vault with
        accessBlobs := (s.vault.accessBlobs.filter (·.1 ≠ r.target)) ++ [(r.target, r.blob)] } }
      emit (.odDone slot []) (commitJournal r.journal [gen, newRecord 0x12 r.target (accessRecord e r.blob)] s)

/-- REPLACE_COMMITTED. -/
def execReplaceCommitted (s : State) : Res := conclude s (replaceCommitted s)

/-- Abort code of a vault status on 0x2330/01-02 (R510). -/
def statusAbort (c : Nat) : Nat :=
  if c ∈ [0x04, 0x05, 0x08, 0x0E] then abState
  else if c ∈ [0x06, 0x10] then abRange
  else if c ∈ [0x01, 0x02, 0x03, 0x0F] then abProof
  else abBusy

/-- A refused write to 0x2330: aborted and logged with its status (R510). [log 86 DEDUCED] -/
def refuseAccess (slot c : Nat) (s : State) : State :=
  logEvent 8 clsRefusal c 0 (leBytes 4 (statusAbort c)) (emit (.odAbort slot (statusAbort c)) s)

/-- The outcome of R344 for a KEY_ID and index; none is accepted. [log 86 DEDUCED] -/
def enrolRefusal (s : State) (id index : Nat) : Option Nat :=
  if 31 < index then some 0x06
  else match s.lf.keys.find? (·.id == id) with
  | some e => if e.index = index then none else some 0x06
  | none => if s.lf.keys.any (·.index == index) then some 0x10 else none

/-- ENROL once its write has passed the dictionary's checks (R344). [log 86 DEDUCED] -/
def enrolRequest (slot index : Nat) (kind zones : Byte) (b : Blob) (s : State) : State :=
  if 4 ≤ placesTaken s 0 then refuseAccess slot 0x13 s
  else if 31 < index then refuseAccess slot 0x06 s
  else if (s.vault.repl.any fun r => r.enrol.isSome && r.target == index) then refuseAccess slot 0x05 s
  else match lockstep 0x0D (grantVault 0 s) with
  | (true, s) => refuseAccess slot 0x0C s
  | (false, s) => match openBlob s b with
    | .error c => refuseAccess slot c (count (odKey 0x2350 2) s)
    | .ok k =>
      match enrolRefusal s k.keyId.toNat index with
      | some c => refuseAccess slot c s
      | none =>
        match beginReplace (64 + index) index b none s with
        | .error (c, s') => refuseAccess slot c s'
        | .ok (k, s') =>
          { s' with vault := { s'.vault with repl := s'.vault.repl ++
              [{ requester := 0, tag := 0, target := index, enrol := some (kind.toNat, zones.toNat, slot), shadow := k, blob := b }] } }

/-- ENROL through 0x2330/01: the write is answered when the vault has answered (R510). [log 86 DEDUCED] -/
def enrolWrite (slot index : Nat) (kind zones : Byte) (b : Blob) (s : State) : State :=
  match sessionAt s slot with
  | none => s
  | some x =>
    match checkedWrite s x 0x2330 1 (.bytes (b ++ [kind, zones, BitVec.ofNat 8 index])) true fun _ _ => .ok s with
    | .error c => answerAbort slot c s
    | .ok _ => enrolRequest slot index kind zones b (touchSession slot s)

/-- ENROL. -/
def execEnrol (slot : Fin 16) (index : Nat) (kind zones : Byte) (blob : Blob) (s : State) : Res :=
  conclude s (enrolWrite slot index kind zones blob s)

/-- Revocation (R344): entry, store position and record go in one commit. [log 86 DEDUCED] -/
def revokeRequest (id : Nat) (s : State) : Access :=
  match s.lf.keys.find? (·.id == id) with
  | none => .error abRange
  | some e =>
    .ok (deleteS 0x12 e.index { s with
      lf := { s.lf with keys := s.lf.keys.filter (·.id ≠ id) },
      vault := { s.vault with accessBlobs := s.vault.accessBlobs.filter (·.1 ≠ e.index) } })

/-- A revocation's write. -/
def revokeWrite (slot : Nat) (id : Word) (s : State) : State :=
  writeEntry slot 0x2330 2 (.num 4 id.toNat) true (fun _ n _ => revokeRequest n s) s

/-- REVOKE_KEY. -/
def execRevokeKey (slot : Fin 16) (keyId : Word) (s : State) : Res := conclude s (revokeWrite slot keyId s)

/-- KCV: an empty slot answers 0x06. [log 79 DEDUCED] -/
def kcvReq (rq slot : Nat) (s : State) : Nat × Blob × State :=
  if !forKeeper rq then (0x07, [], s)
  else if !slotNameable slot then (0x06, [], s)
  else match shareStatus s with
  | some c => (c, [], s)
  | none => match slotAt s slot with
    | none => (0x06, [], s)
    | some k => (0x00, kcvOf k.key, s)

/-- Serve a KCV. -/
def vaultKcv (rq : Nat) (tag : Byte) (slot : Nat) (s : State) : State := serve 0x08 rq tag (kcvReq rq slot) s

/-- KCV. -/
def execVaultKcv (rq : Fin 5) (tag : Byte) (slot : Nat) (s : State) : Res := conclude s (vaultKcv rq tag slot s)

/-! ### MACsec keys (R343) -/

/-- The KDF of IEEE 802.1X-2020: one-octet counter, two-octet length. [log 81 DEDUCED] -/
def mkaKdf (k lbl ctx : Blob) (bits : Nat) : Blob :=
  (((List.range (ceilDiv bits 128)).map fun i =>
    aesCmac k (leBytes 1 (i + 1) ++ lbl ++ [0] ++ ctx ++ beBytes 2 bits)).flatten).take (bits / 8)

/-- A key that MKA makes: SRC 3. KEY_ID and generation are not stated: free values (log entry 5). -/
def mkaSlot (slot : Nat) (key : Blob) (usage : Byte) (owner : BitVec 4) (s : State) : State :=
  let (id, s) := free (2 ^ 32) s
  let (g, s) := free (2 ^ 32) s
  putSlot slot (some ⟨key, 3, false, usage, owner, BitVec.ofNat 32 id, BitVec.ofNat 32 g⟩) s

/-- A SAK is installed as the next SA of a port (R189, R194): transmit, and one receive SA. Port, AN, channel and SCI are
the choice of MKA in the keeper, for which the spec gives no interface: free values. A channel holds two SAs. [log 81 DEDUCED] -/
def installSa (slot : Nat) (s : State) : State :=
  let (p, s) := free 6 s
  let (an, s) := free 4 s
  let (ch, s) := free 4 s
  let (sci, s) := free (2 ^ 64) s
  let n := 18 + p
  if !portFitted s n then s
  else modPort n (fun x =>
    let newest (l : List SaSt) : List SaSt := l.drop (l.length - 1)
    let tx := newest (x.eth.sas.filter (·.transmit))
    let rx := newest (x.eth.sas.filter fun a => !a.transmit && a.channel == ch)
    let rest := x.eth.sas.filter fun a => !a.transmit && a.channel ≠ ch
    { x with eth := { x.eth with
      pnExhausted := false, pnLogged := false,
      sas := tx.map (fun a => { a with active := false }) ++ [⟨true, 0, 0, an, slot, 1, true⟩] ++ rest ++ rx ++ [⟨false, ch, sci, an, slot, 0, true⟩] } }) s

/-- MKA_KEYS: ICK with the MAC usages, KEK with wrap and unwrap, both owned by keeper requests. [log 81 DEDUCED] -/
def mkaKeysReq (rq cak : Nat) (ckn : Blob) (ick kek : Nat) (s : State) : Nat × Blob × State :=
  if !forKeeper rq then (0x07, [], s)
  else if !slotNameable cak || !slotNameable ick || !slotNameable kek then (0x06, [], s)
  else match shareStatus s with
  | some c => (c, [], s)
  | none => match slotFor s cak 0 14 with
    | none => (0x07, [], s)
    | some k =>
      let bits := 8 * k.key.length
      let a := mkaKdf k.key (label "IEEE8021 ICK") (subPad ckn 0 16) bits
      let b := mkaKdf k.key (label "IEEE8021 KEK") (subPad ckn 0 16) bits
      (0x00, kcvOf a ++ kcvOf b, mkaSlot kek b 0x30 1 (mkaSlot ick a 0x0C 1 s))

/-- Serve MKA_KEYS. -/
def vaultMkaKeys (rq : Nat) (tag : Byte) (cak : Nat) (ckn : Blob) (ick kek : Nat) (s : State) : State :=
  serve 0x09 rq tag (mkaKeysReq rq cak ckn ick kek) s

/-- MKA_KEYS. -/
def execMkaKeys (rq : Fin 5) (tag : Byte) (cak : Nat) (ckn : Blob) (ick kek : Nat) (s : State) : Res :=
  conclude s (vaultMkaKeys rq tag cak ckn ick kek s)

/-- MKA_ICV (R343): the CMAC of the MKPDU. -/
def mkaIcvReq (rq ick : Nat) (pdu : Blob) (s : State) : Nat × Blob × State :=
  if !slotNameable ick then (0x06, [], s)
  else match shareStatus s with
  | some c => (c, [], s)
  | none => match ownerBitOf rq with
    | none => (0x07, [], s)
    | some o => match slotFor s ick o 10 with
      | none => (0x07, [], s)
      | some k => (0x00, aesCmac k.key pdu, s)

/-- Serve MKA_ICV. -/
def vaultMkaIcv (rq : Nat) (tag : Byte) (ick : Nat) (pdu : Blob) (s : State) : State := serve 0x0A rq tag (mkaIcvReq rq ick pdu) s

/-- MKA_ICV. -/
def execMkaIcv (rq : Fin 5) (tag : Byte) (ick : Nat) (mkpdu : Blob) (s : State) : Res := conclude s (vaultMkaIcv rq tag ick mkpdu s)

/-- MKA_UNWRAP: a SAK with encrypt and decrypt usage for the data plane (R343). [log 81 DEDUCED] -/
def mkaUnwrapReq (rq kek : Nat) (w : Blob) (slot : Nat) (s : State) : Nat × Blob × State :=
  if !forKeeper rq then (0x07, [], s)
  else if !slotNameable kek || !slotNameable slot then (0x06, [], s)
  else match shareStatus s with
  | some c => (c, [], s)
  | none => match slotFor s kek 0 13 with
    | none => (0x07, [], s)
    | some k => match aesKwInv k.key w with
      | none => (0x02, [], s)
      | some p => if aesKeyLen p.length then (0x00, kcvOf p, installSa slot (mkaSlot slot p 0x03 2 s)) else (0x02, [], s)

/-- Serve MKA_UNWRAP. -/
def vaultMkaUnwrap (rq : Nat) (tag : Byte) (kek : Nat) (w : Blob) (slot : Nat) (s : State) : State :=
  serve 0x0B rq tag (mkaUnwrapReq rq kek w slot) s

/-- MKA_UNWRAP. -/
def execMkaUnwrap (rq : Fin 5) (tag : Byte) (kek : Nat) (wrapped : Blob) (slot : Nat) (s : State) : Res :=
  conclude s (vaultMkaUnwrap rq tag kek wrapped slot s)

/-- MKA_NEWSAK: a TRNG SAK, wrapped under the KEK (R343). -/
def mkaNewsakReq (rq kek klen slot : Nat) (s : State) : Nat × Blob × State :=
  if !forKeeper rq then (0x07, [], s)
  else if !slotNameable kek || !slotNameable slot then (0x06, [], s)
  else match shareStatus s with
  | some c => (c, [], s)
  | none => match slotFor s kek 0 12 with
    | none => (0x07, [], s)
    | some k =>
      if !aesKeyLen klen then (0x12, [], s)
      else
        let (sak, s) := draw klen s
        (0x00, aesKw k.key sak ++ kcvOf sak, installSa slot (mkaSlot slot sak 0x03 2 s))

/-- Serve MKA_NEWSAK. -/
def vaultMkaNewsak (rq : Nat) (tag : Byte) (kek klen slot : Nat) (s : State) : State :=
  serve 0x0C rq tag (mkaNewsakReq rq kek klen slot) s

/-- MKA_NEWSAK. -/
def execMkaNewsak (rq : Fin 5) (tag : Byte) (kek klen slot : Nat) (s : State) : Res :=
  conclude s (vaultMkaNewsak rq tag kek klen slot s)

/-! ### Attestation (R345-R347) -/

/-- ATTEST: all states; the result of R345 with the payload of R346. [log 79 DEDUCED] -/
def attestReq (nonce : Blob) (algs : Byte) (s : State) : Nat × Blob × State :=
  if 64 < nonce.length || algs.toNat = 0 || 3 < algs.toNat then (0x11, [], s)
  else
    match attestation nonce algs.toNat 0 s with
    | (some r, s) => (0x00, r, s)
    | (none, s) => (0x0C, [], s)

/-- Serve an ATTEST. [log 77 DEDUCED] -/
def vaultAttest (rq : Nat) (tag : Byte) (nonce : Blob) (algs : Byte) (s : State) : State := serve 0x0E rq tag (attestReq nonce algs) s

/-- ATTEST. -/
def execAttest (rq : Fin 5) (tag : Byte) (nonce : Blob) (algs : Byte) (s : State) : Res :=
  conclude s (vaultAttest rq tag nonce algs s)

/-- A nonce written to 0x2340/01 starts an attestation: the result is empty until it is ready. -/
def startAttestation (nonce : Blob) (s : State) : Access :=
  if 64 < nonce.length then .error abType
  else .ok { s with vault := { s.vault with
    attesting := some (nonce, val s (odKey 0x2340 3), .object), attestResult := [] } }

/-- The write of a nonce. -/
def nonceWrite (slot : Nat) (nonce : Blob) (s : State) : State :=
  writeEntry slot 0x2340 1 (.bytes nonce) true (fun _ _ b => startAttestation b s) s

/-- ATTESTATION_NONCE_WRITE. -/
def execAttestationNonceWrite (slot : Fin 16) (nonce : Blob) (s : State) : Res := conclude s (nonceWrite slot nonce s)

/-- The attestation under way is signed and ready. [log 85 DEDUCED] -/
def attestationReady (s : State) : State :=
  match s.vault.attesting with
  | none => s
  | some (nonce, algs, who) =>
    let (r, s) := attestation nonce algs 0 s
    let s := { s with vault := { s.vault with attesting := none } }
    match who, r with
    | .object, r => { s with vault := { s.vault with attestResult := r.getD [] } }
    | .nfc, some r => emit (.nfc (r ++ [0x90, 0x00])) { s with nfc := { s.nfc with attesting := none } }
    | .nfc, none =>
      -- the status of an abandoned signature is not stated
      let (v, s) := free (2 ^ 16) s
      emit (.nfc (beBytes 2 v)) { s with nfc := { s.nfc with attesting := none } }

/-- ATTESTATION_READY. -/
def execAttestationReady (s : State) : Res := conclude s (attestationReady s)

/-- A read of 0x2310/02 by keeper firmware: the oldest answer, or an empty DOMAIN. -/
def vaultAnswerRead (s : State) : State :=
  match sessionAt s 15, s.vault.answers with
  | none, _ => s
  | some _, [] => emit (.odDone 15 []) s
  | some _, (tag, st, d) :: rest =>
    emit (.odDone 15 (tag :: BitVec.ofNat 8 st :: d)) { s with vault := { s.vault with answers := rest } }

/-- VAULT_ANSWER_READ. -/
def execVaultAnswerRead (s : State) : Res := conclude s (vaultAnswerRead s)

/-- The vault restarts from its ROM (R469): the request running answers 0x0C, a REPLACE without its commit is discarded,
KD is formed again; slots and lane registers keep their contents. A third restart within 60 s leads to a cold boot. [log 59 DESIGN CHOICE] -/
def vaultRestart (s : State) : State :=
  if !s.pwr.hive then s
  else
    let s := countN (odKey 0x2350 6) 1 s
    let s := s.vault.repl.foldl (fun s r => match r.enrol with
      | none => vaultAnswer r.requester r.tag 0x0C [] (discardJournal r.journal s)
      | some (_, _, slot) => refuseAccess slot 0x0C (discardJournal r.journal s)) s
    let s := countN (odKey 0x2350 4) s.vault.repl.length s
    let kd := if s.lc.state ∈ [1, 2, 3] ∧ s.vault.aoShare ≠ zeros 32 then some (xorB fuseRoot s.vault.aoShare) else none
    let times := (s.kpr.vaultTimes.filter fun t => nowPs s < t + 60 * secPs) ++ [nowPs s]
    let s := { s with vault := { s.vault with repl := [], attesting := none, kd := kd, pointer := 0 }, kpr := { s.kpr with vaultTimes := times } }
    let s := logEvent 8 clsUnmasked 0x0025 0 (leBytes 1 0x11 ++ leBytes 1 s.vcore.tcode.toNat) s
    let s := { s with vcore := { coreid := 0x11, status := 9 } }
    if 3 ≤ times.length then bootDue 2 s else s

/-- VAULT_RESTART. -/
def execVaultRestart (s : State) : Res := conclude s (vaultRestart s)

end Sys2Proof.Machine
end

