-- ==== Sys2Proof/Machine/SignalOps.lean ====
section
/-! DEFINITION. The signal engine's operations (R105-R139): field extraction and insertion, unpacking, packing, PDU
matching, emission, sealed streams, J1939. -/

namespace Sys2Proof.Machine

/-- The signal engine changed by `f`. -/
def modSig (f : SigSt → SigSt) (s : State) : State := { s with sig := f s.sig }

/-! ### Fields (R114) -/

/-- Position of bit `i` of a field, counted from its least significant bit: byte and bit. -/
def fieldBit (r : BitVec 256) (i : Nat) : Nat × Nat :=
  let p := rtBitpos r
  if rtBig r then
    let k := 7 - p % 8 + (rtLen r - 1 - i)
    (p / 8 + k / 8, 7 - k % 8)
  else ((p + i) / 8, (p + i) % 8)

/-- The bits of a field in a payload. [log 30 DEDUCED] -/
def extractField (r : BitVec 256) (b : Blob) : Nat :=
  (List.range (rtLen r)).foldl (fun a i =>
    let (y, k) := fieldBit r i
    if (b.getD y 0).getLsbD k then a + 2 ^ i else a) 0

/-- A payload with a field's bits set. -/
def insertField (r : BitVec 256) (v : Nat) (b : Blob) : Blob :=
  (List.range (rtLen r)).foldl (fun b i =>
    let (y, k) := fieldBit r i
    b.modify y fun x => if v.testBit i then x ||| BitVec.twoPow 8 k else x &&& ~~~BitVec.twoPow 8 k) b

/-- The field lies wholly in the first `n` payload bytes (R119). -/
def fieldInside (r : BitVec 256) (n : Nat) : Bool := rtLastByte r < n

/-- A signed payload form (R202): S8, S16, S32, Q15, Q31. -/
def tagSigned (t : BitVec 4) : Bool := t == 5 || t == 6 || t == 7 || t == 9 || t == 10

/-- Tags that move raw bits: F32, TIME, SEG, RAW (R115). [log 30 DEDUCED] -/
def tagRaw (t : BitVec 4) : Bool := t == 8 || t == 11 || t == 12 || t == 13

/-- The number a word holds. -/
def wordInt (t : BitVec 4) (v : Word) : Int := if tagSigned t then v.toInt else v.toNat

/-- A number fits a tag's payload (R117, R202). [log 30 DEDUCED] -/
def fitsTag (t : BitVec 4) (v : Int) : Bool :=
  match t.toNat with
  | 1 => v == 0 || v == 1
  | 2 => 0 ≤ v && v < 256
  | 3 => 0 ≤ v && v < 65536
  | 4 => 0 ≤ v && v < 4294967296
  | 5 => -128 ≤ v && v < 128
  | 6 | 9 => -32768 ≤ v && v < 32768
  | 7 | 10 => -2147483648 ≤ v && v < 2147483648
  | _ => true

/-! ### Unpacking (R117) -/

/-- Signed arithmetic 64 bits wide. [log 30 DEDUCED] -/
def wide (v : Int) : Int := (BitVec.ofInt 64 v).toInt

/-- What an UNPACK route makes of a field: the tag and value to store, and whether it is a range fault. [log 30 DEDUCED] -/
def unpackValue (r : BitVec 256) (payload : Blob) : BitVec 4 × Word × Bool :=
  let raw := extractField r payload
  let n := rtLen r
  let top := raw >>> (n - 8)
  let v : Int := wide (wide (wide (if rtSigned r then signedOf n raw else (raw : Int)) * rtMul r) >>> rtShift r + rtOffset r)
  let bound (x : Nat) : Int := if tagSigned (rtTag r) then signedOf 32 x else x
  if rtSpecial r = 1 ∧ 8 ≤ n ∧ top = 0xFF then (0xE, 0, false)
  else if rtSpecial r = 1 ∧ 8 ≤ n ∧ top = 0xFE then (0xF, 0, false)
  else if rtSpecial r = 1 ∧ n = 2 ∧ raw = 3 then (0xE, 0, false)
  else if rtSpecial r = 1 ∧ n = 2 ∧ raw = 2 then (0xF, 0, false)
  else if rtSpecial r = 2 ∧ raw = 2 ^ n - 1 then (0xE, 0, false)
  else if rtRangeEn r ∧ (v < bound (rtLo r) ∨ bound (rtHi r) < v) then (0xF, 0, true)
  else if !fitsTag (rtTag r) v then (0xF, 0, true)
  else (rtTag r, BitVec.ofInt 32 v, false)

/-- Whole metres of the residue go to the Field die as one increment of the distance counter (R134). [log 37 DEDUCED] -/
def distanceFeed (v : Nat) (s : State) : State :=
  let t := s.sig.residue + v
  let s := modSig (fun g => { g with residue := t % 1000 }) s
  if 1000 ≤ t then counterAdd 0 (t / 1000) s else s

/-- A distance step that is not added (R134, R139). [log 37 DEDUCED] -/
def distanceRejected (s : State) : State :=
  logEvent 3 clsPartner 0 (odKey 0x3A40 4) [] (count (odKey 0x3A40 4) s)

/-- One UNPACK route writes its signal. [log 30 DEDUCED] -/
def unpackRoute (r : BitVec 256) (payload : Blob) (sealv : Bool) (s : State) : State :=
  let (t, v, fault) := unpackValue r payload
  let s := sigWrite (rtSig r) t v sealv (rtAge r) s
  let s := if fault then count (odKey 0x3A01 3) s else s
  if rtDist r ∧ sealv ∧ t = rtTag r then
    if v.toNat ≤ val s (odKey 0x3A40 3) then distanceFeed v.toNat s else distanceRejected s
  else s

/-- The route or PDU entry is under reload and acts as absent (R106). [log 38 DESIGN CHOICE] -/
def reloadingEntry (s : State) (pdu : Bool) (i : Nat) : Bool := s.sig.reloading.contains (pdu, i)

/-- The routes of a kind of the active Comb's PDU, in index order, entries under reload left out. -/
def routesOf (s : State) (kind pdu : Nat) : List (BitVec 256 × Nat) :=
  match s.comb.active with
  | none => []
  | some c => c.routes.zipIdx.filter fun e => rtKind e.1 == kind && rtTarget e.1 == pdu && !reloadingEntry s false e.2

/-- PDU `i` of the active Comb. -/
def pduAt (s : State) (i : Nat) : Option (BitVec 512) :=
  if reloadingEntry s true i then none else s.comb.active.bind fun c => c.pdus[i]?

/-! ### Payloads in frames (R107) -/

/-- An Ethernet frame carries an 802.1Q tag in the fabric. [log 32 DEDUCED] -/
def frameTagged (b : Blob) : Bool := sub b 12 2 == [0x81, 0x00]

/-- Offset of payload byte 0 in a frame as it stands. -/
def payloadOffset (proto : Nat) (b : Blob) : Nat := if proto = 6 ∨ proto = 7 then (if frameTagged b then 18 else 14) else 16

/-- Payload bytes of a frame: CAN and LIN as DLEN says; Ethernet without its FCS. -/
def payloadOf (proto : Nat) (b : Blob) : Blob :=
  let o := payloadOffset proto b
  if proto = 6 ∨ proto = 7 then sub b o (b.length - 4 - o) else b.drop o

/-! ### Sealed reception (R129, R130) -/

/-- A sealed receive frame's verdict block: verdict and reconstructed freshness. -/
def verdictOf (d : BitVec 512) (payload : Blob) : Nat × Nat :=
  let o := pduPaylen d + pduTrunc d / 8
  (ofLe (sub payload o 1), ofBe (sub payload (o + 4) 4))

/-- A sealed frame is accepted by its stream: what R130 asks, in order; the counter of the first refusal. [log 33 DEDUCED] -/
def sealedAccept (s : State) (d : BitVec 512) (payload : Blob) : Option (BitVec 24) :=
  let x := streamAt s (pduStream d)
  let (v, f) := verdictOf d payload
  if payload.length < pduPaylen d + pduTrunc d / 8 + 8 then some 4
  else if v ≠ 1 then some 2
  else if f ≤ x.fresh ∨ pduAccWin d < f - x.fresh ∨ (x.state = 2 ∧ f ≤ x.resv + 256) then some 3
  else none

/-- A refusal counted (R139): a MAC mismatch is logged at most once per stream per 100 ms. [log 33 DEDUCED] -/
def sealedRefuse (d : BitVec 512) (why : BitVec 24) (s : State) : State :=
  let j := pduStream d
  let s := count (odKey 0x3A02 why.toNat) s
  if why = 2 ∧ ¬ s.sig.sealLogged.any (fun e => e.1 == j && nowPs s < e.2 + 100 * msPs) then
    logEvent 3 clsSecurity 2 (odKey 0x3A02 2) (leBytes 2 j)
      (modSig (fun g => { g with sealLogged := (g.sealLogged.filter (·.1 ≠ j)) ++ [(j, nowPs s)] }) s)
  else s

/-- An accepted frame moves its stream on: FRESH, the first accept ends resynchronisation, the 256th accept since the
last record asks for one (R130, R133). [log 33 DEDUCED] -/
def sealedMove (d : BitVec 512) (f : Nat) (s : State) : State :=
  let x := streamAt s (pduStream d)
  count (odKey 0x3A02 1) (putStream (pduStream d)
    { x with fresh := f, state := 1, accepts := min (x.accepts + 1) (2 ^ 23 - 1), waiting := x.waiting || 255 ≤ x.accepts } s)

/-- Routes of PDU `i` whose field lies inside the payload, and which `want` selects. -/
def unpackRoutes (i n : Nat) (payload : Blob) (sealv : Bool) (want : BitVec 256 → Bool) (s : State) : State :=
  ((routesOf s 0 i).filter fun e => want e.1 && fieldInside e.1 n).foldl (fun s e => unpackRoute e.1 payload sealv s) s

/-- A refused sealed frame of the distance feed adds nothing and is counted (R134). [log 37 DEDUCED] -/
def refusedDistance (i : Nat) (s : State) : State :=
  if (routesOf s 0 i).any fun e => rtDist e.1 then distanceRejected s else s

/-- A cell crosses to a cluster port: the unpacker writes the routes it completes (R117-R119, R130, R131). A sealed
frame is judged once, at its last cell, which holds the end of its trailer. While a frame is not complete at its input, the
last four bytes seen may be its FCS, and the routes that end in them wait for the next cell. [log 33 DEDUCED; log 116 DEDUCED] -/
def unpackCell (f : Frame) (idx : Nat) (s : State) : State :=
  match f.pdu.bind fun i => (pduAt s i).map fun d => (i, d) with
  | none => s
  | some (i, d) =>
    let proto := pduProto d
    let off := payloadOffset proto f.bytes
    let payload := if f.whole then payloadOf proto f.bytes else f.bytes.drop off
    let full := pduPaylen d + (if pduSeal d = 1 then pduTrunc d / 8 + 8 else 0)
    let tooLong (s : State) : State := if full < payload.length then count (odKey 0x3A01 5) s else s
    let n := min (pduPaylen d) payload.length
    let last := f.ends idx
    if f.err then s
    else if pduSeal d = 1 then
      if !last then s
      else match sealedAccept s d payload with
        | some why => tooLong (refusedDistance i (sealedRefuse d why s))
        | none => tooLong (sealedMove d (verdictOf d payload).2 (unpackRoutes i n payload true (fun _ => true) s))
    else
      let upto := if f.whole then 64 * (idx + 1) else 64 * (idx + 1) - 4
      let s := unpackRoutes i n payload (pduSeal d == 2) (fun r => f.unpacked ≤ off + rtLastByte r && off + rtLastByte r < upto) s
      let s := modFrame f.id (fun f => { f with unpacked := upto }) s
      if last ∧ payload.length ≠ pduPaylen d then count (odKey 0x3A01 5) s else s

/-! ### Descriptors (R107) -/

/-- Code of a format. -/
def fmtCode : CanFmt → Nat
  | .classicBase => 0 | .classicExt => 1 | .fdBase => 2 | .fdExt => 3 | .xl => 4 | .lin => 5

/-- Format of a code. -/
def fmtOf (k : Nat) : CanFmt :=
  match k with
  | 0 => .classicBase | 1 => .classicExt | 2 => .fdBase | 3 => .fdExt | 4 => .xl | _ => .lin

/-- A CAN or LIN frame as it crosses the fabric. `linck`: the LIN checksum bit. [log 12 DEDUCED] -/
def canFabric (x : CanFrame) (linck : Bool) : Blob :=
  leBytes 4 (x.id.toNat + fmtCode x.fmt * 2 ^ 29) ++
  leBytes 1 (x.rtr.toNat + x.brs.toNat * 2 + x.esi.toNat * 4 + x.sec.toNat * 8 + linck.toNat * 16) ++ [x.sdt] ++
  leBytes 2 x.data.length ++ leBytes 4 x.af.toNat ++ [x.vcid] ++ zeros 3 ++ x.data

/-- The CAN frame a fabric frame spells; reserved bits are cleared (R151). -/
def canOf (b : Blob) : CanFrame :=
  let w := ofLe (sub b 0 4)
  let flags := ofLe (sub b 4 1)
  { id := BitVec.ofNat 29 w, fmt := fmtOf (w >>> 29), rtr := flags.testBit 0, brs := flags.testBit 1, esi := flags.testBit 2,
    sec := flags.testBit 3, sdt := (sub b 5 1).headD 0, af := BitVec.ofNat 32 (ofLe (sub b 8 4)), vcid := (sub b 12 1).headD 0,
    data := sub b 16 (bitsOf (ofLe (sub b 6 2)) 11 0) }

/-! ### PDU matching (R124) -/

/-- PGN, destination (none for a broadcast PGN) and source of a J1939 identifier. The data page is both bits [25:24], EDP and
DP. [log 124 DEDUCED] -/
def j1939Of (id : Nat) : Nat × Option Nat × Nat :=
  let pf := bitsOf id 23 16
  let ps := bitsOf id 15 8
  let dp := bitsOf id 25 24
  if pf < 0xF0 then (dp * 0x10000 + pf * 0x100, some ps, bitsOf id 7 0)
  else (dp * 0x10000 + pf * 0x100 + ps, none, bitsOf id 7 0)

/-- NAME and port of a binding: 0x3A2B/01 holds 256 entries of 9 bytes (R140). -/
def bindingOf (s : State) (i : Nat) : Nat × Nat :=
  let b := subPad (blob s (odKey 0x3A2B 1)) (9 * i) 9
  (ofLe (b.take 8), ofLe (sub b 8 1))

/-- The source address admits a frame (R123, R136). [log 35 DEDUCED] -/
def saAdmits (s : State) (d : BitVec 512) (sa : Nat) : Bool :=
  match pduSaMode d with
  | 0 => true
  | 1 => pduSa d == sa
  | 2 => (bindingOf s (pduSa d)).2 == pduPort d && (mapGet (pduSa d) s.sig.bindings == some sa) && sa ≠ 0xFE
  | _ => false

/-- The receive PDU of a CAN or LIN frame on a port, by index. [log 36 DEDUCED] -/
def canPdu (s : State) (port : Nat) (x : CanFrame) : Option Nat :=
  match s.comb.active with
  | none => none
  | some c =>
    (c.pdus.zipIdx.find? fun e =>
      let d := e.1
      !pduTransmit d && pduPort d == port && pduProto d == fmtCode x.fmt && !reloadingEntry s true e.2 &&
      (if pduJ1939 d then
        (j1939Of x.id.toNat).1 == bitsOf (pduKey d) 17 0 && saAdmits s d (j1939Of x.id.toNat).2.2
       else pduKey d == x.id.toNat)).map (·.2)

/-- The receive PDU of an Ethernet frame: VID, EtherType and whether it carried a tag. [log 32 DEDUCED] -/
def ethPdu (s : State) (port vid etype : Nat) (tagged : Bool) : Option Nat :=
  match s.comb.active with
  | none => none
  | some c =>
    (c.pdus.zipIdx.find? fun e =>
      let d := e.1
      !pduTransmit d && pduPort d == port && pduProto d == (if tagged then 7 else 6) && !reloadingEntry s true e.2 &&
      bitsOf (pduKey d) 27 16 == vid && bitsOf (pduKey d) 15 0 == etype).map (·.2)

/-- Where the copy for a PDU goes first: its cluster, or F29 for one that is verified (R129). [log 41 DEDUCED] -/
def pduCopy (s : State) (i bucket : Nat) : Option (Nat × Option Nat) :=
  (pduAt s i).bind fun d => (clusterFor s (pduCmask d) bucket).map fun k =>
    if pduSeal d = 1 then (29, some (24 + k)) else (24 + k, none)

/-! ### Packing (R121) -/

/-- What the packer holds of PDU `i`; a fresh start where it has none. -/
def emitAt (s : State) (i : Nat) : EmitSt :=
  (s.sig.emits.find? (·.pdu == i)).getD ⟨i, none, [], [], false, none⟩

/-- It is put back. -/
def putEmit (e : EmitSt) (s : State) : State :=
  modSig (fun g => { g with emits := (g.emits.filter (·.pdu ≠ e.pdu)) ++ [e] }) s

/-- The fill of a route (R121); where no error pattern is stated for the field's width the value is free. [log 31 DESIGN CHOICE] -/
def fillOf (r : BitVec 256) (last : Option Nat) (s : State) : Nat × State :=
  let n := rtLen r
  match rtFill r with
  | 0 => (last.getD (2 ^ n - 1), s)
  | 1 => (2 ^ n - 1, s)
  | 2 => if 8 ≤ n then (0xFE * 2 ^ (n - 8) + (2 ^ (n - 8) - 1), s) else if n = 2 then (2, s) else free (2 ^ n) s
  | _ => (rtLo r % 2 ^ n, s)

/-- The raw value of a PACK route from the store as it stands; none: it fills, with the flag of a tag mismatch. [log 30 DEDUCED] -/
def packRaw (s : State) (d : BitVec 512) (r : BitVec 256) : Except Bool Nat :=
  let w := sigRead s (rtSig r)
  let e := sigRaw s (rtSig r)
  let n := rtLen r
  if w.tag = 0 ∨ w.tag = 0xE ∨ w.tag = 0xF then .error false
  else if w.tag ≠ rtTag r then .error true
  else if pduSeal d ≠ 0 ∧ ¬ sigSealV e then .error false
  else
    let signed := rtSigned r
    let w' : Int := if tagRaw w.tag then (if signed then w.val.toInt else w.val.toNat) else wordInt w.tag w.val
    let v : Int := ((w' - rtOffset r) * rtMul r) >>> rtShift r
    let fits := if rtSigned r then -(2 ^ (n - 1) : Int) ≤ v ∧ v < 2 ^ (n - 1) else 0 ≤ v ∧ v < 2 ^ n
    if fits then .ok (unsignedOf n v) else .error false

/-- One route packed: raw value, payload, counters. -/
def packRoute (d : BitVec 512) (e : EmitSt) (r : BitVec 256) (k : Nat) (acc : Blob × List (Nat × Nat) × State) :
    Blob × List (Nat × Nat) × State :=
  let (b, raws, s) := acc
  match packRaw s d r with
  | .ok v => (insertField r v b, mapPut k v raws, s)
  | .error mism =>
    let (v, s) := fillOf r (mapGet k e.packed) s
    let s := count (odKey 0x3A01 2) (if mism then count (odKey 0x3A01 1) s else s)
    (insertField r v b, mapPut k v raws, s)

/-- A route under reload writes its fill (R106). -/
def packAll (i : Nat) (d : BitVec 512) (s : State) : Blob × List (Nat × Nat) × State :=
  let e := emitAt s i
  match s.comb.active with
  | none => ([], [], s)
  | some c =>
    (c.routes.zipIdx.filter fun x => rtKind x.1 == 1 && rtTarget x.1 == i).foldl (fun acc x =>
      if reloadingEntry s false x.2 then
        let (v, t) := fillOf x.1 (mapGet x.2 e.packed) acc.2.2
        (insertField x.1 v acc.1, mapPut x.2 v acc.2.1, count (odKey 0x3A01 2) t)
      else packRoute d e x.1 x.2 acc) (zeros (pduPaylen d), [], s)

/-- A field changed by more than its route's DEADBAND since the last emission (R125). -/
def packChanged (s : State) (e : EmitSt) (raws : List (Nat × Nat)) : Bool :=
  match s.comb.active with
  | none => false
  | some c => raws.any fun x =>
    match c.routes[x.1]?, mapGet x.1 e.lastRaw with
    | some r, some old =>
      let num (v : Nat) : Int := if rtSigned r then signedOf (rtLen r) v else v
      rtDeadband r < (num x.2 - num old).natAbs
    | _, _ => true

/-! ### Sealed streams on transmit (R132, R133) -/

/-- The events of a transmit stream's FRESH on its way from `old` to `new`: passing 0xF0000000, and reaching 0xFFFFFFFF, which
exhausts the stream (R132). -/
def freshEvents (j old new : Nat) (s : State) : State :=
  let s := if old ≤ 0xF0000000 ∧ 0xF0000000 < new then logEvent 3 clsThreshold 0 (odKey 0x3A02 5) (leBytes 2 j) s else s
  if new = 0xFFFFFFFF then
    logEvent 3 clsThreshold 0 (odKey 0x3A02 5) (leBytes 2 j) (putStream j { streamAt s j with state := 3 } s)
  else s

/-- A transmit stream's next freshness, or the counter of the reason it is not emitted: exhausted, a key slot that R333
refuses, or a record not yet committed. -/
def sealedNext (d : BitVec 512) (s : State) : Except (Nat × State) (Nat × State) :=
  let j := pduStream d
  let x := streamAt s j
  if x.state = 3 then .error (odKey 0x3A02 5, s)
  else if (slotFor s (streamSlot s j) 1 10).isNone then .error (odKey 0x3A01 4, logEvent 3 clsUnmasked 0 (odKey 0x3A01 4) (leBytes 2 j) s)
  else if x.resv ≤ x.fresh then .error (odKey 0x3A01 4, putStream j { x with waiting := true } s)
  else
    let f := x.fresh + 1
    let s := putStream j { x with fresh := f, waiting := x.waiting || (x.resv ≤ f + 16384 && x.resv < 0xFFFFFFFF) } s
    .ok (f, freshEvents j x.fresh f s)

/-- A stream's record is committed (R133): a transmit stream's new RESV, a receive stream's FRESH. -/
def recordStream (j : Nat) (s : State) : State :=
  let x := streamAt s j
  if !x.waiting then s
  else if x.transmit then commitFreshness j (putStream j { x with resv := min (x.resv + 65536) 0xFFFFFFFF, waiting := false } s)
  else commitFreshness j (putStream j { x with resv := x.fresh, accepts := 0, waiting := false } s)

/-- A stream a resident PDU uses becomes active (R133): from its record, or new. [log 33 DEDUCED] -/
def activateStream (j : Nat) (tx : Bool) (s : State) : State :=
  if (streamAt s j).state ≠ 0 then s
  else match tx, streamRecord s j with
  | true, some v =>
    if v = 0 then commitFreshness j (putStream j { fresh := 0, resv := 65536, transmit := true, state := 1 } s)
    else freshEvents j 0 v (putStream j { fresh := v, resv := v, transmit := true, state := 1, waiting := true } s)
  | true, none => commitFreshness j (putStream j { fresh := 0, resv := 65536, transmit := true, state := 1 } s)
  | false, some v => putStream j { fresh := v, resv := v, state := 2 } s
  | false, none => putStream j { fresh := 0, resv := 0, state := 1 } s

/-- The streams of the active Comb's sealed PDUs. -/
def activateStreams (s : State) : State :=
  match s.comb.active with
  | none => s
  | some c => (c.pdus.filter fun d => pduSeal d == 1).foldl (fun s d => activateStream (pduStream d) (pduTransmit d) s) s

/-! ### Emission (R123, R125, R138) -/

/-- MACsec protects what leaves this port (R193). -/
def macsecOn (s : State) (n : Nat) : Bool := 18 ≤ n && n < 24 && flag s (pk n 6 1)

/-- The device's claimed address on a port. -/
def claimAt (s : State) (n : Nat) : ClaimSt := (s.sig.claims[n]?).getD {}

/-- The identifier of an emitted CAN or LIN frame. -/
def emitId (s : State) (d : BitVec 512) : Nat :=
  if pduJ1939 d then bitsOf (pduKey d) 28 26 * 2 ^ 26 + bitsOf (pduKey d) 17 0 * 256 + (claimAt s (pduPort d)).address
  else pduKey d

/-- An emitted frame as it crosses the fabric, of a payload with its trailer. -/
def emitBytes (s : State) (d : BitVec 512) (payload : Blob) : Blob :=
  if pduProto d = 6 ∨ pduProto d = 7 then
    let tag := if pduProto d = 7 then [0x81, 0x00] ++ beBytes 2 (pduTci d) else []
    let head := beBytes 6 (pduDa d) ++ beBytes 6 (portMac s (pduPort d)) ++ tag ++ beBytes 2 (pduEtype d)
    let body := head ++ payload ++ zeros (60 - (head.length + payload.length))
    body ++ leBytes 4 (crc32 body)
  else
    leBytes 4 (emitId s d % 2 ^ 29 + pduProto d * 2 ^ 29) ++ leBytes 1 (pduCanFlags d) ++ leBytes 1 (pduXlSdt d) ++
      leBytes 2 payload.length ++ zeros 8 ++ payload

/-- The column of cluster `k`, within it, that the window of a PDU starts on; column 0 of it for a PDU that no window emits. -/
def pduColumn (s : State) (k : Nat) (d : BitVec 512) : Nat :=
  match s.comb.active with
  | none => 0
  | some c => ((List.range 4).find? fun j => (c.winsOf (4 * k + j)).contains (pduEmitWin d)).getD 0

/-- A frame leaves a cluster, from the output buffer of its window's column, for its port, through F29 where it is sealed or the port protects (R132, R193). [log 35 DEDUCED] -/
def emitFrame (s : State) (k : Nat) (i : Nat) (d : BitVec 512) (bytes : Blob) : State :=
  let via := pduSeal d == 1 || macsecOn s (pduPort d)
  sendFrame { id := 0, bytes := bytes, inPort := 24 + k, outPort := if via then 29 else pduPort d, tc := pduTc d,
              ciph := via, next := if via then some (pduPort d) else none, pdu := some i, ts := nowNs s,
              col := pduColumn s k d } s

/-- A J1939 PDU that is sent by broadcast transport (R138). -/
def pduBam (d : BitVec 512) : Bool := pduJ1939 d && pduProto d ≤ 1 && 8 < pduPaylen d

/-- Identifier of a transport frame: TP.CM 0xEC00 or TP.DT 0xEB00 to the global address, at the PDU's priority. -/
def bamId (s : State) (d : BitVec 512) (pf : Nat) : Nat :=
  bitsOf (pduKey d) 28 26 * 2 ^ 26 + pf * 2 ^ 16 + 0xFF * 2 ^ 8 + (claimAt s (pduPort d)).address

/-- A frame of a broadcast sequence: extended classic format, 8 data bytes. -/
def bamFrame (s : State) (d : BitVec 512) (pf : Nat) (data : Blob) : Blob :=
  leBytes 4 (bamId s d pf + 2 ^ 29) ++ leBytes 1 (pduCanFlags d) ++ zeros 1 ++ leBytes 2 8 ++ zeros 8 ++ data

/-- The next frame of a broadcast sequence: TP.CM_BAM with a copy of the payload, then one TP.DT per emission (R138). [log 36 DEDUCED] -/
def bamEmit (s : State) (k i : Nat) (d : BitVec 512) (e : EmitSt) (payload : Blob) : State :=
  match e.bam with
  | none =>
    let n := ceilDiv payload.length 7
    let pgn := bitsOf (pduKey d) 17 0
    putEmit { e with bam := some (payload, 1) }
      (emitFrame s k i d (bamFrame s d 0xEC ([0x20] ++ leBytes 2 payload.length ++ leBytes 1 n ++ [0xFF] ++ leBytes 3 pgn)))
  | some (b, q) =>
    let piece := sub b (7 * (q - 1)) 7
    let s := emitFrame s k i d (bamFrame s d 0xEB (leBytes 1 q ++ piece ++ List.replicate (7 - piece.length) 0xFF))
    putEmit { e with bam := if 7 * q < b.length then some (b, q + 1) else none } s

/-- A transmit PDU at a commit of its window, on cluster `k` (R125). -/
def commitPdu (k : Nat) (i : Nat) (d : BitVec 512) (s : State) : State :=
  let e := emitAt s i
  let (payload, raws, s) := packAll i d s
  let e1 := { e with packed := raws }
  let gap (units : Nat) : Bool := match e.lastPs with | none => true | some t => t + units * 64000000 ≤ nowPs s
  let due := e.lastPs.isNone || pduTxMode d == 0 || e.pendingChange || packChanged s e raws ||
    (pduTxMode d == 2 && gap (pduMaxGap d))
  if !due then putEmit e1 s
  else if !gap (pduMinGap d) then putEmit { e1 with pendingChange := true } (count (odKey 0x3A01 4) s)
  else if pduJ1939 d ∧ (claimAt s (pduPort d)).state ≠ 2 then putEmit { e1 with pendingChange := true } (count (odKey 0x3A01 4) s)
  else
    let sent := { e1 with lastPs := some (nowPs s), lastRaw := raws, pendingChange := false }
    if pduBam d then bamEmit (putEmit sent s) k i d { sent with bam := e.bam } payload
    else if pduSeal d = 1 then
      match sealedNext d s with
      | .error (key, s) => putEmit { e1 with pendingChange := true } (count key s)
      | .ok (f, s) =>
        let trailer := (beBytes 4 f).drop (4 - pduTrunc d / 8) ++ zeros 8
        putEmit sent (emitFrame s k i d (emitBytes s d (payload ++ trailer)))
    else putEmit sent (emitFrame s k i d (emitBytes s d payload))

/-! ### Swaps and the store (R126) -/

/-- The signal indices a Comb writes, with the tag its route writes. [log 18 DESIGN CHOICE] -/
def writtenSignals (c : Comb) : List (Nat × BitVec 4) :=
  (c.routes.filter fun r => rtKind r == 0 || rtKind r == 3).map fun r => (rtSig r, rtTag r)

/-- The store at a swap: an entry no route writes becomes VOID, an entry whose tag is not its route's becomes STALE until its
first write; the access engine's entries (R282) keep their values. [log 18 DESIGN CHOICE] -/
def swapStore (c : Comb) (s : State) : State :=
  let w := writtenSignals c
  let s := s.sig.store.foldl (fun s e =>
    if 131064 ≤ e.1 ∨ w.any (·.1 == e.1) then s else sigPut e.1 sigPowerUp s) s
  w.foldl (fun s x =>
    let e := sigRaw s x.1
    if sigTag e = x.2 ∨ 131064 ≤ x.1 then s
    else sigPut x.1 (sigMake (sigValue e) 0xE (sigWseq e) (sigNoAge e) (sigExpiry e) (sigExp e) (sigSealV e)) s) s

/-- A PDU resident in both banks keeps what the packer holds of it, under its index in the incoming Comb; a new one starts
afresh (R125). Raw values move with their routes. -/
def swapEmits (old new : Comb) (g : SigSt) : SigSt :=
  let routeMap (k : Nat) : Option Nat := (old.routes[k]?).bind fun r => new.routes.findIdx? (· == r)
  let moveKeys (l : List (Nat × Nat)) : List (Nat × Nat) :=
    l.foldl (fun m x => match routeMap x.1 with | some k => mapPut k x.2 m | none => m) []
  { g with emits := g.emits.filterMap fun e =>
      match (old.pdus[e.pdu]?).bind fun d => new.pdus.findIdx? (· == d) with
      | none => none
      | some i => some { e with pdu := i, lastRaw := moveKeys e.lastRaw, packed := moveKeys e.packed } }

end Sys2Proof.Machine
end

