-- ==== Sys2Proof/Machine/Fabric.lean ====
section
/-! DEFINITION. Fabric slots, planes, spill and mirrors (R67-R77, R81-R87, R102-R104). -/

namespace Sys2Proof.Machine

/-! ### The end of a hyperperiod (R36) -/

/-- The phase error as slots, a half away from zero (R36). -/
def errorSlots (errPs : Int) : Int :=
  let q : Int := ((2 * errPs.natAbs + 15625) / 31250 : Nat)
  if errPs < 0 then -q else q

/-- The steering of the next boundary (R36, R38): the phase error as the last reference gave it; none without a reference, or
where the device itself is its CAN master (R156). A reference that has returned counts from this boundary on. [log 118 DESIGN CHOICE] -/
def steering (s : State) (c : Comb) : Int :=
  let own := c.tsrc == 2 && (portAt s c.tref).can.refState == 4
  if (s.comb.tickState = 1 ∨ s.comb.refBack) ∧ ¬ own then min (max (errorSlots s.comb.phasePs) (-(c.p : Int))) c.p else 0

/-- Slots from the start of the tick in progress to the end of the hyperperiod that is steered by `k` (R36). -/
def slotsToEnd (s : State) (c : Comb) (k : Int) : Int := 64 * ((c.hyper : Int) - s.clk.tick) + k

/-! ### Planes (R70-R74) -/

/-- A plane is out of service. -/
def planeDown (s : State) : Bool := s.fab.planeA.failed || s.fab.planeB.failed
def planesDown (s : State) : Bool := s.fab.planeA.failed && s.fab.planeB.failed

/-- Slots of the tick in progress: 64, and in a hyperperiod's last tick what the steering leaves or adds (R36). -/
def slotsNow (s : State) : Nat :=
  match s.comb.active with
  | none => 64
  | some c => if s.clk.boundaryDue then (slotsToEnd s c s.comb.dueK).toNat else min 64 (slotsToEnd s c (steering s c)).toNat

/-- The pointers of every port at 0 (R77). -/
def resetPointers (s : State) : State :=
  modFab (fun b => { b with ports := b.ports.map fun p => { p with grantPtr := 0, acceptPtr := 0 } }) s

/-- The reservations of a tick: slot, input, output, class, by slot (R42). -/
def reservations (due : List (BitVec 64)) : List (Nat × Nat × Nat × Nat) :=
  (List.range 64).flatMap fun slot =>
    (due.filter fun a => actType a == 1 && (match actRun a with | some (f, n) => f ≤ slot && slot < f + n | none => false)).map
      fun a => (slot, actIn a, actOut a, actTc a)

/-- A double-slot map: double slot, input, output, class. -/
abbrev DoubleMap := List (Nat × Nat × Nat × Nat)

/-- The lowest double slot free at an input, and at an output. -/
def freeAtIn (m : DoubleMap) (i : Nat) : Nat := ((List.range 32).find? fun d => !m.any fun e => e.1 == d && e.2.1 == i).getD 0
def freeAtOut (m : DoubleMap) (o : Nat) : Nat := ((List.range 32).find? fun d => !m.any fun e => e.1 == d && e.2.2.1 == o).getD 0

/-- The path of reservations that alternate between two double slots, from a port on. -/
def altPath (m : DoubleMap) : Nat → Bool → Nat → Nat → Nat → DoubleMap
  | 0, _, _, _, _ => []
  | n + 1, atOut, v, d, other =>
    match m.find? fun e => e.1 == d && (if atOut then e.2.2.1 else e.2.1) == v with
    | none => []
    | some e => e :: altPath m n (!atOut) (if atOut then e.2.1 else e.2.2.1) other d

/-- One more reservation on a double slot, so that none shares an input or output (R73): where no slot is free at both
ports, the reservations of an alternating path exchange their double slots. -/
def addDouble (m : DoubleMap) (i o tc : Nat) : DoubleMap :=
  let a := freeAtIn m i
  let b := freeAtOut m o
  if !m.any fun e => e.1 == a && e.2.2.1 == o then m ++ [(a, i, o, tc)]
  else
    let path := altPath m 64 true o a b
    (m.map fun e => if path.contains e then ((if e.1 = a then b else a), e.2) else e) ++ [(a, i, o, tc)]

/-- The map of a whole tick (R73). -/
def mapDoubles (due : List (BitVec 64)) : DoubleMap := (reservations due).foldl (fun m r => addDouble m r.2.1 r.2.2.1 r.2.2.2) []

/-- The map of the rest of the changeover tick, in the order of nominal slots, on double slots from `d0` on; the rest is
released (R73). -/
def mapChangeover (due : List (BitVec 64)) (slot : Nat) : DoubleMap × List Nat :=
  let d0 := (slot + 1) / 2
  ((reservations due).filter fun r => slot ≤ r.1).foldl (fun (m, lost) r =>
    match (List.range 32).find? fun d => d0 ≤ d && !m.any fun e => e.1 == d && (e.2.1 == r.2.1 || e.2.2.1 == r.2.2.1) with
    | some d => (m ++ [(d, r.2.1, r.2.2.1, r.2.2.2)], lost)
    | none => (m, lost ++ [r.2.2.1])) ([], [])

/-- The device enters degraded mode at the next slot boundary (R72, R73). -/
def enterDegraded (s : State) : State :=
  let (m, lost) := mapChangeover s.comb.now (s.clk.slot + 1)
  lost.foldl (fun s o => count (releasedKey o) s) (modFab (fun b => { b with doubles := m }) (resetPointers s))

/-- A plane is declared failed (R70, R74). [log 22 DEDUCED] -/
def failPlane (b : Bool) (s : State) : State :=
  if (if b then s.fab.planeB.failed else s.fab.planeA.failed) then s
  else
    let first := !planeDown s
    let f (p : PlaneSt) : PlaneSt := { p with failed := true, faultPs := none, returning := false }
    let s := modFab (fun x => if b then { x with planeB := f x.planeB } else { x with planeA := f x.planeA }) s
    if first then enterDegraded (logEvent 2 clsMasked 0x0003 (odKey 0x3800 1) (leBytes 1 b.toNat) s)
    else logEvent 2 clsUnmasked 0x002A (odKey 0x3800 1) (zeros 8) s

/-- A plane gains a fault count: the second within 100 ms fails it (R70). [log 22 DEDUCED] -/
def planeFault (b : Bool) (out : Nat) (s : State) : State :=
  let p := if b then s.fab.planeB else s.fab.planeA
  let s := logEvent 2 clsMasked 0x0005 0 (leBytes 1 b.toNat ++ leBytes 1 out) s
  if p.failed then s
  else if (match p.faultPs with | some t => decide (nowPs s ≤ t + 100 * msPs) | none => false) then failPlane b s
  else
    let f (p : PlaneSt) : PlaneSt := { p with faultPs := some (nowPs s) }
    modFab (fun x => if b then { x with planeB := f x.planeB } else { x with planeA := f x.planeA }) s

/-- A plane whose self-test passed returns to service: at a boundary, or at a tick boundary in service-only mode or
with both planes out (R74). [log 22 DEDUCED] -/
def returnPlanes (atBoundary : Bool) (s : State) : State :=
  if atBoundary ∨ serviceOnly s ∨ planesDown s then
    if s.fab.planeA.returning then
      resetPointers (modFab (fun b => { b with planeA := {}, planeTest := 0, double := [], doubles := if b.planeB.failed then b.doubles else [] }) s)
    else if s.fab.planeB.returning then
      resetPointers (modFab (fun b => { b with planeB := {}, planeTest := 0, double := [], doubles := if b.planeA.failed then b.doubles else [] }) s)
    else s
  else s

/-- The effect of a write of 1 to 0x3800/02 (R74). -/
def effPlaneTest (s : State) (n : Nat) : Access :=
  if n ≠ 1 then .error abRange
  else if !planeDown s || s.fab.planeTest == 1 || s.fab.bootTest then .error abState
  else .ok (modFab (fun b => { b with planeTest := 1 }) s)

/-- The write that requests a plane test. -/
def planeTestRequest (slot : Nat) (s : State) : State :=
  writeEntry slot 0x3800 2 (numFor 0x3800 2 1) true (fun _ n _ => effPlaneTest s n) s

/-- PLANE_TEST_REQUEST. -/
def execPlaneTestRequest (slot : Fin 16) (s : State) : Res := conclude s (planeTestRequest slot s)

/-- A cold boot's self-test of both planes is done: a plane that does not pass is failed. Or the test of the failed planes is,
plane A first; the first to pass waits for its return (R74). -/
def planeTestComplete (passA passB : Bool) (s : State) : State :=
  if s.fab.bootTest then
    let s := modFab (fun b => { b with bootTest := false }) s
    let s := if passA then s else failPlane false s
    if passB then s else failPlane true s
  else if s.fab.planeTest ≠ 1 then s
  else if s.fab.planeA.failed ∧ passA then
    modFab (fun b => { b with planeTest := 2, planeA := { b.planeA with returning := true } }) s
  else if s.fab.planeB.failed ∧ passB then
    modFab (fun b => { b with planeTest := 2, planeB := { b.planeB with returning := true } }) s
  else modFab (fun b => { b with planeTest := 3 }) s

/-- PLANE_TEST_COMPLETE. -/
def execPlaneTestComplete (passA passB : Bool) (s : State) : Res := conclude s (planeTestComplete passA passB s)

/-! ### The start of a transmission (R78, R180) -/

/-- A class is stopped by a received pause (R182, R184). -/
def classPaused (s : State) (n tc : Nat) : Bool :=
  match (portAt s n).eth.pauses[tc]? with
  | some p => p.stopped && !p.override
  | none => false

/-- The frame an Ethernet output would start now: the head of its highest unpaused class that has a complete or a
cut-through frame; its first cell stands on chip. -/
def nextFrame (s : State) (n : Nat) : Option Nat :=
  (List.range 8).findSome? fun i =>
    let tc := 7 - i
    if classPaused s n tc then none
    else match (queueAt s (queueNo n tc)).frames with
    | [] => none
    | id :: _ => if (queueAt s (queueNo n tc)).cells.any fun c => c.1.frame == id && c.1.idx == 0 && c.2.onChip then some id else none

/-- An Ethernet port that is on its line: it can send. -/
def ethOnLine (s : State) (n : Nat) : Bool :=
  let p := portAt s n
  isEth n && portFitted s n && (p.st == .running || p.st == .stopping || (p.st == .pending && !s.pwr.held.getLsbD n)) && !p.flushing

/-- An Ethernet port that can send starts its next frame. -/
def startTx (n : Nat) (s : State) : State :=
  let p := portAt s n
  if ethOnLine s n ∧ p.eth.tx = none ∧ ¬ p.eth.backoff ∧ ¬ p.eth.wakeBurst ∧ ¬ p.eth.phyFault then
    match nextFrame s n with
    | some id => modFrame id (fun f => { f with begun := true })
        (modPort n (fun p => { p with eth := { p.eth with tx := some id, attempts := 0 } }) s)
    | none => s
  else s

/-- Every Ethernet output that is idle starts its next frame. -/
def startAll (s : State) : State := (List.range 10).foldl (fun s i => startTx (14 + i) s) s

/-! ### A cell crosses (R70, R71, R81) -/

/-- A cell leaves its input's staging. -/
def unstage (i : Nat) (c : CellRef) (s : State) : State :=
  modFabPort i (fun p => { p with staging := p.staging.filter (· ≠ c) }) s

/-- The frame whose cell crosses counts it. -/
def crossed (id : Nat) (s : State) : State := modFrame id (fun f => { f with crossed := f.crossed + 1 }) s

/-- A cell that ends at its output is freed, and an internal source's credit returned. -/
def consumeCell (f : Frame) (s : State) : State :=
  freeCell (if f.inPort < 24 then s else modQueue f.queue (fun q => { q with credits := q.credits - 1 }) s)

/-- The cell enters its queue; marks of occupancy and headroom, and back-pressure, follow. -/
def enqueueCell (f : Frame) (c : CellRef) (p : Pool) (spill : Bool) (s : State) : State :=
  let s := modQueue f.queue (fun q => { q with
    cells := q.cells ++ [(c, p)], spill := spill,
    frames := if (f.ct && c.idx == 0) || (!f.ct && f.ends c.idx) then q.frames ++ [f.id] else q.frames }) s
  let s := if p.toSpill then modFab (fun b => { b with spillInFlight := b.spillInFlight + 1 }) s else s
  let s := modFab (fun b => { b with headroomHigh := max b.headroomHigh (headroomUsed s) }) s
  let k := odKey 0x3805 (f.outPort + 1)
  pressure f.queue (setVal k (max (val s k) (queueAt s f.queue).occupancy) s)

/-- A frame whose cells met a down output is flushed with its last (R97). -/
def endFlushed (id : Nat) (s : State) : State :=
  match frameAt s id with
  | none => s
  | some f => if f.flushed ∧ f.whole ∧ f.crossed = f.cells then dropFrame id (countFlushed f.outPort f s) else s

/-- A cell's arrival at its output: flushed at a down port, taken at once by an internal destination, or queued; one
that its queue cannot take stays in staging. -/
def crossCell (i : Nat) (c : CellRef) (s : State) : State :=
  match frameAt s c.frame with
  | none => unstage i c s
  | some f =>
    if outputDown s f.outPort ∨ f.flushed then
      endFlushed f.id (modFrame f.id (fun f => { f with flushed := true }) (crossed f.id (consumeCell f (unstage i c s))))
    else if 24 ≤ f.outPort ∧ f.outPort ≠ 29 then
      let s := crossed f.id (consumeCell f (unstage i c s))
      endInternal f.id (if f.outPort < 28 then unpackCell f c.idx s else s)
    else match placeCell s f.queue (0 < c.idx) with
    | none => s
    | some (p, spill) => crossed f.id (enqueueCell f c p spill (unstage i c s))

/-- A frame is complete at its input after its last cell has crossed: what waited for its end follows. -/
def endCrossed (id : Nat) (s : State) : State :=
  match frameAt s id with
  | none => s
  | some f =>
    if f.whole ∧ f.crossed = f.cells then
      endFlushed id (endInternal id (if 24 ≤ f.outPort ∧ f.outPort < 28 then unpackCell f (f.cells - 1) s else s))
    else s

/-- A frame that its output has begun to send ends there with an inverted FCS. -/
def endSending (f : Frame) (s : State) : State :=
  if (portAt s f.outPort).eth.tx = some f.id then
    modPort f.outPort (fun p => { p with eth := { p.eth with tx := none } }) (emit (.eth f.outPort f.bytes true) s)
  else s

/-- Both header copies of a cell failed: its frame ends (R70). [log 22 DEDUCED] -/
def unrecoverable (id : Nat) (s : State) : State :=
  match frameAt s id with
  | none => s
  | some f =>
    logEvent 2 clsUnmasked 0x0026 (flushedKey f.outPort) (leBytes 1 f.outPort)
      (removeFrame id (countFlushed f.outPort f (endSending f s)))

/-- The checks at the output end of the planes, and the crossing (R70, R71). A plane whose payload parity fails is declared
failed; its cell is not acknowledged, stays in staging and is sent again over the other plane. -/
def carryCell (faults : List CellFault) (i : Nat) (c : CellRef) (s : State) : State :=
  match frameAt s c.frame, faults.find? fun e => e.input.toNat == i with
  | some f, some e =>
    let a := !s.fab.planeA.failed
    let b := !s.fab.planeB.failed
    let lost := (e.badA || !a) && (e.badB || !b)
    let s := if e.badA && a && !lost then planeFault false f.outPort s else s
    let s := if e.badB && b && !lost then planeFault true f.outPort s else s
    let s := if e.differ && a && b && !e.badA && !e.badB then planeFault false f.outPort s else s
    let s := if e.parityA && a then failPlane false s else s
    let s := if e.parityB && b then failPlane true s else s
    if lost then unrecoverable c.frame s
    else if (e.parityA && a) || (e.parityB && b) then s
    else crossCell i c s
  | _, _ => crossCell i c s

/-! ### Matching (R75-R77) -/

/-- The oldest staged cell of every output queue at an input, but for cells that are crossing. -/
def stagedHeads (s : State) (crossing : List CellRef) (i : Nat) : List (CellRef × Frame) :=
  ((fabPortAt s i).staging.filter (!crossing.contains ·)).foldl (fun acc c =>
    match frameAt s c.frame with
    | some f => if acc.any fun e => e.2.queue == f.queue then acc else acc ++ [(c, f)]
    | none => acc) []

/-- A cell may leave staging: its frame is complete at the input or goes in cut-through, and its queue can take it. -/
def eligible (s : State) (e : CellRef × Frame) : Bool :=
  (e.2.whole || e.2.ct) &&
  (outputDown s e.2.outPort || (24 ≤ e.2.outPort && e.2.outPort ≠ 29) || (placeCell s e.2.queue (0 < e.1.idx)).isSome)

/-- Eligible cells of an input: cell, output, class. -/
def offers (s : State) (crossing : List CellRef) (i : Nat) : List (CellRef × Nat × Nat) :=
  ((stagedHeads s crossing i).filter (eligible s)).map fun e => (e.1, e.2.outPort, e.2.tc)

/-- A match: input, output, cell. -/
abbrev SlotMatch := Nat × Nat × CellRef

/-- The highest class of some offers that pass a test, and the cell. -/
def topOffer (l : List (CellRef × Nat × Nat)) (o : Nat) : Option (Nat × CellRef) :=
  l.foldl (fun best e => if e.2.1 ≠ o then best else match best with
    | some (tc, _) => if tc < e.2.2 then some (e.2.2, e.1) else best
    | none => some (e.2.2, e.1)) none

/-- One iteration of request, grant and accept among the ports still free (R77). -/
def matchRound (s : State) (all : List (Nat × List (CellRef × Nat × Nat))) (usedIn usedOut : List Nat) : List SlotMatch :=
  let free := all.filter fun e => !usedIn.contains e.1
  -- grant: each output offers itself to one input
  let grants : List (Nat × Nat × Nat × CellRef) := (List.range 32).filterMap fun o =>
    if usedOut.contains o then none
    else
      let reqs := free.filterMap fun e => (topOffer e.2 o).map fun t => (e.1, t.1, t.2)
      let top := (reqs.map (·.2.1)).foldl max 0
      (rrPick 32 (fabPortAt s o).grantPtr fun i => reqs.any fun r => r.1 == i && r.2.1 == top).bind fun i =>
        (reqs.find? fun r => r.1 == i).map fun r => (i, o, r.2.1, r.2.2)
  -- accept: each input takes one of its offers
  (List.range 32).filterMap fun i =>
    let mine := grants.filter fun g => g.1 == i
    let top := (mine.map (·.2.2.1)).foldl max 0
    (rrPick 32 (fabPortAt s i).acceptPtr fun o => mine.any fun g => g.2.1 == o && g.2.2.1 == top).bind fun o =>
      (mine.find? fun g => g.2.1 == o).map fun g => (i, o, g.2.2.2)

/-- Three iterations over the cells that could be offered at the start of the slot before; the matches of the first move
both pointers past the winner (R77). -/
def matchSlot (usedIn usedOut : List Nat) (s : State) : List SlotMatch × State :=
  let all := s.fab.ready
  let m1 := matchRound s all usedIn usedOut
  let m2 := matchRound s all (usedIn ++ m1.map (·.1)) (usedOut ++ m1.map (·.2.1))
  let m12 := m1 ++ m2
  let m3 := matchRound s all (usedIn ++ m12.map (·.1)) (usedOut ++ m12.map (·.2.1))
  let s := m1.foldl (fun s m =>
    modFabPort m.2.1 (fun p => { p with grantPtr := rrNext 32 m.1 })
      (modFabPort m.1 (fun p => { p with acceptPtr := rrNext 32 m.2.1 }) s)) s
  (m12 ++ m3, s)

/-- The cell a reservation carries: one its input held, and could send, at the start of the slot before (R76). -/
def reservedCell (s : State) (i o tc : Nat) : Option CellRef :=
  (s.fab.ready.find? (·.1 == i)).bind fun e => (e.2.find? fun x => x.2.1 == o && x.2.2 == tc).map (·.1)

/-- Reservations of the slot that begins, or in degraded mode of the double slot: input, output, class (R42, R73). -/
def slotReservations (s : State) : List (Nat × Nat × Nat) :=
  if planeDown s then (s.fab.doubles.filter fun e => e.1 == s.clk.slot / 2).map (·.2)
  else ((reservations s.comb.now).filter fun r => r.1 == s.clk.slot).map (·.2)

/-- The cells of the slot that begins: those of its reservations, then the matches of the ports left open, released
reservations among them and counted (R76, R77). -/
def planSlot (s : State) : List SlotMatch × State :=
  let res := slotReservations s
  let hit := res.filterMap fun r => (reservedCell s r.1 r.2.1 r.2.2).map fun c => (r.1, r.2.1, c)
  let s := (res.filter fun r => (reservedCell s r.1 r.2.1 r.2.2).isNone).foldl (fun s r => count (releasedKey r.2.1) s) s
  let (m, s) := matchSlot (hit.map (·.1)) (hit.map (·.2.1)) s
  (hit ++ m, s)

/-- What crosses in a slot, with the state in which it has been decided: in dual-plane operation the slot's own cells; in
degraded mode nothing in the first slot of a double slot and its cells in the second; with both planes out nothing (R72,
R74). A double slot that began before the mode was entered carries nothing. -/
def slotCells (s : State) : List SlotMatch × State :=
  if planesDown s then ([], modFab (fun b => { b with double := [] }) s)
  else if planeDown s then
    if s.clk.slot % 2 = 0 then
      let (m, s) := planSlot s
      ([], modFab (fun b => { b with double := m }) s)
    else (s.fab.double, modFab (fun b => { b with double := [] }) s)
  else planSlot s

/-- One fabric slot (R67, R72, R76, R77): nothing past the tick's last slot. What the inputs could offer at its start is kept
for the next slot's matching. -/
def fabricSlot (faults : List CellFault) (s : State) : State :=
  if slotsNow s ≤ s.clk.slot ∨ ¬ s.pwr.hive then s
  else
    let (cells, t) := slotCells s
    let crossing := (cells ++ t.fab.double).map (·.2.2)
    let t := modFab (fun b => { b with ready := (List.range 32).map fun i => (i, offers s crossing i) }) t
    let t := cells.foldl (fun s e => carryCell faults e.1 e.2.2 s) t
    let t := (List.range 32).foldl (fun s p => fillStaging p s) t
    startAll { t with clk := { t.clk with slot := t.clk.slot + 1 } }

/-- FABRIC_SLOT. -/
def execFabricSlot (faults : List CellFault) (s : State) : Res := conclude s (fabricSlot faults s)

/-! ### Back-pressure refresh (R85) -/

/-- Half the pause time has passed: every pause the device holds on the port is sent again. -/
def pauseRefresh (n : Nat) (s : State) : State :=
  if canPause s n then
    (((fabPortAt s n).pausedBy.map fun q => pauseVector s n (q % 8)).eraseDups).foldl (fun s v => sendPause n v 0xFFFF s) s
  else s

/-- PAUSE_REFRESH_TIMER. -/
def execPauseRefreshTimer (port : Fin 24) (s : State) : Res := conclude s (pauseRefresh port s)

/-! ### Spill (R82-R84) -/

/-- A DRAM slot of a client is due in this tick (R42). [log 28 DESIGN CHOICE] -/
def dramSlotDue (s : State) (client : Nat) : Bool := s.comb.now.any fun a => actType a == 3 && actClient a == client

/-- A queue has a cell waiting for a tail write. -/
def wantsWrite (s : State) (q : Nat) : Bool := (queueAt s q).cells.any (·.2.toSpill)

/-- The frame the queue's output is sending, or that its controller or cipher lane takes next. -/
def sendingOf (s : State) (q : Nat) : Option Nat :=
  if isEth (q / 8) then (portAt s (q / 8)).eth.tx else (queueAt s q).frames.head?

/-- A sent cell at the head of a frame in transmission, which makes room for a read-back. -/
def sentHead (s : State) (q : Nat) : Option CellRef :=
  (sendingOf s q).bind fun id => ((queueAt s q).cells.find? fun c => c.1.frame == id && c.2 == .reserved).map (·.1)

/-- A queue has a cell at its DRAM head and room for it on chip; the engine stops issuing at 512 in flight. -/
def wantsRead (s : State) (q : Nat) : Bool :=
  let x := queueAt s q
  x.cells.any (·.2 == .dram) && s.fab.spillInFlight < 512 &&
  ((x.cells.filter fun c => c.2 == .reserved || c.2 == .transit).length < limReserved (limitOf s q) || (sentHead s q).isSome)

/-- The first cell of a queue with such a pool changed. -/
def firstPool (p : Pool → Bool) (f : Pool) : List (CellRef × Pool) → List (CellRef × Pool)
  | [] => []
  | e :: r => if p e.2 then (e.1, f) :: r else e :: firstPool p f r

/-- A cell joins the DRAM segment: its parity group takes it in, and is closed with its eighth cell (R83). -/
def OutQueue.toDram (x : OutQueue) (c : CellRef) (img : Blob) : OutQueue :=
  { x with
    cells := firstPool Pool.toSpill .dram x.cells, dram := x.dram ++ [(c, x.groupSeq, img)]
    parity := mapPut x.groupSeq (xorCell ((mapGet x.groupSeq x.parity).getD []) img) x.parity
    groupFill := (x.groupFill + 1) % 8, groupSeq := if x.groupFill = 7 then (x.groupSeq + 1) % 2 ^ 32 else x.groupSeq }

/-- A tail write: the oldest waiting cell goes to DRAM with its share of the parity, and frees its on-chip cell. [log 28 DESIGN CHOICE] -/
def spillWrite (q : Nat) (s : State) : State :=
  let s := match (queueAt s q).cells.find? (·.2.toSpill) with
    | none => s
    | some (c, _) => modQueue q (fun x => x.toDram c (((frameAt s c.frame).map (·.image c)).getD [])) s
  freeCell (modFab (fun b => { b with
    spillUsed := b.spillUsed + 1, spillFree := b.spillFree - 1, spillInFlight := b.spillInFlight - 1,
    spillWPtr := rrNext 256 q, spillReadNext := true }) s)

/-- A cell that its output has sent is freed, its credit returned, and the queue's back-pressure follows (R82, R85). -/
def freeSent (q : Nat) (c : CellRef) (s : State) : State :=
  match frameAt s c.frame with
  | none => s
  | some f =>
    let s := modQueue q (fun x => { x with
      cells := x.cells.filter (·.1 ≠ c), credits := if f.inPort < 24 then x.credits else x.credits - 1 }) s
    pressure q (freeCell (modFrame f.id (fun f => { f with sent := f.sent + 1 }) s))

/-- A head read begins: the first DRAM cell is in transit to a reserved cell. [log 28 DESIGN CHOICE] -/
def spillRead (q : Nat) (s : State) : State :=
  let x := queueAt s q
  let full : Bool := decide (limReserved (limitOf s q) ≤ (x.cells.filter fun c => c.2 == .reserved || c.2 == .transit).length)
  let s := match full, sentHead s q with
    | true, some c => freeSent q c s
    | _, _ => s
  let s := modQueue q (fun x => { x with cells := firstPool (· == Pool.dram) .transit x.cells }) s
  allocCell (modFab (fun b => { b with
    spillUsed := b.spillUsed - 1, spillFree := b.spillFree + 1, spillInFlight := b.spillInFlight + 1,
    spillRPtr := rrNext 256 q, spillReadNext := false }) s)

/-- One DRAM slot of client 0: a tail write or a head read; when both are pending they alternate, writes first (R84). -/
def spillDramSlot (s : State) : State :=
  if !dramSlotDue s 0 then s
  else
    match rrPick 256 s.fab.spillWPtr (wantsWrite s), rrPick 256 s.fab.spillRPtr (wantsRead s) with
    | some w, some r => if s.fab.spillReadNext then spillRead r s else spillWrite w s
    | some w, none => spillWrite w s
    | none, some r => spillRead r s
    | none, none => s

/-- SPILL_DRAM_SLOT. -/
def execSpillDramSlot (s : State) : Res := conclude s (spillDramSlot s)

/-- A frame lost at read-back goes without being counted, and the auditor finds it (R83). -/
def loseFrame (id : Nat) (s : State) : State :=
  match frameAt s id with
  | none => s
  | some f => removeFrame id (endSending f s)

/-- A cell rebuilt: the parity of its group with every other cell of the group that is still in DRAM (R83). -/
def OutQueue.rebuild (x : OutQueue) (c : CellRef) : Blob :=
  match x.dram.find? (·.1 == c) with
  | none => []
  | some (_, g, _) => (x.dram.filter fun e => e.2.1 == g && e.1 ≠ c).foldl (fun a e => xorCell a e.2.2) ((mapGet g x.parity).getD [])

/-- The cell delivered at read-back stands in its frame. -/
def deliverCell (c : CellRef) (img : Blob) (s : State) : State :=
  modFrame c.frame (fun f => { f with bytes := patch f.bytes (64 * c.idx) (sub img 16 (min 64 (f.bytes.length - 64 * c.idx))) }) s

/-- A cell comes back from DRAM (R82, R83). An uncorrectable one is rebuilt from its group; a second in the group loses
both frames. The queue leaves spill mode with its segment empty and nothing in transit. -/
def spillReadback (q : Nat) (eccBad : Bool) (s : State) : State :=
  match (queueAt s q).cells.find? (·.2 == .transit) with
  | none => s
  | some (c, _) =>
    let x := queueAt s q
    let (g, img) := ((x.dram.find? (·.1 == c)).map (·.2)).getD (0, [])
    let s := modQueue q (fun x => ({ x with
      cells := firstPool (· == Pool.transit) .reserved x.cells
      groupLost := if eccBad then mapPut g c.frame x.groupLost else x.groupLost }).undram c) s
    let s := modFab (fun b => { b with spillInFlight := b.spillInFlight - 1 }) s
    let data := leBytes 2 q ++ leBytes 4 g
    let s := match eccBad, mapGet g x.groupLost with
      | false, _ => deliverCell c img s
      | true, none => logEvent 2 clsMasked 0x0004 (odKey 0x3821 1) data (count (odKey 0x3821 1) (deliverCell c (x.rebuild c) s))
      | true, some other =>
        loseFrame other (loseFrame c.frame (logEvent 2 clsUnmasked 0x0022 (odKey 0x3821 2) data (count (odKey 0x3821 2) s)))
    startAll (modQueue q OutQueue.unspill s)

/-- SPILL_READBACK_COMPLETE. -/
def execSpillReadbackComplete (queue : Fin 256) (eccBad : Bool) (s : State) : Res := conclude s (spillReadback queue eccBad s)

/-! ### Stall (R87) -/

/-- The output holds a complete frame, in a queue or in a buffer of its controller (R87, R150, R155). -/
def outputLoaded (s : State) (n : Nat) : Bool :=
  (servedOrder s n).any (frameComplete s) || !(portAt s n).can.bufs.isEmpty || (portAt s n).can.refBuf.isSome ||
  !(portAt s n).lin.resp.isEmpty

/-- The stall limit of a port has passed without a bit sent: it is declared down, or where it was stopping, what remains
is flushed (R87, R97, R166, R172). [log 41 DEDUCED] -/
def stallLimitExpiry (n : Nat) (s : State) : State :=
  match (portAt s n).st with
  | .running | .busSleep => if outputLoaded s n then declareDown n 2 s else s
  | .recovering => if isEth n ∨ outputLoaded s n then declareDown n 2 s else s
  | .stopping | .pending => if outputLoaded s n ∧ ¬ (portAt s n).flushing then beginFlush n s else s
  | _ => s

/-- STALL_LIMIT_EXPIRY. -/
def execStallLimitExpiry (port : Fin 24) (s : State) : Res := conclude s (stallLimitExpiry port s)

/-! ### Mirrors (R102, R103) -/

def mirrorAt (s : State) (m : Nat) : MirrorSt := (s.fab.mirrors[m]?).getD {}
def modMirror (m : Nat) (f : MirrorSt → MirrorSt) (s : State) : State := modFab (fun b => { b with mirrors := vmod b.mirrors m f }) s

/-- A frame of the session's port passes, in its direction; a session that runs and whose class mask admits it captures its
head. -/
def mirrorCapture (m : Nat) (cap : MirrorCap) (s : State) : State :=
  let src := val s (odKey (0x3810 + m) 1)
  let on := (mirrorAt s m).st == .running && (if flag s (odKey (0x3810 + m) 2) then cap.outPort.val else cap.inPort.val) == src
  if on && (val s (odKey (0x3810 + m) 3)).testBit cap.tc.val then
    modMirror m (fun x => { x with waiting := x.waiting ++ [(cap, nowNs s - cap.ago)] }) s
  else s

/-- MIRROR_CAPTURE. -/
def execMirrorCapture (session : Fin 8) (cap : MirrorCap) (s : State) : Res := conclude s (mirrorCapture session cap s)

/-- The header of a captured frame's first cell (R69). -/
def mirrorHeader (cap : MirrorCap) : CellHdr :=
  { first := true, last := cap.len ≤ 64, inPort := cap.inPort, outPort := cap.outPort, tc := cap.tc, valid := min cap.len 64
    len := cap.len, cseq := cap.cseq.toNat, flow := cap.flow, err := cap.err, ct := cap.ct, ciph := cap.ciph, win := cap.win
    hash := cap.hash.toNat, ts := cap.ts.toNat }

/-- A ring entry (R103); HDR stands with its most significant byte first. [log 27 DEDUCED] -/
def mirrorEntry (s : State) (m seq : Nat) (cap : MirrorCap) (time : Nat) : Blob :=
  let k := 0x3810 + m
  subPad cap.frame 0 64 ++ leBytes 8 time ++ leBytes 4 seq ++
  leBytes 1 (val s (odKey k 1) % 32 + val s (odKey k 2) % 2 * 128) ++
  leBytes 1 (cap.tc.val + cap.err.toNat * 8 + cap.ct.toNat * 16 + cap.policed.toNat * 32 + cap.flushed.toNat * 64 + cap.flow.isSome.toNat * 128) ++
  leBytes 2 (cap.len % 16384) ++ leBytes 2 (cap.flow.getD 0) ++ beBytes 16 (mirrorHeader cap).bits ++ zeros 30

/-- The oldest capture finds a DRAM slot of client 1 and is written; the oldest entry of a full ring is overwritten. [log 27 DEDUCED] -/
def mirrorWrite (m : Nat) (s : State) : State :=
  match (mirrorAt s m).waiting with
  | [] => s
  | (cap, t) :: rest =>
    if !dramSlotDue s 1 then s
    else
      let x := mirrorAt s m
      let s := if (mapGet x.write x.ring).isSome then count (odKey (0x3810 + m) 7) s else s
      modMirror m (fun y => { y with
        waiting := rest, ring := mapPut x.write (mirrorEntry s m x.seq cap t) y.ring, seq := (x.seq + 1) % 2 ^ 32,
        write := (x.write + 1) % max (val s (odKey (0x3810 + m) 5)) 1 }) s

/-- MIRROR_ENTRY_WRITE. -/
def execMirrorEntryWrite (session : Fin 8) (s : State) : Res := conclude s (mirrorWrite session s)

/-- 64 us after its capture the oldest entry has found no slot: it is not written, and counted (R102). -/
def mirrorSkip (m : Nat) (s : State) : State :=
  match (mirrorAt s m).waiting with
  | [] => s
  | _ :: rest => count (odKey (0x3810 + m) 9) (modMirror m (fun x => { x with waiting := rest }) s)

/-- MIRROR_SKIP_TIMEOUT. -/
def execMirrorSkipTimeout (session : Fin 8) (s : State) : Res := conclude s (mirrorSkip session s)

/-! ### Settings with conditions of their own (R86, R87, R104) -/

/-- The effect of a write to 0x3800/07. -/
def effClearHighWater (s : State) (n : Nat) : Access :=
  if n ≠ 0 then .error abRange
  else
    let s := modFab (fun b => { b with headroomHigh := 0 }) s
    let s := (List.range 32).foldl (fun s f => setVal (odKey 0x3805 (f + 1)) 0 s) s
    .ok ((List.range 14).foldl (fun s p => setVal (pk p 6 3) 0 (setVal (pk p 6 4) 0 s)) s)

/-- The write that clears the high-water marks. -/
def clearHighWater (slot v : Nat) (s : State) : State :=
  writeEntry slot 0x3800 7 (numFor 0x3800 7 v) true (fun _ n _ => effClearHighWater s n) s

/-- CLEAR_HIGH_WATER. -/
def execClearHighWater (slot : Fin 16) (v : Nat) (s : State) : Res := conclude s (clearHighWater slot v s)

/-- Headroom the pause graces claim (R86). -/
def graceSum (s : State) : Nat :=
  (((List.range 6).map (18 + ·)).filter (portFitted s)).map (fun n =>
    val s (odKey 0x3807 (n + 1)) + ceilDiv (val s (pk n 1 2)) 64) |>.sum

/-- The effect of a write to a pause grace. -/
def effPauseGrace (s : State) (port n : Nat) : Access :=
  let s' := setVal (odKey 0x3807 (port + 1)) n s
  if 3584 < graceSum s' then .error abRange else .ok (keepVal (odKey 0x3807 (port + 1)) n s)

/-- The write of a pause grace. -/
def pauseGraceWrite (slot port v : Nat) (s : State) : State :=
  writeEntry slot 0x3807 (port + 1) (numFor 0x3807 (port + 1) v) true (fun _ n _ => effPauseGrace s port n) s

/-- PAUSE_GRACE_WRITE. -/
def execPauseGraceWrite (slot : Fin 16) (port : Fin 24) (v : Nat) (s : State) : Res := conclude s (pauseGraceWrite slot port v s)

/-- The effect of a write to a stall limit: it exceeds the pause-watchdog limit of a GE or XG port by 10 ms. -/
def effStallLimit (s : State) (port n : Nat) : Access :=
  if 18 ≤ port ∧ n < val s (pk port 3 5) + 10 then .error abRange else .ok (keepVal (odKey 0x3808 (port + 1)) n s)

/-- The write of a stall limit. -/
def stallLimitWrite (slot port v : Nat) (s : State) : State :=
  writeEntry slot 0x3808 (port + 1) (numFor 0x3808 (port + 1) v) true (fun _ n _ => effStallLimit s port n) s

/-- STALL_LIMIT_WRITE. -/
def execStallLimitWrite (slot : Fin 16) (port : Fin 24) (v : Nat) (s : State) : Res := conclude s (stallLimitWrite slot port v s)

end Sys2Proof.Machine
end

