-- ==== Sys2Proof/Machine/Signal.lean ====
section
/-! DEFINITION. Commands of the signal engine that come from outside a fabric slot: reloads, freshness records, J1939
address claims and broadcast transport (R106, R128, R133, R135-R137). -/

namespace Sys2Proof.Machine

/-! ### The unlock message (R430, R455) -/

/-- Time since the wake of the last boot, in µs. -/
def bootMicros (s : State) : Nat := (s.clk.ao - s.pwr.bootStart) * 15625 / 512

/-- A frame carries signal 131,067, which unlocks (R282, R455). -/
def unlockFrame (s : State) (f : Frame) : Bool :=
  f.outPort < 24 && match f.pdu with | some i => (routesOf s 1 i).any fun e => rtSig e.1 == 131067 | none => false

/-- A port has sent a frame whose first bit left it `ago` ps ago: with the unlock message the boot time of a touch wake stands. [log 107 DEDUCED] -/
def unlockSent (f : Frame) (ago : Nat) (s : State) : State :=
  if s.pwr.unlockDue && unlockFrame s f then
    setVal (odKey 0x2181 4) (min (bootMicros s - ago / 1000000) 0xFFFFFFFF) { s with pwr := { s.pwr with unlockDue := false } }
  else s

/-! ### Reloads and records (R106, R128, R133) -/

/-- A reload of a route or PDU entry from the Comb set is complete (R106): the entry acts again, and the case is logged. [log 38 DESIGN CHOICE] -/
def routeReload (pdu : Bool) (i : Nat) (s : State) : State :=
  if serviceOnly s ∨ ¬ s.pwr.hive then s
  else
    logEvent 3 clsMasked 0x000B 0 (leBytes 1 pdu.toNat ++ leBytes 3 i)
      (modSig (fun g => { g with reloading := g.reloading.filter (· ≠ (pdu, i)) }) s)

/-- ROUTE_RELOAD_COMPLETE. -/
def execRouteReloadComplete (pduTable : Bool) (index : Nat) (s : State) : Res := conclude s (routeReload pduTable index s)

/-- FRESHNESS_RECORD_COMMIT: a stream's record is committed (R133). -/
def execFreshnessRecordCommit (stream : Fin 4096) (s : State) : Res := conclude s (recordStream stream s)

/-- A PDU of either resident Comb uses the stream (R33). -/
def streamResident (s : State) (j : Nat) : Bool := s.comb.pduTab.any fun e => pduSeal e.1 == 1 && pduStream e.1 == j

/-- The effect of a write to 0x3A03/02 (R128, R140): a stream whose slot changes is unused or not resident. -/
def effStreamSlots (s : State) (b : Blob) : Access :=
  if b.length ≠ 4096 then .error abType
  else
    let old := subPad (blob s (odKey 0x3A03 2)) 0 4096
    let changed := ((old.zip b).zipIdx.filter fun e => e.1.1 ≠ e.1.2).map (·.2)
    if changed.any fun j => (streamAt s j).state ≠ 0 && streamResident s j then .error abState
    else if b.any fun x => 64 ≤ x.toNat then .error abRange
    else .ok (keepBlob (odKey 0x3A03 2) b s)

/-- The write of the streams' key slots. -/
def streamKeySlotWrite (slot : Nat) (data : Blob) (s : State) : State :=
  writeEntry slot 0x3A03 2 (.bytes data) true (fun _ _ b => effStreamSlots s b) s

/-- STREAM_KEY_SLOT_WRITE. -/
def execStreamKeySlotWrite (slot : Fin 16) (data : Blob) (s : State) : Res := conclude s (streamKeySlotWrite slot data s)

/-! ### Address claims (R135, R136) -/

/-- The NAME of a CAN port (0x3A20 + n/01). -/
def nameOf (s : State) (n : Nat) : Nat := val s (odKey (0x3A20 + n) 1)

/-- The Address Claimed message of a port for an address (PGN 0xEE00 to the global address, priority 6). [log 35 DEDUCED] -/
def claimFrame (s : State) (n address : Nat) : CanFrame :=
  { id := BitVec.ofNat 29 (0x18EEFF00 + address), fmt := .classicExt, rtr := false, brs := false, esi := false, sec := false,
    sdt := 0, af := 0, vcid := 0, data := leBytes 8 (nameOf s n) }

/-- A port's claim changed. -/
def setClaim (n : Nat) (x : ClaimSt) (s : State) : State := modSig (fun g => { g with claims := vmod g.claims n fun _ => x }) s

/-- The claim responder's Address Claimed. It is sent by the controller itself and is no frame of the fabric. [log 35 DEDUCED] -/
def sendClaim (n : Nat) (s : State) : State :=
  count (pk n 8 2) (emit (.can n (claimFrame s n (claimAt s n).address)) s)

/-- A CAN port takes part in the bus. -/
def canRunning (s : State) (n : Nat) : Bool := portKind n == .can && portFitted s n && (portAt s n).st == .running

/-- The keeper claims an address, or with 0xFE says that it cannot (R135); its message crosses the fabric from F28. [log 35 DEDUCED] -/
def addressClaim (n address : Nat) (s : State) : State :=
  if canRunning s n ∧ s.kpr.running ∧ val s (odKey (0x3A20 + n) 2) ≠ 0xFE then
    sendFrame { id := 0, bytes := canFabric (claimFrame s n address) false, inPort := 28, outPort := n, tc := 0, ts := nowNs s }
      (setClaim n { address := address, state := if address = 0xFE then 3 else 2 } s)
  else s

/-- ADDRESS_CLAIM_INITIAL. -/
def execAddressClaimInitial (port : Fin 24) (address : Byte) (s : State) : Res := conclude s (addressClaim port address.toNat s)

/-- A Request for Address Claimed to the device's address or to the global one is answered (R135). -/
def claimRequest (n dest : Nat) (s : State) : State :=
  if canRunning s n ∧ (claimAt s n).state = 2 ∧ (dest = 0xFF ∨ dest = (claimAt s n).address) then sendClaim n s else s

/-- ADDRESS_CLAIM_REQUEST. -/
def execAddressClaimRequest (port : Fin 24) (destination : Byte) (s : State) : Res := conclude s (claimRequest port destination.toNat s)

/-- The write of the binding table: an entry that changes holds no address until its NAME is seen. -/
def effBindings (s : State) (b : Blob) : Access :=
  if b.length ≠ 2304 then .error abType
  else
    let t := keepBlob (odKey 0x3A2B 1) b s
    .ok (modSig (fun g => { g with bindings := g.bindings.filter fun e => bindingOf s e.1 == bindingOf t e.1 }) t)

/-- The bindings of a NAME on a port follow its address; 0xFE holds none (R136). [log 35 DEDUCED] -/
def bindAddress (n sa name : Nat) (s : State) : State :=
  ((List.range 256).filter fun i => bindingOf s i == (name, n)).foldl (fun s i =>
    modSig (fun g => { g with bindings := if sa = 0xFE then mapDel i g.bindings else mapPut i sa g.bindings }) s) s

/-- A contending claim on the device's own address: the lower NAME keeps it (R135). [log 35 DEDUCED] -/
def claimContention (n sa name : Nat) (s : State) : State :=
  let x := claimAt s n
  if x.state ≠ 2 ∨ sa ≠ x.address ∨ name = nameOf s n then s
  else if nameOf s n < name then sendClaim n s
  else logEvent 3 clsPartner 0 (odKey (0x3A20 + n) 4) (leBytes 1 n ++ leBytes 1 sa) (setClaim n { x with state := 3 } s)

/-- A received Address Claimed. -/
def addressClaimed (n sa name : Nat) (s : State) : State :=
  if canRunning s n then claimContention n sa name (bindAddress n sa name s) else s

/-- ADDRESS_CLAIMED_RECEIVED. -/
def execAddressClaimedReceived (port : Fin 24) (sa : Byte) (name : BitVec 64) (s : State) : Res :=
  conclude s (addressClaimed port sa.toNat name.toNat s)

/-! ### Broadcast transport (R137) -/

/-- A receive PDU that broadcast transport carries (R137). -/
def bamReceives (d : BitVec 512) : Bool := !pduTransmit d && pduJ1939 d && 8 < pduPaylen d

/-- The receive PDU of a parameter group that comes by broadcast transport on a port. -/
def bamPdu (s : State) (port sa pgn : Nat) : Option (Nat × BitVec 512) :=
  match s.comb.active with
  | none => none
  | some c =>
    (c.pdus.zipIdx.find? fun e =>
      bamReceives e.1 && pduPort e.1 == port && bitsOf (pduKey e.1) 17 0 == pgn && saAdmits s e.1 sa &&
        !reloadingEntry s true e.2).map fun e => (e.2, e.1)

/-- A cluster's session of a port and source address. -/
def bamOf (s : State) (k port sa : Nat) : Option BamSession :=
  (s.sig.bams.find? fun e => e.1 == k && e.2.port == port && e.2.sa == sa).map (·.2)

/-- Sessions without that one. -/
def bamDrop (k port sa : Nat) (s : State) : State :=
  modSig (fun g => { g with bams := g.bams.filter fun e => !(e.1 == k && e.2.port == port && e.2.sa == sa) }) s

/-- A session is aborted and writes nothing. [log 36 DEDUCED] -/
def bamAbort (k port sa : Nat) (s : State) : State :=
  if (bamOf s k port sa).isSome then count (odKey 0x3A2A 1) (bamDrop k port sa s) else s

/-- TP.CM_BAM at a cluster: a session already open for the address is aborted; too large or with every session busy the
announcement is ignored; one whose count does not match its size is aborted at once. [log 36 DEDUCED] -/
def bamAnnounce (k port sa pgn size packets : Nat) (s : State) : State :=
  let s := bamAbort k port sa s
  match bamPdu s port sa pgn with
  | none => s
  | some (_, d) =>
    if !(pduCmask d).testBit k || !clusterFitted s k then s
    else if 1785 < size then count (odKey 0x3A2A 3) s
    else
      if 32 ≤ (s.sig.bams.filter (·.1 == k)).length then count (odKey 0x3A2A 3) s
      else if packets ≠ ceilDiv size 7 ∨ packets = 0 then count (odKey 0x3A2A 1) s
      else modSig (fun g => { g with bams := g.bams ++
        [(k, { port := port, sa := sa, pgn := pgn, size := size, packets := packets, next := 1, data := [] })] }) s

/-- BAM_ANNOUNCE. -/
def execBamAnnounce (cluster : Fin 4) (port : Fin 24) (sa : Byte) (pgn : BitVec 18) (size packets : Nat) (s : State) : Res :=
  conclude s (bamAnnounce cluster port sa.toNat pgn.toNat size packets s)

/-- A reassembled parameter group is unpacked (R119, R137). -/
def bamUnpack (port sa pgn : Nat) (payload : Blob) (s : State) : State :=
  match bamPdu s port sa pgn with
  | none => s
  | some (i, d) =>
    let n := min (pduPaylen d) payload.length
    let s := unpackRoutes i n payload (pduSeal d == 2) (fun _ => true) s
    if payload.length ≠ pduPaylen d then count (odKey 0x3A01 5) s else s

/-- TP.DT at a cluster: the next packet in sequence is added, and the last one unpacks the group. [log 36 DEDUCED] -/
def bamPacket (k port sa seqNo : Nat) (data : Blob) (s : State) : State :=
  match bamOf s k port sa with
  | none => s
  | some x =>
    if seqNo ≠ x.next ∨ data.length ≠ 7 then bamAbort k port sa s
    else if x.next = x.packets then
      count (odKey 0x3A2A 2) (bamUnpack port sa x.pgn ((x.data ++ data).take x.size) (bamDrop k port sa s))
    else
      let s := bamDrop k port sa s
      modSig (fun g => { g with bams := g.bams ++ [(k, { x with next := x.next + 1, data := x.data ++ data })] }) s

/-- BAM_PACKET. -/
def execBamPacket (cluster : Fin 4) (port : Fin 24) (sa : Byte) (seqNo : Nat) (data : Blob) (s : State) : Res :=
  conclude s (bamPacket cluster port sa.toNat seqNo data s)

/-- BAM_GAP_TIMEOUT: 750 ms without a packet abort the session. -/
def execBamGapTimeout (cluster : Fin 4) (port : Fin 24) (sa : Byte) (s : State) : Res := conclude s (bamAbort cluster port sa.toNat s)

end Sys2Proof.Machine
end

