-- ==== Sys2Proof/Machine/PortOps.lean ====
section
/-! DEFINITION. What the external ports share: starting, stopping and recovering (R153, R164-R166, R171, R172, R198, R457,
R458), filters and the copies of a received frame (R124, R146, R147, R177), and the time reference (R35, R38). -/

namespace Sys2Proof.Machine

/-! ### Service ports (R414, R415, R417, R421) -/

/-- A transport setting in force since the keeper's start (R421). -/
def setting (s : State) (k : Nat) : Nat := (mapGet k s.sess.inForce).getD (odDefault k)

/-- A CAN port is a service port (R414). -/
def canService (s : State) (n : Nat) : Bool := n < 10 && portFitted s n && (setting s (odKey 0x1030 1)).testBit n

/-- An Ethernet port serves OD-over-UDP and DoIP (R415). -/
def ethService (s : State) (n : Nat) : Bool := isEth n && portFitted s n && (setting s (odKey 0x1033 1)).testBit n

/-- A frame of a service port that goes to the keeper in TC6 ahead of the filters: an SDO request of the port's node ID, or a
frame with the request identifier of ISO 15765-2. [log 124 DEDUCED] -/
def canServed (s : State) (n : Nat) (x : CanFrame) : Bool :=
  let req := setting s (odKey 0x1034 2)
  canService s n &&
  ((x.fmt == .classicBase && !x.rtr && x.id.toNat == 0x600 + setting s (odKey 0x1031 (n + 1))) ||
   ((x.fmt == .classicExt) == req.testBit 31 && (x.fmt == .classicBase || x.fmt == .classicExt) && !x.rtr &&
     x.id.toNat == req % 2 ^ 29))

/-! ### Stopping and starting (R166, R172, R198, R458) -/

/-- A port starts from rest: empty queues and buffers, no pause, error counters at 0 (R166, R198). -/
def Port.fresh (p : Port) (integrate : Bool) : Port :=
  let q := p.cleared
  { q with
    downCause := 0, voteOff := false, holdoff := false, recoverySeq := false, integrating := integrate
    can := { q.can with bufs := [], rq0 := [], rq1 := [], tec := 0, recv := 0, refState := 0, lastRefPs := none, refMark := 0 }
    lin := { q.lin with rq0 := [], rq1 := [], blackout := false, lastHeaderPs := none }
    eth := { q.eth with linkUp := false, wakeBurst := false, plca := 0 } }

/-- A port runs after a start: a LIN commander wakes the bus (R165), a TSA port sends its wake burst (R188), and its PLCA
begins: the coordinator is active, a follower waits for a BEACON (R186). -/
def onStart (n : Nat) (s : State) : State :=
  match portKind n with
  | .lin =>
    if val s (pk n 1 1) = 0 ∧ flag s (pk n 0xB 2) then
      emit (.linWakeup n) (modPort n (fun p => { p with lin := { p.lin with blackout := true } }) s)
    else s
  | .tsa =>
    let plca := if !flag s (pk n 0xB 1) then 0 else if val s (pk n 0xB 2) = 0 then 1 else 2
    let burst := flag s (pk n 9 3)
    let s := modPort n (fun p => { p with eth := { p.eth with plca := plca, wakeBurst := burst } }) s
    if burst then emit (.tsaWakeBurst n) s else s
  | _ => s

/-- A port starts with empty queues: what came for it while it was stopped is flushed (R166, R198). It is PENDING while its
pads are held (R447), RECOVERING until its link is up (R172), else RUNNING. [log 25 DEDUCED] -/
def startPort (n : Nat) (s : State) : State :=
  if s.pwr.held.getLsbD n then setPortState n .pending s
  else
    let s := modPort n (fun p => p.fresh (n < 14)) (flushFrames n (flushSet s n) s)
    match portKind n with
    | .ge | .xg => setPortState n .recovering s
    | _ => onStart n (setPortState n .running s)

/-- The LIN go-to-sleep command of a commander that stops (R165): 0x3C, classic checksum. -/
def goToSleep (n : Nat) (s : State) : State :=
  if portKind n = .lin ∧ val s (pk n 1 1) = 0 ∧ flag s (pk n 0xB 1) ∧ (portAt s n).st = .running then
    emit (.linResponse n 0x3C ([0x00] ++ List.replicate 7 0xFF) 0x00) (emit (.linHeader n 0x3C) s)
  else s

/-- A port that was on its bus or recovering begins its stop sequence (R166, R198). -/
def stopPort (n : Nat) (s : State) : State :=
  setPortState n .stopping (modPort n (fun p => { p with holdoff := false, recoverySeq := false, stopPs := nowPs s }) (goToSleep n s))

/-- The port was stopped with its domain's vote: what it finishes stops under R166, and its pads stay held once the domain is
off (R157, R444, R447). -/
def withHeld (n : Nat) (s : State) : State :=
  if (portAt s n).voteOff then
    { modPort n (fun p => { p with voteOff := false }) s with pwr := { s.pwr with held := s.pwr.held ||| BitVec.twoPow 26 n } }
  else s

/-- A shut-down has reached its end (R458): the link is off, the sessions of the port are closed (R407), and a pending
enable starts the port at once, or with its pads once they are released. [log 46 DEDUCED] -/
def finishStop (n : Nat) (s : State) : State :=
  let s := withHeld n <| closeEndpoint n (modPort n (fun p => { p.cleared with eth := { p.cleared.eth with linkUp := false, plca := 0, wakeBurst := false } }) s)
  if (portAt s n).st = .pending then startPort n s else setPortState n .stopped s

/-- Nothing is left to send on the port: its queues, its buffers, the frame in transmission. -/
def outputEmpty (s : State) (n : Nat) : Bool := !outputLoaded s n && (portAt s n).eth.tx.isNone

/-- The stop sequence of a port completes once nothing is left to send (R166, R198). -/
def portStopped (n : Nat) (s : State) : State :=
  let p := portAt s n
  if (p.st = .stopping ∨ (p.st = .pending ∧ ¬ s.pwr.held.getLsbD n)) ∧ ¬ p.flushing ∧ outputEmpty s n ∧
      ((s.fab.ingress[n]?).join).isNone ∧ p.test.st ≠ 1 ∧ s.test.bist ≠ some (0x30 + n) then finishStop n s
  else s

/-- A BIST runs on the memory with this code (R483): its owner's Enable waits. -/
def bistOn (s : State) (code : Nat) : Bool := s.test.bist == some code

/-- The effect of a write to a port's Enable (R458). While a port test runs, a write is held as in STOPPING, and the test stops first (R431). In the
holdoff of automatic recovery an enable leaves the recovery to run (R153). [log 40 DEDUCED] -/
def effPortEnable (s : State) (n v : Nat) : Access :=
  let s := keepVal (portEnableKey n) v s
  let p := portAt s n
  let busy := p.flushing || p.test.st == 1 || bistOn s (0x30 + n)
  let s := modPort n (fun p => if p.test.st = 1 then { p with test := { p.test with stopping := true } } else p) s
  .ok (
    if v = 0 then
      match p.st with
      | .running | .busSleep | .recovering => stopPort n s
      | .pending => setPortState n .stopping s
      | .down => if busy then setPortState n .stopping s else finishStop n s
      | _ => s
    else
      match p.st with
      | .stopped => if busy then setPortState n .pending s else startPort n s
      | .stopping => setPortState n .pending s
      | .down => if busy then setPortState n .pending s else if p.holdoff then s else startPort n s
      | .fault => startPort n s
      | _ => s)

/-! ### Recovery (R97, R153, R164, R171) -/

/-- A port is back in service: cause cleared, RUNNING. -/
def recovered (n : Nat) (s : State) : State :=
  setPortState n .running (modPort n (fun p => { p with downCause := 0, recoverySeq := false, integrating := false }) s)

/-- Recovery by itself is open to the port: mode 1, and not held down (R153, R170). [log 40 DEDUCED] -/
def mayRecover (s : State) (n : Nat) : Bool :=
  val s (pk n 4 1) == 1 && (portAt s n).downCause ≠ 4 && (portAt s n).downCause ≠ 6

/-- The flush of a port has ended (R97 step 7): the event carries its frame and cell counts; a shut-down ends with it; a
down port in mode 1 enters its holdoff, once a PHY fault has cleared (R153, R187). [log 25 DEDUCED; log 40 DEDUCED] -/
def flushComplete (n : Nat) (s : State) : State :=
  let p := portAt s n
  if !p.flushing then s
  else
    let s := releaseQueues n (modPort n (fun p => { p with flushing := false }) s)
    let s := logEvent (16 + n) clsState (4 + 256 * p.downCause) (flushedKey n) (leBytes 4 p.flushedFrames ++ leBytes 4 p.flushedCells) s
    match p.st with
    | .stopping | .pending => finishStop n s
    | .down => if mayRecover s n ∧ ¬ p.eth.phyFault then modPort n (fun p => { p with holdoff := true }) s else s
    | _ => s

/-- FLUSH_COMPLETE. -/
def execFlushComplete (port : Fin 24) (s : State) : Res := conclude s (flushComplete port s)

/-- The holdoff of a down port ends; a port test suspends it (R475). CAN waits for its recovery sequence, a GE or XG port
for its link, and the others run (R153, R164, R171). [log 40 DEDUCED] -/
def holdoffExpiry (n : Nat) (s : State) : State :=
  let p := portAt s n
  if p.st = .down ∧ p.holdoff ∧ p.test.st ≠ 1 ∧ ¬ p.eth.phyFault then
    let s := modPort n (fun p => { p with holdoff := false }) s
    match portKind n with
    | .can => setPortState n .recovering (modPort n (fun p => { p with recoverySeq := true }) s)
    | .ge | .xg => if p.eth.linkUp then recovered n s else setPortState n .recovering s
    | _ => recovered n s
  else s

/-! ### The time reference (R35, R38) -/

/-- Port `n` is the CAN reference port of the active Comb. -/
def canReference (s : State) (n : Nat) : Bool :=
  match s.comb.active with
  | some c => c.tsrc == 2 && c.tref == n
  | none => false

/-! ### Copies of a received frame (R124, R146, R147, R176, R177) -/

/-- A port's filter entries as numbers, and its default entry. [log 12 DEDUCED] -/
def filterEntries (s : State) (n : Nat) : List Nat :=
  (List.range 64).map fun i => ofLe (subPad (blob s (pk n 5 1)) (16 * i) 16)
def defaultEntry (s : State) (n : Nat) : Nat := ofLe (subPad (blob s (pk n 5 2)) 0 16)

/-- The deciding entry: the lowest-numbered one in use that matches, or the default entry where it is in use. -/
def decide1 (s : State) (n : Nat) (isMatch : Nat → Bool) : Option Nat :=
  if serviceOnly s then none else match (filterEntries s n).find? fun e => e.testBit 127 && isMatch e with
  | some e => some e
  | none => if (defaultEntry s n).testBit 127 then some (defaultEntry s n) else none

/-- Fabric ports of a DEST field, the port's own bit ignored. -/
def destsOf (n e : Nat) : List Nat := (List.range 32).filter fun f => f ≠ n && e.testBit (91 + f)

/-- A frame that goes to a MACsec output passes F29 first (R193), but for the keeper's EAPOL and gPTP frames. -/
def viaMacsec (s : State) (c : Nat × Option Nat × Option Nat) : Nat × Option Nat × Option Nat :=
  if c.2.1.isNone && c.1 < 24 && macsecOn s c.1 then (29, some c.1, c.2.2) else c

/-- The copies a deciding entry and a PDU match give: output, where the copy goes after F29, and the PDU. A cluster that
the entry names as well gets one copy. -/
def copiesOf (s : State) (dests : List Nat) (pdu : Option Nat) (bucket : Nat) : List (Nat × Option Nat × Option Nat) :=
  let dests := pinAggregate s bucket dests
  List.map (viaMacsec s) <|
  match pdu.bind fun i => (pduCopy s i bucket).map fun c => (i, c) with
  | none => dests.map fun d => (d, none, none)
  | some (i, out, next) => ((dests.filter (· ≠ out)).map fun d => (d, none, none)) ++ [(out, next, some i)]

/-- A frame discarded at the policer stage counts as in and as policed, once for each copy (R89). -/
def policed (n cause copies : Nat) (s : State) : State :=
  countPoliced n cause copies ((List.range copies).foldl (fun s _ => count64 (framesInKey n) s) s)

/-- Bytes a frame takes in a receive queue (R148). -/
def RxItem.size (x : RxItem) : Nat := 16 + roundUp (x.bytes.length - 16) 16

/-- A valid CAN or LIN frame meets the policer, then its receive queue (R88, R148). `q1`: RQ1 takes it. -/
def receiveItem (n : Nat) (q1 : Bool) (x : RxItem) (s : State) : State :=
  let lin := portKind n == .lin
  let p := portAt s n
  let q := if lin then (if q1 then p.lin.rq1 else p.lin.rq0) else (if q1 then p.can.rq1 else p.can.rq0)
  let fill := (q.map (·.size)).sum + x.size
  if !bucketAdmits s n x.tc then policed n 1 x.copies.length s
  else if 8192 < fill then
    logEvent (16 + n) clsPartner 0 (odKey 0x3803 0x25) [] (policed n 5 x.copies.length s)
  else
    let s := bucketCharge n x.tc x.bytes.length s
    let k := pk n 6 (if q1 then 4 else 3)
    let s := setVal k (max (val s k) fill) s
    modPort n (fun p =>
      if lin then { p with lin := if q1 then { p.lin with rq1 := p.lin.rq1 ++ [x] } else { p.lin with rq0 := p.lin.rq0 ++ [x] } }
      else { p with can := if q1 then { p.can with rq1 := p.can.rq1 ++ [x] } else { p.can with rq0 := p.can.rq0 ++ [x] } }) s

/-- One copy of a frame from a receive queue enters staging. -/
def enterCopy (n : Nat) (x : RxItem) (c : Nat × Option Nat × Option Nat) (s : State) : State :=
  sendFrame { id := 0, bytes := x.bytes, inPort := n, outPort := c.1, tc := x.tc, ts := x.ts, hash := x.hash, rxPort := n,
              ciph := c.1 == 29, next := c.2.1, pdu := c.2.2 } s

/-- The next frame of a port's receive queues moves into input staging, RQ0 ahead of RQ1, once its source is empty (R148). -/
def drainQueue (n : Nat) (s : State) : State :=
  let p := portAt s n
  if !(fabPortAt s n).arriving.isEmpty then s
  else match (if portKind n = .lin then (p.lin.rq0, p.lin.rq1) else (p.can.rq0, p.can.rq1)) with
  | (x :: r, _) =>
    x.copies.foldl (fun s c => enterCopy n x c s) (modPort n (fun p =>
      if portKind n = .lin then { p with lin := { p.lin with rq0 := r } } else { p with can := { p.can with rq0 := r } }) s)
  | ([], x :: r) =>
    x.copies.foldl (fun s c => enterCopy n x c s) (modPort n (fun p =>
      if portKind n = .lin then { p with lin := { p.lin with rq1 := r } } else { p with can := { p.can with rq1 := r } }) s)
  | ([], []) => s

/-- The head of a port's queues that can be taken now, in the order of R78, among those `want` admits. -/
def readyHead (s : State) (n : Nat) (want : Nat → Bool) : Option Nat :=
  (List.range 8).findSome? fun i =>
    match (queueAt s (queueNo n (7 - i))).frames with
    | [] => none
    | id :: _ => if frameReady s id && want id then some id else none

/-- A frame leaves its queue for a controller's buffer; it is still held by the device. -/
def takeFrame (id : Nat) (s : State) : State := modFrame id (fun f => { f with taken := true, begun := true }) (takeCells id s)

end Sys2Proof.Machine
end

