-- ==== Sys2Proof/Machine/PortTest.lean ====
section
/-! DEFINITION. Frames and running of port tests (R431, R475-R478), with the CAN formats and LIN checksums they share with
the ports. -/

namespace Sys2Proof.Machine

/-- The format is enabled in base + 0x01/01. -/
def formatEnabled (s : State) (n : Nat) (f : CanFmt) : Bool :=
  match f with
  | .classicBase | .classicExt => (val s (pk n 1 1)).testBit 0
  | .fdBase | .fdExt => (val s (pk n 1 1)).testBit 1
  | .xl => (val s (pk n 1 1)).testBit 2
  | .lin => false

/-- Most data bytes of a format. -/
def formatMax (f : CanFmt) : Nat :=
  match f with
  | .classicBase | .classicExt | .lin => 8
  | .fdBase | .fdExt => 64
  | .xl => 2048

/-- The next CAN FD data length. -/
def fdLength (n : Nat) : Nat := ([0, 1, 2, 3, 4, 5, 6, 7, 8, 12, 16, 20, 24, 32, 48, 64].find? (n ≤ ·)).getD 64

/-- The protected identifier. -/
def linPid (i : Nat) : Nat :=
  let b (k : Nat) : Nat := (i.testBit k).toNat
  i % 64 + (b 0 + b 1 + b 2 + b 4) % 2 * 64 + (1 - (b 1 + b 3 + b 4 + b 5) % 2) * 128

/-- The inverted sum with carry of some bytes. -/
def linSum (l : List Nat) : Nat := 255 - l.foldl (fun a x => if 255 < a + x then a + x - 255 else a + x) 0

/-- The checksum of a response; frames 0x3C and 0x3D always have the classic one (R160). -/
def linChecksum (ident : Nat) (data : Blob) (enhanced : Bool) : Nat :=
  linSum ((if enhanced && ident ≠ 0x3C && ident ≠ 0x3D then [linPid ident] else []) ++ data.map (·.toNat))

/-! ### Test frames (R476) -/

/-- The format a CAN test frame of this length has: the lowest enabled one that carries it; an FD frame has an FD data
length. -/
def testFormat (s : State) (n len : Nat) : Option CanFmt :=
  [CanFmt.classicBase, .fdBase, .xl].find? fun f =>
    formatEnabled s n f && len ≤ formatMax f && (f ≠ .fdBase || fdLength len == len)

/-- A length that 0x5010 + n/02 may hold. [log 112 DEDUCED] -/
def testLenOk (s : State) (n len : Nat) : Bool :=
  match portKind n with
  | .can => 2 ≤ len && (testFormat s n len).isSome
  | .lin => 2 ≤ len && len ≤ 8
  | _ => 64 ≤ len && len ≤ val s (pk n 1 2)

/-- A mode that 0x5010 + n/01 may hold: mode 5 is TSA's (R478). [log 112 DEDUCED] -/
def testModeOk (n mode : Nat) : Bool := mode ≤ 5 && (mode ≠ 5 || portKind n == .tsa)

/-- PATTERN bytes `from` to `to` - 1 of a frame whose pattern begins at byte `start`. -/
def testPattern (seq start stop : Nat) : Blob := (List.range (stop - start)).map fun i => BitVec.ofNat 8 (seq % 256 + i)

/-- An Ethernet test frame of L bytes, FCS included. -/
def ethTestFrame (mac seq len : Nat) : Blob :=
  let b := beBytes 6 mac ++ beBytes 6 mac ++ beBytes 2 0x88B6 ++ beBytes 4 seq ++ testPattern seq 18 (len - 4)
  b ++ leBytes 4 (crc32 b)

/-- The data bytes of a CAN or LIN test frame. -/
def busTestData (seq len : Nat) : Blob := beBytes 2 seq ++ testPattern seq 2 len

/-- Bits of the sequence number (R476). -/
def testSeqBits (n : Nat) : Nat := if n < 14 then 16 else 32

/-- The modes that generate frames: 1, 3 and 4. -/
def modeGenerates (m : Nat) : Bool := m == 1 || m == 3 || m == 4
/-- The modes that check frames: 2, 3 and 4. -/
def modeChecks (m : Nat) : Bool := m == 2 || m == 3 || m == 4

/-- A port test runs and generates frames: its count is not reached. -/
def testGenerates (s : State) (n : Nat) : Bool :=
  let t := (portAt s n).test
  t.st == 1 && modeGenerates t.mode && (t.count == 0 || t.sent < t.count)

/-- A CAN test frame; the spec leaves its bit-rate switch and an XL frame's SDT, VCID and AF open: free values. [log 112 DEDUCED] -/
def canTestFrame (s : State) (n seq len : Nat) : CanFrame × State :=
  match testFormat s n len with
  | some .fdBase =>
    let (b, s) := free 2 s
    ({ id := 0x7F0, fmt := .fdBase, brs := b == 1, data := busTestData seq len }, s)
  | some .xl =>
    let (a, s) := free (2 ^ 32) s
    let (t, s) := free 256 s
    let (v, s) := free 256 s
    ({ id := 0x7F0, fmt := .xl, sdt := BitVec.ofNat 8 t, af := BitVec.ofNat 32 a, vcid := BitVec.ofNat 8 v, data := busTestData seq len }, s)
  | _ => ({ id := 0x7F0, fmt := .classicBase, data := busTestData seq len }, s)

/-- A test frame is sent: it reaches the wire except in loopback (R478), and counts in 0x5010 + n/07 alone (R475). [log 112 DEDUCED] -/
def testFrameSent (n : Nat) (s : State) : State :=
  let t := (portAt s n).test
  let len := val s (odKey (0x5010 + n) 2)
  let s := modPort n (fun p => { p with test := { p.test with
    sent := min (t.sent + 1) 0xFFFFFFFF, nextSeq := (t.nextSeq + 1) % 2 ^ testSeqBits n } }) s
  if t.mode = 4 then s
  else match portKind n with
  | .can => let (x, s) := canTestFrame s n t.nextSeq len; emit (.can n x) s
  | .lin => let d := busTestData t.nextSeq len; emit (.linResponse n 0x30 d (linChecksum 0x30 d true)) s
  | _ => emit (.eth n (ethTestFrame (portMac s n) t.nextSeq len) false) s

/-! ### Running (R431, R475) -/

/-- The port's vote for its domain, as if it were RUNNING. -/
def testVote (n : Nat) (on : Bool) (s : State) : State :=
  { s with pwr := { s.pwr with
      votePort := vmod s.pwr.votePort n fun _ => on, ports := vmod s.pwr.ports n fun x => x && on } }

/-- A test is over, stopped (0) or complete (2): its vote goes with it where the port is at rest. -/
def endPortTest (n st : Nat) (s : State) : State :=
  let p := portAt s n
  let s := modPort n (fun p => { p with test := { p.test with st := st, stopping := false } }) s
  if p.st = .stopped ∨ p.st = .down then testVote n false s else s

/-- A running test is asked to stop: the frame in progress completes. -/
def stopPortTest (n : Nat) (s : State) : State :=
  modPort n (fun p => if p.test.st = 1 then { p with test := { p.test with stopping := true } } else p) s

/-- A test starts, its counters at 0. In mode 0 none runs. [log 112 DEDUCED] -/
def startPortTest (n mode count : Nat) (s : State) : State :=
  let s := modPort n (fun p => { p with test := { st := if mode = 0 then 0 else 1, mode := mode, count := count } }) s
  if mode = 0 then s else testVote n true s

end Sys2Proof.Machine
end

