-- ==== Sys2Proof/Machine/Can.lean ====
section
/-! DEFINITION. CAN ports (R141-R159, R168). Error counting follows ISO 11898-1, which R152 names (log entry on it). -/

namespace Sys2Proof.Machine

/-- The CAN controller of a port changed. -/
def modCan (n : Nat) (f : CanSt → CanSt) (s : State) : State := modPort n (fun p => { p with can := f p.can }) s

/-- A CAN port that is on its bus: it can send. -/
def canOnBus (s : State) (n : Nat) : Bool :=
  let p := portAt s n
  portKind n == .can && portFitted s n && (p.st == .running || p.st == .stopping || (p.st == .pending && !s.pwr.held.getLsbD n)) &&
  !p.flushing && !p.integrating

/-- It accepts frames (R166). -/
def canAccepts (s : State) (n : Nat) : Bool := canOnBus s n && (portAt s n).st == .running

/-- Instant in ps, `ago` periods of the CAN clock back: the sample of a start of frame, to 12.5 ns (R145). -/
def canInstant (s : State) (ago : Nat) : Nat := nowPs s - 12500 * ago

/-- It takes in a frame whose start it sampled at `sof`: one in reception when a stop begins is finished (R166). -/
def canTakes (s : State) (n sof : Nat) : Bool :=
  canOnBus s n && ((portAt s n).st == .running || decide (sof ≤ (portAt s n).stopPs))

/-! ### Settings (R141, R142, R144, R157, R188) -/

/-- Bits named by the tables of R142, per subindex. -/
def timingMask (sb : Nat) : Nat := if sb = 1 then 0x7F7FFF1F else if sb = 4 then 0xFF7F else 0x0F0F3F1F

/-- Bit length in 12.5 ns units of a timing word: BRP times the quanta of one bit (R142). [log 43 DEDUCED] -/
def timingUnits (sb v : Nat) : Nat :=
  (bitsOf v 4 0 + 1) * (if sb = 1 then 1 + (bitsOf v 15 8 + 1) + (bitsOf v 22 16 + 1) else 1 + (bitsOf v 13 8 + 1) + (bitsOf v 19 16 + 1))

/-- Shortest bit a word may give: 1, 8 and 10 Mbit/s (R141). [log 43 DEDUCED] -/
def timingLeast (sb : Nat) : Nat := if sb = 1 then 80 else if sb = 2 then 10 else 8

/-- A timing word is outside R141 or R142. [log 43 DEDUCED] -/
def timingBadWord (sb v : Nat) : Bool :=
  v &&& timingMask sb ≠ v ||
  (sb ≠ 4 && (bitsOf v 30 24 > bitsOf v 22 16 || timingUnits sb v < timingLeast sb || (sb == 1 && bitsOf v 15 8 == 0)))

/-- An XL data bit of fewer than 4 tq has no PWM symbol: refused with mode switching enabled (R495). [log 43 DEDUCED] -/
def pwmBad (s : State) (n sb v : Nat) : Bool :=
  sb == 3 && flag s (pk n 1 4) && 3 + bitsOf v 13 8 + bitsOf v 19 16 < 4

/-- The effect of a write to base + 0x02 (R141, R142): one out of range leaves the setting in force. [log 43 DEDUCED] -/
def effBitTiming (s : State) (n sb v : Nat) : Access :=
  if timingBadWord sb v || pwmBad s n sb v then .error abRange else .ok (keepVal (pk n 2 sb) v s)

/-- The write of a bit-timing word. -/
def bitTimingWrite (slot n sb v : Nat) (s : State) : State :=
  writeEntry slot (0x3000 + 0x20 * n + 2) sb (numFor (0x3000 + 0x20 * n + 2) sb v) true (fun _ v _ => effBitTiming s n sb v) s

/-- BIT_TIMING_WRITE. -/
def execBitTimingWrite (slot : Fin 16) (port : Fin 24) (sub : Fin 4) (v : Nat) (s : State) : Res :=
  conclude s (bitTimingWrite slot port (sub + 1) v s)

/-- The effect of a write to base + 0x01/03 or /04: mode switching and error signalling exclude each other (R144). -/
def effXlMode (s : State) (n : Nat) (switching : Bool) (v : Nat) : Access :=
  if v ≠ 0 ∧ flag s (pk n 1 (if switching then 3 else 4)) then .error abRange
  else .ok (keepVal (pk n 1 (if switching then 4 else 3)) v s)

/-- The write of an XL mode. -/
def xlModeWrite (slot n : Nat) (switching : Bool) (v : Nat) (s : State) : State :=
  let sb := if switching then 4 else 3
  writeEntry slot (0x3000 + 0x20 * n + 1) sb (numFor (0x3000 + 0x20 * n + 1) sb v) true (fun _ v _ => effXlMode s n switching v) s

/-- XL_MODE_WRITE. -/
def execXlModeWrite (slot : Fin 16) (port : Fin 24) (switching : Bool) (v : Nat) (s : State) : Res :=
  conclude s (xlModeWrite slot port switching v s)

/-- Ports that can wake the device (R157, R188): CAN0-CAN3, TSA0, TSA1. -/
def wakeCapable (n : Nat) : Bool := n < 4 || n == 14 || n == 15

/-- The effect of a write to base + 0x09/01 (R157, R188). -/
def effWakeMode (s : State) (n v : Nat) : Access :=
  if v ≠ 0 ∧ ¬ wakeCapable n then .error abRange else .ok (keepVal (pk n 9 1) v s)

/-- The write of a wake mode. -/
def wakeModeWrite (slot n v : Nat) (s : State) : State :=
  writeEntry slot (0x3000 + 0x20 * n + 9) 1 (numFor (0x3000 + 0x20 * n + 9) 1 v) true (fun _ v _ => effWakeMode s n v) s

/-- WAKE_MODE_WRITE. -/
def execWakeModeWrite (slot : Fin 16) (port : Fin 24) (v : Nat) (s : State) : Res := conclude s (wakeModeWrite slot port v s)

/-! ### Formats and filters (R146, R151) -/

/-- A CAN or LIN filter entry matches (R146). -/
def canMatches (x : CanFrame) (e : Nat) : Bool :=
  e.testBit (68 + fmtCode x.fmt) &&
  ((x.id.toNat ^^^ bitsOf e 38 10) &&& bitsOf e 67 39 == 0) &&
  (x.fmt ≠ .xl || ((x.vcid.toNat ^^^ bitsOf e 82 75) &&& bitsOf e 90 83 == 0))

/-- A frame of a broadcast-transport sequence goes to the cluster that reassembles it (R137): TP.CM_BAM of a group some
PDU receives, TP.DT of an open session. [log 36 DEDUCED] -/
def transportCluster (s : State) (n : Nat) (x : CanFrame) (bucket : Nat) : Option Nat :=
  let id := x.id.toNat
  let sa := bitsOf id 7 0
  if x.fmt ≠ .classicExt ∨ bitsOf id 15 8 ≠ 0xFF then none
  else if bitsOf id 23 16 = 0xEC ∧ x.data.head? = some 0x20 then
    (bamPdu s n sa (ofLe (sub x.data 5 3))).bind fun e => clusterFor s (pduCmask e.2) bucket
  else if bitsOf id 23 16 = 0xEB then
    (s.sig.bams.find? fun e => e.2.port == n && e.2.sa == sa).map (·.1)
  else none

/-- What the filter stage gives a received CAN or LIN frame: receive queue, class, copies (R146, R147); a service frame goes
to the keeper ahead of it (R414, R417). With no deciding
entry a PDU's copy has class TC0. -/
def canClassify (s : State) (n : Nat) (x : CanFrame) : Bool × Nat × List (Nat × Option Nat × Option Nat) × Nat :=
  let bucket := hashBucket s { canId := leBytes 4 x.id.toNat, inp := n }
  if canServed s n x then (false, 6, [(28, none, none)], bucket)
  else
  let e := (decide1 s n (canMatches x)).getD 0
  let copies := copiesOf s (destsOf n e) (canPdu s n x) bucket
  let copies := match transportCluster s n x bucket with
    | some k => if copies.any fun c => c.1 == 24 + k then copies else copies ++ [(24 + k, none, none)]
    | none => copies
  (e.testBit 126, bitsOf e 125 123, copies, bucket)

/-! ### Reception (R145-R148, R152) -/

/-- A receive error counter after a good frame (ISO 11898-1). [log 39 PRESUMED] -/
def goodReceive (r : Nat) : Nat := if 127 < r then 127 else r - 1

/-- A frame in a disabled format: bus integration, or an error frame (R152). [log 39 PRESUMED] -/
def disabledFormat (n : Nat) (s : State) : State :=
  if !canAccepts s n then s
  else
    let s := count (pk n 8 6) s
    if flag s (pk n 1 2) then modPort n (fun p => { p with integrating := true }) s
    else emit (.canError n) (modCan n (fun c => { c with recv := c.recv + 1 }) s)

/-- CAN_DISABLED_FORMAT_FRAME. -/
def execCanDisabledFormatFrame (port : Fin 24) (s : State) : Res := conclude s (disabledFormat port s)

/-- A valid frame is received; its start of frame was sampled `ago` periods of the CAN clock back. -/
def canReceive (n : Nat) (x : CanFrame) (ago : Nat) (s : State) : State :=
  let sof := canInstant s ago
  if !canTakes s n sof then s
  else if !formatEnabled s n x.fmt then disabledFormat n s
  else
    let s := count (pk n 8 1) (modCan n (fun c => { c with recv := goodReceive c.recv }) s)
    let (q1, tc, copies, bucket) := canClassify s n x
    if copies.isEmpty then count (pk n 8 5) s
    else receiveItem n q1 { bytes := canFabric x false, copies := copies, hash := bucket, tc := tc, ts := sof / 1000 } s

/-- CAN_FRAME_RECEIVE. -/
def execCanFrameReceive (port : Fin 24) (frame : CanFrame) (ago : Nat) (s : State) : Res := conclude s (canReceive port frame ago s)

/-- A receive queue drains one frame into staging (R148). -/
def receiveQueueDrain (n : Nat) (s : State) : State :=
  if (portKind n == .can || portKind n == .lin) && portFitted s n then drainQueue n s else s

/-- RECEIVE_QUEUE_DRAIN. -/
def execReceiveQueueDrain (port : Fin 24) (s : State) : Res := conclude s (receiveQueueDrain port s)

/-! ### Transmission (R149-R151) -/

/-- What the bus arbitrates on, in the order of the bits, lower values winning (R149): base identifier, RTR or SRR, IDE, the
extension and its RTR, then the bits that tell the formats apart, FDF and XLF. Only a classic frame has an RTR bit.
-/
def arbKey (x : CanFrame) : Nat :=
  let k := fmtCode x.fmt
  let rtr := (x.rtr && decide (k ≤ 1)).toNat
  let fdf := (decide (2 ≤ k)).toNat
  let xlf := (decide (k = 4)).toNat
  if k = 1 ∨ k = 3 then
    bitsOf x.id.toNat 28 18 * 2 ^ 23 + 2 ^ 22 + 2 ^ 21 + bitsOf x.id.toNat 17 0 * 8 + rtr * 4 + fdf * 2 + xlf
  else bitsOf x.id.toNat 10 0 * 2 ^ 23 + rtr * 2 ^ 22 + fdf * 2 ^ 20 + xlf * 2 ^ 19

/-- The loaded frame that is offered: of those in the buffers the one that wins arbitration, in load order among equals. -/
def offered (s : State) (n : Nat) : Option (Nat × Frame) :=
  ((portAt s n).can.bufs.filterMap fun b => (frameAt s b.2).map fun f => (b.1, f)).foldl (fun best e => match best with
    | some b => if arbKey (canOf e.2.bytes) < arbKey (canOf b.2.bytes) then some e else some b
    | none => some e) none

/-- What a fabric frame becomes on the bus: reserved bits cleared, an FD frame padded to a data length (R151). -/
def onTheBus (f : Frame) : CanFrame :=
  let x := canOf f.bytes
  let x := { x with rtr := x.rtr && fmtCode x.fmt ≤ 1 }
  if x.fmt = .fdBase ∨ x.fmt = .fdExt then { x with data := x.data ++ zeros (fdLength x.data.length - x.data.length) } else x

/-- The descriptor has a reserved bit set, or an FD length that is padded. -/
def outputViolation (f : Frame) : Bool :=
  bitsOf (ofLe (sub f.bytes 4 1)) 7 5 ≠ 0 || bitsOf (ofLe (sub f.bytes 6 2)) 15 12 ≠ 0 || sub f.bytes 13 3 ≠ zeros 3 ||
  (let x := canOf f.bytes
   (x.fmt == .fdBase || x.fmt == .fdExt) && fdLength x.data.length ≠ x.data.length)

/-- The frame cannot be represented on the port's bus. [log 45 DEDUCED] -/
def unrepresentable (s : State) (n : Nat) (f : Frame) : Bool :=
  let k := bitsOf (ofLe (sub f.bytes 0 4)) 31 29
  5 < k || !formatEnabled s n (fmtOf k) || formatMax (fmtOf k) < bitsOf (ofLe (sub f.bytes 6 2)) 11 0

/-- A free transmit buffer. -/
def freeBuffer (s : State) (n : Nat) : Option Nat :=
  (List.range 8).find? fun b => !(portAt s n).can.bufs.any fun e => e.1 == b

/-- The next complete frame is loaded into a free buffer, or discarded where it cannot be sent (R149, R151). -/
def bufferLoad (n : Nat) (s : State) : State :=
  if !canOnBus s n then s
  else match freeBuffer s n, readyHead s n fun _ => true with
  | some b, some id =>
    match frameAt s id with
    | none => s
    | some f =>
      if unrepresentable s n f then
        logEvent (16 + n) clsRefusal 0 (pk n 8 7) [] (count (pk n 8 7) (frameFlushed id s))
      else
        let s := if outputViolation f then count (pk n 8 7) s else s
        modCan n (fun c => { c with bufs := c.bufs ++ [(b, id)] }) (takeFrame id s)
  | _, _ => s

/-- TRANSMIT_BUFFER_LOAD. -/
def execTransmitBufferLoad (port : Fin 24) (s : State) : Res := conclude s (bufferLoad port s)

/-- The transmit error counter rises; past 255 the controller is bus-off and its port down (R153). -/
def raiseTec (n by' : Nat) (s : State) : State :=
  let s := modCan n (fun c => { c with tec := c.tec + by' }) s
  if 255 < (portAt s n).can.tec then portDown n 1 s else s

/-- The transmitter meets an error: an error frame, counted. [log 39 PRESUMED] -/
def transmitError (n : Nat) (s : State) : State := raiseTec n 8 (emit (.canError n) (count (pk n 8 4) s))

/-- The format of the test frames a port sends. -/
def testFormatCode (s : State) (n : Nat) : Nat := ((testFormat s n (val s (odKey (0x5010 + n) 2))).map fmtCode).getD 0

/-- Tick of the hyperperiod in which an instant of up to one hyperperiod ago lies, and the instant's place in ps behind tick 0. -/
def placePs (s : State) (t : Nat) : Nat :=
  let h := match s.comb.active with | some c => c.hyper | none => 0
  let at' := s.clk.tick * tickPs + t
  if s.clk.tickPs ≤ at' then at' - s.clk.tickPs else at' + h * tickPs - s.clk.tickPs

/-- The offered frame is valid at the transmitter, `ago` periods of the CAN clock behind its start: the reference buffer first,
with the tick of its start of frame in bytes 2 and 3 (R155), else the winner among the buffers. A
measured delay of more than 127 data tq ends an FD or XL frame in an error frame (R143). Under a generating port test it is the
test frame (R476). [log 39 PRESUMED] -/
def canTransmitted (n delay ago : Nat) (s : State) : State :=
  if testGenerates s n then
    if 127 < delay ∧ 2 ≤ testFormatCode s n then transmitError n s else testFrameSent n s
  else if !canOnBus s n then s
  else match (portAt s n).can.refBuf with
  | some x =>
    let x := { x with data := x.data.take 2 ++ beBytes 2 (placePs s (canInstant s ago) / tickPs % 65536) }
    let s := emit (.can n x) (count (pk n 0xA 5) (count (pk n 8 2) s))
    let s := modCan n (fun c => { c with tec := c.tec - 1, refBuf := none, refState := 4 }) s
    if canReference s n then loseReference s else s
  | none =>
    match offered s n with
    | none => s
    | some (b, f) =>
      let x := onTheBus f
      if 127 < delay ∧ 2 ≤ fmtCode x.fmt then transmitError n s
      else
        let s := modCan n (fun c => { c with tec := c.tec - 1, bufs := c.bufs.filter (·.1 ≠ b) }) s
        frameOut f.id (unlockSent f (12500 * ago) (emit (.can n x) (count (pk n 8 2) s)))

/-- CAN_FRAME_TRANSMITTED. -/
def execCanFrameTransmitted (port : Fin 24) (delayTq ago : Nat) (s : State) : Res := conclude s (canTransmitted port delayTq ago s)

/-- A loaded frame loses arbitration and stays loaded (R150). [log 41 DEDUCED] -/
def arbitrationLost (n : Nat) (s : State) : State :=
  if canOnBus s n ∧ ((offered s n).isSome ∨ (portAt s n).can.refBuf.isSome) then count (pk n 8 3) s else s

/-- CAN_ARBITRATION_LOST. -/
def execCanArbitrationLost (port : Fin 24) (s : State) : Res := conclude s (arbitrationLost port s)

/-- The receive error counter rises. -/
def raiseRec (n by' : Nat) (s : State) : State := modCan n (fun c => { c with recv := c.recv + by' }) s

/-- A bus error (R152, R168): it is counted, answered with an error frame, and the error counters move; what follows within the
error frame moves the counters alone. In the data phase of an XL frame with error signalling off no error frame is sent and the
controller enters bus integration (R144). [log 39 PRESUMED] -/
def canErrorDetected (n : Nat) (e : CanErr) (xlData : Bool) (s : State) : State :=
  if !canOnBus s n then s
  else if xlData ∧ ¬ flag s (pk n 1 3) then modPort n (fun p => { p with integrating := true }) (count (pk n 8 4) s)
  else
    let signal (s : State) : State := emit (.canError n) (count (pk n 8 4) s)
    match e with
    | .receiver => raiseRec n 1 (signal s)
    | .receiverDominantFirst | .receiverInFlag | .receiverDominantRun => raiseRec n 8 s
    | .transmitter => transmitError n s
    | .transmitterInFlag | .transmitterDominantRun => raiseTec n 8 s
    | .passiveAck | .arbitrationStuff => signal s

/-- CAN_ERROR_DETECTED. -/
def execCanErrorDetected (port : Fin 24) (err : CanErr) (xlData : Bool) (s : State) : Res := conclude s (canErrorDetected port err xlData s)

/-! ### Recovery and integration (R152, R153, R166) -/

/-- CAN_HOLDOFF_EXPIRY: the holdoff of a down port ends. -/
def execCanHoldoffExpiry (port : Fin 24) (s : State) : Res := conclude s (holdoffExpiry port s)

/-- The recovery sequence ends: both error counters clear and the port runs (R153). [log 40 DEDUCED] -/
def canRecoveryComplete (n : Nat) (s : State) : State :=
  let p := portAt s n
  if p.st = .recovering ∧ p.recoverySeq then
    recovered n (modCan n (fun c => { c with tec := 0, recv := 0 }) s)
  else s

/-- CAN_RECOVERY_COMPLETE. -/
def execCanRecoveryComplete (port : Fin 24) (s : State) : Res := conclude s (canRecoveryComplete port s)

/-- Integration to the bus is complete (R152, R166). -/
def busIntegrationComplete (n : Nat) (s : State) : State := modPort n (fun p => { p with integrating := false }) s

/-- BUS_INTEGRATION_COMPLETE. -/
def execBusIntegrationComplete (port : Fin 24) (s : State) : Res := conclude s (busIntegrationComplete port s)

/-! ### Reference messages (R154-R156) -/

/-- Ticks of a basic cycle. [log 42 DEDUCED] -/
def basicCycle (s : State) (n : Nat) : Nat := max (val s (pk n 0xA 3)) 1

/-- The reference message of a basic cycle that begins now (R154, R155); bytes 2 and 3 take the tick of its start of frame when
it is sent. [log 42 DEDUCED] -/
def referenceFrame (s : State) (n : Nat) : CanFrame :=
  let id := val s (pk n 0xA 2)
  { id := BitVec.ofNat 29 (id % 2 ^ 29 / 8 * 8 + val s (pk n 0xA 7) % 8),
    fmt := if id.testBit 31 then .classicExt else .classicBase,
    data := leBytes 1 (s.clk.tick / basicCycle s n % 64) ++ zeros 3 }

/-- A basic cycle begins on a potential master: its reference message is placed in the reference buffer. -/
def basicCycleStart (n : Nat) (s : State) : State :=
  if canAccepts s n ∧ val s (pk n 0xA 1) = 2 ∧ ¬ serviceOnly s ∧ s.clk.tick % basicCycle s n = 0 then
    modCan n (fun c => { c with refBuf := some (referenceFrame s n), refCycle := s.clk.tick / basicCycle s n % 64 }) s
  else s

/-- BASIC_CYCLE_START. -/
def execBasicCycleStart (port : Fin 24) (s : State) : Res := conclude s (basicCycleStart port s)

/-- Another reference message wins: the device withdraws its own and is backup for the cycle (R155). [log 42 DEDUCED] -/
def referenceArbitrationLost (n : Nat) (s : State) : State :=
  if canOnBus s n ∧ (portAt s n).can.refBuf.isSome then
    count (pk n 8 3) (modCan n (fun c => { c with refBuf := none, refState := 3 }) s)
  else s

/-- REFERENCE_ARBITRATION_LOST. -/
def execReferenceArbitrationLost (port : Fin 24) (s : State) : Res := conclude s (referenceArbitrationLost port s)

/-- The frame is a reference message for the port: its identifier in all but the three priority bits (R156). [log 42 DEDUCED] -/
def isReference (s : State) (n : Nat) (x : CanFrame) : Bool :=
  let id := val s (pk n 0xA 2)
  val s (pk n 0xA 1) ≠ 0 && x.fmt == (if id.testBit 31 then CanFmt.classicExt else CanFmt.classicBase) &&
  x.id.toNat / 8 == id % 2 ^ 29 / 8

/-- What the Comb is ahead of a reference: the place of a start of frame in the own hyperperiod less the tick its message names,
as the nearest of the differences modulo 2^16 ticks. [log 118 DESIGN CHOICE] -/
def referencePhase (s : State) (sof mark : Nat) : Int :=
  let span := 65536 * tickPs
  let d := (placePs s sof % span + span - mark * tickPs) % span
  if 2 * d < span then d else (d : Int) - span

/-- A reference message is accepted: a follower is locked to it, a potential master acts as backup (R156, R168). Its start of
frame and its Master_Ref_Mark are the Comb's reference where TSRC and TREF name the port. [log 42 DEDUCED] -/
def referenceReceive (n : Nat) (x : CanFrame) (ago : Nat) (s : State) : State :=
  let sof := canInstant s ago
  if canTakes s n sof ∧ isReference s n x then
    let mark := ofBe (subPad x.data 2 2)
    let s := count (pk n 0xA 6) (modCan n (fun c => { c with
      recv := goodReceive c.recv, refState := if val s (pk n 0xA 1) = 2 then 3 else 1, lastRefPs := some sof, refMark := mark,
      refCycle := bitsOf (ofLe (x.data.take 1)) 5 0 }) (count (pk n 8 1) s))
    if canReference s n then { s with comb := { s.comb with phasePs := referencePhase s sof mark } } else s
  else s

/-- REFERENCE_MESSAGE_RECEIVE. -/
def execReferenceMessageReceive (port : Fin 24) (frame : CanFrame) (ago : Nat) (s : State) : Res :=
  conclude s (referenceReceive port frame ago s)

/-- No reference message within 1.5 basic cycles of the last one: the reference is lost (R156). -/
def referenceTimeout (n : Nat) (s : State) : State :=
  let late : Bool := match (portAt s n).can.lastRefPs with
    | some t => decide (2 * t + 3 * basicCycle s n * tickPs ≤ 2 * nowPs s)
    | none => false
  if canOnBus s n ∧ late ∧ ((portAt s n).can.refState = 1 ∨ (portAt s n).can.refState = 3) then
    let s := logEvent (16 + n) clsPartner 2 (pk n 0xA 4) [] (modCan n (fun c => { c with refState := 2 }) s)
    if canReference s n then loseReference s else s
  else s

/-- REFERENCE_TIMEOUT. -/
def execReferenceTimeout (port : Fin 24) (s : State) : Res := conclude s (referenceTimeout port s)

/-! ### Wake (R157-R159) -/

/-- The port's wake logic is armed in this mode: a wake-capable CAN port whose domain is not voted. [log 44 DEDUCED] -/
def wakeArmed (s : State) (n mode : Nat) : Bool :=
  n < 4 && portFitted s n && s.pwr.vao && val s (pk n 9 1) == mode && !((s.pwr.votePort[n]?).getD false)

/-- A CAN wake: counted, and latched as code 5 + n (R159, R442). [log 44 DEDUCED] -/
def canWake (n : Nat) (s : State) : State := latchWake (5 + n) (count (pk n 9 9) s)

/-- A dominant level of so many half microseconds (R158). [log 44 DEDUCED] -/
def wakeEdge (n half : Nat) (s : State) : State :=
  if wakeArmed s n 1 ∧ val s (pk n 9 2) ≤ half then canWake n s else s

/-- CAN_WAKE_EDGE. -/
def execCanWakeEdge (port : Fin 24) (halfMicros : Nat) (s : State) : Res := conclude s (wakeEdge port halfMicros s)

/-- A decoded frame wakes the device (R159). [log 44 DEDUCED] -/
def wakeMatches (s : State) (n : Nat) (x : CanFrame) : Bool :=
  fmtCode x.fmt == val s (pk n 9 5) && ((x.id.toNat ^^^ val s (pk n 9 3)) &&& val s (pk n 9 4) == 0) &&
  x.data.length == val s (pk n 9 6) && (ofBe (subPad x.data 0 8) &&& val s (pk n 9 7) ≠ 0)

/-- A classic frame decoded without error steps the decoder's counter down, and wakes where it matches; FD and XL frames
are tolerated. [log 44 DEDUCED] -/
def wakeFrame (n : Nat) (x : CanFrame) (s : State) : State :=
  if wakeArmed s n 2 ∧ fmtCode x.fmt ≤ 1 then
    let s := setVal (pk n 9 0xA) (val s (pk n 9 0xA) - 1) s
    if wakeMatches s n x then canWake n (setVal (pk n 9 0xB) x.id.toNat s) else s
  else s

/-- CAN_WAKE_FRAME. -/
def execCanWakeFrame (port : Fin 24) (frame : CanFrame) (s : State) : Res := conclude s (wakeFrame port frame s)

/-- A frame the decoder cannot decode: at 32 it wakes, and the counter starts again (R159). [log 44 DEDUCED] -/
def wakeDecoderError (n : Nat) (s : State) : State :=
  if wakeArmed s n 2 then
    if 32 ≤ val s (pk n 9 0xA) + 1 then canWake n (setVal (pk n 9 0xA) 0 s)
    else setVal (pk n 9 0xA) (val s (pk n 9 0xA) + 1) s
  else s

/-- WAKE_DECODER_ERROR. -/
def execWakeDecoderError (port : Fin 24) (s : State) : Res := conclude s (wakeDecoderError port s)

end Sys2Proof.Machine
end

