-- ==== Sys2Proof/Machine/Lin.lean ====
section
/-! DEFINITION. LIN ports (R160-R165, R168). -/

namespace Sys2Proof.Machine

/-- The LIN controller of a port changed. -/
def modLin (n : Nat) (f : LinSt → LinSt) (s : State) : State := modPort n (fun p => { p with lin := f p.lin }) s

/-- A LIN port on its bus; `busSleep` is a report of a running responder. -/
def linOnBus (s : State) (n : Nat) : Bool :=
  let p := portAt s n
  portKind n == .lin && portFitted s n &&
  (p.st == .running || p.st == .busSleep || p.st == .stopping || (p.st == .pending && !s.pwr.held.getLsbD n)) &&
  !p.flushing && !p.integrating

/-- It takes part in new frames (R166). -/
def linAccepts (s : State) (n : Nat) : Bool := linOnBus s n && ((portAt s n).st == .running || (portAt s n).st == .busSleep)

/-- The role is responder. -/
def linResponder (s : State) (n : Nat) : Bool := val s (pk n 1 1) == 1

/-- One bit time in ps at a rate. -/
def linBitPs (rate : Nat) : Nat := 1000000000000 / max rate 1

/-- T_max of a frame with so many data bytes, in ps (R161). [log 45 DEDUCED] -/
def linTmax (rate len : Nat) : Nat := 14 * (34 + 10 * (len + 1)) * linBitPs rate / 10

/-- A frame of the port's bus as a LIN frame of the fabric. -/
def linFrame (ident : Nat) (data : Blob) : CanFrame := { id := BitVec.ofNat 29 ident, fmt := .lin, data := data }

/-- A filter entry, the default entry or a receive PDU subscribes to an identifier. [log 45 DEDUCED] -/
def linSubscribed (s : State) (n ident : Nat) : Bool :=
  (decide1 s n (canMatches (linFrame ident []))).isSome || (canPdu s n (linFrame ident [])).isSome

/-- The buffered response of an identifier. [log 45 DEDUCED] -/
def linResponse? (s : State) (n ident : Nat) : Option Frame :=
  ((portAt s n).lin.resp.find? fun e => e.1 == ident).bind fun e => frameAt s e.2

/-- A buffered response is sent in answer to its header, and counts as out (R162). -/
def sendResponse (n ident : Nat) (f : Frame) (s : State) : State :=
  let x := canOf f.bytes
  let enhanced := (ofLe (sub f.bytes 4 1)).testBit 4
  let s := modLin n (fun l => { l with
    resp := l.resp.filter (·.1 ≠ ident), header := none, lastTmaxPs := linTmax l.rate x.data.length }) s
  frameOut f.id (unlockSent f 0 (emit (.linResponse n ident x.data (linChecksum ident x.data enhanced)) (count (pk n 8 2) s)))

/-- A header begins on the bus. -/
def beginHeader (n ident : Nat) (own : Bool) (rate : Nat) (s : State) : State :=
  modLin n (fun l => { l with
    header := some (ident, own), lastHeaderPs := some (nowPs s), lastTmaxPs := linTmax rate 8, rate := rate,
    readback := if own && !l.headerBad then 0 else l.readback, headerBad := if own then false else l.headerBad }) s

/-- A slot that sends no header is counted; one too close to the frame before it is logged at most once per 100 ms (R161). [log 45 DEDUCED] -/
def skipSlot (n : Nat) (close : Bool) (s : State) : State :=
  let s := count (pk n 8 5) s
  let due : Bool := match (portAt s n).lin.skipLoggedPs with | some t => decide (t + 100 * msPs ≤ nowPs s) | none => true
  if close ∧ due then
    logEvent (16 + n) clsPartner 0 (pk n 8 5) [] (modLin n (fun l => { l with skipLoggedPs := some (nowPs s) }) s)
  else s

/-- The frame before is still within its T_max. -/
def tooClose (s : State) (n : Nat) : Bool :=
  match (portAt s n).lin.lastHeaderPs with
  | some t => nowPs s < t + (portAt s n).lin.lastTmaxPs
  | none => false

/-- A schedule slot on a port (R161, R162). -/
def scheduleSlot (n ident : Nat) (s : State) : State :=
  if !linOnBus s n then s
  else if linResponder s n then count (pk n 8 7) s
  else if (portAt s n).lin.blackout then skipSlot n false s
  else if tooClose s n then skipSlot n true s
  else match linResponse? s n ident with
  | some f => sendResponse n ident f (emit (.linHeader n ident) (beginHeader n ident true (val s (pk n 1 2)) s))
  | none =>
    if linAccepts s n && linSubscribed s n ident then
      emit (.linHeader n ident) (beginHeader n ident true (val s (pk n 1 2)) s)
    else skipSlot n false s

/-- An occurrence of a LIN schedule slot: one that the tick in progress holds (R42). -/
def linScheduleSlot (ch ident : Nat) (s : State) : State :=
  if s.comb.now.any fun a => actType a == 6 && actLin a == ch && actIdent a == ident then scheduleSlot (10 + ch) ident s else s

/-- LIN_SCHEDULE_SLOT. -/
def execLinScheduleSlot (channel : Fin 4) (ident : BitVec 6) (s : State) : Res := conclude s (linScheduleSlot channel ident.toNat s)

/-- The next published frame moves into its identifier's buffer; one whose buffer is occupied stays at the head of its
queue (R162). A frame no LIN bus can carry is discarded as in R151. -/
def responseLoad (n : Nat) (s : State) : State :=
  if !linOnBus s n then s
  else
    let ident (f : Frame) : Nat := bitsOf (ofLe (sub f.bytes 0 4)) 5 0
    let bad (f : Frame) : Bool := bitsOf (ofLe (sub f.bytes 0 4)) 31 29 ≠ 5 || 8 < bitsOf (ofLe (sub f.bytes 6 2)) 11 0
    let free (id : Nat) : Bool := match frameAt s id with
      | some f => bad f || !(portAt s n).lin.resp.any fun e => e.1 == ident f
      | none => false
    match readyHead s n free with
    | none => s
    | some id =>
      match frameAt s id with
      | none => s
      | some f =>
        if bad f then logEvent (16 + n) clsRefusal 0 (flushedKey n) [] (frameFlushed id s)
        else modLin n (fun l => { l with resp := l.resp ++ [(ident f, id)] }) (takeFrame id s)

/-- LIN_RESPONSE_BUFFER_LOAD. -/
def execLinResponseBufferLoad (port : Fin 24) (s : State) : Res := conclude s (responseLoad port s)

/-- A header of another node on a responder's bus (R162, R163): out of ±15 % it is ignored and counted; a buffered response
is sent; a subscribed identifier is received at the measured rate. Bus activity ends bus sleep.
A generating port test answers identifier 0x30 (R476). -/
def headerReceived (n ident rate : Nat) (s : State) : State :=
  if testGenerates s n ∧ ident = 0x30 then testFrameSent n s
  else if !(linOnBus s n && linResponder s n) then s
  else
    let s := if (portAt s n).st = .busSleep then setPortState n .running s else s
    let own := val s (pk n 1 2)
    if rate * 100 < 85 * own ∨ 115 * own < rate * 100 then count (pk n 8 4) s
    else match linResponse? s n ident with
    | some f => sendResponse n ident f (beginHeader n ident false rate s)
    | none => if linAccepts s n && linSubscribed s n ident then beginHeader n ident false rate s else s

/-- LIN_HEADER_RECEIVED. -/
def execLinHeaderReceived (port : Fin 24) (ident : BitVec 6) (measuredRate : Nat) (s : State) : Res :=
  conclude s (headerReceived port ident.toNat measuredRate s)

/-- Filter stage of a LIN frame. -/
def linClassify (s : State) (n ident : Nat) (data : Blob) : Bool × Nat × List (Nat × Option Nat × Option Nat) × Nat :=
  canClassify s n (linFrame ident data)

/-- A response error: counted, and discarded under cause 3 (R163). -/
def responseError (n ident : Nat) (data : Blob) (s : State) : State :=
  let (_, _, copies, _) := linClassify s n ident data
  policed n 3 copies.length (count (pk n 8 4) (modLin n (fun l => { l with header := none }) s))

/-- A response ends with its checksum byte (R163): within T_max of its own length, framed well and with a checksum of either kind that fits, it
is received. [log 45 DEDUCED] -/
def responseComplete (n : Nat) (data : Blob) (framing : Bool) (sum : Nat) (s : State) : State :=
  match (portAt s n).lin.header with
  | none => s
  | some (ident, _) =>
    if !linOnBus s n then s
    else
      let l := (portAt s n).lin
      let late := match l.lastHeaderPs with | some t => t + linTmax l.rate data.length < nowPs s | none => false
      let enhanced := sum == linChecksum ident data true && ident ≠ 0x3C && ident ≠ 0x3D
      let good := framing && !late && 1 ≤ data.length && data.length ≤ 8 && (enhanced || sum == linChecksum ident data false)
      if !good then responseError n ident data s
      else
        let s := count (pk n 8 1) (modLin n (fun l => { l with header := none, lastTmaxPs := linTmax l.rate data.length }) s)
        let (q1, tc, copies, bucket) := linClassify s n ident data
        if copies.isEmpty then s
        else receiveItem n q1 { bytes := canFabric (linFrame ident data) enhanced, copies := copies, hash := bucket, tc := tc, ts := (l.lastHeaderPs.getD 0) / 1000 } s

/-- LIN_RESPONSE_COMPLETE. -/
def execLinResponseComplete (port : Fin 24) (data : Blob) (framingGood : Bool) (checksum : Byte) (s : State) : Res :=
  conclude s (responseComplete port data framingGood checksum.toNat s)

/-- No complete response within T_max: a response error where one had begun, else no response (R163). -/
def responseTimeout (n : Nat) (started : Bool) (s : State) : State :=
  match (portAt s n).lin.header with
  | none => s
  | some (ident, _) =>
    if started then responseError n ident [] s
    else count (pk n 8 3) (modLin n (fun l => { l with header := none }) s)

/-- LIN_RESPONSE_TIMEOUT. -/
def execLinResponseTimeout (port : Fin 24) (started : Bool) (s : State) : Res := conclude s (responseTimeout port started s)

/-- The commander reads back a bit it did not send: eight consecutive headers with an error put the port down (R164). [log 45 DEDUCED] -/
def readbackError (n : Nat) (s : State) : State :=
  if linOnBus s n && !linResponder s n then
    let s := count (pk n 8 6) (modLin n (fun l => { l with
      header := none, headerBad := true, readback := if l.headerBad then l.readback else l.readback + 1 }) s)
    if 8 ≤ (portAt s n).lin.readback then portDown n 3 s else s
  else s

/-- LIN_READBACK_ERROR. -/
def execLinReadbackError (port : Fin 24) (s : State) : Res := conclude s (readbackError port s)

/-- LIN_WAKEUP_BLACKOUT_END: headers may be sent again (R165). -/
def execLinWakeupBlackoutEnd (port : Fin 24) (s : State) : Res := conclude s (modLin port (fun l => { l with blackout := false }) s)

/-- A responder sees no bus activity for 4 s and reports bus sleep (R165). -/
def busSleepTimeout (n : Nat) (s : State) : State :=
  if linOnBus s n && linResponder s n && (portAt s n).st == .running then setPortState n .busSleep s else s

/-- LIN_BUS_SLEEP_TIMEOUT. -/
def execLinBusSleepTimeout (port : Fin 24) (s : State) : Res := conclude s (busSleepTimeout port s)

/-- A responder answers a wake-up signal of another node by being ready for headers again (R165). -/
def linWakeupReceived (n : Nat) (s : State) : State :=
  if linOnBus s n && linResponder s n && (portAt s n).st == .busSleep then setPortState n .running s else s

/-- LIN_WAKEUP_RECEIVED. -/
def execLinWakeupReceived (port : Fin 24) (s : State) : Res := conclude s (linWakeupReceived port s)

end Sys2Proof.Machine
end

