-- ==== Sys2Proof/Machine/Eth.lean ====
section
/-! DEFINITION. Ethernet and TSA ports (R169-R188, R195-R200). The MACsec passes are in the cipher lanes. -/

namespace Sys2Proof.Machine

/-- The MAC of a port changed. -/
def modEth (n : Nat) (f : EthSt → EthSt) (s : State) : State := modPort n (fun p => { p with eth := f p.eth }) s

/-- It accepts a new frame (R198). -/
def ethAccepts (s : State) (n : Nat) : Bool := ethOnLine s n && (portAt s n).st == .running

/-! ### Link (R170-R172) -/

/-- A port is held down with cause 6; one that is down already stays so, and does not recover by itself (R170). -/
def holdDown6 (n : Nat) (s : State) : State :=
  if (portAt s n).st = .down then
    if (portAt s n).downCause = 6 then s
    else logEvent (16 + n) clsState (4 + 256 * 6) (pk n 0 2) [] (modPort n (fun p => { p with downCause := 6, holdoff := false }) s)
  else portDown n 6 s

/-- A link has come up and held (R170): at the set rate and duplex a recovering port runs; at any other it is held down with
cause 6. -/
def linkUp (n rate : Nat) (half : Bool) (s : State) : State :=
  let p := portAt s n
  if !(18 ≤ n && isEth n && portFitted s n) || p.st == .stopped then s
  else if rate ≠ val s (pk n 1 1) ∨ half ≠ flag s (pk n 1 3) then holdDown6 n (modEth n (fun e => { e with linkUp := false }) s)
  else
    let s := modEth n (fun e => { e with linkUp := true, rate := rate }) s
    if p.st = .recovering then startTx n (recovered n s) else s

/-- LINK_UP. -/
def execLinkUp (port : Fin 24) (rate : Nat) (half : Bool) (s : State) : Res := conclude s (linkUp port rate half s)

/-- The link has failed: the port is declared down with cause 5 (R171). -/
def linkFailure (n : Nat) (s : State) : State :=
  if 18 ≤ n && (portAt s n).eth.linkUp then portDown n 5 (modEth n (fun e => { e with linkUp := false }) s) else s

/-- LINK_FAILURE. -/
def execLinkFailure (port : Fin 24) (s : State) : Res := conclude s (linkFailure port s)

/-! ### Classification (R175-R177) -/

/-- What the first bytes of a frame say. -/
structure EthHead where
  da : Blob
  sa : Blob
  /-- A tag is present, and its TCI. -/
  tci : Option Nat
  etype : Nat
  /-- The bytes behind the EtherType. -/
  l3 : Blob

/-- The head of a frame read; only TPID 0x8100 is a tag (R169). -/
def ethHead (b : Blob) : EthHead :=
  if sub b 12 2 = [0x81, 0x00] then ⟨b.take 6, sub b 6 6, some (ofBe (sub b 14 2)), ofBe (sub b 16 2), b.drop 18⟩
  else ⟨b.take 6, sub b 6 6, none, ofBe (sub b 12 2), b.drop 14⟩

/-- VID and PCP for classification (R177). -/
def ethVid (s : State) (n : Nat) (h : EthHead) : Nat :=
  match h.tci with | some t => if bitsOf t 11 0 = 0 then val s (pk n 2 1) else bitsOf t 11 0 | none => val s (pk n 2 1)
def ethPcp (s : State) (n : Nat) (h : EthHead) : Nat :=
  match h.tci with | some t => bitsOf t 15 13 | none => val s (pk n 2 2)

/-- Bit of DA_SET that the frame's destination address has (R176). -/
def daBit (s : State) (n : Nat) (da : Blob) : Nat :=
  if (da.headD 0).getLsbD 0 then 24 else if da = beBytes 6 (portMac s n) then 22 else 23

/-- An Ethernet filter entry matches (R177). -/
def ethMatches (s : State) (n : Nat) (h : EthHead) (e : Nat) : Bool :=
  (match bitsOf e 90 89 with | 0 => true | 1 => h.tci.isNone | 2 => h.tci.isSome | _ => false) &&
  ((ethVid s n h ^^^ bitsOf e 76 65) &&& bitsOf e 88 77 == 0) && e.testBit (57 + ethPcp s n h) &&
  ((h.etype ^^^ bitsOf e 40 25) &&& bitsOf e 56 41 == 0) && e.testBit (daBit s n h.da)

/-- The fields of R100 that a frame has. [log 47 DEDUCED] -/
def ethHash (n : Nat) (h : EthHead) : HashFields :=
  let v4 := h.etype == 0x0800
  let v6 := h.etype == 0x86DD
  let proto := if v4 then ofBe (sub h.l3 9 1) else if v6 then ofBe (sub h.l3 6 1) else 0
  let l4 := if v4 then 4 * bitsOf (ofBe (sub h.l3 0 1)) 3 0 else 40
  { da := h.da, sa := h.sa, vid := match h.tci with | some t => beBytes 2 (bitsOf t 11 0) | none => [],
    etype := beBytes 2 h.etype, ip := if v4 then sub h.l3 12 8 else if v6 then sub h.l3 8 32 else [],
    ports := if proto = 6 ∨ proto = 17 then sub h.l3 l4 4 else [], inp := n }

/-- A datagram to the port's own address that the keeper serves, ahead of the filters: UDP to the port of 0x1033/02, TCP or
UDP to port 13400 (R415, R417). [log 124 DEDUCED] -/
def ethServed (s : State) (n : Nat) (h : EthHead) : Bool :=
  let v4 := h.etype == 0x0800
  let proto := if v4 then ofBe (sub h.l3 9 1) else if h.etype == 0x86DD then ofBe (sub h.l3 6 1) else 0
  let dest := ofBe (sub (ethHash n h).ports 2 2)
  ethService s n && h.da == beBytes 6 (portMac s n) &&
  ((proto == 17 && dest == setting s (odKey 0x1033 2)) || ((proto == 6 || proto == 17) && dest == 13400))

/-- Class, copies and bucket of a frame under the port's filters, VLAN handling and PDU table (R176, R177). -/
def ethFiltered (s : State) (n : Nat) (b : Blob) : Nat × List (Nat × Option Nat × Option Nat) × Nat :=
  let h := ethHead b
  let bucket := hashBucket s (ethHash n h)
  if ethServed s n h then (6, [(28, none, none)], bucket)
  else
  let e := decide1 s n (ethMatches s n h)
  let x := e.getD 0
  let tc := if x.testBit 123 then classOf s n (ethPcp s n h) else bitsOf x 126 124
  (if e.isSome then tc else 0, copiesOf s (destsOf n x) (ethPdu s n (ethVid s n h) h.etype h.tci.isSome) bucket, bucket)

/-- The gPTP multicast frames that a port with gPTP enabled steers to the keeper (R175). -/
def gptpSteered (s : State) (n : Nat) (h : EthHead) : Bool :=
  h.da == [0x01, 0x80, 0xC2, 0x00, 0x00, 0x0E] && h.etype == 0x88F7 && flag s (pk n 0xA 4)

/-- Class, copies and bucket of a frame, the fixed steering first (R175). -/
def ethClassify (s : State) (n : Nat) (b : Blob) : Nat × List (Nat × Option Nat × Option Nat) × Nat :=
  let h := ethHead b
  let bucket := hashBucket s (ethHash n h)
  if gptpSteered s n h then (7, [(28, none, none)], bucket)
  else if macsecOn s n ∧ h.etype = 0x888E then (6, [(28, none, none)], bucket)
  else if macsecOn s n ∧ h.etype = 0x88E5 then (classOf s n (val s (pk n 2 2)), [(29, none, none)], bucket)
  else ethFiltered s n b

/-- A frame as it crosses the fabric: with ingress strip the tag is removed and the FCS computed again (R178); a bad FCS
stays bad. [log 47 DEDUCED] -/
def stripTag (s : State) (n : Nat) (b : Blob) : Blob :=
  if flag s (pk n 2 3) ∧ frameTagged b then
    let body := (b.take (b.length - 4)).take 12 ++ ((b.take (b.length - 4)).drop 16)
    let fcs := crc32 (b.take (b.length - 4))
    body ++ (if b.drop (b.length - 4) = leBytes 4 fcs then leBytes 4 (crc32 body) else leBytes 4 (0xFFFFFFFF - crc32 body))
  else b

/-! ### Reception (R173, R174, R88, R90) -/

/-- A copy of a frame begins at its input with the first cell; one whose tag is being stripped is cut into cells when its
bytes are complete. -/
def beginCopy (n tc bucket ts : Nat) (head : Blob) (strip : Bool) (c : Nat × Option Nat × Option Nat) (acc : State × List Nat) : State × List Nat :=
  let (s, ids) := acc
  let (s, id) := addFrame { id := 0, bytes := head, inPort := n, outPort := c.1, tc := tc, hash := bucket, ts := ts, rxPort := n,
                            whole := false, ct := !strip && cutThrough s n c.1 tc, ciph := c.1 == 29, next := c.2.1, pdu := c.2.2 } s
  (if strip then s else sendCells id 0 1 s, ids ++ [id])

/-- Device time in ns, to one CLK_FAB period of 1.953125 ns, `ago` such periods ago. -/
def stampNs (s : State) (ago : Nat) : Nat := (8 * nowPs s - 15625 * ago) / 8000

/-- A receive timestamp, less the PHY's latency on the way in; a transmit timestamp, with that on the way out (R195). [log 48 DEDUCED] -/
def rxStamp (s : State) (n ago : Nat) : Nat := stampNs s ago - val s (pk n 0xA 1)
def txStamp (s : State) (n ago : Nat) : Nat := stampNs s ago + val s (pk n 0xA 2)

/-- The first 64 bytes of a frame have arrived, `ago` periods of CLK_FAB after the first bit behind the SFD: every decision is
made on them (R173). MAC control frames end here; a frame without a copy is not accepted; the policer admits or discards the
frame (R88), and a copy that an unpausable source cannot place is discarded under cause 5 (R89). -/
def frameHead (n : Nat) (head : Blob) (ago : Nat) (s : State) : State :=
  if !ethAccepts s n || ((s.fab.ingress[n]?).join).isSome || head.length < 64 then s
  else
    let h := ethHead head
    if h.etype = 0x8808 then s
    else
      let (tc, copies, bucket) := ethClassify s n head
      if copies.isEmpty then count (pk n 8 5) s
      else
        let strip := flag s (pk n 2 3) && h.tci.isSome
        let cause := policeCause s n tc
        let ts := rxStamp s n ago
        let s := graceCount n tc 1 (modEth n (fun e => { e with rxTs := ts }) s)
        let (s, ids) := if cause.isSome then (policed n (cause.getD 1) copies.length s, [])
          else copies.foldl (fun acc c =>
            if sourceFull acc.1 n c.1 tc then (policed n 5 1 acc.1, acc.2) else beginCopy n tc bucket (ts % 2 ^ 32) head strip c acc) (s, [])
        let g : Ingress := { copies := ids, tc := tc, cause := cause, cells := if strip then 0 else 1, head := head, ts := nowPs s }
        modFab (fun b => { b with ingress := vmod b.ingress n fun _ => some g }) s

/-- ETH_FRAME_HEAD. -/
def execEthFrameHead (port : Fin 24) (head : Blob) (ago : Nat) (s : State) : Res := conclude s (frameHead port (head.take 64) ago s)

/-- Where the SecTAG's TCI stands: behind the EtherType 0x88E5, which may follow an 802.1Q tag. -/
def secTagAt (b : Blob) : Nat := if frameTagged b then 18 else 14

/-- SecTAG checks of a 0x88E5 frame on a MACsec port (R190). -/
def secTagBad (s : State) (n : Nat) (b : Blob) : Bool :=
  let o := secTagAt b
  let tci := ofBe (sub b o 1)
  let rx := (portAt s n).eth.sas.filter (!·.transmit)
  let channels := (rx.map (·.channel)).eraseDups
  tci.testBit 7 || bitsOf (ofBe (sub b (o + 1) 1)) 7 6 ≠ 0 ||
  (if tci.testBit 5 then !rx.any fun a => a.sci == ofBe (sub b (o + 6) 8) else 1 < channels.length)

/-- A frame of 64 bytes or more is errored (R174). [log 47 DEDUCED] -/
def ethErrored (s : State) (n : Nat) (b : Blob) (code : Bool) : Bool :=
  let h := ethHead b
  b.drop (b.length - 4) ≠ leBytes 4 (crc32 (b.take (b.length - 4))) || code || val s (pk n 1 2) < b.length ||
  (macsecOn s n && (if h.etype = 0x88E5 then secTagBad s n b
    else h.etype ≠ 0x888E && h.etype ≠ 0x8808 && !gptpSteered s n h))

/-- Cells of a frame still wait at its source. -/
def cellsWait (s : State) (f : Frame) : Bool := (fabPortAt s f.inPort).arriving.any (·.frame == f.id)

/-- A copy receives the rest of its frame; one of an unpausable source that finds staging and its queue full is discarded
under cause 5 (R89). [log 26 DEDUCED; log 47 DEDUCED] -/
def endCopy (bytes : Blob) (err : Bool) (first : Nat) (id : Nat) (s : State) : State :=
  let s := modFrame id (fun f => { f with bytes := bytes, whole := true, err := err }) s
  match frameAt s id with
  | none => s
  | some f =>
    let s := endCrossed id (sendCells id first f.cells s)
    if !f.ct && cellsWait s f && sourceFull s f.inPort f.outPort f.tc then countPoliced f.inPort 5 1 (removeFrame id s) else s

/-- An errored frame of a port without deliver-errored: a cut-through copy leaves with an inverted FCS (R91), the others are
discarded under cause 3. -/
def rejectCopy (n : Nat) (bytes : Blob) (first : Nat) (id : Nat) (s : State) : State :=
  match frameAt s id with
  | none => s
  | some f =>
    if f.ct then
      let s := modFrame id (fun f => { f with bytes := bytes }) (stompFrame id s)
      endCrossed id (sendCells id first (ceilDiv bytes.length 64) s)
    else countPoliced n 3 1 (removeFrame id s)

/-- Cells of a frame behind its first that arrived while its class was paused: those since the pause began, at the port's rate
(R86). [log 26 DEDUCED] -/
def pausedCells (s : State) (n tc headPs cells : Nat) : Nat :=
  let mbps := val s (pk n 1 1)
  let before := (nowPs s - pausedSince s n tc) - headPs
  (cells - 1) - min (cells - 1) (before * mbps / (8 * 1000000 * 64))

/-- A reception ends (R173, R174): a fragment is counted; an errored frame is discarded or delivered with its flag; a good
one is complete. [log 47 DEDUCED] -/
def frameEnd (n : Nat) (b : Blob) (code : Bool) (s : State) : State :=
  if !ethOnLine s n then s
  else if b.length < 64 then count (pk n 8 4) s
  else
    let err := ethErrored s n b code
    let s := if err then count (pk n 8 3) s else s
    let s := count (pk n 8 1) s
    match (s.fab.ingress[n]?).join with
    | none => s
    | some g =>
      let s := modFab (fun x => { x with ingress := vmod x.ingress n fun _ => none }) s
      let bytes := stripTag s n (b.take (val s (pk n 1 2)))
      let s := graceCount n g.tc (pausedCells s n g.tc g.ts (ceilDiv bytes.length 64)) s
      if g.cause.isSome then s
      else
        let s := bucketCharge n g.tc bytes.length s
        if err && !flag s (pk n 1 4) then g.copies.foldl (fun s id => rejectCopy n bytes g.cells id s) s
        else
          let s := if err then count (pk n 8 8) s else s
          g.copies.foldl (fun s id => endCopy bytes err g.cells id s) s

/-- ETH_FRAME_END. -/
def execEthFrameEnd (port : Fin 24) (frame : Blob) (codeError : Bool) (s : State) : Res := conclude s (frameEnd port frame codeError s)

/-! ### Transmission (R179-R181) -/

/-- A frame as the port sends it: egress tag handling, padding, FCS; an errored frame's FCS is inverted (R174, R179). -/
def egressBytes (s : State) (n : Nat) (f : Frame) : Blob :=
  let body := f.bytes.take (f.bytes.length - 4)
  let mode := val s (pk n 2 4)
  let vid := val s (pk n 2 5)
  let body :=
    if mode = 1 ∧ ¬ frameTagged f.bytes then
      body.take 12 ++ [0x81, 0x00] ++ beBytes 2 (prioOf s n f.tc * 8192 + vid % 4096) ++ body.drop 12
    else if mode = 2 ∧ frameTagged f.bytes ∧ bitsOf (ofBe (sub f.bytes 14 2)) 11 0 = vid then body.take 12 ++ body.drop 16
    else body
  let body := body ++ zeros (60 - body.length)
  body ++ leBytes 4 (if f.err then 0xFFFFFFFF - crc32 body else crc32 body)

/-- MAC control frames that waited go out ahead of every queued frame (R180). -/
def sendControls (n : Nat) (s : State) : State :=
  let l := (portAt s n).eth.control
  l.foldl (fun s c => count (pk n 3 8) (emit (.pause n c.1 c.2) s)) (modEth n (fun e => { e with control := [] }) s)

/-- The MAC finishes its frame, whose first bit behind the SFD left `ago` periods of CLK_FAB ago (R93, R180, R195): it counts as out, waiting control frames follow, and the next frame starts.
Under a generating port test it is the test frame (R476). -/
def frameTransmitted (n ago : Nat) (s : State) : State :=
  if testGenerates s n then testFrameSent n s
  else match (portAt s n).eth.tx.bind (frameAt s) with
  | none => s
  | some f =>
    if !ethOnLine s n || (portAt s n).eth.backoff || !frameReady s f.id then s
    else
      let s := emit (.eth n (egressBytes s n f) f.err) (count (pk n 8 2) s)
      let s := modEth n (fun e => { e with tx := none, attempts := 0, txTs := txStamp s n ago }) (frameOut f.id (unlockSent f (15625 * ago / 8) s))
      startTx n (sendControls n s)

/-- ETH_FRAME_TRANSMITTED. -/
def execEthFrameTransmitted (port : Fin 24) (ago : Nat) (s : State) : Res := conclude s (frameTransmitted port ago s)

/-- The port sends under CSMA/CD (R181). -/
def csmaCd (s : State) (n : Nat) : Bool := portKind n == .tsa || (portKind n == .ge && flag s (pk n 1 3))

/-- A collision, late or not: back-off, and the frame is tried again without limit (R181). -/
def collision (n : Nat) (s : State) : State :=
  if ethOnLine s n && csmaCd s n && (portAt s n).eth.tx.isSome && !(portAt s n).eth.backoff then
    modEth n (fun e => { e with attempts := e.attempts + 1, backoff := true }) (count (pk n 8 6) s)
  else s

/-- COLLISION. -/
def execCollision (port : Fin 24) (s : State) : Res := conclude s (collision port s)

/-- The back-off ends and the next attempt begins; one beyond the 16th is counted (R181). -/
def backoffExpiry (n : Nat) (s : State) : State :=
  if (portAt s n).eth.backoff then
    let s := modEth n (fun e => { e with backoff := false }) s
    if 16 ≤ (portAt s n).eth.attempts then count (pk n 8 7) s else s
  else s

/-- BACKOFF_EXPIRY. -/
def execBackoffExpiry (port : Fin 24) (s : State) : Res := conclude s (backoffExpiry port s)

/-! ### Received flow control (R182-R184) -/

/-- The port applies received pauses of this mode. -/
def fcMode (s : State) (n mode : Nat) : Bool := 18 ≤ n && !flag s (pk n 1 3) && val s (pk n 3 3) == mode

/-- A class's pause changed. -/
def modPause (n tc : Nat) (f : PauseSt → PauseSt) (s : State) : State := modEth n (fun e => { e with pauses := vmod e.pauses tc f }) s

/-- A pause for a class: quanta 0 releases it and ends an override; while an override lasts a pause is not applied. [log 51 DEDUCED] -/
def applyPause (n tc quanta : Nat) (s : State) : State :=
  modPause n tc (fun p =>
    if quanta = 0 then { stopped := false, quanta := 0, override := false }
    else if p.override then p
    else { p with stopped := true, quanta := quanta }) s

/-- A received IEEE 802.3 pause names every class (mode 1). -/
def pauseReceived (n quanta : Nat) (s : State) : State :=
  if !ethOnLine s n then s
  else
    let s := count (pk n 3 7) s
    if fcMode s n 1 then startTx n ((List.range 8).foldl (fun s tc => applyPause n tc quanta s) s) else s

/-- PAUSE_FRAME_RECEIVED. -/
def execPauseFrameReceived (port : Fin 24) (quanta : BitVec 16) (s : State) : Res := conclude s (pauseReceived port quanta.toNat s)

/-- A received PFC frame names the classes mapped to each enabled priority and set in the PFC mask (mode 2). -/
def pfcReceived (n enables : Nat) (times : List Nat) (s : State) : State :=
  if !ethOnLine s n then s
  else
    let s := count (pk n 3 7) s
    if fcMode s n 2 then
      startTx n ((List.range 8).foldl (fun s tc =>
        if enables.testBit (prioOf s n tc) && (val s (pk n 3 4)).testBit tc then applyPause n tc (times.getD (prioOf s n tc) 0) s else s) s)
    else s

/-- PFC_FRAME_RECEIVED. -/
def execPfcFrameReceived (port : Fin 24) (enables : BitVec 8) (times : List (BitVec 16)) (s : State) : Res :=
  conclude s (pfcReceived port enables.toNat (times.map (·.toNat)) s)

/-- A pause time runs out and the class resumes. [log 51 DEDUCED] -/
def pauseExpiry (n tc : Nat) (s : State) : State := startTx n (modPause n tc (fun p => { p with stopped := false, quanta := 0 }) s)

/-- PAUSE_EXPIRY. -/
def execPauseExpiry (port : Fin 24) (tc : Fin 8) (s : State) : Res := conclude s (pauseExpiry port tc s)

/-- A class stopped for the watchdog limit is overridden: counted and logged (R184). [log 51 DEDUCED] -/
def pauseWatchdog (n tc : Nat) (s : State) : State :=
  if classPaused s n tc then
    startTx n (logEvent (16 + n) clsPartner 0 (pk n 3 6) (leBytes 1 tc)
      (count (pk n 3 6) (modPause n tc (fun p => { p with override := true }) s)))
  else s

/-- PAUSE_WATCHDOG_EXPIRY. -/
def execPauseWatchdogExpiry (port : Fin 24) (tc : Fin 8) (s : State) : Res := conclude s (pauseWatchdog port tc s)

/-- No pause for one watchdog limit: the override ends (R184). [log 51 DEDUCED] -/
def overrideTimeout (n tc : Nat) (s : State) : State :=
  modPause n tc (fun p => if p.override then { stopped := false, quanta := 0, override := false } else p) s

/-- WATCHDOG_OVERRIDE_TIMEOUT. -/
def execWatchdogOverrideTimeout (port : Fin 24) (tc : Fin 8) (s : State) : Res := conclude s (overrideTimeout port tc s)

/-- A Comb that can run counts the port as pausable: the active one, or a standby that is VERIFIED or ARMED (R182). -/
def combPausable (s : State) (n : Nat) : Bool :=
  (match s.comb.active with | some c => c.pausable n | none => false) ||
  ((s.comb.state == .verified || s.comb.state == .armed) && (match s.comb.standby with | some c => c.pausable n | none => false))

/-- The state condition of a write to base + 0x03/03 or base + 0x01/03 (R182). -/
def flowModeOpen (s : State) (n : Nat) (half : Bool) (v : Nat) : Bool :=
  !(combPausable s n && (if half then v ≠ 0 else v == 0))

/-- The effect of such a write: half duplex is allowed at 10 and 100 Mbit/s (R199). [log 51 DEDUCED] -/
def effFlowMode (s : State) (n : Nat) (half : Bool) (v : Nat) : Access :=
  if half ∧ v ≠ 0 ∧ 100 < val s (pk n 1 1) then .error abRange else .ok (keepVal (if half then pk n 1 3 else pk n 3 3) v s)

/-- The write of a flow-control mode or of half duplex. -/
def flowModeWrite (slot n : Nat) (half : Bool) (v : Nat) (s : State) : State :=
  let idx := 0x3000 + 0x20 * n + (if half then 1 else 3)
  writeEntry slot idx 3 (numFor idx 3 v) (flowModeOpen s n half v) (fun _ v _ => effFlowMode s n half v) s

/-- FLOW_CONTROL_MODE_WRITE. -/
def execFlowControlModeWrite (slot : Fin 16) (port : Fin 24) (halfDuplex : Bool) (v : Nat) (s : State) : Res :=
  conclude s (flowModeWrite slot port halfDuplex v s)

/-! ### 10BASE-T1S (R185-R188) -/

/-- A TSA port on its line with PLCA enabled. -/
def plcaOn (s : State) (n : Nat) : Bool := ethOnLine s n && portKind n == .tsa && flag s (pk n 0xB 1)

/-- A BEACON returns a follower to PLCA (R186). [log 49 DEDUCED] -/
def plcaBeacon (n : Nat) (s : State) : State :=
  if plcaOn s n && val s (pk n 0xB 2) ≠ 0 then modEth n (fun e => { e with plca := 1 }) s else s

/-- PLCA_BEACON. -/
def execPlcaBeacon (port : Fin 24) (s : State) : Res := conclude s (plcaBeacon port s)

/-- A follower without a BEACON reports PLCA inactive and sends under CSMA/CD; the loss is counted (R186). [log 49 DEDUCED] -/
def plcaBeaconTimeout (n : Nat) (s : State) : State :=
  if plcaOn s n && val s (pk n 0xB 2) ≠ 0 && (portAt s n).eth.plca == 1 then
    count (pk n 0xB 8) (modEth n (fun e => { e with plca := 2 }) s)
  else s

/-- PLCA_BEACON_TIMEOUT. -/
def execPlcaBeaconTimeout (port : Fin 24) (s : State) : Res := conclude s (plcaBeaconTimeout port s)

/-- The coordinator sends a BEACON at every cycle (R186). [log 49 DEDUCED] -/
def plcaCycle (n : Nat) (s : State) : State :=
  if plcaOn s n && val s (pk n 0xB 2) == 0 then emit (.plcaBeacon n) (modEth n (fun e => { e with plca := 1 }) s) else s

/-- PLCA_CYCLE_START. -/
def execPlcaCycleStart (port : Fin 24) (s : State) : Res := conclude s (plcaCycle port s)

/-- The PHY of a TSA port reports a fault: the port is declared down with cause 7; one that is down already waits for the
fault to clear before its holdoff (R187). [log 49 DEDUCED] -/
def phyFault (n : Nat) (s : State) : State :=
  if portKind n = .tsa ∧ portFitted s n ∧ (portAt s n).st ≠ .stopped then
    portDown n 7 (modPort n (fun p => { p with holdoff := false, eth := { p.eth with phyFault := true } }) s)
  else s

/-- TSA_PHY_FAULT. -/
def execTsaPhyFault (port : Fin 24) (s : State) : Res := conclude s (phyFault port s)

/-- TSA_JABBER_TIMEOUT: the transmitter is silenced, a fault of the PHY as well (R187). -/
def execTsaJabberTimeout (port : Fin 24) (s : State) : Res := conclude s (phyFault port s)

/-- The line was idle for 10 ms without a short: the fault clears, and recovery follows R171 (R187). [log 49 DEDUCED] -/
def faultClear (n : Nat) (s : State) : State :=
  let p := portAt s n
  if !p.eth.phyFault then s
  else
    let s := modEth n (fun e => { e with phyFault := false }) s
    if p.st = .down ∧ ¬ p.flushing ∧ mayRecover s n then modPort n (fun p => { p with holdoff := true }) s else s

/-- TSA_FAULT_CLEAR. -/
def execTsaFaultClear (port : Fin 24) (s : State) : Res := conclude s (faultClear port s)

/-- Bus activity at a switched-off TSA0 or TSA1 that lasts the filter time raises a wake (R188). [log 49 DEDUCED] -/
def tsaWake (n micros : Nat) (s : State) : State :=
  if (n = 14 ∨ n = 15) ∧ portFitted s n ∧ s.pwr.vao ∧ val s (pk n 9 1) = 1 ∧ (s.pwr.votePort[n]?).getD false = false ∧
      8 * val s (pk n 9 2) ≤ micros then
    latchWake (9 + (n - 14)) (count (pk n 9 9) s)
  else s

/-- TSA_WAKE_ACTIVITY. -/
def execTsaWakeActivity (port : Fin 24) (micros : Nat) (s : State) : Res := conclude s (tsaWake port micros s)

/-- The wake burst of a start ends and frames may be sent (R188). [log 49 DEDUCED] -/
def wakeBurstEnd (n : Nat) (s : State) : State := startTx n (modEth n (fun e => { e with wakeBurst := false }) s)

/-- TSA_WAKE_BURST_END. -/
def execTsaWakeBurstEnd (port : Fin 24) (s : State) : Res := conclude s (wakeBurstEnd port s)

/-! ### Time services, MACsec exhaustion (R194, R196, R197) -/

/-- The phase error against gPTP time (R36): a Comb whose reference is this port has its boundaries at the multiples of its
hyperperiod in gPTP time, which is device time less the offset. [log 117 DESIGN CHOICE] -/
def setGptpPhase (n : Nat) (offset : Int) (s : State) : State :=
  match s.comb.active with
  | none => s
  | some c =>
    if c.tsrc = 1 ∧ c.tref = n then
      let h : Int := (c.hyper * tickPs : Nat)
      let late := ((s.clk.tickPs : Int) - (s.clk.tick * tickPs : Nat) - offset * 1000) % h
      { s with comb := { s.comb with phasePs := if h < 2 * late then h - late else -late } }
    else s

/-- A Sync reaches the keeper, with the mean link delay of a port that the peer delay mechanism has made asCapable. A
malformed one, and one from a port without asCapable, is logged and ignored; a good one makes the port the slave port, with
the offset it showed (R196, R197). [log 48 DEDUCED] -/
def gptpSync (n : Nat) (offset : Int) (good : Bool) (delay : Option Nat) (s : State) : State :=
  if !(ethAccepts s n && flag s (pk n 0xA 4) && s.kpr.running) then s
  else
  let s := modEth n (fun e => { e with asCapable := delay.isSome, meanDelay := delay.getD 0 % 2 ^ 32 }) s
  if !good ∨ delay.isNone then logEvent 0 clsPartner 0 (odKey 0x1040 9) (leBytes 1 n) s
  else
    setGptpPhase n offset <| setVal (odKey 0x1040 0xB) (unsignedOf 64 offset) (setVal (odKey 0x1040 0xA) n (setVal (odKey 0x1040 9) 1 s))

/-- GPTP_SYNC_RECEIVED. -/
def execGptpSyncReceived (port : Fin 24) (offsetNs : Int) (wellFormed : Bool) (delayNs : Option Nat) (s : State) : Res :=
  conclude s (gptpSync port offsetNs wellFormed delayNs s)

/-- The transmit SA is exhausted and no new one came within the stall limit: down with cause 8, and the port's frames that
wait at F29 are flushed with its queues (R194). [log 50 DEDUCED] -/
def pnExhaustion (n : Nat) (s : State) : State :=
  if (portAt s n).eth.pnExhausted then
    let ids := waitingAtF29 s n
    flushFrames n ids (portDown n 8 s)
  else s

/-- PN_EXHAUSTION_TIMEOUT. -/
def execPnExhaustionTimeout (port : Fin 24) (s : State) : Res := conclude s (pnExhaustion port s)

/-! ### The Enable of a port (R458) -/

/-- The write of a port's Enable. -/
def portEnableWrite (slot n v : Nat) (s : State) : State :=
  writeEntry slot (0x3000 + 0x20 * n) 1 (numFor (0x3000 + 0x20 * n) 1 v) true (fun _ v _ => effPortEnable s n v) s

/-- PORT_ENABLE_WRITE. -/
def execPortEnableWrite (slot : Fin 16) (port : Fin 24) (v : Nat) (s : State) : Res := conclude s (portEnableWrite slot port v s)

end Sys2Proof.Machine
end

