-- ==== Sys2Proof/Machine/Lanes.lean ====
section
/-! DEFINITION. The cipher lanes (R334, R358-R372) and the passes they run: sealed streams (R127, R129, R132), MACsec
(R189-R194) and keeper requests (R369). -/

namespace Sys2Proof.Machine

/-! ### Lanes in service, the standby lane (R367, R371) -/

/-- Lane `l`. -/
def laneAt (s : State) (l : Nat) : Lane := (s.lanes.lane[l]?).getD {}
/-- Lane `l` changed. -/
def modLane (l : Nat) (f : Lane → Lane) (s : State) : State := { s with lanes := { s.lanes with lane := vmod s.lanes.lane l f } }

/-- A lane takes new passes. -/
def laneInService (s : State) (l : Nat) : Bool := (laneAt s l).st == .running

/-- The active Comb reserves slots of the lane (R42). -/
def laneReserved (s : State) (l : Nat) : Bool :=
  match s.comb.active with
  | some c => c.acts.any fun a => actType a == 7 && actLane a == l
  | none => false

/-- The lowest-numbered lane in service that has no reserved slots, other than `but` (R367). -/
def standbyOther (s : State) (but : Nat) : Option Nat :=
  (List.range 12).find? fun l => l ≠ but && laneInService s l && !laneReserved s l
/-- 0x2400/02. -/
def standbyLane (s : State) : Option Nat := standbyOther s 12
/-- The lowest-numbered lane in service. -/
def lowestLane (s : State) : Option Nat := (List.range 12).find? (laneInService s)

/-- A lane's work goes on here: itself while it is in service, else the lane that took its runs over. -/
def laneFor (s : State) (l : Nat) : Option Nat :=
  if laneInService s l then some l
  else match (laneAt s l).takenBy with
  | some t => if laneInService s t then some t else none
  | none => none

/-! ### Starting a pass (R334, R361, R362) -/

/-- A slot key is copied into the older of KEY0 and KEY1, unless it is there already. -/
def Lane.useSlot (x : Lane) (i : Nat) (k : KeySlot) : Lane :=
  if copiesSlot i x.k0 || copiesSlot i x.k1 then x
  else if x.older1 then { x with k1 := some ⟨k.key, some i⟩, older1 := false }
  else { x with k0 := some ⟨k.key, some i⟩, older1 := true }

/-- The key of slot `i` is copied for a pass. -/
def copyKey (l i : Nat) (s : State) : State :=
  match slotAt s i with
  | some k => modLane l (fun x => x.useSlot i k) s
  | none => s

/-- The slot a pass names. -/
def passSlot (s : State) (p : LanePass) : Option Nat :=
  match p.kind with
  | .sealRx j | .sealTx j => some (streamSlot s j)
  | .macTx slot _ _ => some slot
  | .macRx => none
  | .keeper => (p.req.map (·.ksel.toNat)).filter (· < 64)

/-- A pass takes its context. -/
def beginPass (l : Nat) (reserved : Bool) (p : LanePass) (s : State) : State :=
  let s := match passSlot s p with | some i => copyKey l i s | none => s
  modLane l (fun x => if reserved then { x with reserved := some p, dynamic := x.dynamic.map fun d => { d with suspended := true } }
    else { x with dynamic := some p }) s

/-- With both contexts free the lane's round-robin pointer decides among the dynamic requesters (R22, R362). -/
def startDynamic (l : Nat) (s : State) : State :=
  let x := laneAt s l
  if x.reserved.isSome || x.dynamic.isSome || !laneInService s l then s
  else match rrPick 6 x.pointer fun r => x.waitDyn.any (·.requester == r) with
  | none => s
  | some r =>
    match x.waitDyn.find? (·.requester == r) with
    | none => s
    | some p => beginPass l false p (modLane l (fun x => { x with waitDyn := x.waitDyn.erase p, pointer := rrNext 6 r }) s)

/-- The reserved context starts its oldest waiting pass. -/
def startReserved (l : Nat) (s : State) : State :=
  match (laneAt s l).waitRes with
  | [] => s
  | p :: r => beginPass l true p (modLane l (fun x => { x with waitRes := r }) s)

/-- The reserved context is idle again: a pass moved here from a failed lane starts at once, else the dynamic pass resumes
or the next one starts. -/
def nextPass (l : Nat) (s : State) : State :=
  let x := laneAt s l
  if x.reserved.isSome then s
  else match x.waitRes with
  | p :: _ => if p.heldIn.isSome then startReserved l s
    else startDynamic l (modLane l (fun x => { x with dynamic := x.dynamic.map fun d => { d with suspended := false } }) s)
  | [] => startDynamic l (modLane l (fun x => { x with dynamic := x.dynamic.map fun d => { d with suspended := false } }) s)

/-- A dynamic request joins a lane. -/
def addDynamic (l : Nat) (p : LanePass) (s : State) : State :=
  startDynamic l (modLane l (fun x => { x with waitDyn := x.waitDyn ++ [p] }) s)

/-- A reserved run of the lane stands in this slot. -/
def runNow (s : State) (l : Nat) : Bool :=
  s.comb.now.any fun a => actType a == 7 && actLane a == l &&
    (match actRun a with | some (f, n) => f ≤ s.clk.slot && s.clk.slot < f + n | none => false)

/-- A reserved pass joins its lane; within a run that has begun it starts at its first cell's arrival (R362). -/
def addReserved (home l : Nat) (p : LanePass) (s : State) : State :=
  let s := modLane l (fun x => { x with waitRes := x.waitRes ++ [p] }) s
  if runNow s home ∧ (laneAt s l).reserved.isNone then startReserved l s else s

/-- A reserved cipher-lane run begins (R362, R363): the oldest waiting reserved pass starts; with the reserved context busy
it waits for the next run, which is counted, and logged at most once per 100 ms. -/
def cipherLaneSlot (home : Nat) (s : State) : State :=
  if !s.comb.now.any fun a => actType a == 7 && actLane a == home then s
  else match laneFor s home with
  | none => s
  | some l =>
    let x := laneAt s l
    if x.waitRes.isEmpty then s
    else if x.reserved.isNone then startReserved l s
    else
      let s := count (odKey 0x2420 7) s
      if (match x.busyLoggedPs with | some t => decide (nowPs s < t + 100 * msPs) | none => false) then s
      else logEvent 9 clsUnmasked 0 (odKey 0x2420 7) (leBytes 1 l) (modLane l (fun x => { x with busyLoggedPs := some (nowPs s) }) s)

/-- CIPHER_LANE_SLOT. -/
def execCipherLaneSlot (lane : Fin 12) (s : State) : Res := conclude s (cipherLaneSlot lane s)

/-! ### Key registers (R334, R359) -/

/-- An operation of the lane uses KEY2 (or, for XTS, KEY3). -/
def usesDirect (x : Lane) (key3 : Bool) : Bool :=
  match x.dynamic with
  | some { req := some r, .. } => if key3 then r.ksel == 0x81 else r.ksel == 0x80 || r.ksel == 0x81
  | _ => false

/-- A direct write; of two writes while an operation uses the register the later stands. -/
def Lane.writeKey (x : Lane) (key3 : Bool) (key : Blob) : Lane :=
  let k : Option LaneKey := if key = [] then none else some ⟨key, none⟩
  if usesDirect x key3 then (if key3 then { x with wait3 := some key } else { x with wait2 := some key })
  else if key3 then { x with k3 := k } else { x with k2 := k }

/-- The writes that waited take effect when the operation has completed. -/
def Lane.applyWrites (x : Lane) : Lane :=
  let f (w : Option Blob) (k : Option LaneKey) : Option LaneKey :=
    match w with | none => k | some b => if b = [] then none else some ⟨b, none⟩
  { x with k2 := f x.wait2 x.k2, k3 := f x.wait3 x.k3, wait2 := none, wait3 := none }

/-- The effect of a write of KEY2 or KEY3: 16, 24 or 32 bytes, or none to clear it. -/
def effLaneKey (s : State) (l : Nat) (key3 : Bool) (b : Blob) : Access :=
  if b = [] ∨ aesKeyLen b.length then .ok (modLane l (fun x => x.writeKey key3 b) s) else .error abType

/-- Keeper firmware's write. -/
def laneKeyWrite (l : Nat) (key3 : Bool) (key : Blob) (s : State) : State :=
  writeEntry 15 (0x2480 + l) (1 + key3.toNat) (.bytes key) true (fun _ _ b => effLaneKey s l key3 b) s

/-- LANE_KEY_WRITE. -/
def execLaneKeyWrite (lane : Fin 12) (key3 : Bool) (key : Blob) (s : State) : Res := conclude s (laneKeyWrite lane key3 key s)

/-! ### MACsec (R189-R194) -/

/-- XPN suites, and the last PN. -/
def xpn (s : State) (n : Nat) : Bool := 2 ≤ val s (pk n 6 2)
/-- [log 50 DEDUCED] -/
def lastPn (s : State) (n : Nat) : Nat := if xpn s n then 2 ^ 64 - 1 else 2 ^ 32 - 1

/-- The IV of a PN: SCI and PN, or under XPN the PN with the SA's salt and SSCI (IEEE 802.1AE). [log 50 DEDUCED] -/
def macIv (s : State) (n slot sci pn : Nat) : Blob :=
  if xpn s n then xorB (zeros 4 ++ beBytes 8 pn) (bytesOf 12 (Config.macsecSalt slot sci)) else beBytes 8 sci ++ beBytes 4 pn

/-- Parts of a protected frame: with or without an SCI in its SecTAG. -/
def secTagLen (b : Blob) : Nat := if (ofBe (sub b (secTagAt b) 1)).testBit 5 then 16 else 8
def secTagSci (s : State) (n : Nat) (b : Blob) : Nat :=
  if (ofBe (sub b (secTagAt b) 1)).testBit 5 then ofBe (sub b (secTagAt b + 6) 8)
  else ((((portAt s n).eth.sas.filter (!·.transmit)).head?).map (·.sci)).getD 0

/-- The SA that receives a frame. [log 50 DEDUCED] -/
def rxSa (s : State) (n : Nat) (b : Blob) : Option SaSt :=
  (portAt s n).eth.sas.find? fun a => !a.transmit && a.sci == secTagSci s n b && a.an == ofBe (sub b (secTagAt b) 1) % 4

/-- The PN of a frame: under XPN its upper half is recovered from the next PN expected (IEEE 802.1AE). [log 50 DEDUCED] -/
def rxPn (s : State) (n : Nat) (a : SaSt) (b : Blob) : Nat :=
  let low := ofBe (sub b (secTagAt b + 2) 4)
  if !xpn s n then low
  else
    let hi := a.pn / 2 ^ 32
    (if 2 ^ 31 ≤ a.pn % 2 ^ 32 ∧ low < 2 ^ 31 then hi + 1 else hi) * 2 ^ 32 + low

/-- The plaintext frame of a protected one, with a new FCS; none where the ICV fails. -/
def macOpen (s : State) (n : Nat) (a : SaSt) (key : Blob) (b : Blob) : Option Blob :=
  let h := secTagAt b - 2 + secTagLen b
  let body := sub b h (b.length - 20 - h)
  let icv := sub b (b.length - 20) 16
  let off := if (ofBe (sub b (secTagAt b) 1)).testBit 3 then val s (pk n 6 3) else body.length
  (gcmDec key (macIv s n a.slot a.sci (rxPn s n a b)) (b.take h ++ body.take off) (body.drop off) icv).map fun p =>
    let f := b.take (secTagAt b - 2) ++ body.take off ++ p
    f ++ leBytes 4 (crc32 f)

/-- A protected frame: SecTAG of 16 bytes, ICV of 16 bytes, new FCS (R193). -/
def macSeal (s : State) (n slot an pn : Nat) (key : Blob) (b : Blob) : Blob :=
  let enc := flag s (pk n 6 4)
  let body := sub b 12 (b.length - 16)
  let tci := 0x20 + (if enc then 0x0C else 0) + an % 4
  let tag := [0x88, 0xE5] ++ leBytes 1 tci ++ leBytes 1 (if body.length < 48 then body.length else 0) ++
    beBytes 4 (pn % 2 ^ 32) ++ beBytes 8 (portSci s n)
  let off := if enc then val s (pk n 6 3) else body.length
  let (c, icv) := gcmEnc key (macIv s n slot (portSci s n) pn) (b.take 12 ++ tag ++ body.take off) (body.drop off)
  let f := b.take 12 ++ tag ++ body.take off ++ c ++ icv
  f ++ leBytes 4 (crc32 f)

/-- The key of an SA: its slot as R333 lets the port use it, of the length the port's cipher suite has (R189). -/
def saKey (s : State) (n slot usage : Nat) : Option KeySlot :=
  (slotFor s slot 1 usage).filter fun k => k.key.length == (if val s (pk n 6 2) % 2 = 0 then 16 else 32)

/-- The transmit SA in use. -/
def txSa (s : State) (n : Nat) : Option SaSt := (portAt s n).eth.sas.find? fun a => a.transmit && a.active

/-- The transmit SA gives its next PN; past three quarters of its space the event is logged once (R194). [log 50 DEDUCED] -/
def takePn (n : Nat) (s : State) : State :=
  let s := modEth n (fun e => { e with sas := e.sas.map fun a => if a.transmit && a.active then { a with pn := a.pn + 1 } else a }) s
  let top := if xpn s n then 0xC000000000000000 else 0xC0000000
  match txSa s n with
  | some a =>
    if top < a.pn ∧ ¬ (portAt s n).eth.pnLogged then
      logEvent (16 + n) clsThreshold 0 (pk n 6 9) [] (modEth n (fun e => { e with pnLogged := true }) s)
    else s
  | none => s

/-- A port's lanes are used alternately; a lane of 0xF is none (R192). [log 52 DEDUCED] -/
def pickPortLane (s : State) (n : Nat) (rx : Bool) : Option Nat × State :=
  let v := val s (pk n 6 (if rx then 6 else 7))
  let alt := if rx then (portAt s n).eth.rxAlt else (portAt s n).eth.txAlt
  let a := bitsOf v 3 0
  let b := bitsOf v 7 4
  let l := if 12 ≤ b then a else if 12 ≤ a then b else if alt then b else a
  let s := modEth n (fun e => if rx then { e with rxAlt := !e.rxAlt } else { e with txAlt := !e.txAlt }) s
  (if l < 12 then some l else none, s)

/-! ### A frame asks for its pass (R361, R22) -/

/-- AES blocks of a message of `n` bytes. -/
def aesBlocks (n : Nat) : Nat := ceilDiv n 16

/-- What a frame at F29 needs; none: it waits there (no SA, a slot that R333 refuses, PN space exhausted). -/
def passKind (s : State) (f : Frame) : Option PassKind :=
  let sealed := (f.pdu.bind fun i => pduAt s i).filter fun d => pduSeal d == 1
  match f.next, sealed with
  | none, _ =>
    match rxSa s f.rxPort f.bytes with
    | some a => if (slotFor s a.slot 1 9).isSome then some .macRx else none
    | none => some .macRx
  | some o, some d => some (if 24 ≤ o then .sealRx (pduStream d) else .sealTx (pduStream d))
  | some o, none =>
    match txSa s o with
    | some a => if a.pn ≤ lastPn s o ∧ (saKey s o a.slot 8).isSome then some (.macTx a.slot a.an a.pn) else none
    | none => none

/-- The lane a frame's pass goes to, and whether the pass is reserved (R361): the lane its flow names; for MACsec else the
port's lanes in turn; for a sealed stream else the lowest in service. Where the lane is out of service its standby lane
has its runs, and without one the pass falls back to a dynamic request. -/
def passLane (s : State) (f : Frame) (k : PassKind) : Option (Nat × Nat × Bool) × State :=
  let reserved : Option Nat := match f.flow, s.comb.active with
    | some i, some c => (c.flows[i]?).bind fun w => if flowCiph w then some (flowLane w) else none
    | _, _ => none
  match reserved with
  | some l =>
    match laneFor s l with
    | some t => (some (l, t, true), s)
    | none => ((lowestLane s).map fun t => (l, t, false), s)
  | none =>
    let dyn (l : Nat) : Option (Nat × Nat × Bool) :=
      match laneFor s l with | some t => some (l, t, false) | none => (lowestLane s).map fun t => (l, t, false)
    match k with
    | .macRx => let (l, s) := pickPortLane s f.rxPort true; (l.bind dyn, s)
    | .macTx _ _ _ => let (l, s) := pickPortLane s (f.next.getD 0) false; (l.bind dyn, s)
    | _ => ((lowestLane s).map fun t => (t, t, false), s)

/-- The frame leaves the F29 queue and is out there (R93, R191). [log 52 DEDUCED] -/
def consumeAtF29 (id : Nat) (s : State) : State := takeFrame id (match frameAt s id with | some f => countOut f s | none => s)

/-- A frame that has ended at F29. -/
def endAtF29 (id : Nat) (s : State) : State := dropFrame id s

/-- A plaintext frame too long to protect (R193). -/
def tooLong (n id : Nat) (s : State) : State :=
  logEvent (16 + n) clsPartner 0 (pk n 7 5) [] (count (pk n 7 5) (endAtF29 id (consumeAtF29 id s)))

/-- A frame at the head of its F29 queue asks for its pass. -/
def cipherPassRequest (r : PassReq) (s : State) : State :=
  match frameAt s r.frame with
  | none => s
  | some f =>
    if f.outPort ≠ 29 ∨ f.taken ∨ ¬ frameReady s f.id ∨ (queueAt s f.queue).frames.head? ≠ some f.id ∨
        (r.requester.val < 4 ∧ f.inPort ≠ 24 + r.requester.val) then s
    else match passKind s f with
    | none =>
      match f.next with
      | some o =>
        let spent : Bool := match txSa s o with | some a => decide (lastPn s o < a.pn) | none => true
        if o < 24 && spent then modEth o (fun e => { e with pnExhausted := true }) s else s
      | none => s
    | some k =>
      if (match k with | .macTx _ _ _ => decide (16351 < f.bytes.length) | _ => false) then tooLong (f.next.getD 0) f.id s
      else
        let (l, s) := passLane s f k
        match l with
        | none => s
        | some (home, l, res) =>
          let s := match k with | .macTx _ _ _ => takePn (f.next.getD 0) s | _ => s
          let p : LanePass := { kind := k, requester := r.requester, frame := f.id, left := aesBlocks f.bytes.length + 1 }
          let s := consumeAtF29 f.id s
          if res then addReserved home l p s else addDynamic l p s

/-- CIPHER_PASS_REQUEST. -/
def execCipherPassRequest (req : PassReq) (s : State) : Res := conclude s (cipherPassRequest req s)

/-! ### Keeper requests (R360, R369) -/

/-- A lane answer of the keeper. -/
def laneAnswer (discard : Bool) (tag : Byte) (status : Nat) (data : Blob) (s : State) : State :=
  if discard then s else { s with lanes := { s.lanes with answers := s.lanes.answers ++ [(tag, status, data)] } }

/-- TLEN as a length of 4 to 16, where 0 stands for 16; for CCM it is the nonce's length, and its tag has 16 bytes. [log 87 DEDUCED] -/
def tlenOf (r : LaneReq) : Nat := if r.tlen = 0 then 16 else r.tlen.toNat

/-- Modes an operation has: 1 and 2 work on CBC, CTR, GCM, CCM and XTS, 3 and 4 on GMAC and CMAC. [log 87 DEDUCED] -/
def laneModeFits (op mode : Nat) : Bool :=
  if op ≤ 2 then mode ∈ [1, 2, 3, 6, 7] else mode == 4 || mode == 5

/-- The keys of a request: KEY2 and KEY3, or the slot as R333 lets its owner use it. USAGE bit: 8 encrypt, 9 decrypt,
10 and 11 MAC. [log 87 DEDUCED] -/
def laneKeys (s : State) (l op : Nat) (r : LaneReq) : Except Nat (Blob × Blob) :=
  let x := laneAt s l
  let key (k : Option LaneKey) : Blob := (k.map (·.key)).getD []
  if r.ksel = 0x80 then .ok (key x.k2, [])
  else if r.ksel = 0x81 then .ok (key x.k2, key x.k3)
  else if r.ksel.toNat < 56 then
    match slotFor s r.ksel.toNat 0 (7 + op) with
    | some k => .ok (k.key, [])
    | none => .error 0x07
  else .error 0x06

/-- What refuses a request before any block: mode, key length, lengths (R360, R368, R369). [log 87 DEDUCED] -/
def laneRefuses (s : State) (l op : Nat) (r : LaneReq) : Option Nat :=
  let m := r.mode.toNat
  if !laneModeFits op m then some 0x12
  else match laneKeys s l op r with
  | .error c => some c
  | .ok (k1, k2) =>
    if !aesKeyLen k1.length then some 0x12
    else if m = 7 ∧ (r.ksel ≠ 0x81 ∨ k1.length ≠ k2.length ∨ k1.length = 24) then some 0x12
    else if m ≠ 7 ∧ r.ksel = 0x81 then some 0x12
    else if 16384 < r.aad.length then some 0x11
    else if m = 1 ∧ r.data.length % 16 ≠ 0 then some 0x11
    else if m = 7 ∧ (r.data = [] ∨ r.data.length % (if r.unit4096 then 4096 else 512) ≠ 0) then some 0x11
    else if (m = 3 ∨ m = 4 ∨ m = 5) ∧ tlenOf r < 8 then some 0x11
    else if m = 6 ∧ (tlenOf r < 7 ∨ 13 < tlenOf r) then some 0x11
    else if op = 2 ∧ (m = 3 ∨ m = 6) ∧ 16384 < r.data.length then some 0x11
    else none

/-- The result of a request: output data and tag, or a status. [log 87 DEDUCED] -/
def laneResult (op : Nat) (k1 k2 : Blob) (r : LaneReq) : Except Nat (Option Blob × Blob) :=
  let iv12 := r.iv.take 12
  let given := r.tagv.take (tlenOf r)
  match r.mode.toNat with
  | 1 => .ok (some (if op = 1 then aesCbcEnc k1 r.iv r.data else aesCbcDec k1 r.iv r.data), [])
  | 2 => .ok (some (aesCtr k1 r.iv r.data), [])
  | 3 =>
    if op = 1 then .ok (some (gcmEnc k1 iv12 r.aad r.data).1, ((gcmEnc k1 iv12 r.aad r.data).2).take (tlenOf r))
    else match gcmDec k1 iv12 r.aad r.data given with | some p => .ok (some p, []) | none => .error 0x02
  | 4 =>
    let t := (gcmTag k1 iv12 (r.aad ++ r.data) []).take (tlenOf r)
    if op = 3 then .ok (none, t) else if t = given then .ok (none, []) else .error 0x02
  | 5 =>
    let t := (aesCmac k1 (r.aad ++ r.data)).take (tlenOf r)
    if op = 3 then .ok (none, t) else if t = given then .ok (none, []) else .error 0x02
  | 6 =>
    let n := r.iv.take (tlenOf r)
    if op = 1 then .ok (some (ccmEnc k1 n r.aad r.data 16).1, (ccmEnc k1 n r.aad r.data 16).2)
    else match ccmDec k1 n r.aad r.data r.tagv with | some p => .ok (some p, []) | none => .error 0x02
  | _ => .ok (some (aesXts (op == 1) k1 k2 (ofLe r.iv) (if r.unit4096 then 4096 else 512) r.data), [])

/-- Keeper requests that wait for their lane (at most 16). -/
def laneQueued (s : State) : Nat :=
  s.lanes.queue.length + (s.lanes.lane.toList.map fun x => (x.waitDyn.filter (·.req.isSome)).length).sum

/-- The lane a request names: 0xF for the lowest in service. -/
def requestLane (s : State) (r : LaneReq) : Option Nat :=
  if r.lane = 0xF then lowestLane s else if laneInService s r.lane.toNat then some r.lane.toNat else none

/-- A request joins its lane, or waits for one to be in service. -/
def issueLaneReq (op : Nat) (r : LaneReq) (discard : Bool) (s : State) : State :=
  match requestLane s r with
  | none => { s with lanes := { s.lanes with queue := s.lanes.queue ++ [(op, r, discard)] } }
  | some l =>
    match laneRefuses s l op r with
    | some c => laneAnswer discard r.tag c [] s
    | none => addDynamic l { kind := .keeper, requester := 5, frame := 0, left := aesBlocks (r.aad.length + r.data.length) + 1,
                             req := some r, op := op, discard := discard } s

/-- Keeper firmware writes a request. -/
def laneRequest (op : Nat) (r : LaneReq) (s : State) : State :=
  if !s.kpr.running then s
  else if 16 ≤ laneQueued s then laneAnswer false r.tag 0x13 [] s
  else if 12 ≤ r.lane.toNat ∧ r.lane ≠ 0xF then laneAnswer false r.tag 0x06 [] s
  else issueLaneReq op r false s

/-- LANE_ENCRYPT, LANE_DECRYPT, LANE_MAC_GENERATE, LANE_MAC_VERIFY. -/
def laneEncrypt (r : LaneReq) (s : State) : State := laneRequest 1 r s
def execLaneEncrypt (req : LaneReq) (s : State) : Res := conclude s (laneEncrypt req s)
def laneDecrypt (r : LaneReq) (s : State) : State := laneRequest 2 r s
def execLaneDecrypt (req : LaneReq) (s : State) : Res := conclude s (laneDecrypt req s)
def laneMacGenerate (r : LaneReq) (s : State) : State := laneRequest 3 r s
def execLaneMacGenerate (req : LaneReq) (s : State) : Res := conclude s (laneMacGenerate req s)
def laneMacVerify (r : LaneReq) (s : State) : State := laneRequest 4 r s
def execLaneMacVerify (req : LaneReq) (s : State) : Res := conclude s (laneMacVerify req s)

/-- Keeper firmware reads its oldest answer from 0x2410/02: tag, status, tag bytes. -/
def laneAnswerRead (s : State) : State :=
  if !s.kpr.running then s
  else match s.lanes.answers with
  | [] => emit (.odDone 15 []) s
  | (t, c, d) :: r => emit (.lane t.toNat c d) { s with lanes := { s.lanes with answers := r } }

/-- LANE_ANSWER_READ. -/
def execLaneAnswerRead (s : State) : Res := conclude s (laneAnswerRead s)

/-! ### The end of a pass (R365, R368, R129, R191, R193) -/

/-- A keeper request ends. -/
def keeperPass (l : Nat) (p : LanePass) (r : LaneReq) (s : State) : State :=
  match laneKeys s l p.op r with
  | .error c => laneAnswer p.discard r.tag c [] s
  | .ok (k1, k2) =>
    match laneResult p.op k1 k2 r with
    | .error c =>
      let s := if p.op = 2 then count (odKey 0x2420 8) s else s
      laneAnswer p.discard r.tag c [] s
    | .ok (out, tag) =>
      let s := match out with | some d => emit (.dram r.dst d) s | none => s
      laneAnswer p.discard r.tag 0 tag s

/-- A sealed frame's freshness as the lane reconstructs it (R129). [log 33 DEDUCED] -/
def reconstruct (fresh trunc got : Nat) : Nat :=
  let f := fresh / 2 ^ trunc * 2 ^ trunc + got
  if f ≤ fresh then f + 2 ^ trunc else f

/-- The MAC of a sealed PDU (R127). -/
def sealMac (key : Blob) (d : BitVec 512) (payload : Blob) (f : Nat) : Blob :=
  (aesCmac key (beBytes 2 (pduDataId d) ++ payload ++ beBytes 4 f)).take 8

/-- Where the trailer of a sealed frame begins. -/
def trailerAt (d : BitVec 512) (b : Blob) : Nat := payloadOffset (pduProto d) b + pduPaylen d

/-- A sealed frame verified: the 8 MAC bytes become the verdict block (R129). `aborted`: by tamper. -/
def sealVerdict (s : State) (d : BitVec 512) (aborted : Bool) (b : Blob) : Blob :=
  let o := trailerAt d b
  let t := pduTrunc d / 8
  let payload := sub b (payloadOffset (pduProto d) b) (pduPaylen d)
  let f := reconstruct (streamAt s (pduStream d)).fresh (pduTrunc d) (ofBe (sub b o t))
  let verdict := if aborted then 4
    else match slotFor s (streamSlot s (pduStream d)) 1 11 with
    | none => 3
    | some k => if sealMac k.key d payload f = sub b (o + t) 8 then 1 else 2
  if b.length < o + t + 8 then b
  else b.take (o + t) ++ leBytes 1 verdict ++ zeros 3 ++ beBytes 4 (f % 2 ^ 32) ++ b.drop (o + t + 8)

/-- A frame a pass has made is a new frame in at F29 (R93, R365). -/
def releaseAtF29 (f : Frame) (out : Nat) (bytes : Blob) (pdu next : Option Nat) (s : State) : State :=
  sendFrame { f with id := 0, bytes := bytes, inPort := 29, outPort := out, whole := true, begun := false, taken := false,
                     crossed := 0, sent := 0, unpacked := 0, flushed := false, ct := false, ciph := out == 29, next := next, pdu := pdu } s

/-- A sealed frame on its way to its port; one bound for a MACsec port asks for that pass next (R132, R193). -/
def releaseSealed (f : Frame) (o : Nat) (bytes : Blob) (s : State) : State :=
  if macsecOn s o then releaseAtF29 f 29 bytes none (some o) s else releaseAtF29 f o bytes none none s

/-- A sealed frame to send: its MAC is computed into the trailer; a slot that R333 refuses suppresses the emission. -/
def sealTxEnd (f : Frame) (d : BitVec 512) (o : Nat) (s : State) : State :=
  match slotFor s (streamSlot s (pduStream d)) 1 10 with
  | none => logEvent 3 clsUnmasked 0 (odKey 0x3A01 4) (leBytes 2 (pduStream d)) (count (odKey 0x3A01 4) s)
  | some k =>
    let b := f.bytes
    let at0 := trailerAt d b
    let t := pduTrunc d / 8
    let payload := sub b (payloadOffset (pduProto d) b) (pduPaylen d)
    let fresh := (streamAt s (pduStream d)).fresh
    let low := ofBe (sub b at0 t)
    -- the freshness the trailer's bits belong to is the newest not above FRESH
    let whole := let c := fresh / 2 ^ pduTrunc d * 2 ^ pduTrunc d + low; if fresh < c then c - 2 ^ pduTrunc d else c
    let body := b.take (at0 + t) ++ sealMac k.key d payload whole ++ b.drop (at0 + t + 8)
    let eth := pduProto d = 6 ∨ pduProto d = 7
    releaseSealed f o (if eth then body.take (body.length - 4) ++ leBytes 4 (crc32 (body.take (body.length - 4))) else body) s

/-- A protected frame received: replay check, ICV, and the plaintext as a new frame classified like one of its port, with no
second policing (R191). [log 50 DEDUCED] -/
def macRxEnd (f : Frame) (s : State) : State :=
  let n := f.rxPort
  match rxSa s n f.bytes with
  | none => count (pk n 7 2) s
  | some a =>
    let pn := rxPn s n a f.bytes
    if pn + val s (pk n 6 5) < a.pn then count (pk n 7 3) s
    else match saKey s n a.slot 9 with
    | none => count (pk n 7 2) s
    | some k =>
      match macOpen s n a k.key f.bytes with
      | none => count (odKey 0x2420 8) (count (pk n 7 2) s)
      | some plain =>
        let s := count (pk n 7 1) (modEth n (fun e => { e with sas := e.sas.map fun x => if x = a then { x with pn := max a.pn (pn + 1) } else x }) s)
        let (tc, copies, bucket) := ethFiltered s n plain
        let bytes := stripTag s n plain
        if copies.isEmpty then count (pk n 8 5) s
        else copies.foldl (fun s c => releaseAtF29 { f with tc := tc, hash := bucket, plain := true } c.1 bytes c.2.2 c.2.1 s) s

/-- The frame of a pass ends at F29, and what the pass made of it goes on. -/
def framePass (p : LanePass) (f : Frame) (s : State) : State :=
  let s := endAtF29 f.id s
  let d := (f.pdu.bind fun i => pduAt s i).getD 0
  match p.kind with
  | .sealRx _ => releaseAtF29 f (f.next.getD 24) (sealVerdict s d false f.bytes) f.pdu none s
  | .sealTx _ => sealTxEnd f d (f.next.getD 0) s
  | .macRx => macRxEnd f s
  | .macTx slot an pn =>
    let o := f.next.getD 0
    match slotAt s slot with
    | none => s
    | some k => count (pk o 7 4) (releaseAtF29 f o (macSeal s o slot an pn k.key f.bytes) none none s)
  | .keeper => s

/-- The passes begun or waiting on every lane. -/
def allPasses (s : State) : List LanePass :=
  s.lanes.lane.toList.flatMap fun x => x.reserved.toList ++ x.dynamic.toList ++ x.waitRes ++ x.waitDyn

/-- A MACsec frame of the same port and direction came earlier and is not released yet (R192). -/
def earlierWaits (s : State) (p : LanePass) (f : Frame) : Bool :=
  let same (q : LanePass) : Bool := match p.kind, q.kind with
    | .macRx, .macRx => (frameAt s q.frame).any fun g => g.rxPort == f.rxPort
    | .macTx _ _ _, .macTx _ _ _ => (frameAt s q.frame).any fun g => g.next == f.next
    | _, _ => false
  (allPasses s).any fun q => q.frame < p.frame && same q

/-- A pass has released its last output or its verdict. [log 88 DESIGN CHOICE] -/
def finishPass (l : Nat) (reserved : Bool) (p : LanePass) (s : State) : State :=
  let s := modLane l (fun x =>
    let x := { x with maskBlocks := x.maskBlocks + p.left, hold := [] }
    (if reserved then { x with reserved := none } else { x with dynamic := none })) s
  let s := count (odKey 0x2480 6 + 256 * l) (count (odKey 0x2420 1) s)
  let s := match p.req with
    | some r => modLane l Lane.applyWrites (keeperPass l p r s)
    | none => match frameAt s p.frame with | some f => framePass p f s | none => s
  nextPass l s

/-- A pass of a context completes: a suspended pass is not running, and an output that must wait for an earlier frame of its
port waits (R192). [log 88 DESIGN CHOICE] -/
def cipherPassComplete (l : Nat) (reserved : Bool) (s : State) : State :=
  let x := laneAt s l
  match (if reserved then x.reserved else x.dynamic) with
  | none => s
  | some p =>
    if p.suspended then s
    else match frameAt s p.frame with
    | some f => if p.req.isNone && earlierWaits s p f then s else finishPass l reserved p s
    | none => finishPass l reserved p s

/-- CIPHER_PASS_COMPLETE. -/
def execCipherPassComplete (lane : Fin 12) (reserved : Bool) (s : State) : Res := conclude s (cipherPassComplete lane reserved s)

/-! ### Blocks and miscompares (R366, R367) -/

/-- A pass that cannot go on releases nothing. [log 87 DEDUCED] -/
def abandonPass (l : Nat) (p : LanePass) (s : State) : State :=
  let s := logEvent 9 clsUnmasked 0x0023 (odKey 0x2420 4) (leBytes 1 l) (count (odKey 0x2420 4) s)
  match p.req with
  | some r => laneAnswer p.discard r.tag 0x0C [] s
  | none => endAtF29 p.frame s

/-- Passes that had not begun on a lane that leaves service go where its runs go, or, without a standby lane, become dynamic
requests of the lowest lane in service; keeper requests wait in their queue. [log 88 DESIGN CHOICE] -/
def moveWaiting (l : Nat) (dst : Option Nat) (s : State) : State :=
  let x := laneAt s l
  match dst with
  | some t =>
    let s := modLane t (fun y => { y with waitRes := y.waitRes ++ x.waitRes, waitDyn := y.waitDyn ++ x.waitDyn }) s
    startDynamic t (modLane l (fun y => { y with waitRes := [], waitDyn := [], takenBy := some t }) s)
  | none =>
    match lowestLane s with
    | some t =>
      let s := modLane t (fun y => { y with waitDyn := y.waitDyn ++ x.waitRes ++ x.waitDyn }) s
      startDynamic t (modLane l (fun y => { y with waitRes := [], waitDyn := [], takenBy := none }) s)
    | none => modLane l (fun y => { y with takenBy := none }) s

/-- A block miscompares: the lane leaves service for its tests, and the pass resumes from its last clean state on the
standby lane, where a dynamic pass is suspended. [log 88 DESIGN CHOICE] -/
def laneMiscompare (l : Nat) (p : LanePass) (s : State) : State :=
  let x := laneAt s l
  let dst := standbyOther s l
  let s := count (odKey 0x2480 7 + 256 * l) (count (odKey 0x2420 2) s)
  let s := modLane l (fun y => { y with st := .testing, reserved := none, dynamic := none, returning := false }) s
  let rest := if x.reserved.isSome then x.dynamic.toList else []
  match dst with
  | none => moveWaiting l none (modLane l (fun y => { y with waitDyn := rest ++ y.waitDyn }) (abandonPass l p s))
  | some t =>
    let s := logEvent 9 clsMasked 0x0007 (odKey 0x2420 3) (leBytes 1 l ++ leBytes 1 t) (count (odKey 0x2420 3) s)
    let s := moveWaiting l (some t) (modLane l (fun y => { y with waitDyn := rest.map (fun d => { d with suspended := false }) ++ y.waitDyn }) s)
    let q := { p with heldIn := some l, suspended := false }
    if (laneAt s t).reserved.isNone then beginPass t true q s
    else modLane t (fun y => { y with waitRes := q :: y.waitRes }) s

/-- A block ends: the running context's, reserved ahead of dynamic. [log 88 DESIGN CHOICE] -/
def cipherBlockComplete (l : Nat) (miscompare : Bool) (s : State) : State :=
  let x := laneAt s l
  match x.reserved, x.dynamic with
  | none, none => s
  | some p, _ =>
    if miscompare then laneMiscompare l p s
    else modLane l (fun x => { x with reserved := some { p with left := p.left - 1 }, maskBlocks := x.maskBlocks + 1 }) s
  | none, some p =>
    if miscompare then laneMiscompare l p s
    else modLane l (fun x => { x with dynamic := some { p with left := p.left - 1 }, maskBlocks := x.maskBlocks + 1 }) s

/-- CIPHER_BLOCK_COMPLETE. -/
def execCipherBlockComplete (lane : Fin 12) (miscompare : Bool) (s : State) : Res := conclude s (cipherBlockComplete lane miscompare s)

/-- A lane is back in service: its own runs are its own again, and requests that waited for a lane are issued. -/
def laneBack (l : Nat) (s : State) : State :=
  let s := modLane l (fun x => { x with st := .running, returning := false, takenBy := none, hold := [] }) s
  let q := s.lanes.queue
  startDynamic l (q.foldl (fun s (op, r, d) => issueLaneReq op r d s) { s with lanes := { s.lanes with queue := [] } })

/-- The background tests of a failed lane end (R367): a lane that passes returns at the next hyperperiod boundary. -/
def laneTestComplete (l : Nat) (pass : Bool) (s : State) : State :=
  if (laneAt s l).st ≠ .testing then s
  else if pass then modLane l (fun x => { x with returning := true, hold := [] }) s
  else modLane l (fun x => { x with st := .fault, returning := false }) s

/-- LANE_TEST_COMPLETE. -/
def execLaneTestComplete (lane : Fin 12) (pass : Bool) (s : State) : Res := conclude s (laneTestComplete lane pass s)

/-- Lanes whose tests passed return at a hyperperiod boundary. -/
def returnLanes (s : State) : State :=
  (List.range 12).foldl (fun s l => if (laneAt s l).returning then laneBack l s else s) s

/-- After 4,096 blocks the TRNG reseeds the mask generator; a failed health test is counted, and logged once (R366). [log 88 DESIGN CHOICE] -/
def maskReseed (l : Nat) (good : Bool) (s : State) : State :=
  if (laneAt s l).maskBlocks < 4096 then s
  else if good then modLane l (fun x => { x with maskBlocks := 0, reseedLogged := false }) s
  else
    let s' := count (odKey 0x2420 6) (modLane l (fun x => { x with maskBlocks := 0 }) s)
    if (laneAt s l).reseedLogged then s'
    else logEvent 9 clsUnmasked 0 (odKey 0x2420 6) (leBytes 1 l) (modLane l (fun x => { x with reseedLogged := true }) s')

/-- MASK_RESEED. -/
def execMaskReseed (lane : Fin 12) (trngGood : Bool) (s : State) : Res := conclude s (maskReseed lane trngGood s)

/-! ### Tamper (R370) -/

/-- A pass aborted by tamper. [log 88 DESIGN CHOICE] -/
def tamperPass (p : LanePass) (s : State) : State :=
  match p.req with
  | some r => laneAnswer p.discard r.tag 0x0B [] s
  | none =>
    match frameAt s p.frame with
    | none => s
    | some f =>
      let s := endAtF29 f.id s
      match p.kind with
      | .sealRx _ => releaseAtF29 f (f.next.getD 24) (sealVerdict s ((f.pdu.bind fun i => pduAt s i).getD 0) true f.bytes) f.pdu none s
      | .sealTx _ | .macTx _ _ _ => count (odKey 0x2420 5) s
      | .macRx => count (pk f.rxPort 7 2) s
      | .keeper => s

/-- Every pass aborts and every hold buffer is zeroed. -/
def tamperLanes (s : State) : State :=
  let begun := s.lanes.lane.toList.flatMap fun x => x.reserved.toList ++ x.dynamic.toList
  begun.foldl (fun s p => tamperPass p s)
    { s with lanes := { s.lanes with lane := s.lanes.lane.map fun x => { x with reserved := none, dynamic := none, hold := [] } } }

/-! ### Stopping a lane (R371, R458) -/

/-- A lane stopped of its own has no pass left. -/
def laneIdle (x : Lane) : Bool := x.reserved.isNone && x.dynamic.isNone

/-- The effect of a write to a lane's Enable: a lane the active Comb needs as its last standby does not stop. -/
def effLaneEnable (s : State) (l v : Nat) : Access :=
  let x := laneAt s l
  let keep := keepVal (odKey (0x2480 + l) 3) v
  if v = 0 ∧ x.st = .running ∧ s.comb.active.isSome ∧ (standbyOther s l).isNone then .error abState
  else .ok (
    if v = 0 then
      match x.st with
      | .running => moveWaiting l (standbyOther s l) (modLane l (fun x => { x with st := .stopping }) (keep s))
      | .pending => modLane l (fun x => { x with st := .stopping }) (keep s)
      | .fault => modLane l (fun x => { x with st := .stopped }) (keep s)
      | _ => keep s
    else
      match x.st with
      | .stopped | .fault => if bistOn s (0x20 + l) then modLane l (fun x => { x with st := .pending }) (keep s) else laneBack l (keep s)
      | .stopping => modLane l (fun x => { x with st := .pending }) (keep s)
      | _ => keep s)

/-- The write of a lane's Enable. -/
def laneEnableWrite (slot l v : Nat) (s : State) : State :=
  writeEntry slot (0x2480 + l) 3 (numFor (0x2480 + l) 3 v) true (fun _ n _ => effLaneEnable s l n) s

/-- LANE_ENABLE_WRITE. -/
def execLaneEnableWrite (slot : Fin 16) (lane : Fin 12) (v : Nat) (s : State) : Res := conclude s (laneEnableWrite slot lane v s)

/-- A stopping lane has completed its passes (R458). -/
def laneStopped (l : Nat) (s : State) : State :=
  let x := laneAt s l
  if !laneIdle x || bistOn s (0x20 + l) then s
  else match x.st with
  | .stopping => modLane l (fun x => { x with st := .stopped }) s
  | .pending => laneBack l s
  | _ => s

end Sys2Proof.Machine
end

