-- ==== Sys2Proof/Machine/Uwb.lean ====
section
/-! DEFINITION. UWB ranging and distance bounding (R271-R273, R285-R304): poll rounds, exchanges, ranging slots. -/

namespace Sys2Proof.Machine

/-- The UWB path changed by `f`. -/
def modUwb (f : UwbSt → UwbSt) (s : State) : State := { s with uwb := f s.uwb }
/-- The poll round in progress changed by `f`. -/
def modRound (f : UwbRound → UwbRound) (s : State) : State := modUwb (fun u => { u with round := u.round.map f }) s
/-- The exchange in progress changed by `f`. -/
def modExchange (f : Exchange → Exchange) (s : State) : State := modUwb (fun u => { u with exchange := u.exchange.map f }) s

/-! ### Keys (R271, R272, R290) -/

/-- First 64 bits of AES-CMAC (R272). -/
def mac64 (k m : Blob) : Blob := (aesCmac k m).take 8

/-- The enrolled key with an ID, and at a table index. -/
def keyById (s : State) (id : Nat) : Option KeyEntry := s.lf.keys.find? (·.id == id)
def keyAt (s : State) (i : Nat) : Option KeyEntry := s.lf.keys.find? (·.index == i)
def keyIdAt (s : State) (i : Nat) : Nat := ((keyAt s i).map (·.id)).getD 0

/-- Its AES key, empty while the store does not hold it. -/
def keyBytes (s : State) (i : Nat) : Blob := ((keyAt s i).bind (·.key)).getD []

/-- A fob or card that the zone admits. -/
def fobFor (e : KeyEntry) (z : Nat) : Bool := e.kind ≠ 1 && e.zones.testBit z

/-- ASLOT and TTURN of key `i` (0x4120/01). -/
def uwbParam (s : State) (i : Nat) : Nat := ofLe (subPad (blob s (odKey 0x4120 1)) (4 * i) 4)
def aslotOf (s : State) (i : Nat) : Nat := bitsOf (uwbParam s i) 3 0
def tturnOf (s : State) (i : Nat) : Nat := bitsOf (uwbParam s i) 23 8

/-- Keys of R272, R295. -/
def sessionMacKey (k nb nk : Blob) : Blob := aesCmac k ([0x03] ++ nb ++ nk)
def pbOf (k nb nk : Blob) : Blob := mac64 k ([0x02] ++ nk ++ nb)
def pkOf (k nb nk : Blob) (id : Nat) : Blob := mac64 k ([0x01] ++ nb ++ nk ++ beBytes 4 id)
/-- Bit i of the expected answer mask q of the Forager exchange. -/
def foragerMask (k nb nk : Blob) : Nat := ofBe ((aesCmac k ([0x05] ++ nb ++ nk)).take 4)

/-! ### The round (R288, R289, R299) -/

/-- A round begins with the run of a CHALLENGE pattern, while UWB runs (R288, R302). -/
def openRound (pattern zone : Nat) (tail : List Nat) (slotByte : Nat) (nb : Blob) (s : State) : State :=
  if s.uwb.st ≠ .running then s
  else setVote 2 .access true (count (odKey 0x4100 9) (modUwb (fun u => { u with
    round := some { pattern := pattern, zone := zone, tailAnts := tail, slotBase := bitsOf slotByte 3 0,
                    channel := if slotByte.testBit 4 then 9 else 5, nb := nb }, exchange := none }) s))

/-- An authentication of a key fails in a zone (R273, R304): logged when it arises, counted at the end of the round. -/
def failureEvent (z id : Nat) (s : State) : State :=
  logEvent 12 clsSecurity 0 (odKey (0x4310 + z) 3) (leBytes 4 id ++ leBytes 1 z) s

/-- A failure of the round. -/
def roundFailure (id : Nat) (s : State) : State :=
  match s.uwb.round with
  | none => s
  | some r => failureEvent r.zone id (modRound (fun r => { r with failures := r.failures ++ [id] }) s)

/-- The admitted key with the smallest distance, the lower table index on a tie. -/
def nearest : List Admitted → Option Admitted
  | [] => none
  | a :: rest => match nearest rest with
    | none => some a
    | some b => if a.dbMm < b.dbMm ∨ (a.dbMm = b.dbMm ∧ a.index ≤ b.index) then some a else some b

/-- A success opens or restarts a session with the zone's flags (R278). -/
def admitTo (z : Nat) (index : Nat) (ks : Blob) (s : State) : State :=
  openSession (keyIdAt s index) (zoneFlags s z).1 (zoneFlags s z).2 ks s

/-- The results of a round, successes first (R275, R299), and its end. -/
def applyRound (s : State) : State :=
  match s.uwb.round with
  | none => s
  | some r =>
    let s := modUwb (fun u => { u with round := none, exchange := none }) s
    let s := r.admitted.foldl (fun s _ => lockSuccess r.zone s) s
    let s := match s.lf.session with
      | some _ => r.admitted.foldl (fun s a => admitTo r.zone a.index a.ks s) s
      | none => match nearest r.admitted with | some a => admitTo r.zone a.index a.ks s | none => s
    let s := r.failures.foldl (fun s _ => lockFailure r.zone s) s
    if s.lf.session.isNone then setVote 2 .access false s else s

/-- A round that ends before its work is done: the exchange under way and those still due count as pre-empted (R289). -/
def preemptRound (s : State) : State :=
  match s.uwb.round with
  | none => s
  | some r =>
    let n := (match s.uwb.exchange with | some e => if e.step = .ended then 0 else 1 | none => 0) +
      (r.work.filter fun w => match w with | .exchange _ => true | .repoll _ _ => false).length
    applyRound (countN (odKey 0x4100 0x15) n s)

/-- The answer period opens 1 ms after the CHALLENGE's last bit (R288). -/
def answerPeriodOpen (s : State) : State :=
  match s.uwb.round with
  | none => s
  | some r =>
    let busy : Bool := match s.lf.user with | .pattern i _ _ _ => i == r.pattern | _ => false
    if r.answering ∨ r.answersDone ∨ busy ∨ s.uwb.st ≠ .running then s
    else modRound (fun r => { r with answering := true }) s

/-- ANSWER_PERIOD_OPEN. -/
def execAnswerPeriodOpen (s : State) : Res := conclude s (answerPeriodOpen s)

/-! ### Answers (R291, R292) -/

/-- Fields of an ANSWER: key ID, nK, pK, tail values; none where the length does not match. -/
def parseAnswer (b : Blob) : Option (Nat × Blob × Blob × List Nat) :=
  let n := ofBe (sub b 21 1)
  if b.take 1 = [0x11] ∧ b.length = 22 + n then
    some (ofBe (sub b 1 4), sub b 5 8, sub b 13 8, (b.drop 22).map (·.toNat))
  else none

/-- An ANSWER is validated against a zone and nB: the key's table index, or it is refused. [log 73 DEDUCED] -/
def validAnswer (s : State) (z : Nat) (nb : Blob) (id : Nat) (nk pk : Blob) : Option Nat :=
  match keyById s id with
  | none => none
  | some e =>
    match e.key with
    | none => none
    | some k => if fobFor e z ∧ pkOf k nb nk id = pk then some e.index else none

/-- Answers in a LOCKED zone are counted and ignored (R275). [log 73 DEDUCED] -/
def ignoredAnswer (z : Nat) (s : State) : State := count (odKey (0x4310 + z) 6) s

/-- Work in ascending slot order ahead of the re-polls. -/
def addAnswer (a : UwbAnswer) : List UwbWork → List UwbWork
  | .exchange b :: rest => if b.slot ≤ a.slot then .exchange b :: addAnswer a rest else .exchange a :: .exchange b :: rest
  | rest => .exchange a :: rest

/-- An ANSWER in a slot of the answer period. -/
def answerInSlot (r : UwbRound) (slot id : Nat) (nk pk : Blob) (tails : List Nat) (s : State) : State :=
  if zoneLocked s r.zone then ignoredAnswer r.zone s
  else match validAnswer s r.zone r.nb id nk pk with
  | some i =>
    if (r.slotBase + aslotOf s i) % 16 = slot then
      modRound (fun r => { r with work := addAnswer ⟨slot, i, nk, tails⟩ r.work }) s
    else roundFailure id s
  | none => roundFailure id s

/-- The ANSWER of a re-polled key: its exchange follows at once. -/
def answerToRepoll (r : UwbRound) (index slot id : Nat) (nk pk : Blob) (tails : List Nat) (s : State) : State :=
  if id ≠ keyIdAt s index then s
  else
    let s := modRound (fun r => { r with waitingFor := none }) s
    if zoneLocked s r.zone then ignoredAnswer r.zone s
    else match validAnswer s r.zone r.nb id nk pk with
    | some i => modRound (fun r => { r with work := .exchange ⟨slot, i, nk, tails⟩ :: r.work }) s
    | none => roundFailure id s

/-- The ANSWER to the UCHAL of a ranging slot (R300): a failure counts in the slot's zone at once. [log 73 DEDUCED] -/
def answerToUchal (index z : Nat) (nb : Blob) (id : Nat) (nk pk : Blob) (s : State) : State :=
  if id ≠ keyIdAt s index then s
  else if zoneLocked s z then modUwb (fun u => { u with rslot := none }) (ignoredAnswer z s)
  else match validAnswer s z nb id nk pk with
  | some i => modUwb (fun u => { u with
      rslot := some (index, z, nb, true), exchange := some { index := i, nk := nk, tails := [], zone := z, step := .ready } }) s
  | none => modUwb (fun u => { u with rslot := none }) (lockFailure z (failureEvent z id s))

/-- An instant lies in the window of the answer to a REPOLL or a UCHAL: 240-260 us after it (R293, R300). -/
def inRepollWindow (atPs : Nat) : Bool := decide (240000000 ≤ atPs ∧ atPs ≤ 260000000)

/-- An ANSWER frame is received: in an answer slot it must begin in the slot's first 100 us (R288), behind a REPOLL or a
UCHAL inside its window; any other counts as no answer. The instant counts from the slot's, or that frame's, beginning. -/
def uwbAnswer (slot atPs : Nat) (b : Blob) (s : State) : State :=
  match parseAnswer b with
  | none => s
  | some (id, nk, pk, tails) =>
    match s.uwb.rslot with
    | some (index, z, nb, false) => if inRepollWindow atPs then answerToUchal index z nb id nk pk s else s
    | _ => match s.uwb.round with
      | none => s
      | some r => match r.waitingFor with
        | some (index, sl) => if inRepollWindow atPs then answerToRepoll r index sl id nk pk tails s else s
        | none => if r.answering ∧ atPs ≤ 100000000 then answerInSlot r slot id nk pk tails s else s

/-- UWB_ANSWER_RECEIVED. -/
def execUwbAnswerReceived (answerSlot : Fin 16) (atPs : Nat) (frame : Blob) (s : State) : Res :=
  conclude s (uwbAnswer answerSlot atPs frame s)

/-- Keys a collided slot maps to and the zone admits, in key-table order. -/
def slotKeys (s : State) (r : UwbRound) (slot : Nat) : List Nat :=
  (List.range 32).filter fun i => match keyAt s i with
    | some e => fobFor e r.zone && (r.slotBase + aslotOf s i) % 16 == slot
    | none => false

/-- A port saw a collision in the slot (R291): two first-path peaks more than 3 ns apart with the weaker above 25 %, or a
preamble at 6 dB or more whose PHR or FCS failed. -/
def slotCollided (r : SlotReport) : Bool :=
  (match r.second with | some (ps, pc) => decide (3000 < ps ∧ 25 < pc) | none => false) ||
  (match r.preamble with | some snr => decide (60 ≤ snr) && r.failed | none => false)

/-- An answer slot ends; after slot 15 the exchange phase follows with a re-poll of every collided slot's keys (R291). -/
def answerSlotEnd (slot : Nat) (ports : List SlotReport) (s : State) : State :=
  match s.uwb.round with
  | none => s
  | some r =>
    if !r.answering then s
    else
      let s := if ports.any slotCollided then count (odKey 0x4100 0xB) (modRound (fun r => { r with collided := r.collided ++ [slot] }) s) else s
      if slot ≠ 15 then s
      else modRound (fun r => { r with
        answering := false, answersDone := true,
        work := r.work ++ ((List.range 16).filter r.collided.contains).flatMap fun c => (slotKeys s r c).map fun i => .repoll i c }) s

/-- ANSWER_SLOT_END. -/
def execAnswerSlotEnd (answerSlot : Fin 16) (ports : List SlotReport) (s : State) : Res :=
  conclude s (answerSlotEnd answerSlot ports s)

/-! ### Exchange phase (R291, R293) -/

/-- The exchange phase can begin its next piece of work. -/
def phaseFree (s : State) (r : UwbRound) : Bool :=
  r.answersDone && r.waitingFor.isNone && s.uwb.exchange.isNone && s.uwb.rslot.isNone && s.uwb.st == .running

/-- The next piece of work is a re-poll: sent, or beyond the limit of 8 not done. -/
def repoll (s : State) : State :=
  match s.uwb.round with
  | none => s
  | some r =>
    if !phaseFree s r then s
    else match r.work with
    | .repoll i slot :: rest =>
      if 8 ≤ r.repolls then count (odKey 0x4100 0x13) (modRound (fun r => { r with work := rest }) s)
      else emit (.uwb r.channel ([0x12] ++ beBytes 4 (keyIdAt s i))) (count (odKey 0x4100 0xC)
        (modRound (fun r => { r with work := rest, repolls := r.repolls + 1, waitingFor := some (i, slot) }) s))
    | _ => s

/-- REPOLL. -/
def execRepoll (s : State) : Res := conclude s (repoll s)

/-- The key of the STS of an exchange (R295). -/
def stsKey (k nb nk : Blob) : Blob := aesCmac k ([0x04] ++ nb ++ nk)

/-- A timestamp is taken (R286). -/
def stamped (t : BitVec 40) (s : State) : State := modUwb (fun u => { u with counter := t }) s

/-- RPOLL of exchange `e` is sent at `sent` with STS counter value 0: RRESP carries the next. -/
def sendRpoll (channel : Nat) (nb : Blob) (e : Exchange) (sent : BitVec 40) (s : State) : State :=
  emit (.uwb channel []) (stamped sent (modUwb (fun u => { u with exchange := some { e with
    step := .rpoll, sts := stsKey (keyBytes s e.index) nb e.nk, stsCounter := 1, sent := sent } }) s))

/-- The RPOLL of the next exchange is sent: a ranging slot's, or the round's next. -/
def exchangeStart (sent : BitVec 40) (s : State) : State :=
  match s.uwb.exchange with
  | some e =>
    if e.step = .ready then
      let nb := match s.uwb.rslot with | some (_, _, nb, _) => nb | none => []
      sendRpoll (val s (odKey 0x4100 3)) nb e sent s
    else s
  | none => match s.uwb.round with
    | none => s
    | some r =>
      if !phaseFree s r then s
      else match r.work with
      | .exchange a :: rest =>
        if 8 ≤ r.exchanges then count (odKey 0x4100 0x13) (modRound (fun r => { r with work := rest }) s)
        else
          sendRpoll r.channel r.nb { index := a.index, nk := a.nk, tails := a.tails, zone := r.zone } sent
            (modRound (fun r => { r with work := rest, exchanges := r.exchanges + 1 }) s)
      | _ => s

/-- EXCHANGE_START. -/
def execExchangeStart (sent : BitVec 40) (s : State) : Res := conclude s (exchangeStart sent s)

/-- The nonce nB an exchange runs under, and its channel. -/
def exchangeNb (s : State) : Blob :=
  match s.uwb.rslot with
  | some (_, _, nb, _) => nb
  | none => match s.uwb.round with | some r => r.nb | none => []
def exchangeChannel (s : State) : Nat :=
  if s.uwb.rslot.isSome then val s (odKey 0x4100 3) else match s.uwb.round with | some r => r.channel | none => 5

/-- What an exchange showed of a key (0x4120/02): tof and rtt_f in units of 15.65 ps, d_b in mm, angle, outcome. [log 74 DESIGN CHOICE] -/
def storeResult (e : Exchange) (db outcome : Nat) (s : State) : State :=
  let tof := e.tofNum / max e.tofDen 1
  let cell := leBytes 4 (unsignedOf 32 tof) ++ leBytes 4 (unsignedOf 32 (e.rtt32 / 32)) ++ leBytes 4 db ++
    leBytes 1 (unsignedOf 8 e.angle) ++ leBytes 1 outcome ++ zeros 2
  setBlob (odKey 0x4120 2) (patch (subPad (blob s (odKey 0x4120 2)) 0 512) (16 * e.index) cell) s

/-- An exchange's authentication fails (R294): in the round, or for a ranging slot in its zone at once. [log 73 DEDUCED] -/
def exchangeFails (e : Exchange) (db outcome : Nat) (s : State) : State :=
  let s := modExchange (fun e => { e with step := .ended }) (storeResult e db outcome s)
  if s.uwb.rslot.isSome then lockFailure e.zone (failureEvent e.zone (keyIdAt s e.index) s) else roundFailure (keyIdAt s e.index) s

/-- An abort (R294): counted; in a round the key is re-polled once more. [log 73 DEDUCED] -/
def abortExchange (e : Exchange) (s : State) : State :=
  let s := count (odKey 0x4100 0x12) (storeResult e 0 1 (modExchange (fun e => { e with step := .ended }) s))
  if s.uwb.rslot.isSome then s
  else modRound (fun r => { r with
    work := if r.aborted.contains e.index then r.work else .repoll e.index 0 :: r.work, aborted := r.aborted ++ [e.index] }) s

/-- Units of the timestamp counter from one timestamp to a later one, over its wrap (R286). -/
def unitsSince (t t0 : BitVec 40) : Nat := (t - t0).toNat

/-- The sines of 0.5, 1.5, ... 89.5 degrees in units of 10^-9: the bounds between whole degrees (R287). [log 123 DESIGN CHOICE] -/
def degreeBounds : List Nat :=
  [8726535, 26176948, 43619387, 61048540, 78459096, 95845753, 113203214, 130526192, 147809411, 165047606] ++
  [182235525, 199367934, 216439614, 233445364, 250380004, 267238376, 284015345, 300705800, 317304656, 333806859] ++
  [350207381, 366501227, 382683432, 398749069, 414693243, 430511097, 446197813, 461748613, 477158760, 492423560] ++
  [507538363, 522498565, 537299608, 551936985, 566406237, 580702956, 594822787, 608761429, 622514637, 636078220] ++
  [649448048, 662620048, 675590208, 688354576, 700909264, 713250449, 725374371, 737277337, 748955721, 760405966] ++
  [771624583, 782608157, 793353340, 803856861, 814115518, 824126189, 833885822, 843391446, 852640164, 861629160] ++
  [870355696, 878817113, 887010833, 894934362, 902585284, 909961271, 917060074, 923879533, 930417568, 936672189] ++
  [942641491, 948323655, 953716951, 958819735, 963630453, 968147640, 972369920, 976296007, 979924705, 983254908] ++
  [986285602, 989015863, 991444861, 993571856, 995396198, 996917334, 998134798, 999048222, 999657325, 999961923]

/-- The angle of arrival in whole degrees (R287): asin(lambda dphi / (2 pi s)), with the phase difference in 65,536ths of a
turn, to the nearest degree; where the argument lies outside asin's domain, any value. [log 123 DESIGN CHOICE] -/
def arrivalAngle (s : State) (channel : Nat) (phase : Int) : Int :=
  let lambda := if channel = 9 then 375 else 462
  let num := lambda * phase.natAbs
  let den := 65536 * val s (odKey 0x4100 8)
  if den < num then Config.angleBeyond channel (val s (odKey 0x4100 8)) phase
  else
    let deg := (degreeBounds.filter fun b => b * den ≤ num * 1000000000).length
    if phase < 0 then -deg else deg

/-- An SP3 frame is accepted (R295): its STS correlates with the exchange's, within 1 ns of the preamble's first path. [log 123 DESIGN CHOICE] -/
def stsAccepted (e : Exchange) (t : Sts) : Bool :=
  t.key == e.sts && t.counter == e.stsCounter && decide (t.offsetPs.natAbs ≤ 1000)

/-- RRESP: inside its window of 240-260 us, its STS verified (R293, R295). RFINAL follows 500 us after RPOLL, then the
challenges. A frame before the window is not accepted. -/
def rresp (received : BitVec 40) (sts : Sts) (phase : Int) (s : State) : State :=
  match s.uwb.exchange with
  | none => s
  | some e =>
    let t := unitsSince received e.sent
    if e.step ≠ .rpoll ∨ t < 15335424 then s
    else if !stsAccepted e sts ∨ 16613376 < t then abortExchange e s
    else
      let ch := exchangeChannel s
      let angle := arrivalAngle s ch phase
      let (c, s) := draw 4 (stamped received s)
      let c := BitVec.ofNat 32 (ofLe c)
      emit (.pulses c) (emit (.uwb ch []) (modExchange (fun e => { e with
        step := .forager, angle := angle, challenge := c, stsCounter := e.stsCounter + 2,
        tround1 := t, treply2 := 31948800 - t }) s))

/-- UWB_RRESP_RECEIVED. -/
def execUwbRrespReceived (received : BitVec 40) (sts : Sts) (phase : Int) (s : State) : Res :=
  conclude s (rresp received sts phase s)

/-- A Forager answer: its round trip, from the timestamps of the challenge and of the answer, and its polarity. -/
def foragerAnswer (i : Nat) (sent received : BitVec 40) (pol : Bool) (s : State) : State :=
  match s.uwb.exchange with
  | some e =>
    if e.step = .forager ∧ ¬ e.answers.any (·.1 == i) then
      stamped received (modExchange (fun e => { e with answers := e.answers ++ [(i, (unitsSince received sent : Int), pol)] }) s)
    else s
  | none => s

/-- FORAGER_ANSWER. -/
def execForagerAnswer (index : Fin 32) (sent received : BitVec 40) (polarity : Bool) (s : State) : Res :=
  conclude s (foragerAnswer index sent received polarity s)

/-! ### The range decision (R295-R298), exact: 1 ns is 63.8976 units of 15.65 ps -/

/-- Speed of light, m/s; units per second. -/
def lightSpeed : Int := 299792458
def unitsPerSecond : Int := 63897600000

/-- Round trips with the antenna delay taken off (R286), by challenge. -/
def foragerTrips (s : State) (e : Exchange) : List (Nat × Int × Bool) :=
  e.answers.map fun a => (a.1, a.2.1 - val s (odKey 0x4100 6), a.2.2)

/-- The Forager exchange passes (R295). -/
def foragerPasses (s : State) (e : Exchange) : Bool :=
  let l := foragerTrips s e
  let k := keyBytes s e.index
  let q := foragerMask k (exchangeNb s) e.nk
  let turn : Int := tturnOf s e.index
  let limit : Int := val s (odKey (0x4110 + e.zone) 1)
  let a0 : Int := ((l.find? (·.1 == 0)).map (·.2.1)).getD 0
  tturnOf s e.index ≠ 0 && l.length == 32 &&
  (turn * 10000 - 638976 ≤ a0 * 10000) &&
  (((a0 - turn) * 10000 - 638976) * (lightSpeed * 100) ≤ 2 * limit * unitsPerSecond * 10000) &&
  l.all fun a => ((a.2.1 - a0).natAbs * 10000 ≤ 638976) && (a.2.2 == (e.challenge.getLsbD a.1 != q.testBit a.1))

/-- Sum of the 32 round trips less 32 turnarounds: rtt_f times 32. [log 75 DEDUCED] -/
def rtt32Of (s : State) (e : Exchange) : Int :=
  ((foragerTrips s e).map (·.2.1)).foldl (· + ·) 0 - 32 * (tturnOf s e.index : Int)

/-- `|rtt_f - 2 tof| <= 1.5 ns` (R297). [log 75 DEDUCED] -/
def relayPasses (e : Exchange) : Bool := ((e.rtt32 * e.tofDen - 64 * e.tofNum).natAbs * 10000 : Nat) ≤ 32 * 958464 * e.tofDen.natAbs

/-- max(tof, rtt_f / 2) as numerator over 64 tofDen. [log 75 DEDUCED] -/
def flightNum (e : Exchange) : Int := max (64 * e.tofNum) (e.rtt32 * e.tofDen)
/-- d_b in mm (R298). [log 75 DEDUCED] -/
def distanceMm (e : Exchange) : Nat := (lightSpeed * 1000 * flightNum e / (unitsPerSecond * 64 * e.tofDen)).toNat
/-- d_b within the zone's limit in cm. [log 75 DEDUCED] -/
def withinLimit (s : State) (e : Exchange) : Bool :=
  lightSpeed * 100 * flightNum e ≤ (val s (odKey (0x4110 + e.zone) 1) : Int) * unitsPerSecond * 64 * e.tofDen

/-- The angle sector of the zone admits the RRESP (R298). [log 75 DEDUCED] -/
def inSector (s : State) (e : Exchange) : Bool :=
  let k := odKey (0x4110 + e.zone)
  val s (k 2) == 0 || (signedOf 8 (val s (k 3)) ≤ e.angle && e.angle ≤ signedOf 8 (val s (k 4)))

/-- The tail value of the zone's reference antenna, where the check of R297 is made. -/
def fieldValue (s : State) (e : Exchange) : Option Nat :=
  let k := odKey (0x4110 + e.zone)
  let ants := if s.uwb.rslot.isSome then [] else match s.uwb.round with | some r => r.tailAnts | none => []
  if val s (k 6) = 0 then none
  else (ants.findIdx? (· == val s (k 5))).bind fun i => e.tails[i]?

/-- A refusal of the decision, counted and logged. -/
def decisionRefuses (e : Exchange) (key outcome : Nat) (s : State) : State := exchangeFails e (distanceMm e) outcome (count key s)

/-- The decision of R297 and R298 on an exchange whose Forager part passed. -/
def rangeDecision (e : Exchange) (s : State) : State :=
  let k := keyBytes s e.index
  if !relayPasses e then decisionRefuses e (odKey 0x4100 0xE) 4 s
  else
    let z := odKey (0x4110 + e.zone)
    let field := fieldValue s e
    let s := if field.isNone then count (odKey 0x4100 0x10) s else s
    let plausible : Bool := match field with | some v => decide (val s (z 6) ≤ v ∧ v ≤ val s (z 7)) | none => true
    if !plausible then decisionRefuses e (odKey 0x4100 0xF) 4 s
    else if !withinLimit s e ∨ !inSector s e then
      count (odKey 0x4100 0x11) (storeResult e (distanceMm e) 5 (modExchange (fun e => { e with step := .ended }) s))
    else emit (.uwb (exchangeChannel s) ([0x14] ++ pbOf k (exchangeNb s) e.nk)) (modExchange (fun e => { e with step := .ack }) s)

/-- RREPORT (R292, R296): its window of 990-1,010 us, its MAC, the Forager check, then the decision. A frame before the
window is not accepted, one behind it is late (R294). -/
def rreport (b : Blob) (received : BitVec 40) (s : State) : State :=
  match s.uwb.exchange with
  | none => s
  | some e =>
    if e.step ≠ .forager ∨ b.length ≠ 17 ∨ b.take 1 ≠ [0x13] ∨ unitsSince received e.sent < 63258624 then s
    else if 64536576 < unitsSince received e.sent then abortExchange e s
    else
      let s := stamped received s
      let nb := exchangeNb s
      let ks := sessionMacKey (keyBytes s e.index) nb e.nk
      if sub b 9 8 ≠ mac64 ks ([0x06] ++ nb ++ sub b 1 8) then exchangeFails e 0 2 s
      else if !foragerPasses s e then exchangeFails e 0 3 (count (odKey 0x4100 0xD) s)
      else
        let tr1 : Int := e.tround1 - val s (odKey 0x4100 6)
        let trep1 : Int := ofBe (sub b 1 4)
        let tr2 : Int := ofBe (sub b 5 4)
        let rep2 : Int := e.treply2
        let e := { e with tofNum := tr1 * tr2 - trep1 * rep2, tofDen := max (tr1 + tr2 + trep1 + rep2) 1, rtt32 := rtt32Of s e }
        rangeDecision e (modExchange (fun _ => e) s)

/-- UWB_RREPORT_RECEIVED. -/
def execUwbRreportReceived (frame : Blob) (received : BitVec 40) (s : State) : Res := conclude s (rreport frame received s)

/-- ACK: step 4 of R272, inside its window of 1,490-1,510 us. An admission restarts the session at once in a ranging slot (R300), and waits for the end of the
round otherwise. -/
def ack (b : Blob) (received : BitVec 40) (s : State) : State :=
  match s.uwb.exchange with
  | none => s
  | some e =>
    if e.step ≠ .ack ∨ b.length ≠ 10 ∨ b.take 1 ≠ [0x15] ∨ unitsSince received e.sent < 95207424 then s
    else if 96485376 < unitsSince received e.sent then exchangeFails e (distanceMm e) 6 s
    else
      let s := stamped received s
      let nb := exchangeNb s
      let ks := sessionMacKey (keyBytes s e.index) nb e.nk
      if sub b 1 1 ≠ [0xA5] ∨ sub b 2 8 ≠ mac64 ks ([0x07] ++ nb) then exchangeFails e (distanceMm e) 6 s
      else
        let s := count (odKey 0x4100 0xA) (storeResult e (distanceMm e) 7 (modExchange (fun e => { e with step := .ended }) s))
        if s.uwb.rslot.isSome then admitTo e.zone e.index ks (lockSuccess e.zone s)
        else modRound (fun r => { r with admitted := r.admitted ++ [⟨e.index, distanceMm e, ks⟩] }) s

/-- UWB_ACK_RECEIVED. -/
def execUwbAckReceived (frame : Blob) (received : BitVec 40) (s : State) : Res := conclude s (ack frame received s)

/-- An expected frame did not come inside its window (R294). [log 73 DEDUCED] -/
def frameTimeout (s : State) : State :=
  match s.uwb.exchange with
  | some e =>
    match e.step with
    | .rpoll | .forager => abortExchange e s
    | .ack => exchangeFails e (distanceMm e) 6 s
    | .ready | .ended => s
  | none => match s.uwb.rslot with
    | some _ => modUwb (fun u => { u with rslot := none }) s
    | none => modRound (fun r => { r with waitingFor := none }) s

/-- UWB_FRAME_TIMEOUT. -/
def execUwbFrameTimeout (s : State) : Res := conclude s (frameTimeout s)

/-- The 2 ms of an exchange are over: what has not ended by now is missing; a ranging slot ends with it. -/
def exchangeSlotEnd (s : State) : State :=
  match s.uwb.exchange with
  | none => s
  | some e =>
    let s := if e.step = .ended ∨ e.step = .ready then s else frameTimeout s
    modUwb (fun u => { u with exchange := none, rslot := none }) s

/-- EXCHANGE_SLOT_END. -/
def execExchangeSlotEnd (s : State) : Res := conclude s (exchangeSlotEnd s)

/-- The round ends when its work is done (R288). -/
def roundEnd (s : State) : State :=
  match s.uwb.round with
  | none => s
  | some r => if phaseFree s r ∧ r.work = [] then applyRound s else s

/-- ROUND_END. -/
def execRoundEnd (s : State) : Res := conclude s (roundEnd s)

/-! ### Ranging slots (R300, R301) -/

/-- An exchange of the round gives way: no failure, counted, its key re-polled first when the slot ends. [log 73 DEDUCED] -/
def yieldToSlot (s : State) : State :=
  match s.uwb.exchange with
  | none => s
  | some e =>
    if e.step = .ended then modUwb (fun u => { u with exchange := none }) s
    else count (odKey 0x4100 0x15) (modRound (fun r => { r with work := .repoll e.index 0 :: r.work })
      (modUwb (fun u => { u with exchange := none }) s))

/-- A ranging slot of the Comb that is due in this tick. [log 73 DEDUCED] -/
def rangingSlot (index z : Nat) (s : State) : State :=
  if !(s.comb.now.any fun a => actType a == 5 && actPattern a == index && actZone a == z) ∨ ¬ s.pwr.access ∨ s.uwb.st ≠ .running then s
  else
    let open' : Bool := match s.lf.session, keyAt s index with | some x, some e => x.key == e.id | _, _ => false
    if !open' ∨ !s.lf.seeded then count (odKey 0x4100 0x14) s
    else
      let s := yieldToSlot s
      let (nb, s) := draw 8 s
      emit (.uwb (val s (odKey 0x4100 3)) ([0x16] ++ beBytes 4 (keyIdAt s index) ++ nb))
        (modUwb (fun u => { u with rslot := some (index, z, nb, false) }) s)

/-- UWB_RANGING_SLOT. -/
def execUwbRangingSlot (key : Fin 32) (zone : Fin 8) (s : State) : Res := conclude s (rangingSlot key zone s)

/-! ### Stopping and faults (R302) -/

/-- UWB's State changes. -/
def setUwbState (st : FnState) (s : State) : State :=
  if s.uwb.st = st then s else logEvent 12 clsState st.portCode (odKey 0x4100 2) [] (modUwb (fun u => { u with st := st }) s)

/-- A radio fault: FAULT, and the round is abandoned (R302, R26). -/
def uwbFault (s : State) : State :=
  if s.uwb.st = .stopped ∨ ¬ s.pwr.access then s
  else
    let s := modUwb (fun u => { u with round := none, exchange := none, rslot := none }) s
    setUwbState .fault (if s.lf.session.isNone then setVote 2 .access false s else s)

/-- UWB_FAULT. -/
def execUwbFault (s : State) : Res := conclude s (uwbFault s)

/-- Stopping ends the current exchange as an abort, then the round. -/
def uwbStops (s : State) : State :=
  let s := match s.uwb.exchange with
    | some e => if e.step = .ended then s else count (odKey 0x4100 0x12) s
    | none => s
  applyRound (modUwb (fun u => { u with exchange := none, rslot := none }) s)

/-- The effect of a write to 0x4100/01 (R458). -/
def effUwbEnable (s : State) (v : Nat) : Access :=
  let s := keepVal (odKey 0x4100 1) v s
  .ok (
    if v = 0 then
      match s.uwb.st with
      | .running => setUwbState .stopping (uwbStops s)
      | .pending => setUwbState .stopping s
      | .fault => setUwbState .stopped s
      | _ => s
    else
      match s.uwb.st with
      | .stopped | .fault => setUwbState .running s
      | .stopping => setUwbState .pending s
      | _ => s)

/-- The write of UWB's Enable. -/
def uwbEnableWrite (slot v : Nat) (s : State) : State :=
  writeEntry slot 0x4100 1 (numFor 0x4100 1 v) true (fun _ n _ => effUwbEnable s n) s

/-- UWB_ENABLE_WRITE. -/
def execUwbEnableWrite (slot : Fin 16) (v : Nat) (s : State) : Res := conclude s (uwbEnableWrite slot v s)

/-- The shut-down has ended. -/
def uwbStopped (s : State) : State :=
  match s.uwb.st with
  | .stopping => setUwbState .stopped s
  | .pending => setUwbState .running s
  | _ => s

end Sys2Proof.Machine
end

