-- ==== Sys2Proof/Machine/Lf.lean ====
section
/-! DEFINITION. The LF engine, Waggle patterns, the transponder path and start-lock sessions (R259-R284). -/

namespace Sys2Proof.Machine

/-- The LF state changed by `f`. -/
def modLf (f : LfSt → LfSt) (s : State) : State := { s with lf := f s.lf }
/-- The transponder path changed by `f`. -/
def modTp (f : TpSt → TpSt) (s : State) : State := modLf (fun l => { l with tp := f l.tp }) s

/-! ### Pattern entries (R264) -/

/-- Pattern `i` of 0x4002/01, and its fields. [log 12 DEDUCED] -/
def patternAt (s : State) (i : Nat) : Nat := ofLe (subPad (blob s (odKey 0x4002 1)) (16 * i) 16)
def patEn (e : Nat) : Bool := e.testBit 127
def patZone (e : Nat) : Nat := bitsOf e 126 124
def patAnt (e : Nat) : Nat := bitsOf e 123 116
def patIcur (e : Nat) : Nat := bitsOf e 115 108
def patFcode (e : Nat) : Nat := bitsOf e 107 99
def patCmd (e : Nat) : Nat := bitsOf e 98 95
def patTail (e : Nat) : Bool := e.testBit 94
def patTrig (e i : Nat) : Bool := (bitsOf e 93 87).testBit i
def patPeriod (e : Nat) : Nat := bitsOf e 86 71
def patSlot (e : Nat) : Nat := bitsOf e 70 63

/-- Channels of a mask, in channel order. -/
def channelsOf (m : Nat) : List Nat := (List.range 8).filter m.testBit

/-! ### Frames on air (R262, R276) -/

/-- The CRC-8 of LF frames and of the transponder: polynomial 0x1D. -/
def lfCrc (l : List Bool) : Nat := crc8 0x1D l

/-- A downlink frame behind its preamble: sync, wake ID, CMD, LEN, data, CRC. -/
def lfFrame (s : State) (cmd : Nat) (data : Blob) : List Bool :=
  let body := bitsMsb 24 (val s (odKey 0x4001 1)) ++ bitsMsb 4 cmd ++ bitsMsb 4 data.length ++ blobBits data
  bitsMsb 8 0xA6 ++ body ++ bitsMsb 8 (lfCrc body)

/-! ### Channels (R259, R261, R458) -/

/-- State of channel `c`. -/
def chanAt (s : State) (c : Nat) : FnState := (s.lf.chan[c]?).getD .stopped

/-- A channel's State changes. -/
def setChan (c : Nat) (st : FnState) (s : State) : State :=
  if chanAt s c = st then s
  else logEvent 12 clsState st.portCode (odKey (0x4010 + c) 2) [] (modLf (fun l => { l with chan := vmod l.chan c fun _ => st }) s)

/-- The check of a drive at carrier cycle 16 (R261): the peak reached, an open, a current not reached. [log 68 DEDUCED] -/
def driveCheck (icur c peak : Nat) (s : State) : State :=
  let k := odKey (0x4010 + c)
  let s := setVal (k 4) peak s
  if peak * 4000000 < icur * 7812500 then count (k 5) s
  else if peak * 10000000 ≤ icur * 7812500 * 9 then count (k 7) s
  else s

/-! ### Triggers (R265, R267, R289) -/

/-- The transponder path is enabled on a channel that can drive. -/
def transponderOn (s : State) : Bool := val s (odKey 0x4321 4) % 4 ≠ 0

/-- A pending start of a requester; one already pending or running is merged (R267). -/
def trigger (r : Nat) (s : State) : State :=
  let running : Bool := match s.lf.user with | .pattern i _ _ _ => i == r | .transponder => r == 32 | .none => false
  if s.lf.pending.contains r || running then count (odKey 0x4000 7) s
  else modLf (fun l => { l with pending := l.pending ++ [r] }) s

/-- Enabled patterns with a trigger bit. -/
def patternsWith (s : State) (bit : Nat) : List Nat :=
  (List.range 32).filter fun i => patEn (patternAt s i) && patTrig (patternAt s i) bit

/-- The last pattern of a start request has ended: a transponder transaction follows, where the path is enabled and no
START session is open (R280). -/
def afterStartSet (s : State) : State :=
  let started : Bool := match s.lf.session with | some x => x.start | none => false
  if transponderOn s ∧ ¬ started then trigger 32 s else s

/-- A pattern has ended or was skipped. -/
def patternDone (i : Nat) (s : State) : State :=
  if s.lf.startSet.contains i then
    let s := modLf (fun l => { l with startSet := l.startSet.filter (· ≠ i) }) s
    if s.lf.startSet = [] then afterStartSet s else s
  else s

/-! ### A pattern runs (R261, R262, R263, R266, R288) -/

/-- A run of pattern `i` for a zone: VLF, the channels it can drive, the crystal (R449), the drive check, the frame; a
CHALLENGE opens a round. [log 68 DEDUCED] -/
def runPattern (i zone : Nat) (comb : Bool) (vlf : Nat) (peaks : List Nat) (s : State) : State :=
  let e := patternAt s i
  let s := setVal (odKey 0x4000 1) vlf s
  let driven := if patIcur e = 0 then [] else (channelsOf (patAnt e)).filter fun c => chanAt s c == .running
  if vlf < 6000 ∨ driven = [] ∨ ¬ s.pwr.crystal then patternDone i (count (odKey 0x4000 5) s)
  else
    let s := driven.foldl (fun s c => driveCheck (patIcur e) c (peaks.getD c 0) s) (count (odKey 0x4000 3) s)
    -- an open channel drives no further
    let driven := driven.filter fun c => patIcur e * 7812500 ≤ peaks.getD c 0 * 4000000
    let mask := (driven.map (2 ^ ·)).sum
    let s := modLf (fun l => { l with user := .pattern i zone comb mask }) s
    let tail := if patTail e then driven else []
    let s := if tail = [] then s else emit (.lfTail tail) s
    if patCmd e = 2 then
      let (nb, s) := draw 8 s
      openRound i zone tail (patSlot e) nb (emit (.lf mask (patFcode e) (lfFrame s 2 (nb ++ leBytes 1 (patSlot e)))) s)
    else emit (.lf mask (patFcode e) (lfFrame s (patCmd e) [])) s

/-- A transponder transaction begins with its field (R276). -/
def chargeField (s : State) : State :=
  let mask := (((channelsOf (val s (odKey 0x4321 4) % 4 * 64)).filter fun c => chanAt s c == .running).map (2 ^ ·)).sum
  if mask = 0 then s
  else emit (.lfField true) (modTp (fun _ => { step := .charging, channels := mask }) (modLf (fun l => { l with user := .transponder }) s))

/-- A pending start can be served: ACCESS is on, a CHALLENGE waits for the round to end and for the reseed, and a locked
transponder record runs no transaction. -/
def startable (s : State) (r : Nat) : Bool :=
  s.lf.pending.contains r &&
  (if r = 32 then !zoneLocked s 8
   else if r = 33 then true
   else !(patCmd (patternAt s r) = 2 && (s.uwb.round.isSome || !s.lf.seeded)))

/-- The loopback drives its one channel: 64 carrier cycles at FCODE 200, ICUR 32, no frame (R480). -/
def loopbackRuns (s : State) : State :=
  emit (.lf (2 ^ val s (odKey 0x5040 1)) 200 []) (modLf (fun l => { l with loopback := true }) s)

/-- The engine is free and serves the next pending start under R22. -/
def lfGrant (vlf : Nat) (peaks : List Nat) (s : State) : State :=
  if s.lf.user ≠ .none ∨ ¬ s.pwr.access ∨ s.lf.loopback then s
  else match rrPick 34 s.lf.pointer (startable s) with
  | none => s
  | some r =>
    let s := modLf (fun l => { l with pending := l.pending.filter (· ≠ r), pointer := rrNext 34 r }) s
    if r = 32 then chargeField s
    else if r = 33 then loopbackRuns s
    else if patEn (patternAt s r) then runPattern r (patZone (patternAt s r)) false vlf peaks s
    else patternDone r s

/-- LF_ENGINE_GRANT. -/
def execLfEngineGrant (vlfMv : Nat) (peaks : List Nat) (s : State) : Res := conclude s (lfGrant vlfMv peaks s)

/-- The run of a pattern ends (R262). -/
def patternEnd (s : State) : State :=
  match s.lf.user with
  | .pattern i _ _ _ => patternDone i (modLf (fun l => { l with user := .none }) s)
  | _ => s

/-- PATTERN_END. -/
def execPatternEnd (s : State) : Res := conclude s (patternEnd s)

/-- Readings of VLF and of the drive peaks when no command carries them: the environment's. [log 11 DESIGN CHOICE] -/
def vlfNow (s : State) : Nat := Config.sensor 0x40 s.clk.ticks
/-- [log 11 DESIGN CHOICE] -/
def peaksNow (s : State) : List Nat := (List.range 8).map fun c => Config.sensor (0x48 + c) s.clk.ticks

/-- Another user gives way to a Comb poll at the next bit boundary (R266). -/
def preemptUser (s : State) : State :=
  match s.lf.user with
  | .pattern i _ _ _ =>
    modLf (fun l => { l with user := .none, pending := if l.pending.contains i then l.pending else l.pending ++ [i] })
      (count (odKey 0x4000 4) s)
  | .transponder =>
    emit (.lfField false) (modTp (fun _ => {}) (modLf (fun l => { l with user := .none, pending := if l.pending.contains 32 then l.pending else l.pending ++ [32] }) s))
  | .none =>
    if s.lf.loopback then modLf (fun l => { l with loopback := false, pending := l.pending ++ [33] }) s else s

/-- A Comb poll that is due (R265, R266, R289): the named pattern starts at once with the action's zone. [log 68 DEDUCED] -/
def combPoll (i zone : Nat) (s : State) : State :=
  if !(s.comb.now.any fun a => actType a == 4 && actPattern a == i && actZone a == zone) ∨ ¬ s.pwr.access then s
  else
    let e := patternAt s i
    if !patEn e ∨ !patTrig e 5 then count (odKey 0x4000 6) s
    else
      let s := preemptUser s
      let s := if patCmd e = 2 then preemptRound s else s
      if patCmd e = 2 ∧ ¬ s.lf.seeded then count (odKey 0x4000 5) s
      else runPattern i zone true (vlfNow s) (peaksNow s) s

/-- COMB_POLL. -/
def execCombPoll (pattern : Fin 32) (zone : Fin 8) (s : State) : Res := conclude s (combPoll pattern zone s)

/-- A pattern's period has elapsed (R265). -/
def periodicTimer (i : Nat) (s : State) : State :=
  if s.pwr.access ∧ patEn (patternAt s i) ∧ patTrig (patternAt s i) 4 then trigger i s else s

/-- PERIODIC_TIMER. -/
def execPeriodicTimer (pattern : Fin 32) (s : State) : Res := conclude s (periodicTimer pattern s)

/-- A channel above 2.4 A: its bridge goes off and it is in FAULT (R261). -/
def lfShort (c : Nat) (s : State) : State :=
  let driving : Bool := match s.lf.user with
    | .pattern _ _ _ m => m.testBit c | .transponder => s.lf.tp.channels.testBit c | .none => false
  if !driving then s
  else
    let s := modLf (fun l => { l with
      user := match l.user with | .pattern i z b m => .pattern i z b (m - 2 ^ c) | u => u
      tp := { l.tp with channels := if l.tp.channels.testBit c then l.tp.channels - 2 ^ c else l.tp.channels } }) s
    setChan c .fault (count (odKey (0x4010 + c) 6) s)

/-- LF_SHORT. -/
def execLfShort (channel : Fin 8) (s : State) : Res := conclude s (lfShort channel s)

/-! ### Touch (R268, R269) -/

/-- A registered touch: counted, its patterns start, and a wake is raised; with ACCESS off the patterns follow the wake. [log 69 DEDUCED] -/
def touched (i : Nat) (s : State) : State :=
  let s := count (odKey 0x4003 6) s
  let ps := patternsWith s i
  let s := if s.pwr.access then ps.foldl (fun s p => trigger p s) s
    else modLf (fun l => { l with afterWake := l.afterWake ++ ps.filter (!l.afterWake.contains ·) }) s
  latchWake (11 + i) s

/-- One input in one scan, in units of 0.1 pF. [log 69 DEDUCED] -/
def scanInput (i cap : Nat) (s : State) : State :=
  let x := (s.lf.touch[i]?).getD {}
  let put (y : TouchSt) (s : State) : State := modLf (fun l => { l with touch := vmod l.touch i fun _ => y }) s
  let above := decide (x.baseline + val s (odKey 0x4003 (i + 1)) ≤ cap)
  if above && x.touched then put { x with above := true } s
  else
    -- the baseline follows by one unit every 16 scans
    let base := if x.drift + 1 < 16 then x.baseline
      else if x.baseline < cap then x.baseline + 1 else if cap < x.baseline then x.baseline - 1 else x.baseline
    let y : TouchSt := { baseline := base, drift := (x.drift + 1) % 16, above := above, touched := above && x.above }
    let s := put y s
    if y.touched then touched i s else s

/-- A scan of the four inputs. -/
def touchScan (caps : List Nat) (s : State) : State :=
  if s.pwr.vao then (List.range 4).foldl (fun s i => match caps[i]? with | some c => scanInput i c s | none => s) s else s

/-- TOUCH_SCAN. -/
def execTouchScan (caps : List Nat) (s : State) : Res := conclude s (touchScan caps s)

/-! ### Settings (R260, R262, R264, R288, R458) -/

/-- An entry that a table write may not hold. [log 68 DEDUCED] -/
def patternBad (s : State) (e : Nat) : Bool :=
  6000 * 10000 < (channelsOf (patAnt e)).length * patIcur e * 78125 || 400 < patFcode e || bitsOf e 62 0 ≠ 0 ||
  bitsOf (patSlot e) 7 5 ≠ 0 || (patTrig e 4 && (patPeriod e < 50 || 60000 < patPeriod e)) ||
  (patTrig e 4 && (patAnt e / 64) &&& (val s (odKey 0x4321 4) % 4) ≠ 0)

/-- The effect of a write of the pattern table. -/
def effPatternTable (s : State) (b : Blob) : Access :=
  if b.length ≠ 512 then .error abType
  else if (List.range 32).any fun i => patternBad s (ofLe (sub b (16 * i) 16)) then .error abRange
  else .ok (keepBlob (odKey 0x4002 1) b s)

/-- The write of the pattern table. -/
def patternTableWrite (slot : Nat) (d : Blob) (s : State) : State :=
  writeEntry slot 0x4002 1 (.bytes d) true (fun _ _ b => effPatternTable s b) s

/-- PATTERN_TABLE_WRITE. -/
def execPatternTableWrite (slot : Fin 16) (data : Blob) (s : State) : Res := conclude s (patternTableWrite slot data s)

/-- The effect of a write of the wake ID. -/
def effWakeId (s : State) (v : Nat) : Access := if 0xFFFFFF ≤ v then .error abRange else .ok (keepVal (odKey 0x4001 1) v s)

/-- The write of the wake ID. -/
def wakeIdWrite (slot v : Nat) (s : State) : State :=
  writeEntry slot 0x4001 1 (numFor 0x4001 1 v) true (fun _ n _ => effWakeId s n) s

/-- WAKE_ID_WRITE. -/
def execWakeIdWrite (slot : Fin 16) (v : Nat) (s : State) : Res := conclude s (wakeIdWrite slot v s)

/-- A bridge is off: the channel drives nothing any more. -/
def bridgeOff (c : Nat) (s : State) : State :=
  modLf (fun l => { l with
    user := match l.user with | .pattern i z b m => .pattern i z b (if m.testBit c then m - 2 ^ c else m) | u => u
    tp := { l.tp with channels := if l.tp.channels.testBit c then l.tp.channels - 2 ^ c else l.tp.channels } }) s

/-- The effect of a write of a channel's Enable. -/
def effLfEnable (s : State) (c v : Nat) : Access :=
  let s := keepVal (odKey (0x4010 + c) 1) v s
  .ok (
    if v = 0 then
      match chanAt s c with
      | .running | .pending => setChan c .stopping s
      | .fault => setChan c .stopped s
      | _ => s
    else
      match chanAt s c with
      | .stopped | .fault => setChan c .running s
      | .stopping => setChan c .pending s
      | _ => s)

/-- The write of a channel's Enable. -/
def lfChannelEnableWrite (slot c v : Nat) (s : State) : State :=
  writeEntry slot (0x4010 + c) 1 (numFor (0x4010 + c) 1 v) true (fun _ n _ => effLfEnable s c n) s

/-- LF_CHANNEL_ENABLE_WRITE. -/
def execLfChannelEnableWrite (slot : Fin 16) (channel : Fin 8) (v : Nat) (s : State) : Res :=
  conclude s (lfChannelEnableWrite slot channel v s)

/-- The current bit has ended and the bridge is off (R457). -/
def lfStoppedNow (c : Nat) (s : State) : State :=
  match chanAt s c with
  | .stopping => setChan c .stopped (bridgeOff c s)
  | .pending => setChan c .running (bridgeOff c s)
  | _ => s

/-! ### Transponder transactions (R276, R277) -/

/-- Commands of R276, as sent behind the field. -/
def tpSend (s : State) (bits : List Bool) : State :=
  emit (.lf s.lf.tp.channels 200 (bits ++ bitsMsb 8 (lfCrc bits))) s

/-- The transaction ends: the field goes off. -/
def tpEnd (s : State) : State :=
  emit (.lfField false) (modTp (fun _ => {}) (modLf (fun l => { l with user := .none }) s))

/-- The next transponder to authenticate, in list order, or the end. -/
def tpNext (s : State) : State :=
  match s.lf.tp.todo with
  | [] => tpEnd s
  | id :: rest =>
    if zoneLocked s 8 then tpEnd s
    else
      let (nb, s) := draw 8 s
      let s := modTp (fun t => { t with step := .auth id, todo := rest, repeated := false, nb := nb, nk := [] }) s
      tpSend s (bitsMsb 4 2 ++ bitsMsb 32 id ++ blobBits nb)

/-- The inventory is over: the list is kept, the excess counted, and the enrolled transponders are authenticated. -/
def tpListed (s : State) : State :=
  let t := s.lf.tp
  let s := setBlob (odKey 0x4321 2) (t.found.flatMap (leBytes 4)) s
  let s := countN (odKey 0x4321 5) (if 8 ≤ t.found.length then t.stack.length else 0) s
  let todo := t.found.filter fun id => s.lf.keys.any fun e => e.id == id && e.kind ≠ 0
  tpNext (modTp (fun t => { t with stack := [], todo := todo }) s)

/-- The next prefix of the walk, or its end. [log 70 DEDUCED] -/
def tpWalk (s : State) : State :=
  let t := s.lf.tp
  match t.stack with
  | [] => tpListed s
  | p :: rest =>
    if 8 ≤ t.found.length then tpListed s
    else
      let s := modTp (fun t => { t with step := .inventory p, stack := rest, repeated := false }) s
      tpSend s (bitsMsb 4 1 ++ bitsMsb 6 p.length ++ p)

/-- The charge time is over: the first INVENTORY. -/
def chargeComplete (s : State) : State :=
  if s.lf.tp.step = .charging then tpWalk (modTp (fun t => { t with stack := [[]], found := [] }) s) else s

/-- FIELD_CHARGE_COMPLETE. -/
def execFieldChargeComplete (s : State) : Res := conclude s (chargeComplete s)

/-- A pending transaction starts by charging the field. -/
def transponderStart (s : State) : State :=
  if s.lf.user = .none ∧ s.pwr.access ∧ ¬ s.lf.loopback ∧ startable s 32 then
    chargeField (modLf (fun l => { l with pending := l.pending.filter (· ≠ 32), pointer := 33 }) s)
  else s

/-- TRANSPONDER_TRANSACTION. -/
def execTransponderTransaction (s : State) : Res := conclude s (transponderStart s)

/-- A failure of the transponder record (R273, R276). [log 70 DEDUCED] -/
def tpFailure (id : Nat) (s : State) : State :=
  lockFailure 8 (logEvent 12 clsSecurity 0 (odKey 0x4318 3) (leBytes 4 id) s)

/-- Repeat the command that is out. -/
def tpRepeat (s : State) : State :=
  let t := s.lf.tp
  let s := modTp (fun t => { t with repeated := true }) s
  match t.step with
  | .inventory p => tpSend s (bitsMsb 4 1 ++ bitsMsb 6 p.length ++ p)
  | .auth id => tpSend s (bitsMsb 4 2 ++ bitsMsb 32 id ++ blobBits t.nb)
  | .confirm id =>
    let k := ((s.lf.keys.find? (·.id == id)).bind (·.key)).getD []
    tpSend s (bitsMsb 4 3 ++ blobBits (pbOf k t.nb t.nk))
  | _ => s

/-- A late or corrupted answer: repeated once; a second ends the transaction, with a failure for AUTH and CONFIRM
(R276, R284). [log 70 DEDUCED] -/
def tpBadAnswer (s : State) : State :=
  let t := s.lf.tp
  match t.step with
  | .idle | .charging => s
  | .inventory _ => if t.repeated then tpEnd s else tpRepeat s
  | .auth id | .confirm id => if t.repeated then tpEnd (tpFailure id s) else tpRepeat s

/-- No answer: the command is repeated once; a prefix nobody answers then leaves the walk (R277). -/
def tpNoAnswer (s : State) : State :=
  match s.lf.tp.step with
  | .inventory _ => if s.lf.tp.repeated then tpWalk s else tpRepeat s
  | _ => tpBadAnswer s

/-- An INVENTORY answer: collisions steer the walk (R277). [log 70 DEDUCED] -/
def tpInventory (p : List Bool) (a : TransponderAnswer) (s : State) : State :=
  let n := 32 - p.length
  match a.collisions with
  | j :: _ =>
    if j < n then
      let pre := p ++ a.bits.take j
      tpWalk (modTp (fun t => { t with stack := (pre ++ [false]) :: (pre ++ [true]) :: t.stack }) s)
    else tpBadAnswer s
  | [] =>
    let id := p ++ a.bits.take n
    if a.bits.length ≠ n + 8 ∨ ofBits (a.bits.drop n) ≠ lfCrc id then tpBadAnswer s
    else if n = 0 then tpWalk (modTp (fun t => { t with found := t.found ++ [ofBits p] }) s)
    else tpWalk (modTp (fun t => { t with stack := id :: t.stack }) s)

/-- An AUTH answer: step 2 of R272. -/
def tpAuth (id : Nat) (a : TransponderAnswer) (s : State) : State :=
  let body := a.bits.take 160
  if a.collisions ≠ [] ∨ a.bits.length ≠ 168 ∨ ofBits (a.bits.drop 160) ≠ lfCrc body then tpBadAnswer s
  else
    let t := s.lf.tp
    let k := ((s.lf.keys.find? (·.id == id)).bind (·.key)).getD []
    let nk := beBytes 8 (ofBits ((body.drop 32).take 64))
    let pk := beBytes 8 (ofBits (body.drop 96))
    if ofBits (body.take 32) = id ∧ k ≠ [] ∧ pkOf k t.nb nk id = pk then
      let s := modTp (fun t => { t with step := .confirm id, nk := nk, repeated := false }) s
      tpSend s (bitsMsb 4 3 ++ blobBits (pbOf k t.nb nk))
    else tpNext (tpFailure id s)

/-- A CONFIRM answer: the acknowledge opens a session with START and without UNLOCK (R278). -/
def tpConfirm (id : Nat) (a : TransponderAnswer) (s : State) : State :=
  if a.collisions ≠ [] ∨ a.bits.length ≠ 16 ∨ ofBits (a.bits.drop 8) ≠ lfCrc (a.bits.take 8) then tpBadAnswer s
  else if ofBits (a.bits.take 8) = 0xA5 then
    let k := ((s.lf.keys.find? (·.id == id)).bind (·.key)).getD []
    tpEnd (openSession id false true (sessionMacKey k s.lf.tp.nb s.lf.tp.nk) (lockSuccess 8 s))
  else tpNext (tpFailure id s)

/-- An answer of a transponder. -/
def transponderAnswer (a : TransponderAnswer) (s : State) : State :=
  if !a.inWindow || a.violation then tpBadAnswer s
  else match s.lf.tp.step with
  | .idle | .charging => s
  | .inventory p => tpInventory p a s
  | .auth id => tpAuth id a s
  | .confirm id => tpConfirm id a s

/-- TRANSPONDER_ANSWER. -/
def execTransponderAnswer (answer : TransponderAnswer) (s : State) : Res := conclude s (transponderAnswer answer s)

/-- TRANSPONDER_ANSWER_TIMEOUT: no answer came. -/
def execTransponderAnswerTimeout (s : State) : Res := conclude s (tpNoAnswer s)

/-! ### Locks and sessions (R274, R279-R282) -/

/-- A lock runs out at its end; the level is kept (R274). -/
def lockEnd (z : Nat) (s : State) : State :=
  if zoneLocked s z ∧ (lockAt s z).lockEnd ≤ aoSec s then putLock z { lockAt s z with locked := false } s else s

/-- LOCK_END. -/
def execLockEnd (record : Fin 9) (s : State) : Res := conclude s (lockEnd record s)

/-- The session's timeout has passed (R279). -/
def sessionTimeout (s : State) : State :=
  match s.lf.session with
  | some x => if x.endAo ≤ s.clk.ao then endSession s else s
  | none => s

/-- SESSION_TIMEOUT. -/
def execSessionTimeout (s : State) : Res := conclude s (sessionTimeout s)

/-- A BOOL signal an entry names, where it is read as one: value and SEALV. -/
def namedBool (s : State) (key : Nat) : Option (Bool × Bool) :=
  let i := val s key
  if i < 131072 ∧ s.pwr.hive then
    let w := sigRead s i
    if w.tag = 1 then some (w.val ≠ 0, sigSealV (sigRaw s i)) else none
  else none

/-- The driver-door signal is read: its first sealed transition from 0 to 1 ends the session (R279). [log 71 DEDUCED] -/
def doorRead (s : State) : State :=
  match namedBool s (odKey 0x4301 1) with
  | some (v, true) =>
    let rose := v && s.lf.prevDoor == some false
    let s := modLf (fun l => { l with prevDoor := some v }) s
    if rose then endSession s else s
  | _ => s

/-- DRIVER_DOOR_OPEN. -/
def execDriverDoorOpen (s : State) : Res := conclude s (doorRead s)

/-- A start request (R280): with no START session open the patterns with TRIG bit 6 start. -/
def startRequested (s : State) : State :=
  let started : Bool := match s.lf.session with | some x => x.start | none => false
  if started ∨ ¬ s.pwr.access then s
  else
    let ps := patternsWith s 6
    let s := ps.foldl (fun s p => trigger p s) (modLf (fun l => { l with startSet := ps }) s)
    if ps = [] then afterStartSet s else s

/-- The start-request signal is read: a transition from 0 to 1 is a start request. [log 71 DEDUCED] -/
def startRead (s : State) : State :=
  match namedBool s (odKey 0x4301 2) with
  | some (v, _) =>
    let rose := v && s.lf.prevStart == some false
    let s := modLf (fun l => { l with prevStart := some v }) s
    if rose then startRequested s else s
  | none => s

/-- START_REQUEST. -/
def execStartRequest (s : State) : Res := conclude s (startRead s)

/-- A half-period of the release outputs (R281): the pads are read back, then the outputs change. [log 71 DEDUCED] -/
def slrHalfPeriod (padA padB : Bool) (s : State) : State :=
  if !s.pwr.access then s
  else
    let a := s.lf.releasing && s.lf.slrA
    let b := s.lf.releasing && !s.lf.slrA
    let s :=
      if padA ≠ a ∨ padB ≠ b then
        logEvent 12 clsUnmasked 0 (odKey 0x4300 6) (leBytes 1 padA.toNat ++ leBytes 1 padB.toNat)
          (count (odKey 0x4300 6) (modLf (fun l => { l with slrFault := true }) s))
      else s
    if released s then
      let v := if s.lf.releasing then !s.lf.slrA else true
      emit (.pin "SLR_B" (!v)) (emit (.pin "SLR_A" v) (modLf (fun l => { l with releasing := true, slrA := v }) s))
    else if s.lf.releasing then emit (.pin "SLR_B" false) (emit (.pin "SLR_A" false) (slrLow s))
    else s

/-- SLR_HALF_PERIOD. -/
def execSlrHalfPeriod (padA padB : Bool) (s : State) : Res := conclude s (slrHalfPeriod padA padB s)

/-- ACCESS_SIGNAL_REFRESH. -/
def execAccessSignalRefresh (s : State) : Res := conclude s (writeAccessSignals s)

end Sys2Proof.Machine
end

