-- ==== Sys2Proof/Machine/Flags.lean ====
section
/-! DEFINITION. STATUS of a Profold core (R212), the sticky flags of F32 arithmetic, and rounding to binary32 (R208). -/

namespace Sys2Proof.Machine

/-! ### STATUS bits (R212) -/

def stSup : Word := 0x001
def stIe : Word := 0x002
def stExl : Word := 0x004
def stLd : Word := 0x008
def flagNV : Word := 0x010
def flagDZ : Word := 0x020
def flagOF : Word := 0x040
def flagUF : Word := 0x080
def flagNX : Word := 0x100
/-- AOV0 or AOV1. -/
def flagAov (a : Fin 2) : Word := if a = 0 then 0x200 else 0x400
/-- The bits of STATUS an MTC or an RTE writes: all but LD and the reserved ones. -/
def stWritable : Word := 0x7F7

/-- STATUS written by software: LD and reserved bits keep what they are (R212). -/
def statusWrite (old v : Word) : Word := (v &&& stWritable) ||| (old &&& ~~~stWritable)

/-! ### Binary32 (R208) -/

/-- A decoded binary32 number: NaN, infinity, or a finite value `m * 2^e` with its sign. -/
inductive F32View where
  | nan (signalling : Bool)
  | inf (neg : Bool)
  | fin (neg : Bool) (m : Nat) (e : Int)
  deriving DecidableEq, Repr

/-- The number a pattern stands for. -/
def f32View (b : Word) : F32View :=
  let s := b.getLsbD 31
  let e := bitsOf b.toNat 30 23
  let f := bitsOf b.toNat 22 0
  if e = 255 then (if f = 0 then .inf s else .nan (!b.getLsbD 22))
  else if e = 0 then .fin s f (-149)
  else .fin s (f + 2 ^ 23) (e - 150)

/-- The NaN every operation gives. -/
def f32NaN : Word := 0x7FC00000
def f32Inf (neg : Bool) : Word := if neg then 0xFF800000 else 0x7F800000
def f32Zero (neg : Bool) : Word := if neg then 0x80000000 else 0

/-- `m / 2^k` rounded to nearest, ties to even; `sticky`: the exact value is a little above. -/
def roundEven (m k : Nat) (sticky : Bool) : Nat × Bool :=
  let q := m >>> k
  let r := m % 2 ^ k
  let up : Bool := decide (2 ^ k < 2 * r) || (decide (0 < k ∧ 2 * r = 2 ^ k) && (sticky || q % 2 == 1))
  (if up then q + 1 else q, decide (r ≠ 0) || sticky)

/-- The value `m * 2^e`, or a little above it, as binary32 with its flags; tininess is judged after rounding. With
`sticky` the significand has at least 25 bits. -/
def f32Round (neg : Bool) (m : Nat) (e : Int) (sticky : Bool) : Word × Word :=
  if m = 0 then (f32Zero neg, 0)
  else
    let top : Int := Nat.log2 m + e
    let quantum : Int := max (top - 23) (-149)
    let shift : Int := quantum - e
    let (v, inexact) := if shift ≤ 0 then (m <<< (-shift).toNat, sticky) else roundEven m shift.toNat sticky
    let bits := (quantum + 149).toNat * 2 ^ 23 + v
    if 0x7F800000 ≤ bits then (f32Inf neg, flagOF ||| flagNX)
    else
      let free : Int := top - 23 - e
      let rounded := if free ≤ 0 then m <<< (-free).toNat else (roundEven m free.toNat sticky).1
      let tiny := top < -126 && !(top == -127 && rounded == 2 ^ 24)
      (BitVec.ofNat 32 ((if neg then 2 ^ 31 else 0) + bits),
        (if inexact then flagNX else 0) ||| (if inexact && tiny then flagUF else 0))

/-- A sum of exact values `s * 2^e`; an exact zero takes the sign `zneg`. -/
def f32Sum (v : Int) (e : Int) (zneg : Bool) : Word × Word :=
  if v = 0 then (f32Zero zneg, 0) else f32Round (v < 0) v.natAbs e false

/-- A finite value as a signed number of units `2^u`, `u` at most its own exponent. -/
def f32Units (neg : Bool) (m : Nat) (e u : Int) : Int :=
  let n : Int := (m * 2 ^ (e - u).toNat : Nat)
  if neg then -n else n

/-- NV where an operand is signalling. -/
def nanFlags (l : List F32View) : Word := if l.any (fun v => v == .nan true) then flagNV else 0
def anyNan (l : List F32View) : Bool := l.any fun v => match v with | .nan _ => true | _ => false

/-- `c + a * b`, rounded once; FADD is `c + 1 * b`, with the exact zero signs of IEEE 754. [log 57 DEDUCED] -/
def f32Fma (c a b : Word) : Word × Word :=
  let vs := [f32View c, f32View a, f32View b]
  if anyNan vs then (f32NaN, nanFlags vs)
  else match f32View a, f32View b, f32View c with
    | .fin _ 0 _, .inf _, _ => (f32NaN, flagNV)
    | .inf _, .fin _ 0 _, _ => (f32NaN, flagNV)
    | .fin na ma ea, .fin nb mb eb, .fin nc mc ec =>
      let u := min (ea + eb) ec
      let np := na != nb
      f32Sum (f32Units np (ma * mb) (ea + eb) u + f32Units nc mc ec u) u
        (np && nc && (ma * mb == 0) && (mc == 0))
    | .fin _ _ _, .fin _ _ _, .inf nc => (f32Inf nc, 0)
    | va, vb, vc =>
      let sign (v : F32View) : Bool := match v with | .inf n => n | .fin n _ _ => n | .nan _ => false
      let np := sign va != sign vb
      match vc with
      | .inf nc => if nc == np then (f32Inf np, 0) else (f32NaN, flagNV)
      | _ => (f32Inf np, 0)

/-- Zero times infinity with a quiet NaN addend: IEEE 754 leaves NV to the implementation, and the spec does not say. [log 57 DEDUCED] -/
def fmaOpen (c a b : Word) : Bool :=
  f32View c == .nan false &&
  match f32View a, f32View b with
  | .fin _ 0 _, .inf _ => true
  | .inf _, .fin _ 0 _ => true
  | _, _ => false

def f32One : Word := 0x3F800000
def f32Negate (b : Word) : Word := b ^^^ 0x80000000

def f32Add (a b : Word) : Word × Word := f32Fma a f32One b
def f32Sub (a b : Word) : Word × Word :=
  if anyNan [f32View b] then f32Add a b else f32Add a (f32Negate b)

def f32Mul (a b : Word) : Word × Word :=
  let vs := [f32View a, f32View b]
  if anyNan vs then (f32NaN, nanFlags vs)
  else match f32View a, f32View b with
    | .fin na ma ea, .fin nb mb eb => f32Round (na != nb) (ma * mb) (ea + eb) false
    | .inf na, .inf nb => (f32Inf (na != nb), 0)
    | .inf na, .fin nb mb _ => if mb = 0 then (f32NaN, flagNV) else (f32Inf (na != nb), 0)
    | .fin na ma _, .inf nb => if ma = 0 then (f32NaN, flagNV) else (f32Inf (na != nb), 0)
    | _, _ => (f32NaN, 0)

def f32Div (a b : Word) : Word × Word :=
  let vs := [f32View a, f32View b]
  if anyNan vs then (f32NaN, nanFlags vs)
  else match f32View a, f32View b with
    | .inf _, .inf _ => (f32NaN, flagNV)
    | .inf na, .fin nb _ _ => (f32Inf (na != nb), 0)
    | .fin na _ _, .inf nb => (f32Zero (na != nb), 0)
    | .fin na ma ea, .fin nb mb eb =>
      if mb = 0 then (if ma = 0 then (f32NaN, flagNV) else (f32Inf (na != nb), flagDZ))
      else f32Round (na != nb) (ma <<< 80 / mb) (ea - eb - 80) (decide (ma <<< 80 % mb ≠ 0))
    | _, _ => (f32NaN, 0)

/-- Compare: none where unordered; otherwise less, equal, greater. -/
def f32Cmp (a b : Word) : Option Ordering :=
  match f32View a, f32View b with
  | .nan _, _ => none
  | _, .nan _ => none
  | .inf x, .inf y => some (if x == y then .eq else if x then .lt else .gt)
  | .inf x, _ => some (if x then .lt else .gt)
  | _, .inf y => some (if y then .gt else .lt)
  | .fin na ma ea, .fin nb mb eb =>
    let u := min ea eb
    let x := f32Units na ma ea u
    let y := f32Units nb mb eb u
    some (if x < y then .lt else if x = y then .eq else .gt)

/-- FMIN and FMAX: minNum and maxNum, with -0 below +0. -/
def f32MinMax (big : Bool) (a b : Word) : Word × Word :=
  let sig := nanFlags [f32View a, f32View b]
  if sig ≠ 0 then (f32NaN, flagNV)
  else if anyNan [f32View a] ∧ anyNan [f32View b] then (f32NaN, 0)
  else if anyNan [f32View a] then (b, 0)
  else if anyNan [f32View b] then (a, 0)
  else
    let below : Bool := match f32Cmp a b with
      | some .lt => true
      | some .eq => a.getLsbD 31
      | _ => false
    ((if below != big then a else b), 0)

/-- FABS and FNEG: a NaN gives the one NaN. -/
def f32Abs (a : Word) : Word × Word := if anyNan [f32View a] then (f32NaN, 0) else (a &&& 0x7FFFFFFF, 0)
def f32Neg (a : Word) : Word × Word := if anyNan [f32View a] then (f32NaN, 0) else (f32Negate a, 0)

/-- An integer times `2^e` as binary32. -/
def f32OfInt (v : Int) (e : Int) : Word × Word := f32Round (v < 0) v.natAbs e false

/-- A binary32 number times `2^up` as an integer, truncated or rounded to nearest even; none for a NaN. Infinities give a
number past every tag's range. -/
def f32ToInt (b : Word) (up : Nat) (nearest : Bool) : Option Int :=
  match f32View b with
  | .nan _ => none
  | .inf neg => some (if neg then -(2 ^ 40) else 2 ^ 40)
  | .fin neg m e =>
    let k : Int := e + up
    let n : Nat := if 0 ≤ k then m <<< k.toNat else if nearest then (roundEven m (-k).toNat false).1 else m >>> (-k).toNat
    some (if neg then -(n : Int) else n)

end Sys2Proof.Machine
end

