-- ==== Sys2Proof/Machine/Operands.lean ====
section
/-! DEFINITION. Tagged operands of Profold (R202-R209): which operations a tag admits, the results, and the encodings of the
instruction words (R217-R220), which TINFO reports. -/

namespace Sys2Proof.Machine

/-! ### Tags (R202) -/

def tVoid : BitVec 4 := 0
def tBool : BitVec 4 := 1
def tU8 : BitVec 4 := 2
def tU16 : BitVec 4 := 3
def tU32 : BitVec 4 := 4
def tS8 : BitVec 4 := 5
def tS16 : BitVec 4 := 6
def tS32 : BitVec 4 := 7
def tF32 : BitVec 4 := 8
def tQ15 : BitVec 4 := 9
def tQ31 : BitVec 4 := 10
def tTime : BitVec 4 := 11
def tSeg : BitVec 4 := 12
def tRaw : BitVec 4 := 13
def tStale : BitVec 4 := 14
def tFault : BitVec 4 := 15

def isUnsigned (t : BitVec 4) : Bool := t == tU8 || t == tU16 || t == tU32
def isSigned (t : BitVec 4) : Bool := t == tS8 || t == tS16 || t == tS32
def isInteger (t : BitVec 4) : Bool := isUnsigned t || isSigned t
def isQ (t : BitVec 4) : Bool := t == tQ15 || t == tQ31
/-- Tags of R207's Logic column. -/
def isLogic (t : BitVec 4) : Bool := t == tBool || isInteger t || t == tRaw
/-- VOID, STALE and FAULT are no target of LI, CVT or RETAG (R209, R218). -/
def isTarget (t : BitVec 4) : Bool := !(t == tVoid || t == tStale || t == tFault)

/-- Width of a tag's payload. -/
def tagWidth (t : BitVec 4) : Nat :=
  if t == tBool then 1 else if t == tU8 || t == tS8 then 8 else if t == tU16 || t == tS16 || t == tQ15 then 16 else 32

/-- Tags whose payload is two's complement. -/
def twosTag (t : BitVec 4) : Bool := isSigned t || isQ t

/-- Range of a tag's payload as a number. -/
def tagLo (t : BitVec 4) : Int := if twosTag t then -(2 ^ (tagWidth t - 1) : Nat) else 0
def tagHi (t : BitVec 4) : Int := if twosTag t then (2 ^ (tagWidth t - 1) : Nat) - 1 else (2 ^ tagWidth t : Nat) - 1

/-- The number a word holds. -/
def PfWord.num (w : PfWord) : Int := if twosTag w.tag then w.val.toInt else w.val.toNat

/-- A word of a tag from a number in range. -/
def mkWord (t : BitVec 4) (v : Int) : PfWord := ⟨t, BitVec.ofInt 32 v⟩
/-- Reduced modulo the tag's width. -/
def wrapWord (t : BitVec 4) (v : Int) : PfWord :=
  mkWord t (if twosTag t then signedOf (tagWidth t) (unsignedOf (tagWidth t) v) else (unsignedOf (tagWidth t) v : Nat))
/-- Clamped to the tag's range. -/
def satWord (t : BitVec 4) (v : Int) : PfWord := mkWord t (max (tagLo t) (min (tagHi t) v))
def boolWord (b : Bool) : PfWord := ⟨tBool, if b then 1 else 0⟩
def u32Word (n : Nat) : PfWord := ⟨tU32, BitVec.ofNat 32 n⟩
def rawWord (w : Word) : PfWord := ⟨tRaw, w⟩
def faultWord : PfWord := ⟨tFault, 0⟩

/-- A payload lies in its tag's range (R202, R203). -/
def PfWord.inRange (w : PfWord) : Bool :=
  if w.tag == tVoid || w.tag == tFault then w.val == 0
  else if w.tag == tF32 || w.tag == tTime || w.tag == tSeg || w.tag == tRaw || w.tag == tStale then true
  else decide (tagLo w.tag ≤ w.num) && decide (w.num ≤ tagHi w.tag)

/-! ### Traps (R234) and the rules every operation shares (R204, R205) -/

/-- A trap: code and TINFO. -/
structure PfTrap where
  code : Nat
  info : Word := 0
  deriving DecidableEq, Repr

/-- A result, with the STATUS flags it sets. -/
structure PfVal where
  w : PfWord
  flags : Word := 0
  deriving DecidableEq, Repr

def trap {α : Type} (code : Nat) : Except PfTrap α := .error ⟨code, 0⟩

/-- An operand that may not be VOID (R204). -/
def needFull (w : PfWord) : Except PfTrap Unit := if w.tag == tVoid then trap 0x01 else .ok ()

/-- STALE and FAULT operands decide the result (R205). -/
def poison (l : List PfWord) : Option PfWord :=
  if l.any (·.tag == tFault) then some faultWord
  else if l.any (·.tag == tStale) then some ⟨tStale, 0⟩ else none

/-- VOID traps, STALE and FAULT pass through, and otherwise `f` computes. -/
def checked (l : List PfWord) (f : Except PfTrap PfVal) : Except PfTrap PfVal :=
  if l.any (·.tag == tVoid) then trap 0x01
  else match poison l with
    | some w => .ok { w := w }
    | none => f

/-- The two operands carry the same tag (R206). [log 53 DEDUCED] -/
def sameTag (a b : PfWord) (f : Except PfTrap PfVal) : Except PfTrap PfVal := if a.tag = b.tag then f else trap 0x02

def okW (w : PfWord) : Except PfTrap PfVal := .ok { w := w }

/-! ### ALU operations (R206-R208, R219) -/

/-- Offset and segment of a SEG payload. -/
def segNo (v : Word) : Nat := bitsOf v.toNat 31 28
def segOff (v : Word) : Nat := bitsOf v.toNat 27 0
def segWord (n off : Nat) : PfWord := ⟨tSeg, BitVec.ofNat 32 (n % 16 * 2 ^ 28 + off % 2 ^ 28)⟩

/-- A number added to a word as ADD and ADDI do: integers wrap, or saturate as ADDS does; Q tags always saturate; TIME and
SEG take a plain ADD only. -/
def addTo (a : PfWord) (d : Int) (sat : Bool) : Except PfTrap PfVal :=
  if isInteger a.tag then okW (if sat then satWord a.tag (a.num + d) else wrapWord a.tag (a.num + d))
  else if isQ a.tag then okW (satWord a.tag (a.num + d))
  else if sat then trap 0x03
  else if a.tag == tTime then okW (wrapWord tTime (a.num + d))
  else if a.tag == tSeg then okW (segWord (segNo a.val) (unsignedOf 28 (segOff a.val + d)))
  else trap 0x03

/-- ADD, SUB, ADDS and SUBS. -/
def addOp (sub sat : Bool) (a b : PfWord) : Except PfTrap PfVal :=
  checked [a, b] <|
    if (a.tag == tTime || a.tag == tSeg) && isInteger b.tag then addTo a (if sub then -b.num else b.num) sat
    else sameTag a b <|
      if a.tag == tTime ∧ sub ∧ !sat then okW (wrapWord tS32 (a.num - b.num))
      else if a.tag == tSeg ∧ sub ∧ !sat then
        if segNo a.val = segNo b.val then okW (mkWord tS32 ((segOff a.val : Int) - segOff b.val)) else trap 0x02
      else if a.tag == tTime || a.tag == tSeg then trap 0x03
      else addTo a (if sub then -b.num else b.num) sat

/-- AND, OR, XOR of payloads. -/
def logicOp (f : Word → Word → Word) (a b : PfWord) : Except PfTrap PfVal :=
  checked [a, b] <| sameTag a b <| if isLogic a.tag then okW ⟨a.tag, f a.val b.val⟩ else trap 0x03

/-- ANDI, ORI, XORI: the zero-extended immediate, in the tag's width. -/
def logicImm (f : Word → Word → Word) (a : PfWord) (imm : BitVec 16) : Except PfTrap PfVal :=
  checked [a] <| if isLogic a.tag then okW (wrapWord a.tag (f a.val (imm.setWidth 32)).toNat) else trap 0x03

/-- NOT, within the tag's width. -/
def notOp (a : PfWord) : Except PfTrap PfVal :=
  checked [a] <| if isLogic a.tag then okW (wrapWord a.tag (~~~a.val).toNat) else trap 0x03

/-- The shifts. -/
inductive ShiftKind where
  | left | right | arith
  deriving DecidableEq, Repr

/-- A shift by an amount (R208). -/
def shiftBy (k : ShiftKind) (a : PfWord) (n : Nat) : Except PfTrap PfVal :=
  if isInteger a.tag || a.tag == tRaw || (isQ a.tag && k == .arith) then
    let w := tagWidth a.tag
    let bits := a.val.toNat % 2 ^ w
    okW (match k with
      | .left => wrapWord a.tag (if n < w then (bits * 2 ^ n : Nat) else 0)
      | .right => wrapWord a.tag (if n < w then (bits / 2 ^ n : Nat) else 0)
      | .arith => wrapWord a.tag (signedOf w bits / (2 ^ min n w : Nat)))
  else trap 0x03

/-- SHL, SHR, SRA: the amount is a U8-U32 register. [log 53 DEDUCED] -/
def shiftOp (k : ShiftKind) (a b : PfWord) : Except PfTrap PfVal :=
  checked [a, b] <| if isUnsigned b.tag then shiftBy k a b.val.toNat else trap 0x03

/-- SHLI, SHRI, SRAI. -/
def shiftImm (k : ShiftKind) (a : PfWord) (n : Nat) : Except PfTrap PfVal := checked [a] (shiftBy k a n)

/-! ### Compares (R207, R208) -/

/-- How two words of one tag compare: equal only, or with an order; the order of unordered F32 words is none. -/
inductive PfOrder where
  | eqOnly (equal : Bool)
  | ord (o : Option Ordering)
  deriving DecidableEq, Repr

def ordOfInt (x y : Int) : Ordering := if x < y then .lt else if x = y then .eq else .gt

/-- The comparison R207 admits for a tag. TIME is modular; SEG compares offsets within one segment. -/
def compareWords (a b : PfWord) : Except PfTrap PfOrder :=
  if a.tag ≠ b.tag then trap 0x02
  else if a.tag == tBool || a.tag == tRaw then .ok (.eqOnly (a.val == b.val))
  else if a.tag == tF32 then .ok (.ord (f32Cmp a.val b.val))
  else if a.tag == tTime then
    .ok (.ord (some (if a.val = b.val then .eq else if (a.val - b.val).toInt < 0 then .lt else .gt)))
  else if a.tag == tSeg then
    if segNo a.val = segNo b.val then .ok (.ord (some (ordOfInt (segOff a.val) (segOff b.val)))) else trap 0x02
  else .ok (.ord (some (ordOfInt a.num b.num)))

/-- NV of an F32 compare: any NaN in a signalling one, a signalling NaN in a quiet one. -/
def compareFlags (signalling : Bool) (a b : PfWord) : Word :=
  if a.tag == tF32 then
    let vs := [f32View a.val, f32View b.val]
    if signalling && anyNan vs then flagNV else nanFlags vs
  else 0

/-- CEQ's truth. -/
def isEqual : PfOrder → Bool
  | .eqOnly e => e
  | .ord o => o == some .eq

/-- The order, where the tag gives one. -/
def orderOf : PfOrder → Except PfTrap (Option Ordering)
  | .eqOnly _ => trap 0x03
  | .ord o => .ok o

/-- The four comparisons. -/
inductive CmpKind where
  | eq | ne | lt | le
  deriving DecidableEq, Repr

/-- The outcome of a comparison with its flags. -/
def compareTrue (k : CmpKind) (a b : PfWord) : Except PfTrap (Bool × Word) :=
  match compareWords a b with
  | .error t => .error t
  | .ok o => match k with
    | .eq => .ok (isEqual o, compareFlags false a b)
    | .ne => .ok (!isEqual o, compareFlags false a b)
    | .lt => match orderOf o with
      | .error t => .error t
      | .ok r => .ok (r == some .lt, compareFlags true a b)
    | .le => match orderOf o with
      | .error t => .error t
      | .ok r => .ok (r == some .lt || r == some .eq, compareFlags true a b)

/-- CEQ, CNE, CLT, CLE. -/
def compareOp (k : CmpKind) (a b : PfWord) : Except PfTrap PfVal :=
  checked [a, b] <| match compareTrue k a b with
    | .error t => .error t
    | .ok (r, f) => .ok { w := boolWord r, flags := f }

/-- MIN and MAX (R219): not on F32. -/
def minMaxOp (big : Bool) (a b : PfWord) : Except PfTrap PfVal :=
  checked [a, b] <| if a.tag = b.tag ∧ a.tag = tF32 then trap 0x03 else
    match compareTrue .lt a b with
    | .error t => .error t
    | .ok (below, _) => okW (if below != big then a else b)

/-- The immediate of CLTI and CEQI in the tag of the register operand (R206). -/
def immWord (t : BitVec 4) (imm : BitVec 16) : Except PfTrap PfWord :=
  if t == tBool || isInteger t then .ok (satWord t imm.toInt)
  else if isQ t then .ok (mkWord t imm.toInt)
  else if t == tF32 then .ok ⟨tF32, (f32OfInt imm.toInt 0).1⟩
  else if t == tRaw then .ok (rawWord (imm.signExtend 32))
  else trap 0x03

/-- CLTI and CEQI. -/
def compareImm (k : CmpKind) (a : PfWord) (imm : BitVec 16) : Except PfTrap PfVal :=
  checked [a] <| match immWord a.tag imm with
    | .error t => .error t
    | .ok b => compareOp k a b

/-- NEG and ABS saturate (R219). -/
def negOp (a : PfWord) : Except PfTrap PfVal :=
  checked [a] <| if twosTag a.tag then okW (satWord a.tag (-a.num)) else trap 0x03
def absOp (a : PfWord) : Except PfTrap PfVal :=
  checked [a] <| if twosTag a.tag then okW (satWord a.tag a.num.natAbs) else trap 0x03

/-- MOV copies STALE and FAULT whole (R205). -/
def movOp (a : PfWord) : Except PfTrap PfVal := if a.tag == tVoid then trap 0x01 else okW a

/-- ADDI (R206). -/
def addImm (a : PfWord) (imm : BitVec 16) : Except PfTrap PfVal := checked [a] (addTo a imm.toInt false)

/-- LI (R218). -/
def liOp (t : BitVec 4) (zext : Bool) (imm : BitVec 16) : Except PfTrap PfVal :=
  okW (wrapWord t (if zext then imm.toNat else imm.toInt))

/-- LIH (R218): the upper half replaced, then brought into the tag's range by wrapping. -/
def lihOp (a : PfWord) (imm : BitVec 16) : Except PfTrap PfVal :=
  checked [a] (okW (wrapWord a.tag (imm.toNat * 2 ^ 16 + a.val.toNat % 2 ^ 16 : Nat)))

/-! ### MUL group (R207, R208) -/

/-- MUL, MULS. -/
def mulOp (sat : Bool) (a b : PfWord) : Except PfTrap PfVal :=
  checked [a, b] <| sameTag a b <|
    if isInteger a.tag then okW (if sat then satWord a.tag (a.num * b.num) else wrapWord a.tag (a.num * b.num)) else trap 0x03

/-- MULH: the upper word of the product. -/
def mulhOp (a b : PfWord) : Except PfTrap PfVal :=
  checked [a, b] <| sameTag a b <|
    if a.tag == tU32 || a.tag == tS32 then okW (mkWord a.tag (a.num * b.num / (2 ^ 32 : Nat))) else trap 0x03

/-- QMUL. -/
def qmulOp (a b : PfWord) : Except PfTrap PfVal :=
  checked [a, b] <| sameTag a b <|
    if a.tag == tQ15 then okW (satWord a.tag ((a.num * b.num + (2 ^ 14 : Nat)) / (2 ^ 15 : Nat)))
    else if a.tag == tQ31 then okW (satWord a.tag ((a.num * b.num + (2 ^ 30 : Nat)) / (2 ^ 31 : Nat)))
    else trap 0x03

/-- DIV and REM: truncated; a divisor of 0 gives FAULT, the one overflow saturates. -/
def divOp (rem : Bool) (a b : PfWord) : Except PfTrap PfVal :=
  checked [a, b] <| sameTag a b <|
    if isInteger a.tag then
      okW (if b.num = 0 then faultWord else if rem then mkWord a.tag (a.num.tmod b.num) else satWord a.tag (a.num.tdiv b.num))
    else trap 0x03

/-! ### FP group (R208, R218) -/

/-- A two-operand F32 operation. -/
def fpOp (f : Word → Word → Word × Word) (a b : PfWord) : Except PfTrap PfVal :=
  checked [a, b] <| sameTag a b <|
    if a.tag == tF32 then (let r := f a.val b.val; .ok { w := ⟨tF32, r.1⟩, flags := r.2 }) else trap 0x03

/-- A one-operand F32 operation. -/
def fpUnary (f : Word → Word × Word) (a : PfWord) : Except PfTrap PfVal :=
  checked [a] <| if a.tag == tF32 then (let r := f a.val; .ok { w := ⟨tF32, r.1⟩, flags := r.2 }) else trap 0x03

/-- FMA: rd + ra * rb. -/
def fmaOp (d a b : PfWord) : Except PfTrap PfVal :=
  checked [d, a, b] <| sameTag a b <| sameTag d a <|
    if a.tag == tF32 then (let r := f32Fma d.val a.val b.val; .ok { w := ⟨tF32, r.1⟩, flags := r.2 }) else trap 0x03

/-! ### Conversion (R209) -/

/-- CVT's integer tags: BOOL counts as one of range 0-1. [log 57 DEDUCED] -/
def cvtInt (t : BitVec 4) : Bool := t == tBool || isInteger t

/-- CVT to a target tag; the target's legality is an encoding check. [log 57 DEDUCED] -/
def cvtOp (t : BitVec 4) (wrap : Bool) (a : PfWord) : Except PfTrap PfVal :=
  checked [a] <|
    if t == tRaw then okW (rawWord a.val)
    else if cvtInt a.tag && cvtInt t then okW (if wrap then wrapWord t a.num else satWord t a.num)
    else if cvtInt a.tag && t == tF32 then (let r := f32OfInt a.num 0; .ok { w := ⟨tF32, r.1⟩, flags := r.2 })
    else if a.tag == tF32 && (cvtInt t || isQ t) then
      match f32ToInt a.val (if isQ t then tagWidth t - 1 else 0) (isQ t) with
      | none => .ok { w := faultWord, flags := flagNV }
      | some v => okW (satWord t v)
    else if (a.tag == tS16 && t == tQ15) || (a.tag == tQ15 && t == tS16) || (a.tag == tS32 && t == tQ31) ||
        (a.tag == tQ31 && t == tS32) then okW ⟨t, a.val⟩
    else if a.tag == tQ15 && t == tQ31 then okW (mkWord tQ31 (a.num * (2 ^ 16 : Nat)))
    else if a.tag == tQ31 && t == tQ15 then okW (satWord tQ15 ((a.num + (2 ^ 15 : Nat)) / (2 ^ 16 : Nat)))
    else if isQ a.tag && t == tF32 then
      (let r := f32OfInt a.num (-((tagWidth a.tag : Int) - 1)); .ok { w := ⟨tF32, r.1⟩, flags := r.2 })
    else trap 0x03

/-- RETAG. -/
def retagOp (t : BitVec 4) (a : PfWord) : Except PfTrap PfVal :=
  checked [a] <| if a.tag == tRaw then okW (if (⟨t, a.val⟩ : PfWord).inRange then ⟨t, a.val⟩ else faultWord) else trap 0x03

/-! ### Bit fields and CRC (R218) -/

/-- Position and length of a BFX or BFI immediate. -/
def bfPos (imm : BitVec 16) : Nat := bitsOf imm.toNat 9 5
def bfLen (imm : BitVec 16) : Nat := bitsOf imm.toNat 4 0 + 1

/-- The field runs past bit 31: the spec states no result. -/
def bfOpen (imm : BitVec 16) : Bool := 32 < bfPos imm + bfLen imm

/-- BFX of the field `v`. [log 57 DEDUCED] -/
def bfxResult (imm : BitVec 16) (v : Nat) : PfWord :=
  if imm.getLsbD 10 then mkWord tS32 (signedOf (bfLen imm) v) else u32Word (v % 2 ^ bfLen imm)

/-- BFX; `open_` stands for the field where it runs past bit 31. -/
def bfxOp (imm : BitVec 16) (open_ : Nat) (a : PfWord) : Except PfTrap PfVal :=
  checked [a] <| if a.tag == tRaw || a.tag == tU32 then
    okW (bfxResult imm (if bfOpen imm then open_ else a.val.toNat / 2 ^ bfPos imm)) else trap 0x03

/-- BFI; bits past bit 31 fall away. [log 57 DEDUCED] -/
def bfiOp (imm : BitVec 16) (d a : PfWord) : Except PfTrap PfVal :=
  checked [d, a] <| sameTag d a <| if a.tag == tRaw || a.tag == tU32 then
    let m : Word := BitVec.ofNat 32 ((2 ^ bfLen imm - 1) * 2 ^ bfPos imm)
    okW ⟨d.tag, (d.val &&& ~~~m) ||| ((a.val <<< bfPos imm) &&& m)⟩ else trap 0x03

/-- One step of CRC-32C over the bits of a byte string, as a register without inversions. [log 57 DEDUCED] -/
def crcStep (c : Word) (n : Nat) : Word :=
  (List.range n).foldl (fun c _ => if c.getLsbD 0 then (c >>> 1) ^^^ 0x82F63B78 else c >>> 1) c

/-- CRC: the four bytes of ra, lowest first, into rd. -/
def crcOp (d a : PfWord) : Except PfTrap PfVal :=
  checked [d, a] <| if d.tag == tU32 && a.tag == tRaw then okW ⟨tU32, crcStep (d.val ^^^ a.val) 32⟩ else trap 0x03

/-! ### Branches (R205, R207) -/

/-- A branch condition on two words of the compare branches. -/
def branchOn (k : CmpKind) (neg : Bool) (a b : PfWord) : Except PfTrap (Bool × Word) :=
  if a.tag == tVoid || b.tag == tVoid then trap 0x01
  else if (poison [a, b]).isSome then trap 0x04
  else if a.tag = b.tag ∧ a.tag = tSeg ∧ k = .lt then trap 0x03
  else match compareTrue k a b with
    | .error t => .error t
    | .ok (r, f) =>
      let unordered := a.tag == tF32 && anyNan [f32View a.val, f32View b.val]
      .ok ((if neg then !r && !unordered else r), f)

/-- BT and BF. -/
def branchBool (want : Bool) (a : PfWord) : Except PfTrap (Bool × Word) :=
  if a.tag == tVoid then trap 0x01
  else if (poison [a]).isSome then trap 0x04
  else if a.tag == tBool then .ok ((a.val == 1) == want, 0) else trap 0x03

/-! ### Instruction words (R217) -/

def encR (op rd ra rb fn : Nat) : Word := BitVec.ofNat 32 (op * 2 ^ 26 + rd * 2 ^ 21 + ra * 2 ^ 16 + rb * 2 ^ 11 + fn)
def encI (op rd ra imm : Nat) : Word := BitVec.ofNat 32 (op * 2 ^ 26 + rd * 2 ^ 21 + ra * 2 ^ 16 + imm)
def encM (op rd ra sg off : Nat) : Word := BitVec.ofNat 32 (op * 2 ^ 26 + rd * 2 ^ 21 + ra * 2 ^ 16 + sg * 2 ^ 12 + off)
def encD (op x sgA ra sgB rb sub : Nat) : Word :=
  BitVec.ofNat 32 (op * 2 ^ 26 + x * 2 ^ 25 + sgA * 2 ^ 21 + ra * 2 ^ 16 + sgB * 2 ^ 12 + rb * 2 ^ 7 + sub)

end Sys2Proof.Machine
end

