-- ==== Sys2Proof/Machine/Store.lean ====
section
/-! DEFINITION. The record store's commands (R384-R406). -/

namespace Sys2Proof.Machine

/-! ### Writers and transactions (R389-R391, R404) -/

/-- Who may write a record type in an area (R384, R390): requesters 0 AO sequencer, 1 vault, 2 access island,
3 tag role, 4 keeper; areas 0 M, 1 W, 2 S. -/
def mayWriteRecord (who area type : Nat) (commit : Bool) : Bool :=
  if commit then type == 0x7F && (if area = 2 then who ≤ 2 else who == 4 || (area == 1 && (who == 0 || who == 3)))
  else match area with
    | 0 => who == 4 && type == 0x01
    | 1 => (who == 4 && (type == 0x01 || type == 0x02)) || ((who == 0 || who == 3) && type == 0x03)
    | _ => (who == 1 && (type ∈ [0x10, 0x11, 0x12, 0x13, 0x14, 0x20, 0x22, 0x23])) || (who == 2 && type == 0x21)

/-- A Hive-die requester. -/
def hiveRequester (who : Nat) : Bool := who == 1 || who == 2 || who == 4

/-- The store takes requests of a requester: VAO is present and not below its brown-out threshold (R436), and a
Hive-die request needs the link with its session key (R404). -/
def storeOpen (s : State) (who : Nat) : Bool :=
  s.pwr.vao && !s.pwr.brownout && (!hiveRequester who || (s.link.up && s.link.key.isSome))

/-- Lengths and identifiers of a record (R385, R387): pages of M and W are 256 bytes. -/
def recordFits (area type id : Nat) (payload : Blob) : Bool :=
  payload.length ≤ 2048 && id < 2 ^ 32 &&
  !(type == 0x01 && (payload.length ≠ 256 || (if area = 0 then 256 else 32) ≤ id))

/-- A record write enters the queue of its requester, or is refused before arbitration and logged (R404). -/
def recordWrite (who area type id : Nat) (txn commit delete : Bool) (payload : Blob) (s : State) : State :=
  if !mayWriteRecord who area type commit || !recordFits area type id payload || !storeOpen s who then
    logEvent 10 clsRefusal 0 0 (leBytes 1 who ++ leBytes 1 type) (emit (.storeRefused who area type id) s)
  else
    { s with store := { s.store with waiting := s.store.waiting ++
        [{ who := who, area := area, record := ⟨type, id, 0, txn, commit, delete, payload⟩ }] } }

/-- RECORD_WRITE. -/
def execRecordWrite (writer : Fin 5) (area : Fin 3) (rtype : Byte) (id : Nat) (txn commit delete : Bool) (payload : Blob)
    (s : State) : Res := conclude s (recordWrite writer area rtype.toNat id txn commit delete payload s)

/-- A grant of one record copy under R22, once the area's scan has finished (R391, R392). [log 92 DEDUCED] -/
def storeGrant (s : State) : State :=
  let t := s.store
  if t.inService.isSome || t.scanning || !s.pwr.vao || s.pwr.brownout then s
  else match rrPick 5 t.pointer fun w => t.waiting.any (·.who == w) with
  | none => s
  | some w =>
    match t.waiting.find? (·.who == w) with
    | none => s
    | some r => { s with store := { t with
        waiting := t.waiting.eraseP (·.who == w), pointer := rrNext 5 w, inService := some r } }

/-- STORE_GRANT. -/
def execStoreGrant (s : State) : Res := conclude s (storeGrant s)

/-- Copy B of the record with this SEQ is written. -/
def LogArea.finishB (l : LogArea) (q : Nat) : LogArea :=
  { l with pairs := l.pairs.map fun p => { p with recs := p.recs.map fun c =>
      match c.a, c.b with
      | some a, none => if a.seq = q then { c with b := some a } else c
      | _, _ => c } }

/-- The granted record copy is complete: copy A commits the record, which then waits for copy B; copy B is answered
(R388). A write of M or W that cannot fit is refused (R393). [log 92 DEDUCED] -/
def recordCopyComplete (s : State) : State :=
  match s.store.inService with
  | none => s
  | some r =>
    let t := { s.store with inService := none }
    if r.copyB then
      emit (.stored r.who r.area r.record.type r.record.id)
        (storeLine r.who { s with store := t.setArea r.area ((t.area r.area).finishB r.record.seq) })
    else match (t.area r.area).appendFit r.record false with
    | none =>
      emit (.storeRefused r.who r.area r.record.type r.record.id)
        (storeLine r.who { s with store := t })
    | some (l, c) =>
      let t := t.setArea r.area l
      countN (odKey 0x2200 7) c
        { s with store := { t with waiting := { r with record := { r.record with seq := l.seq }, copyB := true } :: t.waiting } }

/-- RECORD_COPY_COMPLETE. -/
def execRecordCopyComplete (s : State) : Res := conclude s (recordCopyComplete s)

/-- Records of open transactions of an area dropped: they never stand (R389). -/
def LogArea.abandon (l : LogArea) : LogArea :=
  { l with pairs := l.pairs.map fun p => { p with recs := p.recs.filter fun c =>
      match c.good with
      | some r => !r.txn || l.records.any (·.covers r.seq)
      | none => true } }

/-- The requester of open transactions resets: they are abandoned at once (R389). The keeper writes M and W. -/
def abandonKeeperTransactions (s : State) : State :=
  { s with store := { s.store with
      m := s.store.m.abandon, w := s.store.w.abandon,
      waiting := s.store.waiting.filter fun r => !(r.who == 4) } }

/-! ### Compaction (R393) -/

/-- A compaction of the area may begin: the reserve is the only FRESH pair left, and the last one began 10 ms ago or earlier
(328 AO periods). -/
def compactionDue (s : State) (l : LogArea) : Bool :=
  l.nextFresh.isNone && (l.pairs.getD l.cur {}).st ≠ .fresh &&
  (match l.compactedAo with | some t => decide (t + 328 ≤ s.clk.ao) | none => true)

/-- A slice of at most 200 us: it starts a compaction that is due, or carries one on; never in FIELD. -/
def compactionSlice (a : Nat) (s : State) : State :=
  let l := s.store.area a
  if !s.pwr.vao || (l.copying.isNone && !compactionDue s l) then s
  else
    let l := if l.copying.isNone then { l with compactedAo := some s.clk.ao } else l
    let (l', ended) := l.startCompact.copyFor 4000 4000
    countN (odKey 0x2200 7) ended.toNat { s with store := s.store.setArea a l' }

/-- COMPACTION_SLICE. -/
def execCompactionSlice (area : Fin 3) (s : State) : Res := conclude s (compactionSlice area s)

/-! ### Recovery (R394-R398, R400) -/

/-- A damaged copy of a log record as the scan finds it. [log 92 DEDUCED] -/
def damageCopy (d : CopyDamage) (area : Nat) (c : RecPos) : RecPos :=
  match d with
  | .torn a q b =>
    if a.val = area ∧ (c.a.orElse fun _ => c.b).any (·.seq == q.toNat) then (if b then { c with b := none } else { c with a := none })
    else c
  | .differ a q =>
    if a.val = area ∧ (c.a.orElse fun _ => c.b).any (·.seq == q.toNat) then
      { c with b := c.a.map fun r => { r with payload := r.payload ++ [0] } }
    else c
  | .counter _ _ => c

/-- The damage of one area. -/
def LogArea.damage (l : LogArea) (area : Nat) (ds : List CopyDamage) : LogArea :=
  { l with pairs := l.pairs.map fun p => { p with recs := p.recs.map fun c => ds.foldl (fun c d => damageCopy d area c) c } }

/-- Whether rule 2 finds two valid copies that differ. -/
def RecPos.differs (c : RecPos) : Bool := match c.a, c.b with | some a, some b => a.payload ≠ b.payload | _, _ => false

/-- Whether exactly one copy is valid. -/
def RecPos.single (c : RecPos) : Bool := c.a.isSome != c.b.isSome

/-- The type of the record at a position. -/
def RecPos.type (c : RecPos) : Nat := ((c.a.orElse fun _ => c.b).map (·.type)).getD 0

/-- Rule 2 at one position: a single valid copy is written into the other. -/
def RecPos.mend (c : RecPos) : RecPos := { c with a := c.a.orElse fun _ => c.b, b := c.b.orElse fun _ => c.a }

/-- Rule 2 applied to the types scanned; torn tails go. [log 92 DEDUCED] -/
def LogArea.repair (l : LogArea) (types : Nat → Bool) : LogArea :=
  { l with pairs := l.pairs.map fun p => { p with
      recs := (p.recs.filter fun c => c.a.isSome || c.b.isSome).map fun c => bif types c.type then c.mend else c } }

/-- Transactions with no committed COMMIT: runs of consecutive open records. -/
def LogArea.openTxns (l : LogArea) : Nat :=
  let os := (l.records.filter fun r => r.txn && !(l.records.any (·.covers r.seq))).map (·.seq)
  (os.filter fun q => !(os.any fun p => (p + 1) % 2 ^ 32 == q)).length

/-- Rule 2 over the record types of an area that the scan covers (R396): counts, events, repairs. -/
def scanRecords (a : Nat) (types : Nat → Bool) (ds : List CopyDamage) (s : State) : State :=
  let l := (s.store.area a).damage a ds
  let bad := l.positions.filter fun c => c.differs && types c.type
  let s := bad.foldl (fun s c => match c.a with
    | none => s
    | some r => logEvent 10 clsUnmasked 0x0029 (odKey 0x2200 3)
        (leBytes 1 (a + 1) ++ leBytes 1 r.type ++ leBytes 2 r.id ++ leBytes 4 r.seq) s) s
  let s := countN (odKey 0x2200 3) bad.length s
  let s := countN (odKey 0x2200 4) (l.positions.filter fun c => c.single && types c.type).length s
  { s with store := s.store.setArea a (l.repair types) }

/-- The scan of one log area (R396): rule 2, then transactions without a COMMIT are dropped; a key-replacement pending record
among them is counted by the vault (R341). [log 91 DEDUCED] -/
def scanArea (a : Nat) (ds : List CopyDamage) (s : State) : State :=
  let s := scanRecords a (fun _ => true) ds s
  let l := s.store.area a
  let s := countN (odKey 0x2350 4) (if a = 2 then l.pendingRecs.length else 0) s
  countN (odKey 0x2200 5) l.openTxns { s with store := s.store.setArea a l.abandon }

/-- The vault starts: replacements left without their COMMIT are discarded and counted (R341, R389). -/
def dropPending (s : State) : State :=
  countN (odKey 0x2350 4) s.store.sys.pendingRecs.length { s with store := { s.store with sys := s.store.sys.abandon } }

/-- The (TYPE, ID) pairs that damage of an area touches. -/
def damagedItems (a : Nat) (ds : List CopyDamage) (s : State) : List (Nat × Nat) :=
  let hit (r : LogRec) : Bool := ds.any fun d => match d with
    | .torn x q _ => x.val == a && r.seq == q.toNat
    | .differ x q => x.val == a && r.seq == q.toNat
    | .counter _ _ => false
  (((s.store.area a).records.filter hit).map fun r => (r.type, r.id)).eraseDups

/-- An item of area S as its owner finds it after the scan: the content that stands, or its default (R396). -/
def reloadItem (s : State) (it : Nat × Nat) : State :=
  let (type, id) := it
  let c := s.store.sys.content type id
  let s := if c.isSome then s else { s with store := { s.store with lost := s.store.lost ++ [(2, type, id)] } }
  if type = 0x23 then
    let k := id % 2 ^ 24
    match (findRow (k / 256) (k % 256)).bind (·.ty.bytes) with
    | some n => setVal k (match c with | some b => ofLe (b.take n) | none => odDefault k) s
    | none => setBlob k ((keptBlob s k).getD []) s
  else if type = 0x13 then setBlob (odKey 0x2300 5) ((keptBlob s (odKey 0x2300 5)).getD []) s
  else if type = 0x14 then setBlob (odKey 0x2300 3) ((keptBlob s (odKey 0x2300 3)).getD []) s
  else if type = 0x11 then
    { s with vault := { s.vault with gens := (s.vault.gens.filter (·.1.toNat ≠ id)) ++
        (match c with | some b => [(BitVec.ofNat 32 id, BitVec.ofNat 32 (ofLe b))] | none => []) } }
  else if type = 0x12 then
    match c with
    | none => { s with lf := { s.lf with keys := s.lf.keys.filter (·.index ≠ id) } }
    | some b => { s with lf := { s.lf with keys := s.lf.keys.map fun e =>
        if e.index = id then { e with id := ofLe (sub b 0 4), kind := ofLe (sub b 4 1), zones := ofLe (sub b 5 1) } else e } }
  else if type = 0x20 then
    (List.range 64).foldl (fun s i =>
      let x := streamAt s (64 * id + i)
      let v := match c with | some b => ofLe (sub b (4 * i) 4) | none => 0
      putStream (64 * id + i) (if x.state = 0 then x else if x.transmit then { x with resv := v } else { x with fresh := v }) s) s
  else if type = 0x21 then
    match c with
    | none => { s with lf := { s.lf with lock := vmod s.lf.lock id fun _ => {} } }
    | some b => { s with lf := { s.lf with lock := vmod s.lf.lock id fun _ =>
        { level := ofLe (sub b 0 1), locked := ofLe (sub b 1 1) ≠ 0, lockEnd := ofLe (sub b 4 4),
          times := (List.range (ofLe (sub b 2 1))).map fun i => ofLe (sub b (8 + 4 * i) 4) } } }
  else if type = 0x22 then
    { s with pairs := s.pairs.zipIdx.map fun (p, i) =>
        { p with retired := match c with | some b => (ofLe b).testBit i | none => false } }
  else s

/-- `restart(c)` of R398 for a counter whose cells are found so. -/
def restartCounter (c : Nat) (s : State) : State :=
  match s.store.counters[c]? with
  | none => s
  | some x =>
    let good := (if x.aGood then [x.a] else []) ++ (if x.bGood then [x.b] else [])
    let v := (good ++ (if x.intentGood then [x.intent] else [])).foldl max 0
    if v > x.a ∨ v > x.b ∨ ¬ x.aGood ∨ ¬ x.bGood then
      let s := { s with store := { s.store with counters := vmod s.store.counters c fun x =>
        { x with a := v, aGood := true, b := v, bGood := true } } }
      if good.all (· < v) then count (odKey 0x2200 6) s else count (odKey 0x2200 4) s
    else s

/-- The cells of a counter found damaged. -/
def damageCounter (s : State) (d : CopyDamage) : State :=
  match d with
  | .counter c part => { s with store := { s.store with counters := vmod s.store.counters c fun x =>
      if part = 0 then { x with aGood := false } else if part = 1 then { x with bGood := false } else { x with intentGood := false } } }
  | _ => s

/-- The device runs on harvested energy. -/
def inField (s : State) : Bool := s.pwr.dev == .field

/-- `tag_recover()` of R400. [log 78 DESIGN CHOICE] -/
def tagRecover (s : State) : State :=
  let t := s.store.tag
  let put (f o : Nat) (d : Blob) (c : List (Nat × Blob)) : List (Nat × Blob) := tagFilePut f o d c
  let s := match t.intent with
    | none => s
    | some i =>
      if t.commit ≠ i.journal then
        let t := if i.kind = 0 then
            { t with copyA := put 0xA103 (32 * i.index) i.oldLog (put i.file i.offset i.oldData t.copyA),
                     copyB := put 0xA103 (32 * i.index) i.oldLog (put i.file i.offset i.oldData t.copyB) }
          else { t with copyA := mapPut 0xA101 (tagFileGet 0xA101 t.copyB) t.copyA }
        if inField s then { s with store := { s.store with tag := { t with intent := none, imark := (t.imark + 1) % 2 ^ 32 } } }
        else counterAdd 4 1 { s with store := { s.store with tag := { t with intent := none } } }
      else
        let t := if i.kind = 0 then
            { t with copyA := put 0xA103 (32 * i.index) i.newLog (put i.file i.offset i.newData t.copyA),
                     copyB := put 0xA103 (32 * i.index) i.newLog (put i.file i.offset i.newData t.copyB) }
          else { t with copyB := mapPut 0xA101 (tagFileGet 0xA101 t.copyA) t.copyB }
        { s with store := { s.store with tag := { t with intent := none } } }
  if s.pwr.vao then
    let t := s.store.tag
    let add (c n : Nat) (s : State) : State := if n = 0 then s else counterAdd c n s
    let s := add 3 ((t.logSeq + 2 ^ 32 - t.foldseq) % 2 ^ 32) (add 4 t.imark (add 5 t.fmark s))
    { s with store := { s.store with tag := { s.store.tag with fmark := 0, imark := 0, foldseq := t.logSeq } } }
  else s

/-- The vault row under rule 2 (R326, R396): a single valid copy is written into the other; copies that differ are
counted and logged. -/
def scanVaultRow (s : State) : State :=
  let r := s.vault.row
  let s := if r.lcA.isSome != r.lcB.isSome then count (odKey 0x2200 4) s else s
  let differ : Bool := match r.lcA, r.lcB with | some a, some b => a ≠ b | _, _ => false
  let s := if differ then
      logEvent 10 clsUnmasked 0x0029 (odKey 0x2200 3) (leBytes 4 5 ++ leBytes 4 ((r.lcA.map (·.seq)).getD 0))
        (count (odKey 0x2200 3) s)
    else s
  let s := if r.shA.isSome != r.shB.isSome then count (odKey 0x2200 4) s else s
  { s with vault := { s.vault with row := { r with
      lcA := if differ then r.lcA else r.lcA.orElse fun _ => r.lcB, lcB := if differ then r.lcB else r.lcB.orElse fun _ => r.lcA,
      shA := r.shA.orElse fun _ => r.shB, shB := r.shB.orElse fun _ => r.shA } } }

/-- The start-up scan (R394): vault row, area T, area S, area W, area M. In FIELD only the vault row, area T and the
password and VERIFY records of W. The store serves again at SCAN_COMPLETE. [log 91 DEDUCED] -/
def indexScan (ds : List CopyDamage) (s : State) : State :=
  let s := { s with store := { s.store with scanning := true } }
  let s := tagRecover (scanVaultRow s)
  if inField s then scanRecords 1 (fun t => t == 0x02 || t == 0x03) ds s
  else
    let items := damagedItems 2 ds s
    let s := ds.foldl damageCounter s
    let s := (List.range 128).foldl (fun s c => restartCounter c s) s
    let s := scanArea 2 ds s
    let s := scanArea 0 ds (scanArea 1 ds s)
    items.foldl reloadItem s

/-- INDEX_SCAN. -/
def execIndexScan (damage : List CopyDamage) (s : State) : Res := conclude s (indexScan damage s)

/-! ### Counters and the snapshot (R397, R398, R401) -/

/-- A counter slot that is assigned (R398). -/
def counterAssigned (c : Nat) : Bool := c ≤ 5 || (8 ≤ c && c ≤ 16)

/-- An increment n ≥ 1 of one counter, on VAO. -/
def counterUpdate (c n : Nat) (s : State) : State :=
  if s.pwr.vao && counterAssigned c && 1 ≤ n then counterAdd c n s else s

/-- COUNTER_UPDATE. -/
def execCounterUpdate (counter : Fin 128) (n : Nat) (s : State) : Res := conclude s (counterUpdate counter n s)

/-- The vault replaces the snapshot, with VAO present (R401). -/
def snapshotReplace (content : Blob) (s : State) : State := if s.pwr.vao then snapshotPut content s else s

/-- SNAPSHOT_REPLACE. -/
def execSnapshotReplace (content : Blob) (s : State) : Res := conclude s (snapshotReplace content s)

/-! ### Areas M and W (R402, R403, R406) -/

/-- A page of area M or W (R385). -/
def pageAt (s : State) (a p : Nat) : Blob := subPad (((s.store.area a).content 0x01 p).getD []) 0 256

/-- Bytes of area M or W. -/
def areaRead (s : State) (a off n : Nat) : Blob :=
  (List.range n).map fun i => (pageAt s a ((off + i) / 256)).getD ((off + i) % 256) 0

/-- Append pages: one alone, several as one transaction (R389). -/
def appendPages (l : LogArea) (ps : List (Nat × Blob)) : Option (LogArea × Nat) :=
  match ps.map fun p => newRecord 0x01 p.1 p.2 with
  | [r] => l.appendFit r true
  | rs => l.appendTxn none rs

/-- A write of 1 to 4,096 bytes to M or W, one transaction (R406): refused whole where it cannot fit (R393). -/
def areaWrite (a off size : Nat) (d : Blob) (s : State) : Access :=
  if d = [] ∨ 4096 < d.length ∨ size < off + d.length then .error abRange
  else
    let p0 := off / 256
    let p1 := (off + d.length - 1) / 256
    let pages := (List.range (p1 + 1 - p0)).map fun i =>
      let p := p0 + i
      let old := pageAt s a p
      (p, (List.range 256).map fun j =>
        let x := 256 * p + j
        if off ≤ x ∧ x < off + d.length then d.getD (x - off) 0 else old.getD j 0)
    match appendPages (s.store.area a) pages with
    | none => .error abFull
    | some (l, c) => .ok (storeLine 4 (countN (odKey 0x2200 7) c { s with store := (s.store.setArea a l).grant 4 }))

/-- First protected page of area M (R402); 256 where none is. [log 94 DEDUCED] -/
def protectedFrom (bp : Nat) : Nat := if bp = 0 then 256 else if bp = 1 then 192 else if bp = 2 then 128 else 0

/-- The write of 0x2201/02. -/
def mWrite (x : Session) (d : Blob) (s : State) : Access :=
  if d ≠ [] ∧ protectedFrom (val s (odKey 0x2201 3)) * 256 < x.mOffset + d.length ∧ x.mOffset + d.length ≤ 65536 then .error abProtected
  else areaWrite 0 x.mOffset 65536 d s

/-- M_DATA_WRITE. -/
def mDataWrite (slot : Nat) (d : Blob) (s : State) : State :=
  writeEntry slot 0x2201 2 (.bytes d) true (fun x _ b => mWrite x b s) s

/-- M_DATA_WRITE. -/
def execMDataWrite (slot : Fin 16) (data : Blob) (s : State) : Res := conclude s (mDataWrite slot data s)

/-- BP[1:0] (R402): lowered only in PROVISIONED, DEBUG or RETURN. -/
def blockProtect (v : Nat) (s : State) : Access :=
  if v < val s (odKey 0x2201 3) ∧ ¬ (s.lc.state ∈ [1, 3, 4]) then .error abState
  else .ok (keepVal (odKey 0x2201 3) v s)

/-- The write of 0x2201/03. -/
def blockProtectWrite (slot v : Nat) (s : State) : State :=
  writeEntry slot 0x2201 3 (.num 1 v) true (fun _ n _ => blockProtect n s) s

/-- BLOCK_PROTECT_WRITE. -/
def execBlockProtectWrite (slot : Fin 16) (v : Nat) (s : State) : Res := conclude s (blockProtectWrite slot v s)

/-- The passwords of area W: read, write (R403). -/
def passwords (s : State) : Blob × Blob :=
  let b := subPad ((s.store.w.content 0x02 0).getD []) 0 32
  (b.take 16, b.drop 16)

/-- W rights of a session slot: may read, may write. MAKER needs no password; an all-zero password admits (R403). -/
def wRights (s : State) (slot : Nat) (x : Session) : Bool × Bool :=
  let (r, w) := passwords s
  let opened := s.store.wRights.find? (·.1 == slot)
  let canWrite : Bool := x.role == .maker || w == zeros 16 || (match opened with | some (_, b) => b | none => false)
  (canWrite || r == zeros 16 || opened.isSome, canWrite)

/-- The write of 0x2202/02. [log 94 DEDUCED] -/
def wWrite (slot : Nat) (x : Session) (d : Blob) (s : State) : Access :=
  if !(wRights s slot x).2 then .error abProtected else areaWrite 1 x.wOffset 8192 d s

/-- A write of W data. -/
def wDataWrite (slot : Nat) (d : Blob) (s : State) : State :=
  writeEntry slot 0x2202 2 (.bytes d) true (fun x _ b => wWrite slot x b s) s

/-- W_DATA_WRITE. -/
def execWDataWrite (slot : Fin 16) (data : Blob) (s : State) : Res := conclude s (wDataWrite slot data s)

/-- The VERIFY-state record of both references committed (R316, R403, type 0x03). [log 94 DEDUCED] -/
def commitPw (s : State) : State :=
  let b (p : PwState) : Blob := leBytes 2 (p.failures + p.blocked.toNat * 256) ++ leBytes 2 p.remaining
  (storePut 1 0x03 0 false (b s.store.verifyPw ++ b s.store.readPw) s).getD s

/-- A password failure: counted and committed before the answer; the eighth blocks for 10 minutes (R316). [log 94 DEDUCED] -/
def PwState.fail (p : PwState) : PwState :=
  if p.failures + 1 ≥ 8 then { failures := 8, blocked := true, remaining := 600 } else { p with failures := p.failures + 1 }

/-- A password offered for W (R403): `write` selects the write password, whose count NFC VERIFY shares. [log 94 DEDUCED] -/
def offerPassword (slot : Nat) (write : Bool) (pw : Blob) (s : State) : State × Option Nat :=
  let p := if write then s.store.verifyPw else s.store.readPw
  let good := if write then (passwords s).2 else (passwords s).1
  let put (q : PwState) (s : State) : State :=
    commitPw { s with store := if write then { s.store with verifyPw := q } else { s.store with readPw := q } }
  if p.blocked then (s, some abState)
  else if pw = good ∨ good = zeros 16 then
    let s := put { p with failures := 0 } s
    let had := s.store.wRights.any fun e => e.1 == slot && e.2
    ({ s with store := { s.store with wRights := (s.store.wRights.filter (·.1 ≠ slot)) ++ [(slot, write || had)] } }, none)
  else
    let s := put p.fail s
    ((if p.fail.blocked then logEvent 10 clsSecurity 0 (if write then odKey 0x4200 0x10 else odKey 0x2202 5) [] s else s), some abProof)

/-- The write of a password to 0x2202/03 or /04. [log 94 DEDUCED] -/
def passwordWrite (slot sb : Nat) (pw : Blob) (s : State) : State :=
  match sessionAt s slot with
  | none => s
  | some x =>
    match checkedWrite s x 0x2202 sb (.bytes pw) true fun _ _ => .ok s with
    | .error c => answerAbort slot c s
    | .ok _ =>
      match offerPassword slot (sb == 4) pw s with
      | (s', none) => answerDone slot [] s'
      | (s', some c) => answerAbort slot c s'

/-- The read password of area W. -/
def readPasswordWrite (slot : Nat) (pw : Blob) (s : State) : State := passwordWrite slot 3 pw s
/-- READ_PASSWORD_WRITE. -/
def execReadPasswordWrite (slot : Fin 16) (password : Blob) (s : State) : Res := conclude s (readPasswordWrite slot password s)

/-- The write password of area W. -/
def writePasswordWrite (slot : Nat) (pw : Blob) (s : State) : State := passwordWrite slot 4 pw s
/-- WRITE_PASSWORD_WRITE. -/
def execWritePasswordWrite (slot : Fin 16) (password : Blob) (s : State) : Res := conclude s (writePasswordWrite slot password s)

/-- Both passwords set, by MAKER (R403). -/
def storePasswords (b : Blob) (s : State) : Access :=
  match storePut 1 0x02 0 false b s with | some s' => .ok s' | none => .error abFull

/-- The write of 0x2202/06. [log 93 DESIGN CHOICE] -/
def setPasswordsWrite (slot : Nat) (d : Blob) (s : State) : State :=
  writeEntry slot 0x2202 6 (.bytes d) true (fun _ _ b => storePasswords b s) s

/-- SET_PASSWORDS. -/
def execSetPasswords (slot : Fin 16) (data : Blob) (s : State) : Res := conclude s (setPasswordsWrite slot data s)

/-! ### The end of the scan (R317, R392) -/

/-- The answer to VERIFY (R315, R316, R322, R403): S(WTX) goes out before the count is written (R317), a correct password gives
the role WORKSHOP, a wrong one counts, and the eighth blocks. -/
def verifyAnswer (pw : Blob) (s : State) : State :=
  let good := (passwords s).2
  let p := s.store.verifyPw
  let put (q : PwState) (s : State) : State := commitPw (emit (.nfc [0xF2, 4]) { s with store := { s.store with verifyPw := q } })
  if p.blocked then emit (.nfc [0x69, 0x83]) s
  else if pw = good ∨ good = zeros 16 then
    let s := put { p with failures := 0 } s
    emit (.nfc [0x90, 0x00]) { s with nfc := { s.nfc with role := .workshop } }
  else
    let q := p.fail
    let s := put q s
    let s := if q.blocked ∧ s.pwr.vao then logEvent 13 clsSecurity 0 (odKey 0x4200 0x10) [] s else s
    emit (.nfc (beBytes 2 (0x63C0 + (8 - q.failures)))) s

/-- The scan has ended: its time is kept, waiting requests are served, and a READ BINARY or VERIFY held under S(WTX) is
answered (R317, R392). -/
def scanComplete (micros : Nat) (s : State) : State :=
  let s := setVal (odKey 0x2200 2) (min micros 0xFFFFFFFF) { s with store := { s.store with scanning := false } }
  match s.nfc.heldRead, s.nfc.heldVerify with
  | some (f, o, n), _ => emit (.nfc (sub (tagFile s f) o n ++ [0x90, 0x00])) { s with nfc := { s.nfc with heldRead := none } }
  | none, some pw => verifyAnswer pw { s with nfc := { s.nfc with heldVerify := none } }
  | none, none => s

/-- SCAN_COMPLETE. -/
def execScanComplete (micros : Nat) (s : State) : Res := conclude s (scanComplete micros s)

end Sys2Proof.Machine
end

