-- ==== Sys2Proof/Machine/KeeperOps.lean ====
section
/-! DEFINITION. Keeper images and a reset of the keeper alone (R256, R257, R420, R461, R462, R469). -/

namespace Sys2Proof.Machine

/-! ### Keeper images (R461) -/

def kimgField (h : Blob) (o hi lo : Nat) : Nat := bitsOf (ofLe (sub h o 4)) hi lo
def kimgBuild (b : Blob) : Nat := kimgField b 0x08 31 0
def kimgAbi (b : Blob) : Nat := kimgField b 0x10 31 0
def kimgFmtMin (b : Blob) : Nat := kimgField b 0x14 15 0
def kimgFmtMax (b : Blob) : Nat := kimgField b 0x14 31 16
def kimgLen (b : Blob) : Nat := kimgField b 0x18 31 0
def kimgEntry (b : Blob) : Nat := kimgField b 0x1C 31 0
/-- Header and code, which the signature block covers. -/
def kimgBody (b : Blob) : Blob := b.take (128 + kimgLen b)
/-- h_keeper (R330). -/
def kimgHash (b : Blob) : Blob := sha384 (kimgBody b)

/-- Signer `i` of the signature block: its key hashes to `kh`, and its signature verifies. -/
def kimgSigner (b : Blob) (i : Nat) (kh : Blob) : Bool :=
  let o := 128 + kimgLen b + 48 + 129 * i
  let key := sub b o 65
  keyHash key == kh && Config.ecdsaVerify key (kimgBody b) (sub b (o + 65) 64)

/-- The image is well formed and fits the silicon (R461). [log 67 DEDUCED] -/
def keeperFits (s : State) (b : Blob) : Bool :=
  kimgField b 0 31 0 == 0x5045454B && kimgField b 4 31 0 == 0x00800100 && kimgField b 0x0C 23 18 == 0 &&
  (sub b 0x20 0x5C).all (· == 0) && kimgField b 0x7C 31 0 == crc32c (b.take 124) && kimgLen b ≤ 2 ^ 21 &&
  b.length == 128 + kimgLen b + 48 + (if s.fuse.makerKh = [] then 129 else 258) &&
  (kimgField b 0x0C 15 0).testBit s.fuse.stepping && (kimgField b 0x0C 17 16).testBit (if isSmall s then 1 else 0) &&
  kimgField b 0x0C 31 24 ≤ 0x11 && sub b (128 + kimgLen b) 48 == kimgHash b &&
  kimgSigner b 0 (bytesOf 32 Config.fuseVendorKh) && (s.fuse.makerKh == [] || kimgSigner b 1 s.fuse.makerKh)

/-- A slot's image fits; the one the device was delivered with does. [log 67 DEDUCED] -/
def slotFits (s : State) (k : KeeperSlot) : Bool := match k.image with | none => true | some b => keeperFits s b

/-- Slot 0 is A, slot 1 is B. -/
def keeperSlot (s : State) (i : Nat) : Option KeeperSlot := if i = 0 then s.kpr.slotA else s.kpr.slotB
def setKeeperSlot (i : Nat) (k : Option KeeperSlot) (s : State) : State :=
  { s with kpr := if i = 0 then { s.kpr with slotA := k } else { s.kpr with slotB := k } }

/-- The image of a slot starts: it becomes the one last started, and the keeper begins with its values. -/
def startSlot (i : Nat) (s : State) : State :=
  let k := (keeperSlot s i).getD {}
  let r := { s.kpr with running := true, recovery := false, lastStarted := i, half := false, watchPs := nowPs s, startPs := nowPs s }
  { s with
    kpr := match k.image with
      | none => { r with build := 0, abi := 0, fmtMin := 0x0100, fmtMax := 0x0100, hash := (List.range 48).map Config.factoryKeeperHash }
      | some b => { r with build := kimgBuild b, abi := kimgAbi b, fmtMin := kimgFmtMin b, fmtMax := kimgFmtMax b, hash := kimgHash b }
    keeper := { coreid := 0x10, imem := 0x80000, status := 9,
                pc := match k.image with | none => 0 | some b => kimgEntry b } }

/-! ### The watchdog and a reset of the keeper alone (R256, R257) -/

/-- The time of the last restart of each processor counts: a third within 60 s asks for a cold boot (R469). [log 65 DEDUCED] -/
def restartTimes (s : State) (l : List Nat) : List Nat := nowPs s :: l.filter fun t => nowPs s < t + 60 * secPs

/-- Every session closed (R407, R420); slot 15 starts as INSPECT again. -/
def closeSessions (s : State) : State :=
  let s := (List.range 15).foldl (fun s i => closeSession i s) s
  let s := putSession 15 (some { transport := .keeperFirmware, endpoint := 32 }) s
  { s with sess := { s.sess with sdo := Vector.replicate 10 .none, window := {}, download := none } }

/-- The other slot can take over: confirmed, and its image fits (R462). [log 65 DEDUCED] -/
def fallbackSlot (s : State) : Option Nat :=
  let i := 1 - s.kpr.lastStarted
  match keeperSlot s i with
  | some k => if k.confirmed && slotFits s k then some i else none
  | none => none

/-- The image last started is confirmed. -/
def runningConfirmed (s : State) : Bool := ((keeperSlot s s.kpr.lastStarted).map (·.confirmed)).getD true

/-- Outstanding lane requests complete, and their answers are discarded (R369). -/
def discardLaneAnswers (l : LanesSt) : LanesSt :=
  let mark (p : LanePass) : LanePass := { p with discard := p.discard || p.req.isSome }
  { l with
    answers := []
    queue := l.queue.map fun (op, r, _) => (op, r, true)
    lane := l.lane.map fun x => { x with dynamic := x.dynamic.map mark, waitDyn := x.waitDyn.map mark } }

/-- What the keeper had under way is lost with it: its vault and lane answers, its open transactions, its sessions, its
part in the time reference (R257, R196, R369, R389). [log 65 DEDUCED] -/
def dropKeeperWork (s : State) : State :=
  let s := abandonKeeperTransactions (closeSessions s)
  let lost := s.vault.repl.filter fun r => r.requester == 0 && r.enrol.isNone
  let s := countN (odKey 0x2350 4) lost.length (lost.foldl (fun s r => discardJournal r.journal s) s)
  let s := { s with
    vault := { s.vault with answers := [], repl := s.vault.repl.filter fun r => !(r.requester == 0 && r.enrol.isNone) }
    lanes := discardLaneAnswers s.lanes }
  let s := (List.range 24).foldl (fun s n => if (portAt s n).eth.asCapable then leaveGptp n s else s) s
  match s.comb.active with
  | some c => if c.tsrc = 1 then loseReference s else s
  | none => s

/-- A reset of the keeper alone: cause 1 watchdog, 2 double trap, 3 miscompare, 4 update (R257). The third within 60 s
asks for a cold boot, unless the slot choice of R462 has another image to run (R469). [log 65 DEDUCED] -/
def keeperReset (cause : Nat) (s : State) : State :=
  let times := restartTimes s s.kpr.resetTimes
  let s := count (odKey 0x3B20 3) { s with
    kpr := { s.kpr with running := false, lastCause := cause, half := false, resetTimes := times }
    keeper := { coreid := 0x10, imem := 0x80000, status := 9 } }
  let s := logEvent 0 clsMasked 0x0009 (odKey 0x3B20 3) (leBytes 1 cause ++ leBytes 4 s.kpr.build) s
  let s := dropKeeperWork s
  if 3 ≤ times.length ∧ (runningConfirmed s ∨ (fallbackSlot s).isNone) then bootDue 2 s else s

/-- A processor restart other than the keeper's is logged with its processor and TCODE (R469, R470). [log 111 DESIGN CHOICE] -/
def logRestart (src processor tcode : Nat) (s : State) : State :=
  logEvent src clsUnmasked 0x0025 0 (leBytes 1 processor ++ leBytes 1 tcode) s

/-- The access sequencer restarts from its image (R469): the round is abandoned, SLR_A and SLR_B go low, the session ends,
and no zone counts a failure. -/
def accessRestart (tcode : Nat) (s : State) : State :=
  let times := restartTimes s s.kpr.accessTimes
  let s := endSession (slrLow { s with
    kpr := { s.kpr with accessTimes := times }
    acore := { coreid := 0x12, isalvl := 0x10, status := 9 }
    uwb := { s.uwb with round := none, exchange := none } })
  let s := logRestart 12 0x12 tcode s
  if 3 ≤ times.length then bootDue 2 s else s

end Sys2Proof.Machine
end

