-- ==== Sys2Proof/Machine/PairOps.lean ====
section
/-! DEFINITION. Worker pairs, columns and the end of a window (R241-R252). -/

namespace Sys2Proof.Machine

/-- Pair `p` and column `c`. -/
def pairAt (s : State) (p : Nat) : PairSt := (s.pairs[p]?).getD {}
def modPair (p : Nat) (f : PairSt → PairSt) (s : State) : State := { s with pairs := vmod s.pairs p f }
def colAt (s : State) (c : Nat) : ColSt := (s.cols[c]?).getD {}
def modCol (c : Nat) (f : ColSt → ColSt) (s : State) : State := { s with cols := vmod s.cols c f }

/-- The core of pair `p`. -/
def wpAt (s : State) (p : Nat) : PfCore := (s.wp[p]?).getD {}

/-- The pair that holds a column (0x3B00/03). -/
def holderOf (s : State) (c : Nat) : Option Nat := (List.range 16).find? fun p => (pairAt s p).column == some c

/-- Pairs that run column `c`'s window in progress. -/
def runners (s : State) (c : Nat) : List Nat :=
  (List.range 16).filter fun p => match (pairAt s p).run with | some r => r.col == c | none => false

/-- Key of pair `p`'s object block. -/
def pairKey (p sb : Nat) : Nat := odKey (0x3B10 + p) sb

/-- Event source of a pair's cluster (R432). -/
def clusterSource (p : Nat) : Nat := 4 + p / 4

/-- A pair's state changes: an event and the keeper's line 6 (R256, R458). -/
def setPairState (p : Nat) (st : FnState) (s : State) : State :=
  if (pairAt s p).st = st then s
  else keeperLine 6 (logEvent (clusterSource p) clsState st.portCode (pairKey p 2) [] (modPair p (fun x => { x with st := st }) s))

/-- The window of column `c` has its final outcome: its runs end and its snapshot goes. -/
def finishWindow (c : Nat) (s : State) : State :=
  let s := (runners s c).foldl (fun s p => modPair p (fun x => { x with run := none }) s) s
  modCol c (fun x => { x with win := none, snap := [] }) s

/-- Case data of a window's event: window ID (2), column, pair. [log 111 DESIGN CHOICE] -/
def winData (r : WinRun) (p : Nat) : Blob := leBytes 2 r.win ++ leBytes 1 r.col ++ leBytes 1 p

/-- WCET of a run's window, in cycles. -/
def wcetOf (s : State) (r : WinRun) : Nat :=
  match s.comb.active.bind fun c => c.win? r.win with | some e => winWcet e | none => 0

/-- A run has used up its WCET cycles (R246). -/
def wcetUsed (s : State) (p : Nat) (r : WinRun) : Bool := wcetOf s r + r.base ≤ (wpAt s p).cyc

/-- A trap ends the run of pair `p` and with it the window: nothing is committed, nothing rerun (R238, R246). [log 60 DEDUCED] -/
def runTrapped (p : Nat) (s : State) : State :=
  match (pairAt s p).run with
  | none => s
  | some r =>
    let k := wpAt s p
    let s := setVal (pairKey p 5) (k.tcode.toNat % 256 + k.tpc.toNat % 2 ^ 16 * 2 ^ 8 + k.tinfo.toNat * 2 ^ 32) s
    let s := logEvent (clusterSource p) clsRefusal k.tcode.toNat (odKey 0x3B01 4)
      (winData r p ++ leBytes 2 k.tpc.toNat ++ leBytes 2 k.tinfo.toNat) (count (odKey 0x3B01 4) s)
    finishWindow r.col s

/-- WCET cycles are used up before WEND has completed: OVERRUN, in the same way (R246). [log 60 DEDUCED] -/
def runOverrun (p : Nat) (s : State) : State :=
  match (pairAt s p).run with
  | none => s
  | some r =>
    finishWindow r.col (logEvent (clusterSource p) clsRefusal 0 (odKey 0x3B01 5) (winData r p) (count (odKey 0x3B01 5) s))

/-- WEND has completed on pair `p` (R220, R246). [log 60 DEDUCED] -/
def runEnded (p : Nat) (s : State) : State :=
  modPair p (fun x => { x with run := x.run.map fun r => { r with ended := some .wend } }) s

end Sys2Proof.Machine
end

