-- ==== Sys2Proof/Machine/ProfOps.lean ====
section
/-! DEFINITION. How a Profold core issues an instruction: cores, memory, pipeline, traps (R210-R240, R255). A command of the
instruction set is the issue of one instruction at the core's program counter. -/

namespace Sys2Proof.Machine

/-! ### Cores -/

/-- The core a command names. [log 64 DEDUCED] -/
def coreOf (c : CoreId) (s : State) : PfCore :=
  match c with
  | .wp p => s.wp[p]
  | .keeper => s.keeper
  | .vault => s.vcore
  | .access => s.acore

/-- It changed. -/
def modCore (c : CoreId) (f : PfCore → PfCore) (s : State) : State :=
  match c with
  | .wp p => { s with wp := vmod s.wp p f }
  | .keeper => { s with keeper := f s.keeper }
  | .vault => { s with vcore := f s.vcore }
  | .access => { s with acore := f s.acore }

/-- The core can issue at all: a worker is powered and runs a window that has neither ended nor used up its WCET (R241, R246),
the others are powered and run an image that the boot ROM accepted (R240). -/
def coreRuns (c : CoreId) (s : State) : Bool :=
  match c with
  | .wp p => s.pwr.hive && s.pwr.pairs[p] &&
    (match (pairAt s p).run with | some r => r.ready && r.ended.isNone && !wcetUsed s p r | none => false)
  | .keeper => s.pwr.hive && s.kpr.running && !s.kpr.recovery
  | .vault => s.pwr.hive && s.kpr.vaultOk
  | .access => s.pwr.access && s.kpr.accessOk

/-- It issues now (R220, R236, R485). -/
def canIssue (c : CoreId) (s : State) : Bool :=
  let k := coreOf c s
  coreRuns c s && !(k.waiting && k.ipend &&& k.imask == 0) && !k.halted && (!k.debugHalt || k.debugStep)

/-- Load-delay mode (R222). -/
def PfCore.loadDelay (k : PfCore) : Bool := k.status.getLsbD 3
def PfCore.user (k : PfCore) : Bool := !k.status.getLsbD 0

/-! ### Data memory (R201, R242, R255) -/

/-- A word of a core's own memory; VOID where nothing has been written. -/
def PfCore.word (k : PfCore) (a : Nat) : PfWord := (mapGet a k.mem).getD {}
def PfCore.putWord (k : PfCore) (a : Nat) (w : PfWord) : PfCore :=
  { k with mem := if w = {} then mapDel a k.mem else mapPut a w k.mem }

/-- The image a bank of the Comb store was loaded from. [log 64 DEDUCED] -/
def bankImage (s : State) (b : Nat) : Blob := if b ≠ s.comb.bank then s.comb.image else s.comb.activeImage

/-- The parts of an image that a bank holds, in the order of R32's list: the offset of each in the image, and its length.
Routes, route lists and PDUs stand in the signal SRAM; graph and certificate are not resident. -/
def bankParts (img : Blob) : List (Nat × Nat) :=
  [0, 1, 2, 3, 7, 10].map (fun k => ((dirEntry img k).2.1, (dirEntry img k).2.2.1)) ++ [(0x30, 64)]

/-- The image offset of byte `o` of a bank, where the parts stand one behind the other, each from a 64-byte boundary on. -/
def bankOffset : List (Nat × Nat) → Nat → Option Nat
  | [], _ => none
  | (base, len) :: rest, o =>
    if o < len then some (base + o) else if o < roundUp len 64 then none else bankOffset rest (o - roundUp len 64)

/-- A word of a bank; 0 where no resident part stands. [log 64 DEDUCED] -/
def bankWord (img : Blob) (a : Nat) : Word :=
  BitVec.ofNat 32 (ofLe ((List.range 4).map fun i => match bankOffset (bankParts img) (4 * a + i) with
    | some o => img.getD o 0
    | none => 0))

/-- A word written into a bank that is LOADING: the bytes of its resident parts. -/
def putBankWord (img : Blob) (a : Nat) (w : Word) : Blob :=
  (List.range 4).foldl (fun b i => match bankOffset (bankParts img) (4 * a + i) with
    | some o => if o < b.length then patch b o [BitVec.ofNat 8 (w.toNat >>> (8 * i))] else b
    | none => b) img

/-- What the object dictionary window reads at word `a` (R418). [log 64 DEDUCED] -/
def odWindowLoad (s : State) (a : Nat) : PfWord :=
  let w := s.sess.window
  let raw (n : Nat) : PfWord := rawWord (BitVec.ofNat 32 n)
  match a with
  | 0 => raw w.cmd
  | 1 => raw w.slot
  | 2 => raw w.offset
  | 3 => raw w.length
  | 4 => raw w.status
  | 5 => raw w.total
  | 0x10 => match w.value with | some (t, v) => ⟨BitVec.ofNat 4 t, BitVec.ofNat 32 v⟩ | none => {}
  | 0x11 => match w.value with | some (t, _) => ⟨BitVec.ofNat 4 t, BitVec.ofNat 32 w.valueHi⟩ | none => {}
  | a => if 0x100 ≤ a ∧ 4 * (a - 0x100) < w.data.length then raw (ofLe (subPad w.data (4 * (a - 0x100)) 4)) else {}

/-- A store into the window. A write to CMD starts a request, which the window's commands serve; while one is busy it is
ignored and logged. [log 64 DEDUCED] -/
def odWindowStore (a : Nat) (v : PfWord) (s : State) : State :=
  let w := s.sess.window
  let n := v.val.toNat
  let put (w : OdWindow) : State := { s with sess := { s.sess with window := w } }
  match a with
  | 0 => if w.status = 0xFFFFFFFF then logEvent 0 clsRefusal 0 0 (leBytes 4 n) s else put { w with status := 0xFFFFFFFF, cmd := n }
  | 1 => put { w with slot := n % 16 }
  | 2 => put { w with offset := n }
  | 3 => put { w with length := n }
  | 0x10 => put { w with value := if v.tag == tVoid then none else some (v.tag.toNat, n) }
  | 0x11 => put { w with valueHi := n }
  | a => if 0x100 ≤ a ∧ 4 * (a - 0x100) < 4193280 then put { w with data := patch w.data (4 * (a - 0x100)) (leBytes 4 n) } else s

/-- A keeper access that is past its memories: it reads VOID or is discarded, and is logged (R255). [log 64 DEDUCED] -/
def strayAccess (a : Nat) (s : State) : State := logEvent 0 clsRefusal 0 0 (leBytes 4 a) s

/-- A load from a core's physical data space. DRAM holds payloads only, which read as RAW. [log 64 DEDUCED] -/
def loadWord (c : CoreId) (a : Nat) (s : State) : PfWord × State :=
  match c with
  | .keeper =>
    if a < 0x80000 then (s.keeper.word a, s)
    else if 0x01000000 ≤ a ∧ a < 0x01100000 then (odWindowLoad s (a - 0x01000000), s)
    else if 0x02000000 ≤ a ∧ a < 0x02200000 then
      (rawWord (bankWord (bankImage s ((a - 0x02000000) / 0x100000)) (a % 0x100000)), s)
    else if 0x80000000 ≤ a then (rawWord (s.keeper.word a).val, s)
    else ({}, strayAccess a s)
  | .wp p => (if a < 32768 then (s.wp[p]).word a else {}, s)
  | c => ((coreOf c s).word a, s)

/-- The STORE routes' data words of a window (R44, R247). -/
def storeTargets (s : State) (w : Nat) : List Nat :=
  match s.comb.active with
  | none => []
  | some c => match c.win? w with
    | none => []
    | some e => ((c.listRoutes (winOutList e) (winOutCount e)).filter fun r => rtKind r == 3).map rtTarget

/-- A store. On a worker a word a STORE route names also goes to the column's output staging (R247). -/
def storeWord (c : CoreId) (a : Nat) (w : PfWord) (s : State) : State :=
  match c with
  | .keeper =>
    if a < 0x80000 then modCore c (·.putWord a w) s
    else if 0x01000000 ≤ a ∧ a < 0x01100000 then odWindowStore (a - 0x01000000) w s
    else if 0x02000000 ≤ a ∧ a < 0x02200000 then
      if s.comb.state == .loading ∧ (a - 0x02000000) / 0x100000 ≠ s.comb.bank then
        { s with comb := { s.comb with image := putBankWord s.comb.image (a % 0x100000) w.val } }
      else strayAccess a s
    else if 0x80000000 ≤ a then modCore c (·.putWord a (if w.val = 0 then {} else rawWord w.val)) s
    else strayAccess a s
  | .wp p =>
    if a < 32768 then
      let s := modCore c (·.putWord a w) s
      match (pairAt s p).run with
      | some r => if (storeTargets s r.win).contains a then
          modPair p (fun x => { x with run := some { r with staging := mapPut a w r.staging } }) s else s
      | none => s
    else s
  | c => modCore c (·.putWord a w) s

/-- The input word of the window that the snapshot engine writes into word `a` at the end of the cycle in progress (R244). -/
def meetingWord (c : CoreId) (a : Nat) (s : State) : Option Nat :=
  match c with
  | .wp p => (pairAt s p).run.bind fun r =>
    let t := (s.wp[p]).cyc - r.base
    (List.range 8).findSome? fun i => match (colAt s r.col).snap[8 * t + i]? with
      | some (b, _, _) => if b = a then some (8 * t + i) else none
      | none => none
  | _ => none

/-- A store of the core and the snapshot engine meet at a word (R233): the memory's pointer says who comes first. The flag: the
engine does, so that what the core stores after it stands and a reservation on the word is lost. [log 63 DEDUCED] -/
def meet (c : CoreId) (a : Nat) (s : State) : Bool × State :=
  match meetingWord c a s with
  | none => (false, s)
  | some i =>
    let first := (coreOf c s).memPtr = 1
    let s := modCore c (fun k => { k with memPtr := if first then rrNext 2 0 else rrNext 2 1 }) s
    if first then
      (true, match c with | .wp p => modPair p (fun x => { x with run := x.run.map fun r => { r with skip := r.skip ++ [i] } }) s | _ => s)
    else (false, s)

/-- A store by the core itself ends its reservation on the word (R232). -/
def storeOwn (c : CoreId) (a : Nat) (w : PfWord) (s : State) : State :=
  modCore c (fun k => if (k.resv.map (·.1)) = some a then { k with resv := none } else k) (storeWord c a w (meet c a s).2)

/-- A write of some words by another agent ends a reservation on one of them (R232). -/
def loseReservation (c : CoreId) (words : Nat → Bool) (s : State) : State :=
  modCore c (fun k => match k.resv with | some (a, _) => if words a then { k with resv := none } else k | none => k) s

/-! ### Segments (R214-R216) -/

/-- Fields of a descriptor. -/
def sgLimit (d : BitVec 64) : Nat := bitsOf d.toNat 31 8
def sgBase (d : BitVec 64) : Nat := bitsOf d.toNat 63 32

/-- What an access needs besides U in user state. -/
inductive Need where
  | load | store | atomic
  deriving DecidableEq, Repr

/-- The offset of a base register (R215 step 1). -/
def baseOffset (w : PfWord) : Except PfTrap Int :=
  if w.tag == tVoid then trap 0x01 else if isInteger w.tag then .ok w.num else trap 0x03

/-- The checks of R215 for an offset; the word address accessed. [log 58 DEDUCED] -/
def segCheck (k : PfCore) (sg : Fin 16) (need : Need) (off : Int) : Except PfTrap Nat :=
  let d := k.sg[sg]
  let info := BitVec.ofInt 32 off
  if !d.getLsbD 0 then .error ⟨0x07, info⟩
  else if off < 0 ∨ (sgLimit d : Int) < off then .error ⟨0x05, info⟩
  else if !(match need with | .load => d.getLsbD 1 | .store => d.getLsbD 2 | .atomic => d.getLsbD 4) || (k.user && !d.getLsbD 3) then
    .error ⟨0x06, info⟩
  else .ok ((sgBase d + off.toNat) % 2 ^ 32)

/-- The address of LD, ST, LRW, SCW and STT. -/
def address (k : PfCore) (need : Need) (ra : Fin 32) (sg : Fin 16) (off : BitVec 12) : Except PfTrap Nat :=
  match baseOffset k.g[ra] with
  | .error t => .error t
  | .ok b => segCheck k sg need (b + off.toInt)

/-- The address of LDP and STP: segment and offset stand in a SEG register. -/
def addressSeg (k : PfCore) (need : Need) (ra : Fin 32) (off : BitVec 12) : Except PfTrap Nat :=
  let w := k.g[ra]
  if w.tag == tVoid then trap 0x01
  else if w.tag == tSeg then
    segCheck k ⟨segNo w.val % 16, Nat.mod_lt _ (by decide)⟩ need (unsignedOf 28 (segOff w.val + off.toInt))
  else trap 0x03

/-! ### The pipeline (R223-R226) -/

/-- A write in flight put behind those due in the same cycle or earlier. -/
def insertPending (p : PfPending) : List PfPending → List PfPending
  | [] => [p]
  | q :: r => if p.due < q.due then p :: q :: r else q :: insertPending p r

/-- One write lands. -/
def PfCore.landOne (k : PfCore) : PfTarget → PfCore
  | .reg r w => { k with g := k.g.set r w }
  | .load r w => { k with g := k.g.set r w }
  | .acc a v => { k with acc := k.acc.set a v }

/-- The result of the load or SCW just before, which the next instruction does not see in load-delay mode (R226). -/
def PfCore.shadowed (k : PfCore) : Option PfPending := if k.loadDelay then k.prevLoad.map (·.2.2) else none

/-- Every write due at the end of an earlier cycle lands, in the order of cycles and issue (R223, R225). -/
def PfCore.settle (k : PfCore) : PfCore :=
  let keep := k.shadowed
  let due (p : PfPending) : Bool := p.due < k.cyc && some p ≠ keep
  { (k.pend.filter due).foldl (fun k p => k.landOne p.what) k with pend := k.pend.filter fun p => !due p }

/-- A write of a register with distance `d` (R224). -/
def PfCore.write (k : PfCore) (r : Fin 32) (w : PfWord) (d : Nat) : PfCore :=
  { k with pend := insertPending ⟨k.cyc + d - 1, .reg r w⟩ k.pend }
def PfCore.writeAcc (k : PfCore) (a : Fin 2) (v : PfAcc) (d : Nat) : PfCore :=
  { k with pend := insertPending ⟨k.cyc + d - 1, .acc a v⟩ k.pend }
/-- A load's result on its way: distance 3, or 2 in load-delay mode, later by the time slow data takes. -/
def PfCore.loadResult (k : PfCore) (r : Fin 32) (w : PfWord) (slow : Nat) : PfPending :=
  ⟨k.cyc + (if k.loadDelay then 1 else 2) + slow, .load r w⟩

/-- It is on its way; in load-delay mode the next instruction does not see it, and a trap there discards it where `again`. -/
def PfCore.writeLoad (k : PfCore) (r : Fin 32) (w : PfWord) (slow : Nat) (again : Bool) : PfCore :=
  { k with
    pend := insertPending (k.loadResult r w slow) k.pend
    prevLoad := if k.loadDelay then some (k.pc, again, k.loadResult r w slow) else none }

/-- Input words of the window's snapshot that have been written by now (R244): word `k` at the end of cycle `k / 8` after the first
issue. A reservation on one of them is lost (R232). [log 63 DEDUCED] -/
def landSnapshot (c : CoreId) (s : State) : State :=
  match c with
  | .wp p => match (pairAt s p).run with
    | none => s
    | some r =>
      let n := min (8 * ((s.wp[p]).cyc - r.base)) (colAt s r.col).snap.length
      let fresh := (((colAt s r.col).snap.zipIdx.drop r.landed).take (n - r.landed)).filter fun e => !r.skip.contains e.2
      loseReservation c (fun a => fresh.any fun e => e.1.1 == a) (modPair p (fun x => { x with run := some { r with landed := n } })
        (modCore c (fun k => fresh.foldl (fun k e => k.putWord e.1.1 e.1.2.1) k) s))
  | _ => s

/-- Everything that lands before the core's next issue. -/
def settleCore (c : CoreId) (s : State) : State := landSnapshot c (modCore c PfCore.settle s)

/-- The cycle in which an instruction that reads these operands can issue (R224, R226): in load-delay mode a reader waits
for results that are not forwarded, and a divide for the divide unit. -/
def PfCore.readyAt (k : PfCore) (reads : List (Fin 32)) (acc : Option (Fin 2)) (divides : Bool) : Nat :=
  if k.loadDelay then
    let keep := k.shadowed
    let waits (p : PfPending) : Bool := some p ≠ keep && (match p.what with
      | .reg r _ => reads.contains r
      | .load r _ => reads.contains r
      | .acc a _ => acc == some a)
    let t := ((k.pend.filter waits).map fun p => p.due + 1).foldl max k.cyc
    if divides then (match k.lastDiv with | some d => max t (d + 12) | none => t) else t
  else k.cyc

/-! ### Instructions -/

/-- Where an instruction leads. -/
inductive Flow where
  | seq
  /-- A string instruction stops between words: the pc stays (R230). -/
  | stay
  /-- A branch or jump; none: not taken. -/
  | jump (target : Option Nat)
  | rep (n : Nat)
  | wend
  | wait
  | rte
  deriving DecidableEq, Repr

/-- What a body leaves: the state with its writes in flight, where it leads, and the cycles it took. -/
structure Done where
  s : State
  flow : Flow := .seq
  cycles : Nat := 1
  /-- A string instruction stopped at a word: its registers stand as before that word (R230). -/
  trap : Option PfTrap := none

/-- An instruction as it is issued. -/
structure Ins where
  /-- The word, for TINFO (R211, R239). -/
  word : Word
  /-- A field that must be 0 is not, or a selector is reserved (R221). -/
  bad : Bool := false
  /-- A PF1.1 instruction (R240). -/
  pf11 : Bool := false
  /-- Legal in a delay slot (R227), legal after REP (R228). -/
  slotOk : Bool := true
  repOk : Bool := true
  /-- WAIT: load-delay mode only; WEND: exposed mode only (R220). -/
  ldOnly : Bool := false
  exOnly : Bool := false
  /-- Privileged (R220). -/
  priv : Bool := false
  divides : Bool := false
  reads : List (Fin 32) := []
  accRead : Option (Fin 2) := none
  body : State → Except PfTrap Done

/-- Code 0x0B leaves the instruction word in TINFO (R211, R239): the word fetched. -/
def Ins.report (i : Ins) (k : PfCore) (t : PfTrap) : PfTrap :=
  if t.code = 0x0B then { t with info := (mapGet k.pc k.code).getD i.word } else t

/-- A trap of the core (R226, R232, R235, R236, R238). In exposed mode it ends the window; in load-delay mode it enters the
handler, discards the result of a load just before and goes back to it, and with EXL set halts the core. [log 54 DEDUCED; log 55 DEDUCED] -/
def takeTrap (c : CoreId) (t : PfTrap) (tpc : Nat) (s : State) : State :=
  let k := coreOf c s
  if !k.loadDelay then
    let s := modCore c (fun k => { k with
      tcode := BitVec.ofNat 32 t.code, tinfo := t.info, tpc := BitVec.ofNat 32 tpc, resv := none, cyc := k.cyc + 1 }) s
    match c with
    | .wp p => runTrapped p s
    | _ => s
  else if k.status.getLsbD 2 then
    let s := modCore c (fun k => { k with halted := true, resv := none }) s
    match c with
    | .keeper => keeperReset 2 s
    | .vault => vaultRestart s
    | .access => accessRestart t.code s
    | .wp _ => s
  else
    let (tpc, pend) := match k.prevLoad with
      | some (a, true, p) => (a, k.pend.filter (· ≠ p))
      | _ => (tpc, k.pend)
    modCore c (fun k => { k with
      tpc := BitVec.ofNat 32 tpc, tcode := BitVec.ofNat 32 t.code, tinfo := t.info, tstatus := k.status,
      status := (k.status ||| stSup ||| stExl) &&& ~~~stIe,
      pc := k.tvec.toNat, pend := pend, prevLoad := none, resv := none, rep := none, repWord := none, slotTarget := none,
      cyc := k.cyc + 1 }) s

/-- WEND completes once every earlier instruction has (R220): all writes land. A run whose WEND completes later than WCET cycles
after its first issue is an OVERRUN (R246). -/
def completeWend (c : CoreId) (s : State) : State :=
  let s := modCore c (fun k =>
    let last := (k.pend.map fun p => p.due + 1).foldl max k.cyc
    { (k.pend.foldl (fun k p => k.landOne p.what) k) with pend := [], cyc := last }) s
  match c with
  | .wp p => if (pairAt s p).run.any fun r => wcetOf s r + r.base < (s.wp[p]).cyc then runOverrun p s else runEnded p s
  | _ => s

/-- The program counter and the modes after an instruction (R217, R220, R227, R228, R235). An iteration of a repeated
instruction but the last leaves the pc at it. [log 56 DEDUCED] -/
def advance (c : CoreId) (d : Done) : State :=
  let s := modCore c (fun k => { k with cyc := k.cyc + d.cycles }) d.s
  let k := coreOf c s
  let next := match k.slotTarget with | some t => t | none => (k.pc + 1) % 2 ^ 32
  let plain := modCore c (fun k => { k with pc := next, slotTarget := none, rep := none, repWord := none }) s
  match d.flow with
  | .seq => plain
  | .stay => s
  | .wait => modCore c (fun k => { k with waiting := k.ipend &&& k.imask = 0 }) plain
  | .jump t =>
    if k.loadDelay then modCore c (fun k => { k with pc := t.getD next }) s
    else modCore c (fun k => { k with pc := next, slotTarget := some (t.getD ((k.pc + 2) % 2 ^ 32)) }) s
  | .rep n =>
    if n = 0 then modCore c (fun k => { k with pc := (k.pc + 2) % 2 ^ 32 }) s
    else modCore c (fun k => { k with pc := next, rep := some n }) s
  | .rte => modCore c (fun k => { k with pc := k.tpc.toNat, status := statusWrite k.status k.tstatus }) s
  | .wend => completeWend c plain

/-- The word the core fetches, where its memory lists one. -/
def PfCore.codeAt (k : PfCore) : Option Word := mapGet k.pc k.code

/-- A fetched word that spells no instruction: a reserved major opcode or function (R218-R221). -/
def reservedWord (w : Word) : Bool := (Sys2Proof.decodeProfold .keeper w).isNone

/-- The command is the instruction the core fetches: its memory lists no word, or one that spells it; a repeated instruction is
the same at every iteration. -/
def PfCore.fetches (k : PfCore) (w : Word) : Bool :=
  (match k.codeAt with
   | none => true
   | some v => v == w || Sys2Proof.decodeProfold .keeper v == Sys2Proof.decodeProfold .keeper w) &&
  (match k.repWord with | none => true | some v => v == w)

/-- The checks before an instruction's own: fetch error and limit, delay slot and REP, encoding, privilege (R201, R217, R221, R227,
R228). [log 53 DEDUCED; log 54 DEDUCED] -/
def issueTrap (k : PfCore) (i : Ins) : Option PfTrap :=
  if k.badCode.contains k.pc then some ⟨0x10, 0⟩
  else if k.imem ≠ 0 ∧ k.imem ≤ k.pc ∧ k.codeAt.isNone then some ⟨0x11, i.word⟩
  else if k.codeAt.any reservedWord then some ⟨0x0B, k.codeAt.getD 0⟩
  else if (k.slotTarget.isSome && !i.slotOk) || (k.rep.isSome && !i.repOk) then some ⟨0x09, 0⟩
  else if i.bad || (i.pf11 && k.isalvl.toNat < 0x11) || (i.ldOnly && !k.loadDelay) || (i.exOnly && k.loadDelay) then some ⟨0x0B, k.codeAt.getD i.word⟩
  else if i.priv && k.user then some ⟨0x0A, 0⟩
  else none

/-- One iteration of an instruction after REP ends (R228): g29 is one lower, and the pc moves on after the last. [log 54 DEDUCED] -/
def iterate (c : CoreId) (i : Ins) (n : Nat) (d : Done) : State :=
  let d := { d with s := modCore c (fun k => k.write 29 (u32Word (n - 1)) 1) d.s }
  if n ≤ 1 then advance c d
  else modCore c (fun k => { k with cyc := k.cyc + d.cycles, rep := some (n - 1), repWord := some i.word }) d.s

/-- A core issues an instruction, or one iteration of an instruction that REP repeats. Where the core cannot issue, or fetches
another instruction, the command has no effect. [log 53 DEDUCED; log 54 DEDUCED] -/
def issue (c : CoreId) (i : Ins) (s : State) : State :=
  if !canIssue c s || !((coreOf c s).fetches i.word || (coreOf c s).codeAt.any reservedWord) then s
  else
    let s := settleCore c (modCore c (fun k => { k with debugStep := false, waiting := false, cyc := k.readyAt i.reads i.accRead i.divides }) s)
    let k := coreOf c s
    match issueTrap k i with
    | some t => takeTrap c t k.pc s
    | none => match i.body (modCore c (fun k => { k with prevLoad := none }) s) with
      | .error t => takeTrap c (i.report k t) k.pc s
      | .ok d => match d.trap, k.rep with
        | some t, _ => takeTrap c t k.pc d.s
        | none, some n => iterate c i n d
        | none, none => advance c d

/-! ### Shapes of bodies -/

/-- A result written to rd, with the distance of each mode, and its STATUS flags. -/
def writeResult (c : CoreId) (rd : Fin 32) (exposed ld : Nat) (r : Except PfTrap PfVal) (s : State) : Except PfTrap Done :=
  match r with
  | .error t => .error t
  | .ok v => .ok { s := modCore c (fun k =>
      { k.write rd v.w (if k.loadDelay then ld else exposed) with status := k.status ||| v.flags }) s }

/-- A branch on a condition. -/
def branchTo (c : CoreId) (disp : BitVec 16) (r : Except PfTrap (Bool × Word)) (s : State) : Except PfTrap Done :=
  match r with
  | .error t => .error t
  | .ok (taken, f) =>
    let k := coreOf c s
    .ok { s := modCore c (fun k => { k with status := k.status ||| f }) s,
          flow := .jump (if taken then some (unsignedOf 32 (k.pc + 1 + disp.toInt)) else none) }

/-- Slow data: how many cycles more a load from the keeper's DRAM takes is not stated. [log 56 DEDUCED] -/
def slowData (c : CoreId) (a : Nat) (s : State) : Nat × State :=
  match c with
  | .keeper => if 0x80000000 ≤ a then free (2 ^ 32) s else (0, s)
  | _ => (0, s)

/-- A load of the word at an address into rd. -/
def loadInto (c : CoreId) (rd : Fin 32) (reserve : Bool) (a : Except PfTrap Nat) (s : State) : Except PfTrap Done :=
  match a with
  | .error t => .error t
  | .ok a =>
    let (w, s) := loadWord c a s
    let (slow, s) := slowData c a s
    .ok { s := modCore c (fun k =>
      { k.writeLoad rd w slow k.rep.isNone with
        resv := if reserve then some (a, k.cyc) else k.resv }) s }

/-- A store of rd at an address; VOID traps unless `whole` (R204). -/
def storeFrom (c : CoreId) (rd : Fin 32) (whole : Bool) (a : Except PfTrap Nat) (s : State) : Except PfTrap Done :=
  match a with
  | .error t => .error t
  | .ok a =>
    let w := (coreOf c s).g[rd]
    if w.tag == tVoid && !whole then trap 0x01 else .ok { s := storeOwn c a w s }

end Sys2Proof.Machine
end

