-- ==== Sys2Proof/Machine/Window.lean ====
section
/-! DEFINITION. Windows on the worker pairs (R241-R252): start, miscompare, rerun, takeover, commit, drain, retirement. -/

namespace Sys2Proof.Machine

/-! ### Start (R244, R250) -/

/-- A listed spare of a column that is free (R248, R250): fitted, in service, powered, holding no column, not running, loading or
under requalification (R241). [log 61 DEDUCED] -/
def pairFree (s : State) (p : Nat) : Bool :=
  let x := pairAt s p
  pairUsable s p && s.pwr.pairs.toList.getD p false && x.st == .running && x.column.isNone && x.run.isNone && x.loading.isNone && x.requal ≠ 1

/-- The first free spare the active Comb lists for a column. [log 61 DEDUCED] -/
def freeSpare (s : State) (col : Nat) : Option Nat :=
  match s.comb.active with
  | none => none
  | some c => (mapSpares (c.mapWord col)).find? (pairFree s)

/-- The words of a window's snapshot, in IN_LIST order; a LOAD route under reload delivers VOID (R106, R112). [log 63 DEDUCED] -/
def takeSnapshot (s : State) (w : Nat) : List (Nat × PfWord × Bool) :=
  match s.comb.active with
  | none => []
  | some c => match c.win? w with
    | none => []
    | some e => ((c.rlist.drop (winInList e)).take (winInCount e)).filterMap fun x =>
      let i := bitsOf x.toNat 16 0
      (c.routes[i]?).bind fun r =>
        if rtKind r ≠ 2 then none
        else some (rtTarget r, if reloadingEntry s false i then {} else sigRead s (rtSig r), sigSealV (sigRaw s (rtSig r)))

/-- The code of some windows as a pair's instruction memory holds it: at the addresses it has in the section. [log 58 DEDUCED] -/
def codeWords (c : Comb) (ws : List Nat) : List (Nat × Word) :=
  let es := ws.filterMap c.win?
  c.code.zipIdx.filterMap fun e =>
    if es.any fun w => winCodeOfs w ≤ e.2 ∧ e.2 < winCodeOfs w + winCodeLen w then some (e.2, e.1) else none

/-- Pair `p` loads the code of some windows of the active Comb (R243, R248). -/
def loadCode (p : Nat) (ws : List Nat) (s : State) : State :=
  match s.comb.active with
  | none => s
  | some c => { s with wp := vmod s.wp p fun k => { k with code := codeWords c ws, badCode := [] } }

/-- Pair `p` loads the code of a column. -/
def loadColumn (p col : Nat) (s : State) : State :=
  match s.comb.active with
  | none => s
  | some c => loadCode p (c.winsOf col) s

/-- A worker core at a window start (R210, R244): data VOID, registers VOID, accumulators valid and 0, user state, sg0 over
the data memory with V, R, W and U, and the other descriptors invalid. [log 56 DEDUCED; log 58 DEDUCED] -/
def windowCore (p pc : Nat) (k : PfCore) : PfCore :=
  { coreid := BitVec.ofNat 32 p, isalvl := k.isalvl, imem := 32768, status := 0, pc := pc, debugHalt := k.debugHalt
    code := k.code, badCode := k.badCode, cyc := k.cyc, cycMark := k.cycMark, cycHi := k.cycHi, memPtr := k.memPtr
    sg := (Vector.replicate 16 (0 : BitVec 64)).set 0 (BitVec.ofNat 64 (32767 * 2 ^ 8 + 0x0F)) }

/-- A run begins on pair `p`. -/
def beginRun (p : Nat) (r : WinRun) (s : State) : State :=
  match s.comb.active.bind fun c => (c.win? r.win).map winCodeOfs with
  | none => s
  | some pc => modPair p (fun x => { x with run := some { r with base := (wpAt s p).cyc } }) { s with wp := vmod s.wp p (windowCore p pc) }

/-- A window is MISSED: nothing committed, counted and logged with the pair it was on, 0xFF for none (R246, R250, R470). -/
def windowMissed (col w pair : Nat) (s : State) : State :=
  finishWindow col (logEvent (4 + col / 4) clsUnmasked 0x0021 (odKey 0x3B01 6) (leBytes 2 w ++ leBytes 1 col ++ leBytes 1 pair)
    (count (odKey 0x3B01 6) s))

/-- Domain of pair `p` is on (R241). -/
def pairPowered (s : State) (p : Nat) : Bool := s.pwr.pairs.toList.getD p false

/-- The pair a start of the column runs on: a spare that has loaded the column for a drain, the holder while its domain is on, or
the first free spare, which then holds the column. The flag: its code is still to be loaded. [log 61 DEDUCED] -/
def startPair (s : State) (col : Nat) : Option (Nat × Bool) × State :=
  let drained := (List.range 16).find? fun q =>
    let x := pairAt s q
    x.loading == some col && x.column.isNone && (match x.loadedAt with | some t => t < s.clk.ticks | none => false)
  match drained with
  | some q =>
    let s := match holderOf s col with | some p => modPair p (fun x => { x with column := none }) s | none => s
    (some (q, false), keeperLine 6 (modPair q (fun x => { x with column := some col, loading := none, loadedAt := none }) s))
  | none => match (holderOf s col).filter (pairPowered s) with
    | some p => (some (p, (pairAt s p).loading.isSome), s)
    | none => match freeSpare s col with
      | some q =>
        let s := match holderOf s col with | some p => modPair p (fun x => { x with column := none }) s | none => s
        (some (q, true), keeperLine 6 (modPair q (fun x => { x with column := some col, loading := some col }) s))
      | none => (none, s)

/-- A window start that is due: the snapshot taken at the beginning of the tick, the run on the column's pair; MISSED where
no pair is free (R250). -/
def windowStart (col w : Nat) (s : State) : State :=
  let due := s.comb.now.any fun a => actType a == 2 && actWin a == w && actCol a == col
  if !due ∨ (colAt s col).win.isSome then s
  else
    let snap := match (colAt s col).next with
      | some (v, l) => if v = w then l else takeSnapshot s w
      | none => takeSnapshot s w
    let s := modCol col (fun _ => { win := some w, startTick := s.clk.ticks, snap := snap }) s
    match startPair s col with
    | (none, s) => windowMissed col w 0xFF s
    | (some (p, load), s) => beginRun p { win := w, col := col, kind := .first, ready := !load } s

/-- WINDOW_START. -/
def execWindowStart (col : Fin 16) (win : Nat) (s : State) : Res := conclude s (windowStart col win s)

/-! ### Retirement (R65, R251) -/

/-- The mask of retired pairs (0x3B00/02). -/
def retiredMask (s : State) : Nat := ((List.range 16).map fun p => if (pairAt s p).retired then 2 ^ p else 0).sum

/-- The mask is recorded in area S. [log 62 DEDUCED; log 93 DESIGN CHOICE] -/
def recordRetired (s : State) : State := commitS 0x22 0 (leBytes 2 (retiredMask s)) s

/-- A swap that check 4 stops: the bank is VERIFIED again with code 0x0D and the map word of the failing column (R65, R511). -/
def cancelSwap (detail : Nat) (s : State) : State :=
  keeperLine 4 (logEvent 1 clsRefusal 0x0D (odKey 0x3901 3) (leBytes 4 detail) (count (odKey 0x3905 2)
    { s with comb := { s.comb with state := .verified, refusal := 0x0D, detail := detail, armTicks := 0 } }))

/-- A standby bank that check 4 no longer admits goes back to VERIFIED with 0x0D (R65). -/
def recheckStandby (s : State) : State :=
  match s.comb.standby with
  | some c =>
    match s.comb.state, spareCheck s c with
    | .armed, some (_, d) => cancelSwap d s
    | _, _ => s
  | none => s

/-- A pair is retired: recorded, then logged; it holds no column and runs nothing (R251). -/
def retirePair (p : Nat) (s : State) : State :=
  if (pairAt s p).retired then s
  else
    let s := recordRetired (modPair p (fun x => { x with retired := true, column := none, run := none, loading := none, loadedAt := none }) s)
    recheckStandby (setPairState p .retired s)

/-! ### Miscompare (R245, R248, R250) -/

/-- The first miscompare of a window: the rerun on the same pair, and a shadow run on a free spare. [log 60 DEDUCED] -/
def firstMiscompare (p : Nat) (r : WinRun) (s : State) : State :=
  let s := beginRun p { win := r.win, col := r.col, kind := .rerun } s
  match freeSpare s r.col with
  | some q => beginRun q { win := r.win, col := r.col, kind := .shadow, ready := false } s
  | none => s

/-- A second one: the pair is retired; the shadow run goes on to commit on the spare, which holds the column from its next
start and loads its code, or the window is MISSED. [log 60 DEDUCED] -/
def secondMiscompare (p : Nat) (r : WinRun) (s : State) : State :=
  let s := retirePair p s
  match runners s r.col with
  | q :: _ =>
    let s := count (odKey 0x3B01 3) (modPair q (fun x => { x with column := some r.col, loading := some r.col }) s)
    keeperLine 6 (logEvent (clusterSource p) clsMasked 0x0002 (odKey 0x3B01 3) (winData r p ++ leBytes 1 q) s)
  | [] => windowMissed r.col r.win p s

/-- A lockstep difference on a pair. A shadow run that differs is given up; once its pair holds the column it is the
window's last run. [log 60 DEDUCED] -/
def miscompare (p : Nat) (s : State) : State :=
  match (pairAt s p).run with
  | none => s
  | some r =>
    if r.ended.isSome ∨ !r.ready then s
    else
      let s := count (pairKey p 6) s
      match r.kind with
      | .first => firstMiscompare p r s
      | .rerun => secondMiscompare p r s
      | .shadow =>
        if (pairAt s p).column = some r.col then secondMiscompare p r s
        else modPair p (fun x => { x with run := none }) s

/-- MISCOMPARE. -/
def execMiscompare (pair : Fin 16) (s : State) : Res := conclude s (miscompare pair s)

/-- The background load of a column ends: all its code stands in the pair's instruction memory (R248). -/
def columnLoaded (p : Nat) (s : State) : State :=
  match (pairAt s p).column, (pairAt s p).loading with
  | some _, some col => modPair p (fun x => { x with loading := none }) (loadColumn p col s)
  | _, _ => s

/-- A spare has loaded code and snapshot: the run it waits with begins; a background load ends. -/
def spareLoaded (p : Nat) (s : State) : State :=
  match (pairAt s p).run with
  | some r =>
    if !r.ready then
      let s := loadCode p [r.win] s
      modPair p (fun x => { x with run := some { r with ready := true, base := (wpAt s p).cyc } }) s
    else columnLoaded p s
  | none => columnLoaded p s

/-- SPARE_LOAD_COMPLETE. -/
def execSpareLoadComplete (pair : Fin 16) (s : State) : Res := conclude s (spareLoaded pair s)

/-! ### Commit (R122, R247) -/

/-- SEALV of what the window's STORE routes write (R122). -/
def storeSealv (c : Comb) (e : BitVec 256) (snap : List (Nat × PfWord × Bool)) : Bool :=
  let loads := (c.listRoutes (winInList e) (winInCount e)).filter fun r => rtKind r == 2
  let deps := (loads.zip snap).filter fun x => rtSealDep x.1
  !deps.isEmpty && deps.all fun x => x.2.2.2

/-- One STORE route writes its signal; a mismatch stores FAULT with VALUE 0. [log 63 DEDUCED; log 120 DESIGN CHOICE] -/
def storeRoute (r : BitVec 256) (w : PfWord) (sealv : Bool) (s : State) : State :=
  let bad := w.tag ≠ rtTag r ∧ w.tag ≠ 0xE ∧ w.tag ≠ 0xF
  let s := if bad then count (odKey 0x3A01 1) s else s
  sigWrite (rtSig r) (if bad then 0xF else w.tag) (if bad then 0 else w.val) sealv (rtAge r) s

/-- The clean run of pair `p` commits: the STORE values, then the window's transmit PDUs from the store as it then stands. [log 63 DEDUCED] -/
def commitRun (p : Nat) (r : WinRun) (s : State) : State :=
  match s.comb.active with
  | none => s
  | some c => match c.win? r.win with
    | none => s
    | some e =>
      let sealv := storeSealv c e (colAt s r.col).snap
      let k := wpAt s p
      let word (t : Nat) : PfWord := (mapGet t r.staging).getD ((mapGet t k.mem).getD {})
      let outs := ((c.rlist.drop (winOutList e)).take (winOutCount e)).map fun x => bitsOf x.toNat 16 0
      let s := outs.foldl (fun s i => match c.routes[i]? with
        | some rt => if rtKind rt = 3 ∧ !reloadingEntry s false i then storeRoute rt (word (rtTarget rt)) sealv s else s
        | none => s) s
      (c.pdus.zipIdx).foldl (fun s d =>
        if pduTransmit d.1 ∧ pduEmitWin d.1 = r.win ∧ !reloadingEntry s true d.2 then commitPdu (p / 4) d.2 d.1 s else s) s

/-- The window of a column whose WEND has completed clean commits; a rerun that does masks the first miscompare (R248). -/
def windowCommit (col : Nat) (s : State) : State :=
  match (runners s col).filterMap fun p => ((pairAt s p).run).bind fun r => if r.ended = some .wend then some (p, r) else none with
  | [] => s
  | (p, r) :: _ =>
    let s := count (odKey 0x3B01 1) (commitRun p r s)
    let s := if r.kind = .rerun then
        logEvent (clusterSource p) clsMasked 0x0001 (odKey 0x3B01 2) (winData r p) (count (odKey 0x3B01 2) s)
      else s
    finishWindow col s

/-- WINDOW_COMMIT. -/
def execWindowCommit (col : Fin 16) (s : State) : Res := conclude s (windowCommit col s)

/-- A run that has used up WCET cycles without WEND ends the window (R246). -/
def windowOverrun (col : Nat) (s : State) : State :=
  let used (p : Nat) : Bool := match (pairAt s p).run with
    | some r => r.ready && r.ended.isNone && wcetUsed s p r
    | none => false
  match (runners s col).find? used with
  | some p => runOverrun p s
  | none => s

/-- WINDOW_OVERRUN. -/
def execWindowOverrun (col : Fin 16) (s : State) : Res := conclude s (windowOverrun col s)

/-- The deadline of a column's window comes without a clean result: MISSED, and the pair that ran it is retired (R246). -/
def windowDeadline (col : Nat) (s : State) : State :=
  match (colAt s col).win, s.comb.active with
  | some w, some c => match c.win? w with
    | some e =>
      if s.clk.ticks < (colAt s col).startTick + winDeadline e then s
      else
        match (runners s col).find? fun p => (pairAt s p).column = some col with
          | some p => windowMissed col w p (retirePair p s)
          | none => windowMissed col w 0xFF s
    | none => s
  | _, _ => s

/-- WINDOW_DEADLINE. -/
def execWindowDeadline (col : Fin 16) (s : State) : Res := conclude s (windowDeadline col s)

/-! ### Drain and requalification (R251, R252, R458, R460) -/

/-- Free pairs of a cluster that its map names as spares. -/
def clusterFree (s : State) (k : Nat) : List Nat :=
  (List.range 4).map (4 * k + ·) |>.filter (pairFree s)

/-- A drain that would leave a cluster with window starts without a free spare: a holder's drain also takes one up. [log 61 DEDUCED] -/
def drainLeavesNone (s : State) (p : Nat) : Bool :=
  match s.comb.active with
  | none => false
  | some c =>
    let k := p / 4
    let starts := (List.range 4).any fun j => c.bears (4 * k + j)
    let left := ((clusterFree s k).filter (· ≠ p)).length
    starts && (if (pairAt s p).column.isSome then left ≤ 1 else left == 0)

/-- A pair starts (R458): it is a spare until the next swap. [log 61 DEDUCED] -/
def startPairUnit (p : Nat) (s : State) : State :=
  setPairState p .running (modPair p (fun x => { x with column := none, run := none, loading := none, loadedAt := none }) s)

/-- The effect of a write to a pair's Enable. -/
def effPairEnable (s : State) (p v : Nat) : Access :=
  let x := pairAt s p
  if x.retired then .error abState
  else if v = 0 then
    match x.st with
    | .running =>
      if drainLeavesNone s p then .error abState
      else
        let s := setPairState p .stopping (setVal (pairKey p 1) 0 s)
        .ok (match x.column with
          | some col => match freeSpare s col with
            | some q => modPair q (fun y => { y with loading := some col, loadedAt := none }) s
            | none => s
          | none => s)
    | .pending => .ok (setPairState p .stopping (setVal (pairKey p 1) 0 s))
    | _ => .ok (setVal (pairKey p 1) 0 s)
  else
    let s := setVal (pairKey p 1) 1 s
    .ok (match x.st with
      | .stopped => if bistOn s (0x10 + p) then setPairState p .pending s else startPairUnit p s
      | .stopping => setPairState p .pending s
      | _ => s)

/-- A write of 0x3B10 + p/01. -/
def pairEnableWrite (slot p v : Nat) (s : State) : State :=
  writeEntry slot (0x3B10 + p) 1 (numFor (0x3B10 + p) 1 v) true (fun _ n _ => effPairEnable s p n) s

/-- PAIR_ENABLE_WRITE. -/
def execPairEnableWrite (slot : Fin 16) (pair : Fin 16) (v : Nat) (s : State) : Res := conclude s (pairEnableWrite slot pair v s)

/-- A spare has loaded all of a draining column's code. -/
def drainLoaded (p : Nat) (s : State) : State :=
  match (pairAt s p).column, (pairAt s p).loading with
  | some _, _ => columnLoaded p s
  | none, some col => modPair p (fun x => { x with loadedAt := some s.clk.ticks }) (loadColumn p col s)
  | none, none => s

/-- DRAIN_LOAD_COMPLETE. -/
def execDrainLoadComplete (pair : Fin 16) (s : State) : Res := conclude s (drainLoaded pair s)

/-- The shut-down of a pair ends once it runs nothing and holds no column (R252). -/
def pairStopped (p : Nat) (s : State) : State :=
  let x := pairAt s p
  if x.run.isSome ∨ (x.column.isSome ∧ s.comb.active.isSome) ∨ bistOn s (0x10 + p) then s
  else match x.st with
  | .stopping => setPairState p .stopped (modPair p (fun y => { y with column := none, loading := none, loadedAt := none }) s)
  | .pending => startPairUnit p s
  | _ => s

/-- The effect of a write to Requalify: 1 starts the tests, on a pair that holds no column; the pair votes for its own domain
while they run (R438). [log 62 DEDUCED] -/
def effRequalify (s : State) (p v : Nat) : Access :=
  if v ≠ 1 then .error abRange
  else if (pairAt s p).column.isSome then .error abState
  else .ok (setVote (8 + p) (.pair (Fin.ofNat 16 p)) true (modPair p (fun x => { x with requal := 1 }) s))

/-- A write of 0x3B10 + p/07. -/
def requalifyWrite (slot p v : Nat) (s : State) : State :=
  writeEntry slot (0x3B10 + p) 7 (numFor (0x3B10 + p) 7 v) true (fun _ n _ => effRequalify s p n) s

/-- REQUALIFY. -/
def execRequalify (slot : Fin 16) (pair : Fin 16) (v : Nat) (s : State) : Res := conclude s (requalifyWrite slot pair v s)

/-- The tests end: passed, the pair is STOPPED and no longer retired; failed, it is retired (R251). [log 62 DEDUCED] -/
def requalified (p : Nat) (pass : Bool) (s : State) : State :=
  if (pairAt s p).requal ≠ 1 then s
  else
  let s := setVote (8 + p) (.pair (Fin.ofNat 16 p)) false s
  if pass then
    let s := modPair p (fun x => { x with requal := 2, retired := false }) s
    setPairState p .stopped (recordRetired s)
  else
    let s := modPair p (fun x => { x with requal := 3 }) s
    logEvent (clusterSource p) clsRefusal 3 (pairKey p 7) [] (retirePair p s)

/-- REQUALIFY_COMPLETE. -/
def execRequalifyComplete (pair : Fin 16) (pass : Bool) (s : State) : Res := conclude s (requalified pair pass s)

end Sys2Proof.Machine
end

