-- ==== Sys2Proof/Machine/MemErr.lean ====
section
/-! DEFINITION. Faults of the hardware that show themselves within a tick: memory errors (R23, R24, R106, R201, R242, R470, R483) and
a miscompare of the vault (R338). -/

namespace Sys2Proof.Machine

/-! ### Where a word stands (R105, R483) -/

/-- First byte of each array of the signal SRAM, the arrays in the order of R105's table. -/
def sramRoutes : Nat := 0
def sramPdus : Nat := 0x400000
def sramStore : Nat := 0x500000
def sramLists : Nat := 0x600000
def sramStreams : Nat := 0x800000
def sramReassembly : Nat := 0x810000
def sramBindings : Nat := 0x848000

/-- Event source of a core (R432). -/
def coreSource : CoreId → Nat
  | .wp p => clusterSource p
  | .keeper => 0
  | .vault => 8
  | .access => 12

/-- Memory code of a core's memories (R483). -/
def coreMemory : CoreId → Nat
  | .wp p => 0x10 + p
  | .keeper => 0x05
  | .vault => 0x06
  | .access => 0x07

/-- Owner of the memory, its code, and the word's address within it. The addresses within the signal SRAM, and that a core's
instruction words stand behind its data words, are the model's. [log 119 DESIGN CHOICE] -/
def memPlace : MemWord → Nat × Nat × Nat
  | .burst w => (2, 0x01, w)
  | .route i => (3, 0x02, (sramRoutes + 32 * i) / 4)
  | .pdu i => (3, 0x02, (sramPdus + 64 * i) / 4)
  | .signal i => (3, 0x02, (sramStore + 8 * i) / 4)
  | .list b i => (3, 0x02, (sramLists + b.toNat * 0x100000 + 4 * i) / 4)
  | .stream j => (3, 0x02, (sramStreams + 16 * j) / 4)
  | .reassembly k w => (3, 0x02, (sramReassembly + 57344 * k) / 4 + w)
  | .binding i => (3, 0x02, (sramBindings + 16 * i) / 4)
  | .combStore b w => (1, 0x03 + b.toNat, w)
  | .data c w => (coreSource c, coreMemory c, w)
  | .code c w => (coreSource c, coreMemory c, 32768 + w)
  | .holdBuffer l w => (9, 0x20 + l, w)
  | .receiveQueue n w => (16 + n, 0x30 + n, w)

/-- The event of a memory error (R470). -/
def memEvent (m : MemWord) (uncorrectable : Bool) (s : State) : State :=
  let (src, code, addr) := memPlace m
  logEvent src (if uncorrectable then clsUnmasked else clsMasked) (if uncorrectable then 0x0027 else 0x0006) 0
    (leBytes 1 code ++ leBytes 3 addr) s

/-! ### What an uncorrectable error does -/

/-- A signal store entry reads as FAULT until its next write (R106). [log 120 DESIGN CHOICE] -/
def sigPoison (i : Nat) (s : State) : State :=
  let e := sigRaw s i
  sigPut i (sigMake 0 0xF (sigWseq e) (sigNoAge e) (sigExpiry e) (sigExp e) (sigSealV e)) s

/-- A stream in use is restored from its record (R106, R133). -/
def streamRestore (j : Nat) (s : State) : State :=
  let x := streamAt s j
  if x.state = 0 then s else activateStream j x.transmit (putStream j {} s)

/-- A route or PDU entry is reloaded, and acts as absent until then (R106). [log 38 DESIGN CHOICE] -/
def beginReload (pdu : Bool) (i : Nat) (s : State) : State :=
  if reloadingEntry s pdu i then s else { s with sig := { s.sig with reloading := s.sig.reloading ++ [(pdu, i)] } }

/-- An uncorrectable error: a route or PDU entry is reloaded, which logs the case when it ends; a word of a pair shows up as a
miscompare (R242); every other case is logged, and a data word reads as FAULT with payload 0, an instruction word traps when it is
fetched (R201). What it does elsewhere is not stated: the event alone. [log 119 DESIGN CHOICE] -/
def uncorrectable (m : MemWord) (s : State) : State :=
  match m with
  | .route i => beginReload false i s
  | .pdu i => beginReload true i s
  | .signal i => sigPoison i (memEvent m true s)
  | .stream j => streamRestore j (memEvent m true s)
  | .data (.wp p) _ => miscompare p (memEvent m true s)
  | .code (.wp p) _ => miscompare p (memEvent m true s)
  | .data c w => modCore c (fun k => k.putWord w ⟨tFault, 0⟩) (memEvent m true s)
  | .code c w => modCore c (fun k => { k with badCode := if k.badCode.contains w then k.badCode else k.badCode ++ [w] }) (memEvent m true s)
  | m => memEvent m true s

/-! ### A fault -/

/-- A fault of the hardware. A single-bit error is corrected on read and logged (R106, R201). -/
def hwFault (s : State) : HwFault → State
  | .memory m false => memEvent m false s
  | .memory m true => uncorrectable m s
  | .vaultMiscompare => { s with vault := { s.vault with upset := s.vault.upset + 1 } }

/-- The cycle counter of a core after another tick of 800 cycles: it counts the cycles in which nothing issues (R213). A worker that
runs a window is held to the cycles of its issues. [log 56 DEDUCED] -/
def PfCore.tickCycles (idle : Bool) (k : PfCore) : PfCore :=
  { k with cycMark := k.cycMark + 800, cyc := if idle then max k.cyc (k.cycMark + 800) else k.cyc }

/-- Every core that has power counts the tick's cycles. -/
def tickCores (s : State) : State :=
  if !s.pwr.hive then s
  else { s with
    keeper := s.keeper.tickCycles true
    vcore := s.vcore.tickCycles true
    acore := s.acore.tickCycles true
    wp := Vector.ofFn fun p => (s.wp[p]).tickCycles (pairAt s p).run.isNone }

end Sys2Proof.Machine
end

