-- ==== Sys2Proof/Machine/CombSeq.lean ====
section
/-! DEFINITION. The Comb sequencer: ticks, hyperperiod boundaries, steering, swaps, the standby bank, restore (R28-R38,
R43, R51, R62-R66, R452, R466, R468). -/

namespace Sys2Proof.Machine

/-- The Comb store and sequencer changed by `f`. -/
def modComb (f : CombSt → CombSt) (s : State) : State := { s with comb := f s.comb }

/-! ### Acceptance tags and the Comb set (R452, R466) -/

/-- The acceptance tag of a Comb; none where no share allows a USER key. [log 12 DEDUCED; log 21 DEDUCED] -/
def acceptTag (s : State) (c : Comb) : Option Blob :=
  match shareStatus s, s.vault.kd with
  | none, some kd =>
    some ((aesCmac (userKey s kd (label "COMB" ++ label "ACPT") [] false 32)
      (c.hash ++ leBytes 4 c.id ++ leBytes 4 c.generation ++ leBytes 2 c.keeperAbi ++ leBytes 2 c.stepping ++ leBytes 1 c.part)).take 16)
  | _, _ => none

/-- Entry `i` of the Comb set. -/
def setEntry (s : State) (i : Nat) : Option CombSetEntry := (s.comb.set[i]?).join
def putEntry (i : Nat) (e : Option CombSetEntry) (s : State) : State := modComb (fun m => { m with set := vmod m.set i fun _ => e }) s

/-- The entry that holds an image. -/
def entryOf (s : State) (img : Blob) : Option Nat :=
  (List.range 4).find? fun i => match setEntry s i with | some e => e.image == img | none => false

/-- The entry an accepted image takes: its own, a free one, or of those that hold neither the active nor the standby Comb
the one least recently activated. [log 20 DEDUCED] -/
def entryFor (s : State) (img : Blob) : Option Nat :=
  match entryOf s img with
  | some i => some i
  | none => match (List.range 4).find? fun i => (setEntry s i).isNone with
    | some i => some i
    | none =>
      ((List.range 4).filter fun i => match setEntry s i with
        | some e => e.image ≠ s.comb.activeImage && e.image ≠ s.comb.image
        | none => false).foldl (fun best i => match best with
          | none => some i
          | some j => if ((setEntry s i).map (·.activated)).getD 0 < ((setEntry s j).map (·.activated)).getD 0 then some i else some j) none

/-- The keeper stores an accepted Comb in the Comb set with its acceptance tag. [log 20 DEDUCED] -/
def storeAccepted (img : Blob) (c : Comb) (s : State) : State :=
  match entryFor s img with
  | none => s
  | some i =>
    let old := match setEntry s i with | some e => if e.image = img then e.activated else 0 | none => 0
    putEntry i (some { image := img, tag := acceptTag s c, activated := old }) s

/-- Insertion of an entry number, larger keys first. -/
def insertBy (key : Nat → Nat) (i : Nat) : List Nat → List Nat
  | [] => [i]
  | j :: r => if key j < key i then i :: j :: r else j :: insertBy key i r

/-- The order in which entries are tried (R466): by the activation log, latest first, then those never activated by
GENERATION. [log 20 DEDUCED] -/
def restoreOrder (s : State) : List Nat :=
  let act (i : Nat) : Nat := ((setEntry s i).map (·.activated)).getD 0
  let gen (i : Nat) : Nat := ((setEntry s i).map fun e => (parseComb e.image).generation).getD 0
  let have' := (List.range 4).filter fun i => (setEntry s i).isSome
  ((have'.filter fun i => act i ≠ 0).foldr (insertBy act) []) ++ ((have'.filter fun i => act i = 0).foldr (insertBy gen) [])

/-- Steps 1 to 4 of R452 on an image. -/
def restoreCheck (s : State) (img : Blob) : Check :=
  match imageFault img with
  | some d => some (0x01, d)
  | none =>
    let c := parseComb img
    firstOf [
      fun _ => wholeBad 0x02 (!signaturesGood s img),
      fun _ => wholeBad 0x03 (c.generation < val s (odKey 0x3904 1)),
      fun _ => compatCheck s c]

/-- An image placed in the standby bank, in this state. -/
def placeStandby (img : Blob) (c : Comb) (st : BankState) (s : State) : State :=
  modComb (fun m => { placeComb m.standbyBit c m with standby := some c, image := img, state := st, refusal := 0, detail := 0xFFFFFFFF, armTicks := 0 }) s

/-- Entries tried in turn (R452): the first whose five steps pass is active at the next tick; one whose tag alone does not
verify goes to the full verifier; without any the device stays in service-only mode. [log 109 DEDUCED] -/
def restoreFrom : List Nat → State → State
  | [], s => modComb (fun m => { m with restore := none }) s
  | i :: rest, s =>
    match setEntry s i with
    | none => restoreFrom rest s
    | some e =>
      match restoreCheck s e.image with
      | some (code, detail) => restoreFrom rest (refuseStandby code detail s)
      | none =>
        let c := parseComb e.image
        if e.tag.isSome ∧ e.tag = acceptTag s c then modComb (fun m => { m with restore := some i }) (placeStandby e.image c .armed s)
        else modComb (fun m => { m with restore := some i, state := .verifying, image := e.image, standby := none }) s

/-! ### The tick (R43, R111, R112, R279, R280) -/

/-- Two visits more: 32 entries per tick, in index order, wrapping (R111). -/
def ageSweep (s : State) : State :=
  let s' := (List.range 32).foldl (fun s i => sigSweepOne s ((s.sig.sweep + i) % 131072)) s
  { s' with sig := { s'.sig with sweep := (s.sig.sweep + 32) % 131072 } }

/-- The snapshots of the windows that start in this tick, taken before anything is written in it (R112). -/
def snapshotAll (s : State) : State :=
  (s.comb.now.filter fun a => actType a == 2).foldl (fun s a =>
    modCol (actCol a) (fun x => { x with next := some (actWin a, takeSnapshot s (actWin a)) }) s) s

/-- What every tick begins with, once its occurrences stand in `comb.now`. -/
def beginTick (s : State) : State :=
  let s := snapshotAll s
  let s := if planeDown s then modFab (fun b => { b with doubles := mapDoubles s.comb.now }) s else s
  let s := returnPlanes false s
  startRead (doorRead (ageSweep (modComb (fun m => { m with armTicks := if m.state = .armed then m.armTicks + 1 else m.armTicks }) s)))

/-- Occurrences expanded for tick `t`; past the end of the hyperperiod the boundary expands anew. -/
def dueAt (s : State) (t : Nat) : List (BitVec 64) :=
  match s.comb.active with
  | some c => if t < c.hyper then c.due t else []
  | none => []

/-- Tick 0: the first three ticks are expanded. -/
def expandFrom0 (s : State) : State := modComb (fun m => { m with now := dueAt s 0, ahead1 := dueAt s 1, ahead2 := dueAt s 2 }) s

/-! ### A bank becomes active (R63-R65, R126, R241, R243, R330) -/

/-- A gPTP or CAN reference is there for the Comb. [log 19 DEDUCED] -/
def referencePresent (s : State) (c : Comb) : Bool :=
  if c.tsrc = 1 then flag s (odKey 0x1040 9) && val s (odKey 0x1040 0xA) == c.tref
  else (portAt s c.tref).can.refState == 1 || (portAt s c.tref).can.refState == 3

/-- The new Comb's tick source applies (R35). [log 19 DEDUCED] -/
def setTickSource (c : Comb) (s : State) : State :=
  modComb (fun m => { m with refBack := false, tickState := if !c.disciplined then 0 else if referencePresent s c then 1 else 2 }) s

/-- The pair a column starts on, among those in service where one is. [log 14 DEDUCED] -/
def columnPair (s : State) (c : Comb) (col : Nat) : Option Nat :=
  if !c.bears col then none
  else
    let w := c.mapWord col
    match (mapPrimary w :: mapSpares w).find? fun p => pairUsable s p && (pairAt s p).st == .running with
    | some p => some p
    | none => startHolder s c col

/-- The column map applies: every pair takes the column that starts on it and loads its code (R243); pairs a used cluster's map
names are voted. -/
def applyMap (c : Comb) (s : State) : State :=
  let used (k : Nat) : Bool := (List.range 4).any fun i => c.bears (4 * k + i)
  let named (p : Nat) : Bool := used (p / 4) && (List.range 4).any fun i =>
    let w := c.mapWord (4 * (p / 4) + i)
    !mapAbsent w && (mapPrimary w == p || (mapSpares w).contains p)
  let colOf (p : Nat) : Option Nat := (List.range 16).find? fun col => columnPair s c col == some p
  let s' := (List.range 16).foldl (fun t p =>
    modPair p (fun x => { x with column := colOf p, run := none, loading := none, loadedAt := none }) t) s
  let s' := (List.range 16).foldl (fun t p => match colOf p with | some col => loadColumn p col t | none => t) s'
  keeperLine 6 { s' with
    cols := Vector.replicate 16 {}
    pwr := { s'.pwr with
      votePair := Vector.ofFn fun p => pairFitted s p && named p
      pairs := Vector.ofFn fun p => s'.pwr.pairs[p] && (s'.pwr.voteOwn[p] || (pairFitted s p && named p)) } }

/-- The limits of the new Comb meet the queues as they stand (R64): back-pressure where a queue is above them. -/
def applyLimits (s : State) : State :=
  (List.range 256).foldl (fun s q => pressure q s)
    (modFab (fun b => { b with spillFree := spillCapacity s - b.spillUsed }) s)

/-- The activation is appended to the log (R466). -/
def logActivation (s : State) : State :=
  match entryOf s s.comb.activeImage with
  | none => s
  | some i =>
    let n := s.comb.activations + 1
    putEntry i ((setEntry s i).map fun e => { e with activated := n }) (modComb (fun m => { m with activations := n }) s)

/-- The armed bank becomes active: banks and residency exchanged, limits, map, tick source, MR, streams and store as the
new Comb has them; what was active stays in the standby bank as VERIFIED. [log 19 DEDUCED] -/
def activate (c : Comb) (s : State) : State :=
  let old := s.comb.active
  let restored := s.comb.restore.isSome
  let s := modComb (fun m => { m with
    active := some c, activeImage := m.image, bank := 1 - m.bank
    standby := old, image := m.activeImage, state := if old.isSome then .verified else .empty
    armTicks := 0, restore := none, autoArm := false }) s
  let s := setTickSource c (applyMap c (applyLimits (rematchFlows (swapStore c s))))
  let s := match old with | some o => modSig (swapEmits o c) s | none => s
  let s := keeperLine 4 (logActivation (setMr (activateStreams s)))
  if restored then s else count (odKey 0x3905 1) s

/-- The armed swap of a boundary, with check 4 on the pairs as they are (R65). [log 17 DEDUCED] -/
def swapNow (s : State) : State :=
  match s.comb.standby with
  | none => s
  | some c =>
    match spareCheck s c with
    | some (_, d) => cancelSwap d s
    | none => activate c s

/-! ### TICK and HYPERPERIOD_BOUNDARY -/

/-- The Comb sequencer runs: the Hive die is on, a boot has reached tick 0 (R453, R454), and no entry has halted it (R444). -/
def sequencerOn (s : State) : Bool :=
  s.pwr.hive && !s.pwr.seqHalted &&
  (match s.pwr.boot with
   | none => true
   | some (true, k) => decide (9 ≤ k)
   | some (false, k) => decide (8 ≤ k))

/-- The bank's load has ended by the next tick: the verifier runs (R62). -/
def loadEnds (s : State) : State :=
  if s.comb.state = .loading ∧ s.kpr.running then keeperLine 4 (modComb (fun m => { m with state := .verifying }) s) else s

/-- The next tick begins (R28, R43). Where the hyperperiod ends with the tick in progress, the boundary is due instead; a
negative k ends it |k| slots early, so that the last ticks may not begin at all (R36). In service-only mode an armed bank
becomes active at the tick, which is tick 0 (R468). -/
def tickOn (s : State) : State :=
  if !sequencerOn s ∨ s.clk.boundaryDue then s
  else
    let next (n : Nat) (s : State) : State := { s with clk := { s.clk with tickPs := s.clk.tickPs + tickPs, slot := 0, tick := n, ticks := s.clk.ticks + 1 } }
    match s.comb.active with
    | none =>
      let s := next 0 s
      match s.comb.state, s.comb.standby with
      | .armed, some _ => beginTick (expandFrom0 (swapNow s))
      | _, _ => beginTick s
    | some c =>
      let k := steering s c
      if c.hyper ≤ s.clk.tick + 1 ∨ slotsToEnd s c k ≤ 64 then
        modComb (fun m => { m with dueK := k }) { s with clk := { s.clk with boundaryDue := true } }
      else
        let t := s.clk.tick + 1
        let s := next t s
        beginTick (modComb (fun m => { m with now := m.ahead1, ahead1 := m.ahead2, ahead2 := dueAt s (t + 2) }) s)

/-- A tick, with the hardware faults that have shown themselves since the last one; a core's cycle counter goes on. [log 9 DESIGN CHOICE; log 119 DESIGN CHOICE] -/
def tick (faults : List HwFault) (s : State) : State := tickOn (loadEnds (tickCores (faults.foldl hwFault s)))

/-- TICK. -/
def execTick (faults : List HwFault) (s : State) : Res := conclude s (tick faults s)

/-- The boundary (R29): steering, audit, returns of planes, buckets and lanes, the swap of a bank armed at least two ticks
ago, then tick 0 (R36, R63, R74, R95, R101, R367). [log 19 DEDUCED] -/
def boundary (s : State) : State :=
  match s.comb.active with
  | none => s
  | some c =>
    if !s.clk.boundaryDue || !sequencerOn s then s
    else
      let k := s.comb.dueK
      let s := modComb (fun m => { m with
        tickState := if m.refBack then 1 else m.tickState, refBack := false, lastK := k, phasePs := m.phasePs - k * (slotPs : Int) }) s
      let s := { s with clk := { s.clk with
        tickPs := (s.clk.tickPs + slotsToEnd s c k * (slotPs : Int)).toNat, slot := 0, tick := 0, ticks := s.clk.ticks + 1,
        hyper := s.clk.hyper + 1, boundaryDue := false } }
      let s := returnLanes (returnBuckets (returnPlanes true (audit s)))
      let s := if s.comb.state = .armed ∧ 2 ≤ s.comb.armTicks then swapNow s else s
      beginTick (expandFrom0 (keeperLine 3 s))

/-- HYPERPERIOD_BOUNDARY. -/
def execHyperperiodBoundary (s : State) : Res := conclude s (boundary s)

/-- The age clock advances (R109). -/
def ageAdvance (s : State) : State := if s.pwr.hive then { s with sig := { s.sig with age := (s.sig.age + 1) % 2 ^ 18 } } else s

/-- AGE_CLOCK_ADVANCE. -/
def execAgeClockAdvance (s : State) : Res := conclude s (ageAdvance s)

/-! ### The rescan (R96) -/

/-- A repaired equation: the cells returned or removed are counted, and the case is logged. [log 24 DEDUCED] -/
def repaired (eq : Nat) (diff : Int) (s : State) : State :=
  logEvent 2 clsMasked 0x000C (odKey 0x3820 4) (leBytes 1 eq ++ zeros 3 ++ leBytes 4 (unsignedOf 32 diff))
    (if eq = 1 then countN (odKey 0x3820 4) diff.natAbs s else s)

/-- Cells of the on-chip pool that a queue, the staging of an input or a transit holds (R93, R96). -/
def cellsHeld (s : State) : Nat :=
  poolUsed s (·.onChip) + (s.fab.queues.toList.map fun q => (q.cells.filter fun c => c.2 == .transit).length).sum +
    (s.fab.ports.toList.map (·.staging.length)).sum

/-- The rescan ends: the free list and the credits are what the queues, the staging and the sources hold. [log 24 DEDUCED] -/
def rescanComplete (s : State) : State :=
  if !s.fab.rescan then s
  else
    let held := cellsHeld s
    let d : Int := (s.fab.freeCells + held : Nat) - 131072
    let s := modFab (fun b => { b with rescan := false }) s
    let s := if d ≠ 0 ∨ s.fab.allocCells ≠ held then
        repaired 1 d (modFab (fun b => { b with freeCells := 131072 - held, allocCells := held }) s) else s
    (creditImbalances s).foldl (fun t e => repaired 3 e.2 (modQueue e.1 (fun x => { x with credits := creditsHeld s e.1 }) t)) s

/-- RESCAN_COMPLETE. -/
def execRescanComplete (s : State) : Res := conclude s (rescanComplete s)

/-! ### The reference (R38) -/

/-- REFERENCE_LOST. -/
def execReferenceLost (s : State) : Res := conclude s (loseReference s)

/-- The holdover limit has passed: an event, and 0x3903/01 reads 3; the Comb keeps running. -/
def holdoverExceeded (s : State) : State :=
  if s.comb.tickState = 2 ∧ ¬ s.comb.refBack then
    logEvent 1 clsState 3 (odKey 0x3903 1) [] (modComb (fun m => { m with tickState := 3 }) s)
  else s

/-- HOLDOVER_EXCEEDED. -/
def execHoldoverExceeded (s : State) : Res := conclude s (holdoverExceeded s)

/-- The reference is back, where the Comb's source is present: steering resumes at the next boundary. -/
def referenceReturn (s : State) : State :=
  if (s.comb.tickState = 2 ∨ s.comb.tickState = 3) ∧ s.comb.active.any (referencePresent s) then modComb (fun m => { m with refBack := true }) s else s

/-- REFERENCE_RETURN. -/
def execReferenceReturn (s : State) : Res := conclude s (referenceReturn s)

/-! ### The standby bank (R51, R62) -/

/-- The effect of a write of an image to 0x3902/01: LOADING, until the next tick; then the verifier runs. A VERIFIED bank is
discarded first (R62). -/
def effStandbyLoad (s : State) (img : Blob) : Access :=
  match s.comb.state with
  | .empty | .verified | .refused =>
    .ok (keeperLine 4 (modComb (fun m => { unplaceComb m.standbyBit m with
      standby := none, image := img, state := .loading, autoArm := false, restore := none, armTicks := 0 }) s))
  | _ => .error abState

/-- The write of a standby image. -/
def standbyImageLoad (slot : Nat) (img : Blob) (s : State) : State :=
  writeEntry slot 0x3902 1 (.bytes img) true (fun _ _ b => effStandbyLoad s b) s

/-- STANDBY_IMAGE_LOAD. -/
def execStandbyImageLoad (slot : Fin 16) (image : Blob) (s : State) : Res := conclude s (standbyImageLoad slot image s)

/-- The verifier ends, and with it a load that no tick has ended: accepted as a whole, with its acceptance tag, or refused as a whole (R51, R452, R467). A restore
whose image is refused goes on with the next entry. -/
def verifierDone (s : State) : State :=
  if (s.comb.state ≠ .verifying ∧ s.comb.state ≠ .loading) ∨ ¬ s.kpr.running then s
  else
    let img := s.comb.image
    match verifyComb s img with
    | some (code, detail) =>
      let r := s.comb.restore
      let s := keeperLine 4 (modComb (fun m => { m with autoArm := false }) (refuseStandby code detail s))
      match r with
      | none => s
      | some i => restoreFrom (((restoreOrder s).dropWhile (· ≠ i)).drop 1) s
    | none =>
      let c := parseComb img
      let st : BankState := if s.comb.autoArm ∨ s.comb.restore.isSome then .armed else .verified
      keeperLine 4 (modComb (fun m => { m with autoArm := false }) (placeStandby img c st (storeAccepted img c s)))

/-- VERIFIER_DONE. -/
def execVerifierDone (s : State) : Res := conclude s (verifierDone s)

/-- The effect of a write to 0x3902/02: 1 arms a VERIFIED bank, outside SLEEP entry (R444), 2 cancels an
ARMED one. -/
def effSwap (s : State) (v : Nat) : Access :=
  if v = 1 then
    if s.comb.state = .verified ∧ s.pwr.entry.isNone then .ok (keeperLine 4 (modComb (fun m => { m with state := .armed, armTicks := 0 }) s)) else .error abState
  else if v = 2 then
    if s.comb.state = .armed then .ok (keeperLine 4 (modComb (fun m => { m with state := .verified, armTicks := 0 }) s)) else .error abState
  else .error abRange

/-- The write of a swap command. -/
def swapCommand (slot v : Nat) (s : State) : State :=
  writeEntry slot 0x3902 2 (numFor 0x3902 2 v) true (fun _ n _ => effSwap s n) s

/-- SWAP_ARM. -/
def execSwapArm (slot : Fin 16) (s : State) : Res := conclude s (swapCommand slot 1 s)
/-- The write of 2. -/
def swapCancel (slot : Nat) (s : State) : State := swapCommand slot 2 s
/-- SWAP_CANCEL. -/
def execSwapCancel (slot : Fin 16) (s : State) : Res := conclude s (swapCancel slot s)

/-- The effect of a write of the minimum generation: not lower, and not above the active generation. -/
def effMinGeneration (s : State) (v : Nat) : Access :=
  let active := match s.comb.active with | some c => c.generation | none => 0
  if v < val s (odKey 0x3904 1) ∨ active < v then .error abRange else .ok (keepVal (odKey 0x3904 1) v s)

/-- The write of the minimum generation. -/
def minGenerationWrite (slot v : Nat) (s : State) : State :=
  writeEntry slot 0x3904 1 (numFor 0x3904 1 v) true (fun _ n _ => effMinGeneration s n) s

/-- MIN_GENERATION_WRITE. -/
def execMinGenerationWrite (slot : Fin 16) (v : Nat) (s : State) : Res := conclude s (minGenerationWrite slot v s)

end Sys2Proof.Machine
end

