-- ==== Sys2Proof/Machine/Keeper.lean ====
section
/-! DEFINITION. The keeper's watchdog, its restart and the confirmation of its slot (R256, R257, R420, R421, R462, R467). -/

namespace Sys2Proof.Machine

/-! ### The watchdog (R256, R257) -/

/-- The effect of a write to 0x3B20/06: the watchdog period begins anew. -/
def effWatchdog (s : State) : Access := .ok { s with kpr := { s.kpr with half := false, watchPs := nowPs s } }

/-- The write that services the watchdog; it comes from keeper firmware, in slot 15. -/
def watchdogService (v : Nat) (s : State) : State :=
  writeEntry 15 0x3B20 6 (numFor 0x3B20 6 v) true (fun _ _ _ => effWatchdog s) s

/-- WATCHDOG_SERVICE. -/
def execWatchdogService (v : Nat) (s : State) : Res := conclude s (watchdogService v s)

/-- The watchdog period of 0x3B20/05 (ps). -/
def watchdogPs (s : State) : Nat := val s (odKey 0x3B20 5) * msPs

/-- Half the watchdog period has passed: interrupt line 0. -/
def watchdogHalf (s : State) : State :=
  if s.kpr.running ∧ s.pwr.hive ∧ s.kpr.watchPs + watchdogPs s / 2 ≤ nowPs s then keeperLine 0 { s with kpr := { s.kpr with half := true } } else s

/-- WATCHDOG_HALF_PERIOD. -/
def execWatchdogHalfPeriod (s : State) : Res := conclude s (watchdogHalf s)

/-- A watchdog period was missed: the keeper alone is reset, with cause 1. -/
def watchdogExpiry (s : State) : State :=
  if s.kpr.running ∧ s.pwr.hive ∧ s.kpr.watchPs + watchdogPs s ≤ nowPs s then keeperReset 1 s else s

/-- KEEPER_WATCHDOG_EXPIRY. -/
def execKeeperWatchdogExpiry (s : State) : Res := conclude s (watchdogExpiry s)

/-! ### The restart (R257, R462, R467) -/

/-- Entries that take effect at a keeper start: the transport settings and the gPTP settings (R421, R426). [log 55 DEDUCED] -/
def atKeeperStart (k : Nat) : Bool := (0x1030 ≤ k / 256 && k / 256 ≤ 0x1034) || (k / 256 == 0x1040 && k % 256 ≤ 8)

/-- The settings now stored are in force. [log 66 DEDUCED] -/
def takeSettings (s : State) : State := { s with sess := { s.sess with inForce := s.od.filter fun e => atKeeperStart e.1 } }

/-- The slot a restart takes (R462, R465): the staged one after a requested reset; the other one, where it may take over,
after three resets in 60 s of an unconfirmed image; else the image last started. [log 65 DEDUCED] -/
def restartSlot (s : State) : Nat :=
  match s.kpr.lastCause, s.kpr.staged with
  | 4, some (i, _) => i
  | _, _ =>
    if 3 ≤ s.kpr.resetTimes.length ∧ ¬ runningConfirmed s then (fallbackSlot s).getD s.kpr.lastStarted else s.kpr.lastStarted

/-- The verifier was interrupted: the bank is REFUSED with 0x0E; a restore goes on with its next entry (R51, R257, R452). -/
def verifierInterrupted (s : State) : State :=
  if s.comb.state ≠ .verifying ∧ s.comb.state ≠ .loading then s
  else
    let r := s.comb.restore
    let s := keeperLine 4 (modComb (fun m => { m with autoArm := false }) (refuseStandby 0x0E noDetail s))
    match r with
    | none => s
    | some i => restoreFrom (((restoreOrder s).dropWhile (· ≠ i)).drop 1) s

/-- The first entry of the Comb set, in the order of R466, that passes check 6. [log 108 DEDUCED] -/
def fittingEntry (s : State) : Option Blob :=
  (restoreOrder s).findSome? fun i =>
    match setEntry s i with
    | some e => if (imageFault e.image).isNone && (compatCheck s (parseComb e.image)).isNone then some e.image else none
    | none => none

/-- The active Comb against the restarted keeper (R467): one that fails check 6 runs on, an event is logged, and the first
entry that passes goes to the verifier, to be armed at once if it is accepted. [log 108 DEDUCED] -/
def recheckActive (s : State) : State :=
  match s.comb.active with
  | none => s
  | some c =>
    if (compatCheck s c).isNone then s
    else
      let s := logEvent 0 clsBoot 0 (odKey 0x2000 1) [] s
      match fittingEntry s with
      | none => s
      | some img => keeperLine 4 (modComb (fun m => { unplaceComb m.standbyBit m with
          standby := none, image := img, state := .loading, autoArm := true, restore := none, armTicks := 0 }) s)

/-- The keeper restarts: its slot, its settings, the interrupted verifier, the active Comb. [log 108 DEDUCED] -/
def keeperRestart (s : State) : State :=
  if s.kpr.running ∨ s.kpr.recovery ∨ ¬ s.pwr.hive ∨ s.pwr.boot.isSome then s
  else
    let i := restartSlot s
    let fell := s.kpr.lastCause ≠ 4 ∧ i ≠ s.kpr.lastStarted
    let used := s.kpr.lastCause = 4
    let s := startSlot i { s with kpr := { s.kpr with staged := if used then none else s.kpr.staged } }
    let s := if fell then logEvent 0 clsBoot 0 (odKey 0x3B20 2) (leBytes 4 s.kpr.build) s else s
    recheckActive (verifierInterrupted (takeSettings s))

/-- KEEPER_RESTART. -/
def execKeeperRestart (s : State) : Res := conclude s (keeperRestart s)

/-! ### Confirmation (R462) -/

/-- The keeper has run for 10 s without a reset: its slot is confirmed, once a Comb is restored or the device is in
service-only mode, that is, when no boot runs and no restore is under way. -/
def keeperConfirm (s : State) : State :=
  if s.kpr.running ∧ s.pwr.hive ∧ s.pwr.boot.isNone ∧ s.comb.restore.isNone ∧ s.kpr.startPs + 10 * secPs ≤ nowPs s then
    setKeeperSlot s.kpr.lastStarted ((keeperSlot s s.kpr.lastStarted).map fun k => { k with confirmed := true }) s
  else s

/-- KEEPER_CONFIRM. -/
def execKeeperConfirm (s : State) : Res := conclude s (keeperConfirm s)

end Sys2Proof.Machine
end

