-- ==== Sys2Proof/Machine/Nfc.lean ====
section
/-! DEFINITION. NFC0: the field detector, the reader role and the tag role (R305-R322). -/

namespace Sys2Proof.Machine

/-- NFC0 changed by `f`. -/
def modNfc (f : NfcSt → NfcSt) (s : State) : State := { s with nfc := f s.nfc }

/-- Send a frame or an APDU. -/
def nfcSend (b : Blob) (s : State) : State := emit (.nfc b) s

/-- Status bytes. -/
def sw (v : Nat) : Blob := beBytes 2 v

/-- The Field die has power: VAO, or the harvester (R440). -/
def fieldDiePowered (s : State) : Bool := s.pwr.vao || s.pwr.dev == .field

/-! ### The field detector (R306) -/

/-- FIELD_DET_N driven or released. -/
def setFieldDet (low : Bool) (s : State) : State :=
  if s.nfc.detLow = low then s else emit (.pin "FIELD_DET_N" (!low)) (modNfc (fun n => { n with detLow := low }) s)

/-- The device's own field goes on or off; the NFC PLL runs with it (R449). -/
def setOwnField (on : Bool) (s : State) : State :=
  let s := modNfc (fun n => { n with own := on }) s
  { s with pwr := { s.pwr with pll := if on then s.pwr.pll ||| 0x20#13 else s.pwr.pll &&& ~~~0x20#13 } }

/-- The reader's work ends: its field goes off, no card is left. -/
def readerOff (s : State) : State :=
  setOwnField false (modNfc (fun n => { n with step := .off, cards := [], naks := 0, wtx := 0, lastAnswer := [] }) s)

/-- An external field is detected: the reader's own field goes off and its poll is abandoned; FIELD_DET_N goes low, the
detection is counted, and a field wake is raised where it is enabled (R306, R322). -/
def fieldDetect (s : State) : State :=
  if ¬ fieldDiePowered s ∨ s.nfc.field then s
  else
    let s := if s.nfc.own then count (odKey 0x4200 0x13) (readerOff s) else s
    let s := count (odKey 0x4200 7) (setFieldDet true (modNfc (fun n => { n with field := true }) s))
    if flag s (odKey 0x4200 6) then latchWake 15 s else s

/-- NFC_FIELD_DETECT. -/
def execNfcFieldDetect (s : State) : Res := conclude s (fieldDetect s)

/-- The tag role's selection, role and random UID end (R308, R315). -/
def tagGone (n : NfcSt) : NfcSt :=
  { n with active := false, app := false, file := none, role := .inspect, uid := [], heldRead := none, heldVerify := none, attesting := none, challenge := [] }

/-- The external field falls below the threshold: the tag role ends. With the AO supply present a write runs on to its
commit; in FIELD the Field die loses its power, and the write stays as the field's end met it (R320, R441). -/
def fieldLoss (s : State) : State :=
  if ¬ s.nfc.field then s
  else
    let s := modNfc (fun n => tagGone { n with field := false }) s
    if s.pwr.dev = .field ∧ ¬ s.pwr.vao then
      modNfc (fun n => { n with write := none, detLow := false })
        { s with pwr := { s.pwr with dev := .off }, store := { s.store with scanning := false } }
    else s

/-- NFC_FIELD_LOSS. -/
def execNfcFieldLoss (s : State) : Res := conclude s (fieldLoss s)

/-- FIELD_DET_N is released 1 ms after the loss. -/
def fieldDetRelease (s : State) : State := if s.nfc.field then s else setFieldDet false s

/-- FIELD_DET_RELEASE. -/
def execFieldDetRelease (s : State) : Res := conclude s (fieldDetRelease s)

/-! ### The reader role (R309-R313) -/

/-- Bits of a UID as they go on air in anticollision: its cascade levels, bytes least significant bit first (R310). -/
def uidPath (u : Blob) : List Bool :=
  let air (b : Blob) : List Bool := b.flatMap fun x => (List.range 8).map x.toNat.testBit
  if u.length = 4 then air u
  else if u.length = 7 then air (0x88 :: u.take 3 ++ u.drop 3)
  else air (0x88 :: u.take 3 ++ (0x88 :: (u.drop 3).take 3) ++ u.drop 6)

/-- The first bit in which two paths differ is 0 in the first. -/
def pathBefore : List Bool → List Bool → Bool
  | [], _ => true
  | _, [] => false
  | a :: r, b :: t => if a = b then pathBefore r t else !a

/-- Insertion in the order of the collision-resolved paths. -/
def insertUid (u : Blob) : List Blob → List Blob
  | [] => [u]
  | v :: r => if pathBefore (uidPath u) (uidPath v) then u :: v :: r else v :: insertUid u r

/-- The UIDs of the cards in the order in which anticollision lists them. -/
def anticollision (cards : List Blob) : List Blob :=
  (cards.eraseDups.filter fun u => u.length = 4 || u.length = 7 || u.length = 10).foldr insertUid []

/-- SELECT of the Faloell application. -/
def faloellSelect : Blob := [0x00, 0xA4, 0x04, 0x00, 0x08, 0xF0, 0x46, 0x41, 0x4C, 0x4F, 0x45, 0x4C, 0x4C]

/-- The first card left is served; with none left the field goes off (R309, R312). -/
def serveCard (s : State) : State :=
  match s.nfc.cards with
  | [] => readerOff s
  | _ :: _ => nfcSend faloellSelect (modNfc (fun n => { n with step := .select, naks := 0, wtx := 0, lastAnswer := [] }) s)

/-- The card being served is done with: the next one. -/
def nextCard (s : State) : State := serveCard (modNfc (fun n => { n with cards := n.cards.tail }) s)

/-- S(DESELECT) to the card, and the next one. [log 76 DEDUCED] -/
def deselectCard (s : State) : State := nextCard (nfcSend [0xC2] s)

/-- The card is lost: counted, and the next one (R311). -/
def loseCard (s : State) : State := nextCard (count (odKey 0x4200 0x0D) s)

/-- A poll (R305, R306, R309, R310). [log 76 DEDUCED] -/
def nfcPoll (cards : List Blob) (s : State) : State :=
  let m := val s (odKey 0x4200 3)
  if ¬ s.pwr.hive ∨ s.nfc.st ≠ .running ∨ m = 0 ∨ s.nfc.step ≠ .off ∨ s.test.nfc then s
  else if s.nfc.field then count (odKey 0x4200 0x13) s
  else
    let l := anticollision cards
    if l.isEmpty then s
    else
      let s := countN (odKey 0x4200 0x0C) (l.length - 8) s
      let l := l.take 8
      let s := setBlob (odKey 0x4200 0x0B) (l.flatMap fun u => leBytes 1 u.length ++ u) s
      serveCard (setOwnField true (modNfc (fun n => { n with cards := l }) s))

/-- NFC_POLL. -/
def execNfcPoll (cards : List (List Byte)) (s : State) : Res := conclude s (nfcPoll cards s)

/-- The first APDU of a phone key's authentication: nB (R313). Without the access island, or with the transponder record
locked, no phone key is authenticated. -/
def phoneStart (s : State) : State :=
  if zoneLocked s 8 ∨ ¬ s.pwr.access ∨ ¬ s.lf.seeded then deselectCard s
  else
    let (nb, s) := draw 8 s
    nfcSend ([0x80] ++ Config.phoneHeader 1 ++ nb) (modNfc (fun n => { n with step := .auth1 nb, naks := 0, wtx := 0 }) s)

/-- A phone key's authentication fails (R273, R313, R322). -/
def phoneFails (id : Nat) (s : State) : State := tpFailure id s

/-- The answer with key ID, nK and pK (R272). [log 76 DEDUCED] -/
def phoneAnswer1 (nb d : Blob) (s : State) : State :=
  let id := ofBe (sub d 0 4)
  let nk := sub d 4 8
  match keyById s id with
  | none => deselectCard (phoneFails id s)
  | some e =>
    if e.kind ≠ 0 ∧ d.length = 22 ∧ d.drop 20 = sw 0x9000 ∧ e.key.isSome ∧ pkOf (e.key.getD []) nb nk id = sub d 12 8 then
      nfcSend ([0x80] ++ Config.phoneHeader 2 ++ pbOf (e.key.getD []) nb nk)
        (modNfc (fun n => { n with step := .auth2 nb nk e.index, naks := 0, wtx := 0 }) s)
    else deselectCard (phoneFails id s)

/-- The acknowledge of pB: a session with START and never UNLOCK (R278, R313). [log 76 DEDUCED] -/
def phoneAnswer2 (nb nk : Blob) (index : Nat) (d : Blob) (s : State) : State :=
  if d = sw 0x9000 then
    deselectCard (openSession (keyIdAt s index) false true (sessionMacKey (keyBytes s index) nb nk) (lockSuccess 8 s))
  else deselectCard (phoneFails (keyIdAt s index) s)

/-- An intact answer. [log 76 DEDUCED] -/
def cardBlock (d : Blob) (inTime : Bool) (s : State) : State :=
  match s.nfc.step with
  | .select =>
    if d.length ≥ 2 ∧ d.drop (d.length - 2) = sw 0x9000 then phoneStart s
    else keeperLine 8 (modNfc (fun n => { n with step := .offered }) s)
  | .auth1 nb => if inTime then phoneAnswer1 nb d s else deselectCard (phoneFails 0 s)
  | .auth2 nb nk i => if inTime then phoneAnswer2 nb nk i d s else deselectCard (phoneFails (keyIdAt s i) s)
  | .keeper true => keeperLine 8 (modNfc (fun n => { n with step := .keeper false, lastAnswer := d, naks := 0, wtx := 0 }) s)
  | .off | .offered | .keeper false => s

/-- A command is out to the card. -/
def readerWaits (s : State) : Bool :=
  match s.nfc.step with
  | .select | .auth1 .. | .auth2 .. | .keeper true => true
  | .off | .offered | .keeper false => false

/-- No answer, or a corrupted one: R(NAK) up to twice, then the card is lost; within a phone key's authentication the answer
is then missing and the authentication fails (R311, R313). [log 76 DEDUCED] -/
def cardBad (s : State) : State :=
  if !readerWaits s then s
  else if s.nfc.naks < 2 then nfcSend [0xB2] (modNfc (fun n => { n with naks := n.naks + 1 }) s)
  else match s.nfc.step with
    | .auth1 _ => loseCard (phoneFails 0 s)
    | .auth2 _ _ i => loseCard (phoneFails (keyIdAt s i) s)
    | _ => loseCard s

/-- Periods of 13.56 MHz a granted S(WTX) waits: FWT · WTXM + ΔFWT, FWI 15 taken as 4 (R311). -/
def wtxPeriods (uid : Blob) (m : Nat) : Nat :=
  let f := Config.cardFwi uid % 16
  4096 * 2 ^ (if f = 15 then 4 else f) * m + 49152

/-- S(WTX) of a card (R311, R313, R322). -/
def cardWtx (m : Nat) (s : State) : State :=
  if !readerWaits s then s
  else match s.nfc.step with
    | .auth1 _ => deselectCard (phoneFails 0 s)
    | .auth2 _ _ i => deselectCard (phoneFails (keyIdAt s i) s)
    | _ =>
      if m < 1 ∨ 59 < m then cardBad s
      else
        let w := s.nfc.wtx + wtxPeriods (s.nfc.cards.headD []) m
        if 5 * 13560000 < w then loseCard (nfcSend [0xC2] s)
        else nfcSend [0xF2, BitVec.ofNat 8 m] (modNfc (fun n => { n with wtx := w, naks := 0 }) s)

/-- A card's block. -/
def cardResponse (r : CardResponse) (s : State) : State :=
  match r with
  | .block d t => cardBlock d t s
  | .corrupted => cardBad s
  | .wtx m => cardWtx m s

/-- NFC_CARD_RESPONSE. -/
def execNfcCardResponse (response : CardResponse) (s : State) : Res := conclude s (cardResponse response s)

/-- NFC_FWT_TIMEOUT. -/
def execNfcFwtTimeout (s : State) : Res := conclude s (cardBad s)

/-- The effect of a write to 0x4200/0A: a command APDU, or with an empty one S(DESELECT) (R312). -/
def effReaderExchange (s : State) (b : Blob) : Access :=
  match s.nfc.step with
  | .offered | .keeper false =>
    if b = [] then .ok (deselectCard s)
    else .ok (nfcSend b (modNfc (fun n => { n with step := .keeper true, naks := 0, wtx := 0, lastAnswer := [] }) s))
  | _ => .error abState

/-- The keeper's write of an APDU. -/
def readerExchange (apdu : Blob) (s : State) : State :=
  writeEntry 15 0x4200 0x0A (.bytes apdu) true (fun _ _ b => effReaderExchange s b) s

/-- READER_EXCHANGE. -/
def execReaderExchange (apdu : List Byte) (s : State) : Res := conclude s (readerExchange apdu s)

/-- The keeper has not taken the card within 100 ms. -/
def readerOfferTimeout (s : State) : State := if s.nfc.step = .offered then deselectCard s else s

/-- READER_OFFER_TIMEOUT. -/
def execReaderOfferTimeout (s : State) : Res := conclude s (readerOfferTimeout s)

/-! ### Enable (R307, R458) -/

/-- NFC0's State changes. -/
def setNfcState (st : FnState) (s : State) : State :=
  if s.nfc.st = st then s else logEvent 13 clsState st.portCode (odKey 0x4200 2) [] (modNfc (fun n => { n with st := st }) s)

/-- Stopping ends the reader's exchange with S(DESELECT); the tag's command in progress completes. -/
def nfcStops (s : State) : State := if s.nfc.step = .off then s else readerOff (nfcSend [0xC2] s)

/-- The effect of a write to 0x4200/01. -/
def effNfcEnable (s : State) (v : Nat) : Access :=
  let s := keepVal (odKey 0x4200 1) v s
  .ok (
    if v = 0 then
      match s.nfc.st with
      | .running => setNfcState .stopping (nfcStops s)
      | .pending => setNfcState .stopping s
      | _ => s
    else
      match s.nfc.st with
      | .stopped => setNfcState .running s
      | .stopping => setNfcState .pending s
      | _ => s)

/-- The write of NFC0's Enable. -/
def nfcEnableWrite (slot v : Nat) (s : State) : State :=
  writeEntry slot 0x4200 1 (numFor 0x4200 1 v) true (fun _ n _ => effNfcEnable s n) s

/-- NFC_ENABLE_WRITE. -/
def execNfcEnableWrite (slot : Fin 16) (v : Nat) (s : State) : Res := conclude s (nfcEnableWrite slot v s)

/-- The shut-down has ended, once the tag's command in progress has its response: a stopped NFC0 answers no reader. -/
def nfcStopped (s : State) : State :=
  if s.nfc.write.isSome ∨ s.nfc.heldRead.isSome ∨ s.nfc.heldVerify.isSome ∨ s.nfc.attesting.isSome then s
  else match s.nfc.st with
    | .stopping => setNfcState .stopped (modNfc tagGone s)
    | .pending => setNfcState .running s
    | _ => s

/-! ### The tag role (R314-R320) -/

/-- The tag answers: in an external field, running, and not in reader-only mode with HIVE-CORE on (R305). -/
def tagPresent (s : State) : Bool :=
  fieldDiePowered s && s.nfc.field && s.nfc.st == .running && !(s.pwr.hive && val s (odKey 0x4200 3) == 1)

/-- The tag waits for a command: no earlier one is still without its response. -/
def tagListens (s : State) : Bool :=
  tagPresent s && s.nfc.active && s.nfc.write.isNone && s.nfc.heldRead.isNone && s.nfc.heldVerify.isNone && s.nfc.attesting.isNone

/-- REQA and anticollision: the tag answers with its random UID, new at every power-up of the field (R308). -/
def tagActivation (s : State) : State :=
  if !tagPresent s then s
  else
    let (u, s) := if s.nfc.uid = [] then (let (r, s) := draw 3 s; (0x08 :: r, s)) else (s.nfc.uid, s)
    nfcSend u (modNfc (fun n => { n with uid := u, active := true, app := false, file := none, role := .inspect, challenge := [] }) s)

/-- TAG_ACTIVATION. -/
def execTagActivation (s : State) : Res := conclude s (tagActivation s)

/-- PPS to the tag is refused, which leaves it at 106 kbit/s without an answer (R308, R322). -/
def ppsRefused (s : State) : State := s

/-- PPS. -/
def execPps (s : State) : Res := conclude s (ppsRefused s)

/-- The NDEF application. -/
def ndefAid : Blob := [0xD2, 0x76, 0x00, 0x00, 0x85, 0x01, 0x01]

/-- SELECT: the application begins with INSPECT, and a file is selected within it (R314, R315, R322). [log 77 DEDUCED] -/
def tagSelect (t : TagSelect) (s : State) : State :=
  if !tagListens s then s
  else match t with
    | .application aid =>
      if aid = ndefAid then nfcSend (sw 0x9000) (modNfc (fun n => { n with app := true, file := none, role := .inspect }) s)
      else nfcSend (sw 0x6A82) s
    | .file id =>
      if s.nfc.app ∧ tagFileLen id.toNat ≠ 0 then nfcSend (sw 0x9000) (modNfc (fun n => { n with file := some id.toNat }) s)
      else nfcSend (sw 0x6A82) s

/-- TAG_SELECT. -/
def execTagSelect (target : TagSelect) (s : State) : Res := conclude s (tagSelect target s)

/-- Read rights of R315. -/
def mayReadFile (role : NfcRole) (file : Nat) : Bool := file ≠ 0xA102 || role ≠ .inspect
/-- Write rights of R315. -/
def mayWriteFile (role : NfcRole) (file : Nat) : Bool := role ≠ .inspect && (file == 0xE104 || file == 0xA102)

/-- READ BINARY: held under S(WTX) while the index scan runs (R315, R317, R322). [log 77 DEDUCED] -/
def readBinary (off len : Nat) (s : State) : State :=
  if !tagListens s then s
  else match s.nfc.file with
    | none => nfcSend (sw 0x6A82) s
    | some f =>
      if !mayReadFile s.nfc.role f then nfcSend (sw 0x6982) s
      else if tagFileLen f ≤ off then nfcSend (sw 0x6B00) s
      else if 246 < len then nfcSend (sw 0x6700) s
      else if s.store.scanning then
        let (m, s) := free 59 s
        nfcSend [0xF2, BitVec.ofNat 8 (m + 1)] (modNfc (fun n => { n with heldRead := some (f, off, len) }) s)
      else nfcSend (sub (tagFile s f) off len ++ sw 0x9000) s

/-- READ_BINARY. -/
def execReadBinary (offset length : Nat) (s : State) : Res := conclude s (readBinary offset length s)

/-- Code of a role in the write log, as R408 codes the roles. -/
def NfcRole.code : NfcRole → Nat
  | .inspect => 0 | .workshop => 3 | .maker => 2

/-- A write-log entry (R319), 32 bytes. [log 78 DESIGN CHOICE] -/
def logEntry (file off role : Nat) (field : Bool) (sq : Nat) (d : Blob) : Blob :=
  subPad (leBytes 2 file ++ leBytes 2 off ++ leBytes 2 d.length ++ leBytes 1 role ++ leBytes 1 field.toNat ++
    leBytes 4 sq ++ leBytes 4 (crc32c d)) 0 32

/-- The intent of a tag write (R399, R400). [log 78 DESIGN CHOICE] -/
def openIntent (file off role : Nat) (field : Bool) (d : Blob) (s : State) : State :=
  let t := s.store.tag
  let sq := (t.logSeq + 1) % 2 ^ 32
  let i := t.logSeq % 32
  let x : TagIntent :=
    { kind := 0, file := file, offset := off, role := role, field := field, index := i, journal := sq, newData := d
      oldData := sub (tagFileGet file t.copyA) off d.length
      newLog := logEntry file off role field sq d, oldLog := sub (tagFileGet 0xA103 t.copyA) (32 * i) 32 }
  { s with store := { s.store with tag := { t with intent := some x } } }

/-- A whole tag write from the object dictionary (R319, R400); one over NFC that holds the intent slot commits first. [log 78 DESIGN CHOICE] -/
def tagFileWrite (file role : Nat) (d : Blob) (s : State) : State := commitIntent (openIntent file 0 role false d (commitIntent s))

/-- UPDATE BINARY: the checks of steps 1 and 2 of R320, then the intent; the response follows at the commit (R315, R318,
R319, R322). In FIELD a set tamper latch refuses every write (R380). -/
def updateBinary (off : Nat) (d : Blob) (energy : Bool) (s : State) : State :=
  if !tagListens s then s
  else match s.nfc.file with
    | none => nfcSend (sw 0x6A82) s
    | some f =>
      let fld : Bool := inField s
      if fld ∧ latchRead s ≠ 0 then nfcSend (sw 0x6985) s
      else if s.nfc.role = .inspect then nfcSend (sw 0x6982) s
      else if !mayWriteFile s.nfc.role f then nfcSend (sw (if fld then 0x6985 else 0x6982)) s
      else if fld ∧ s.nfc.role ≠ .workshop then nfcSend (sw 0x6985) s
      else if 246 < d.length then nfcSend (sw 0x6700) s
      else if tagFileLen f < off + d.length then nfcSend (sw 0x6B00) s
      else if fld ∧ !energy then nfcSend (sw 0x6400) s
      else
        let s := nfcSend [0xF2, 4] (modNfc (fun n => { n with write := some ⟨f, off, d, n.role, fld⟩ }) s)
        if s.store.scanning ∨ s.store.tag.intent.isSome then s else openIntent f off s.nfc.role.code fld d s

/-- UPDATE_BINARY. -/
def execUpdateBinary (offset : Nat) (data : List Byte) (energyEnough : Bool) (s : State) : Res :=
  conclude s (updateBinary offset data energyEnough s)

/-- Cells, commit and write-log entry are written, then the response is sent where the field is still there (R320). -/
def tagWriteComplete (s : State) : State :=
  match s.nfc.write with
  | none => s
  | some w =>
    if s.store.scanning ∨ ¬ fieldDiePowered s then s
    else
      let mine : Bool := match s.store.tag.intent with
        | some i => i.file == w.file && i.offset == w.offset && i.newData == w.data
        | none => false
      let s := commitIntent (if mine then s else openIntent w.file w.offset w.role.code w.field w.data (commitIntent s))
      let s := if s.nfc.active then nfcSend (sw 0x9000) s else s
      modNfc (fun n => { n with write := none }) s

/-- TAG_WRITE_COMPLETE. -/
def execTagWriteComplete (s : State) : Res := conclude s (tagWriteComplete s)

/-- VERIFY against the write password of area W, held under S(WTX) while the index scan runs (R315, R316). [log 77 DEDUCED] -/
def verifyPassword (pw : Blob) (s : State) : State :=
  if !tagListens s then s
  else if s.store.scanning then
    let (m, s) := free 59 s
    nfcSend [0xF2, BitVec.ofNat 8 (m + 1)] (modNfc (fun n => { n with heldVerify := some pw }) s)
  else verifyAnswer pw s

/-- VERIFY. -/
def execVerify (password : List Byte) (s : State) : Res := conclude s (verifyPassword password s)

/-- The 10 minutes of a block have run, while the AO domain is powered (R316, R403). -/
def verifyBlockEnd (readPassword : Bool) (s : State) : State :=
  if !s.pwr.vao then s
  else if readPassword then
    if s.store.readPw.blocked ∧ s.store.readPw.remaining = 0 then commitPw { s with store := { s.store with readPw := {} } } else s
  else if s.store.verifyPw.blocked ∧ s.store.verifyPw.remaining = 0 then commitPw { s with store := { s.store with verifyPw := {} } } else s

/-- VERIFY_BLOCK_END. -/
def execVerifyBlockEnd (readPassword : Bool) (s : State) : Res := conclude s (verifyBlockEnd readPassword s)

/-- AUTH: without data the device sends a challenge; with a key and a signature the vault checks them against it (R315). It
needs the Hive die (R318). [log 77 DEDUCED] -/
def makerAuth (pk sig : Blob) (s : State) : State :=
  if !tagListens s then s
  else if ¬ s.pwr.hive then nfcSend (sw 0x6985) s
  else if pk = [] ∧ sig = [] then
    let (c, s) := draw 32 s
    nfcSend (c ++ sw 0x9000) (modNfc (fun n => { n with challenge := c }) s)
  else
    let c := s.nfc.challenge
    let good : Bool := c ≠ [] && s.fuse.makerKh ≠ [] && keyHash pk == s.fuse.makerKh && Config.nfcMakerAuth c pk sig
    let s := modNfc (fun n => { n with challenge := [], role := if good then .maker else n.role }) s
    nfcSend (sw (if good then 0x9000 else 0x6982)) s

/-- MAKER_AUTH. -/
def execMakerAuth (publicKey signature : List Byte) (s : State) : Res := conclude s (makerAuth publicKey signature s)

/-- The vault begins the attestation the tag asked for, once it is free. [log 77 DEDUCED] -/
def startNfcAttest (nonce : Blob) (s : State) : State :=
  if s.vault.attesting.isSome then s
  else { s with vault := { s.vault with attesting := some (nonce, val s (odKey 0x2340 3), .nfc) } }

/-- ATTEST over NFC (R317, R318). -/
def attestApdu (nonce : Blob) (s : State) : State :=
  if !tagListens s then s
  else if ¬ s.pwr.hive then nfcSend (sw 0x6985) s
  else if nonce.length ≠ 32 then nfcSend (sw 0x6700) s
  else startNfcAttest nonce (nfcSend [0xF2, 59] (modNfc (fun n => { n with attesting := some nonce }) s))

/-- ATTEST_APDU. -/
def execAttestApdu (nonce : List Byte) (s : State) : Res := conclude s (attestApdu nonce s)

/-- S(DESELECT): the role ends (R315). -/
def tagDeselect (s : State) : State :=
  if !tagListens s then s
  else nfcSend [0xC2] (modNfc (fun n => { tagGone n with uid := n.uid }) s)

/-- DESELECT. -/
def execDeselect (s : State) : Res := conclude s (tagDeselect s)

/-- The snapshot interval has passed in RUN: the vault makes a snapshot and the store replaces the old one (R318, R401). [log 78 DESIGN CHOICE] -/
def snapshotTimer (s : State) : State :=
  if s.pwr.hive ∧ s.pwr.dev = .on ∧ runOrDoze s = 0 then
    match attestation [] (val s (odKey 0x2340 3)) 1 s with
    | (some r, s) => snapshotPut r s
    | (none, s) => s
  else s

/-- SNAPSHOT_TIMER. -/
def execSnapshotTimer (s : State) : Res := conclude s (snapshotTimer s)

/-- An extension of the tag ends with its command still at work: S(WTX) again (R317, R320). An attestation the vault does
not work on, it begins. -/
def wtxExtensionEnd (s : State) : State :=
  if !s.nfc.active then s
  else match s.nfc.attesting, s.nfc.heldRead.isSome || s.nfc.heldVerify.isSome, s.nfc.write with
    | some n, _, _ =>
      if s.pwr.hive then nfcSend [0xF2, 59] (startNfcAttest n s)
      else nfcSend (sw 0x6985) (modNfc (fun x => { x with attesting := none }) s)
    | none, true, _ =>
      let (m, s) := free 59 s
      nfcSend [0xF2, BitVec.ofNat 8 (m + 1)] s
    | none, false, some _ => nfcSend [0xF2, 4] s
    | none, false, none => s

/-- WTX_EXTENSION_END. -/
def execWtxExtensionEnd (s : State) : Res := conclude s (wtxExtensionEnd s)

end Sys2Proof.Machine
end

