-- ==== Sys2Proof/Machine/Tamper.lean ====
section
/-! DEFINITION. The tamper latch, its configuration and the destruction it leads to (R355, R356, R373-R383). -/

namespace Sys2Proof.Machine

/-- The tamper logic changed by `f`. -/
def modTamper (f : TamperSt → TamperSt) (s : State) : State := { s with tamper := f s.tamper }

/-! ### Configuration (R376, R378) -/

/-- Inputs that are always enabled: 0 and 13 to 19. -/
def alwaysEnabled : BitVec 32 := 0x000FE001
/-- The configuration under recovery rule 2; none where neither copy is valid. -/
def tamperCfg (s : State) : Option TamperCfg := rule2 s.tamper.cfgA s.tamper.cfgB

/-- Inputs that are observed: enabled ones, every one without a valid configuration. [log 89 DEDUCED] -/
def enabledInputs (s : State) : BitVec 32 :=
  match tamperCfg s with
  | some c => (c.enable &&& tamperInputs) ||| alwaysEnabled
  | none => tamperInputs

/-- Inputs that can trip now (R373, R376): light and link with the Hive die on, hold-up on the SH2424 with the AO supply. -/
def activeInputs (s : State) : BitVec 32 :=
  let hive : BitVec 32 := if s.pwr.hive then 0x00060000 else 0
  let hold : BitVec 32 := if s.pwr.vao ∧ ¬ isSmall s then 0x00080000 else 0
  (0x0001FFFF ||| hive ||| hold) &&& enabledInputs s

/-- Bits of a mask, lowest first. -/
def inputsOf (m : BitVec 32) : List Nat := (List.range 20).filter m.getLsbD

/-! ### The latch (R377, R378, R382) -/

/-- OPS_AT (R378). -/
def opsAt (s : State) : Nat :=
  let busy : Bool := s.vault.attesting.isSome || !s.vault.repl.isEmpty ||
    s.lanes.lane.toList.any fun l => l.reserved.isSome || l.dynamic.isSome
  let bank : Bool := s.comb.state == .verifying || s.comb.state == .verified || s.comb.state == .armed
  busy.toNat + 2 * bank.toNat

/-- Trips counted, at most one per input in 1 s; set bits count too. -/
def countTrips (m : BitVec 32) (s : State) : State :=
  (inputsOf m).foldl (fun s i =>
    let last := ((s.tamper.lastCount[i]?).join)
    let due : Bool := match last with | none => true | some t => decide (t + 1 ≤ aoSec s)
    if due then modTamper (fun t => { t with
      count := min (t.count + 1) 0xFFFFFFFF, lastCount := vmod t.lastCount i fun _ => some (aoSec s) }) s
    else s) s

/-- The event of a latched bit: FIRST, STATE_AT, OPS_AT and TIME go with it. [log 111 DESIGN CHOICE] -/
def logTrip (i : Nat) (s : State) : State :=
  let t := s.tamper
  logEvent 11 clsSecurity 0 (odKey 0x2500 1)
    (leBytes 1 i ++ leBytes 1 t.first ++ leBytes 1 t.stateAt ++ leBytes 1 t.opsAt ++ leBytes 4 t.time) s

/-- Bits are set; those that were clear are logged, at the next boot where the Hive die is off. [log 89 DEDUCED] -/
def setLatch (m : BitVec 32) (s : State) : State :=
  let old := latchRead s
  let new := m &&& ~~~old
  let clear := old = 0
  let s := modTamper (fun t => { t with latch := old ||| m, nlatch := ~~~(old ||| m) }) s
  let first := (inputsOf m).headD 0xFF
  let s := if clear then modTamper (fun t => { t with first := first, stateAt := stateAtCode s, opsAt := opsAt s, time := aoSec s }) s else s
  if s.pwr.hive then (inputsOf new).foldl (fun s i => logTrip i s) s
  else
    let s := modTamper (fun t => { t with unlogged := t.unlogged ||| new }) s
    if s.pwr.vao then (inputsOf new).foldl (fun s i => logTrip i s) s else s

/-- Bits latched while the Hive die was off, whose records the shared buffer no longer holds, are logged (R382, R473). [log 89 DEDUCED] -/
def logUnlogged (s : State) : State :=
  let held (i : Nat) : Bool := s.evt.deferred.any fun e => e.source == 11 && e.data.head? == some (BitVec.ofNat 8 i)
  let todo := (inputsOf s.tamper.unlogged).filter fun i => !held i
  modTamper (fun t => { t with unlogged := 0 }) (todo.foldl (fun s i => logTrip i s) s)

/-! ### Destruction (R355, R356, R380, R381) -/

/-- EPOCH of the record a tamper writes. -/
def tamperEpoch (s : State) : Nat := max (((lcRecord s).map (·.epoch)).getD 0) (s.fuse.epoch + 1)

/-- The device is in TAMPERED, its debug port closed; the vault programs the epoch bit while the Hive die is on. -/
def becomeTampered (s : State) : State :=
  let s := { s with lc := { s.lc with state := 5, debugOpen := false, challenge := none } }
  latchWake 17 (if s.pwr.hive then burnEpoch s else s)

/-- The destruction: on the SH2424 record, erase, SHARE 3; on the SH2412 the erase precedes the record. With the vault present
and every epoch bit blown the device goes to SCRAPPED (R354). [log 83 DEDUCED] -/
def destroyKeys (s : State) : State :=
  let s := if s.pwr.hive then tamperLanes (abortVault s) else s
  if s.pwr.hive ∧ s.fuse.epoch = 32 then scrapAt32 s
  else
    let e := tamperEpoch s
    if isSmall s then becomeTampered (writeLc 5 0x11 e 3 (eraseAll s))
    else becomeTampered (setShareField 3 (eraseAll (writeLc 5 0x10 e 2 s)))

/-- HOLD_OK (R379). -/
def holdOk (s : State) : Bool := decide (2950 ≤ s.tamper.holdMv)

/-- The boot ROM has not read the latch yet: R353 handles what it finds. -/
def beforeLatchRead (s : State) : Bool :=
  match s.pwr.boot with
  | some (true, k) => decide (k < 5)
  | some (false, k) => decide (k < 4)
  | none => false

/-- The access island abandons its round; a session ends (R279, R380). -/
def accessTampered (s : State) : State :=
  endSession (modUwb (fun u => { u with round := none, exchange := none, rslot := none }) s)

/-- What a newly set bit leads to (R380). -/
def tamperResponse (s : State) : State :=
  let s := accessTampered s
  if s.lc.state = 1 ∨ s.lc.state = 2 ∨ s.lc.state = 3 then
    if beforeLatchRead s then s
    else if ¬ isSmall s ∧ s.pwr.dev = .field ∧ ¬ holdOk s then modTamper (fun t => { t with waiting := true }) s
    else destroyKeys s
  else if isSmall s then eraseAll s
  else s

/-- Inputs that trip: counted, latched, answered. -/
def tripInputs (m : BitVec 32) (s : State) : State :=
  if s.pwr.dev = .off then s
  else
    let m := m &&& activeInputs s
    let new := m &&& ~~~latchRead s
    let s := countTrips m s
    let s := if m = 0 then s else setLatch m s
    if new = 0 then s else tamperResponse s

/-- The inputs whose condition holds now. -/
def tamperTrip (m : BitVec 32) (s : State) : State :=
  tripInputs m (if s.pwr.dev = .off then s else modTamper (fun t => { t with now := m &&& activeInputs s }) s)

/-- TAMPER_TRIP. -/
def execTamperTrip (inputs : BitVec 32) (s : State) : Res := conclude s (tamperTrip inputs s)

/-- The latch is cleared at step 2 of PROVISION and REFURBISH; an input that still trips is latched again at once (R377). -/
def clearLatch (s : State) : State :=
  let s := modTamper (fun t => { t with latch := 0, nlatch := 0xFFFFFFFF, first := 0xFF, waiting := false, unlogged := 0 }) s
  tripInputs s.tamper.now s

/-- VHOLD has been charged to this level; a destruction that waits starts at HOLD_OK (R379, R380). The SH2412 leaves VHOLD
unconnected. -/
def holdReached (mv : Nat) (s : State) : State :=
  if isSmall s ∨ s.pwr.dev = .off then s
  else
    let s := modTamper (fun t => { t with holdMv := mv }) s
    if s.tamper.waiting ∧ holdOk s then destroyKeys (modTamper (fun t => { t with waiting := false }) s) else s

/-- HOLD_OK_REACHED. -/
def execHoldOkReached (mv : Nat) (s : State) : Res := conclude s (holdReached mv s)

/-! ### The objects (R376, R383) -/

/-- The effect of a write to 0x2500/0B: `bad` names the loops in which a sample mismatched. [log 89 DEDUCED] -/
def effLoopCheck (s : State) (mask : Nat) (bad : Byte) : Access :=
  if (List.range 8).any fun i => mask.testBit i && (enabledInputs s).getLsbD (1 + i) then .error abState
  else .ok (modTamper (fun t => { t with loopResult := (BitVec.ofNat 8 mask &&& ~~~bad).toNat }) s)

/-- The write of a loop mask, answered when the check has ended. -/
def loopCheck (slot mask : Nat) (bad : Byte) (s : State) : State :=
  writeEntry slot 0x2500 0x0B (numFor 0x2500 0x0B mask) true (fun _ n _ => effLoopCheck s n bad) s

/-- LOOP_CHECK. -/
def execLoopCheck (slot : Fin 16) (mask : Nat) (mismatched : Byte) (s : State) : Res := conclude s (loopCheck slot mask mismatched s)

/-- The effect of a write to 0x2500/05 to 07: both copies, with the next sequence number. [log 89 DEDUCED] -/
def effTamperConfig (s : State) (sb v : Nat) : Access :=
  if sb = 5 ∧ BitVec.ofNat 32 v &&& alwaysEnabled ≠ alwaysEnabled then .error abRange
  else
    let c := (tamperCfg s).getD { enable := tamperInputs }
    let c := { c with seq := (c.seq + 1) % 2 ^ 32 }
    let c := if sb = 5 then { c with enable := BitVec.ofNat 32 v &&& tamperInputs }
      else if sb = 6 then { c with polarity := BitVec.ofNat 4 v }
      else { c with debounce := v }
    .ok (modTamper (fun t => { t with cfgA := some c, cfgB := some c }) s)

/-- The write of a configuration entry. -/
def tamperConfigWrite (slot sub v : Nat) (s : State) : State :=
  writeEntry slot 0x2500 (5 + sub) (numFor 0x2500 (5 + sub) v) true (fun _ n _ => effTamperConfig s (5 + sub) n) s

/-- TAMPER_CONFIG_WRITE. -/
def execTamperConfigWrite (slot : Fin 16) (sub : Fin 3) (v : Nat) (s : State) : Res := conclude s (tamperConfigWrite slot sub v s)

end Sys2Proof.Machine
end

