-- ==== Sys2Proof/Machine/Link.lean ====
section
/-! DEFINITION. The die-to-die link: training, replay and integrity (R8-R10). -/

namespace Sys2Proof.Machine

/-- The link changed by `f`. -/
def modLink (f : LinkSt → LinkSt) (s : State) : State := { s with link := f s.link }

/-- A link-integrity tamper input: bit 18 acts first, then the Hive die is reset (R9, R10, R451). [log 90 DEDUCED] -/
def linkFails (s : State) : State := bootDue 4 (tripInputs 0x00040000 s)

/-- The parts of a flit, from its first bit: 80 bits of encrypted payload, the tag, the CRC (R8). -/
def flitBody (f : BitVec 128) : BitVec 80 := f.extractLsb' 48 80
def flitTagOf (f : BitVec 128) : BitVec 32 := f.extractLsb' 16 32
def flitCrcOf (f : BitVec 128) : BitVec 16 := f.extractLsb' 0 16

/-- The CRC of a flit is good. -/
def flitIntact (f : BitVec 128) : Bool := flitCrcOf f == Config.flitCrc (flitBody f) (flitTagOf f)

/-- The tag of a flit is good under the session key. -/
def flitAuthentic (s : State) (toHive : Bool) (f : BitVec 128) : Bool :=
  match s.link.key with
  | some k => flitTagOf f == Config.flitTag k toHive (flitBody f)
  | none => false

/-- The direction of the link changed: its last flit failed its CRC, or not. -/
def markFlit (toHive failed : Bool) (s : State) : State :=
  modLink (fun l => if toHive then { l with failedToHive := failed } else { l with failedToField := failed }) s

/-- A flit that checks delivers its payload; one whose CRC fails is replayed once, counted and logged; a second failure in
a row, or a bad tag on a good CRC, is tamper (R8, R9). [log 90 DEDUCED] -/
def flitReceived (toHive : Bool) (f : BitVec 128) (s : State) : State :=
  if !s.link.up || !s.pwr.hive then s
  else if flitIntact f then
    if flitAuthentic s toHive f then
      emit (.flit toHive (Config.flitPayload (s.link.key.getD []) toHive (flitBody f))) (markFlit toHive false s)
    else linkFails (markFlit toHive false s)
  else if (if toHive then s.link.failedToHive else s.link.failedToField) then linkFails (markFlit toHive false s)
  else
    logEvent 15 clsMasked 0x000A (odKey 0x2180 3) (leBytes 1 toHive.toNat ++ zeros 3)
      (emit (.flitReplay toHive) (count (odKey 0x2180 3) (markFlit toHive true s)))

/-- DIE_TO_DIE_FLIT_RECEIVED. -/
def execDieToDieFlitReceived (toHive : Bool) (flit : BitVec 128) (s : State) : Res := conclude s (flitReceived toHive flit s)


/-- The link trains, and both dies derive the session key from PAIR and two 128-bit nonces (R8, R10). The key has 128 bits,
and its context is the Hive die's nonce and then the Field die's: the spec gives neither. [log 90 DEDUCED] -/
def linkTrain (s : State) : State :=
  if ¬ s.pwr.hive ∨ s.link.up then s
  else
    let (a, s) := draw 16 s
    let (b, s) := draw 16 s
    modLink (fun _ => { up := true, key := some (kdf fusePair [] (a ++ b) 128) }) s

/-- LINK_TRAINING. -/
def execLinkTraining (s : State) : Res := conclude s (linkTrain s)

/-- The link has not trained within 2 ms. [log 90 DEDUCED] -/
def linkTimeout (s : State) : State := if s.pwr.hive ∧ ¬ s.link.up then linkFails s else s

/-- LINK_TRAINING_TIMEOUT. -/
def execLinkTrainingTimeout (s : State) : Res := conclude s (linkTimeout s)

end Sys2Proof.Machine
end

