-- ==== Sys2Proof/Machine/Power.lean ====
section
/-! DEFINITION. Supplies, domains, wakes, SLEEP entry, pads and clocks (R435-R450, R456). -/

namespace Sys2Proof.Machine

/-- Power, clocks and boot changed by `f`. -/
def modPwr (f : PwrSt → PwrSt) (s : State) : State := { s with pwr := f s.pwr }

/-! ### The Hive die goes off (R435, R437, R447) -/

/-- What the Hive die holds at its power-up: registers, stores and queues empty; what the record store, the fuses and the
Field die keep stands. -/
def hiveReset (s : State) : State :=
  let r := State.reset
  { s with
    link := { up := false, key := none }
    comb := { set := s.comb.set, activations := s.comb.activations }
    fab := {}
    sig := {}
    lf := { s.lf with loopback := false }
    uwb := { s.uwb with loopback := false }
    port := r.port
    wp := r.wp, keeper := r.keeper, vcore := r.vcore
    pairs := s.pairs.map fun p => { retired := p.retired, st := if p.retired then .retired else .running }
    cols := r.cols
    kpr := { s.kpr with running := false, half := false, recovery := false, resetTimes := [], vaultTimes := [], accessTimes := [], staged := none }
    vault := { s.vault with
      kd := none, mr := none, slots := r.vault.slots, repl := [], answers := [], attesting := none, attestResult := []
      pointer := 0, upset := 0 }
    lanes := r.lanes
    evt := { s.evt with rings := s.evt.rings.map fun e => { entries := e.entries }, windows := [] }
    sess := { s.sess with
      slots := Vector.replicate 16 none, sdo := r.sess.sdo, window := {}, download := none, inForce := [] }
    store := { s.store with waiting := s.store.waiting.filter (fun q => !hiveRequester q.who), wRights := [] }
    test := { dram := s.test.dram, dramFailing := s.test.dramFailing }
    clk := { s.clk with tick := 0, ticks := 0, slot := 0, hyper := 0, boundaryDue := false } }

/-- EN_CORE goes low: pads of the domains that were on stay held, the votes of the Hive die are gone, and everything the die
held is lost. The keeper's ACCESS and DDR bits stay as they stood (R439). [log 105 DEDUCED] -/
def hiveOff (s : State) : State :=
  let hold : Nat := ((List.range 24).map fun n => if (s.pwr.votePort.toList.getD n false) || (s.pwr.ports.toList.getD n false) then 2 ^ n else 0).sum
  let s := readerOff s
  hiveReset { s with pwr := { s.pwr with
    hive := false, held := s.pwr.held ||| BitVec.ofNat 26 hold
    pairs := Vector.replicate 16 false, ports := Vector.replicate 24 false
    votePair := Vector.replicate 16 false, voteOwn := Vector.replicate 16 false, votePort := Vector.replicate 24 false
    voteHive := s.pwr.voteHive &&& 0xC
    entry := none, seqHalted := false, boot := none, intent := 0, unlockDue := false
    pll := s.pwr.pll &&& 0x0070#13 } }

/-! ### The AO supply (R436, R441) -/

/-- Objects kept in the AO domain are cleared (R430, R448). -/
def clearAo (s : State) : State :=
  { s with od := s.od.filter fun e => ((findRow (e.1 / 256) (e.1 % 256)).map (·.keep)) ≠ some .ao }

/-- VAO rises through its power-on threshold: the AO domain starts, the scan begins, a cold boot with cause 0 follows. -/
def vaoPowerUp (s : State) : State :=
  if s.pwr.vao then s
  else
    let s := loadShare (clearAo s)
    let s := { s with
      clk := { s.clk with ao := 0 }
      store := { s.store with scanning := true, inService := none, pointer := 0 }
      tamper := { s.tamper with lastCount := Vector.replicate 20 none }
      pwr := { s.pwr with
        vao := true, dev := .sleep, brownout := false, brownoutOn := false, rtc := 0, sub := 0, crystal := false
        resRun := 0, resDoze := 0, resSleep := 0, held := 0, wake := none, wakeCode := 0, ddr := .off, ddrKey := none
        voteHive := 0, voteAccess := 0, voteDdr := 0, pll := 0 } }
    bootDue 0 (lockPowerUp s)

/-- VAO_POWER_UP. -/
def execVaoPowerUp (s : State) : Res := conclude s (vaoPowerUp s)

/-- VAO has stayed below the brown-out threshold: all enables low, no entry, DRAM not retained; a copy and counter updates
in progress complete, and new writes are refused. -/
def aoBrownout (s : State) : State :=
  if ¬ s.pwr.vao ∨ s.pwr.brownout then s
  else
    let was := s.pwr.hive || s.pwr.access
    let s := accessOff (if s.pwr.hive then hiveOff s else readerOff s)
    recordCopyComplete (modPwr (fun p => { p with
      dev := .sleep, ddr := .off, ddrKey := none, brownout := true, brownoutOn := was, bootDue := none
      voteAccess := p.voteAccess &&& 0xC, voteDdr := p.voteDdr &&& 0xC }) s)

/-- AO_BROWNOUT. -/
def execAoBrownout (s : State) : Res := conclude s (aoBrownout s)

/-- VAO has stayed above 3.1 V for 10 ms. -/
def brownoutRecovery (s : State) : State :=
  if ¬ s.pwr.vao ∨ ¬ s.pwr.brownout then s
  else
    let on := s.pwr.brownoutOn
    let s := modPwr (fun p => { p with brownout := false, brownoutOn := false }) s
    if on then bootDue 3 s else s

/-- BROWNOUT_RECOVERY. -/
def execBrownoutRecovery (s : State) : Res := conclude s (brownoutRecovery s)

/-- A power-up of the Field die from a field: counted in FMARK, and its scan begins (R394, R400). -/
def fieldStart (s : State) : State :=
  setFieldDet true (modNfc (fun n => { n with field := true })
    { s with
      pwr := { s.pwr with dev := .field }
      store := { s.store with scanning := true, tag := { s.store.tag with fmark := (s.store.tag.fmark + 1) % 2 ^ 32 } } })

/-- VAO falls below the AO reset threshold: OFF, or FIELD where a field is present. What the AO domain kept is lost. -/
def aoReset (fieldPresent : Bool) (s : State) : State :=
  if ¬ s.pwr.vao then s
  else
    let s := accessOff (if s.pwr.hive then hiveOff s else s)
    let s := modNfc (fun n => { tagGone n with field := false, detLow := false, write := none }) s
    let s := { s with
      evt := { s.evt with deferred := [], deferredGap := [] }
      store := { s.store with waiting := [], inService := none, scanning := false, pointer := 0 }
      pwr := { s.pwr with
        vao := false, dev := .off, ddr := .off, ddrKey := none, brownout := false, bootDue := none, wake := none, held := 0
        voteHive := 0, voteAccess := 0, voteDdr := 0, pll := 0, crystal := false, handed := false } }
    if fieldPresent then fieldStart s else s

/-- AO_RESET. -/
def execAoReset (fieldPresent : Bool) (s : State) : Res := conclude s (aoReset fieldPresent s)

/-- A field of at least 1.5 A/m meets a device without supply. [log 107 DEDUCED] -/
def fieldPowerUp (s : State) : State :=
  if s.pwr.dev = .off ∧ ¬ s.pwr.vao then modTamper (fun t => { t with holdMv := 0 }) (fieldStart s) else s

/-- FIELD_POWER_UP. -/
def execFieldPowerUp (s : State) : Res := conclude s (fieldPowerUp s)

/-! ### Votes and domains (R437-R440) -/

/-- The voters of R438 and the domains they vote in. -/
def mayVote (voter : Nat) (d : Domain) : Bool :=
  match d with
  | .hiveCore => voter ≤ 5 || (8 ≤ voter && voter ≤ 47)
  | .access => voter == 0 || voter == 2 || voter == 3 || voter == 4
  | .ddr => voter == 0 || voter == 3 || voter == 4
  | .pair p => voter == 5 || voter == 8 + p.val
  | .port p => voter == 24 + p.val

/-- A voter can act: those of the Hive die while it is on, the access engine while ACCESS is. [log 104 DEDUCED] -/
def voterOn (s : State) (voter : Nat) : Bool :=
  s.pwr.vao && (if voter = 2 then s.pwr.access else voter == 3 || voter == 4 || s.pwr.hive)

/-- A port's vote for its domain is withdrawn: the port stops, and its domain goes off with its pads held (R157, R166, R438). [log 105 DEDUCED] -/
def withdrawPort (n : Nat) (s : State) : State :=
  let s := modPort n (fun p => { p with voteOff := true }) s
  match (portAt s n).st with
  | .running | .busSleep | .recovering => stopPort n s
  | .pending => if s.pwr.held.getLsbD n then finishStop n (setPortState n .stopping s) else setPortState n .stopping s
  | .stopping => s
  | _ => { withHeld n s with pwr := { (withHeld n s).pwr with
      votePort := vmod s.pwr.votePort n fun _ => false, ports := vmod s.pwr.ports n fun _ => false } }

/-- A voter grants or withdraws a vote. Granted with HIVE-CORE off, it is a wake (R442). -/
def voteChange (voter : Nat) (d : Domain) (grant : Bool) (s : State) : State :=
  if !mayVote voter d || !voterOn s voter then s
  else
    let s := match d, grant with
      | .port p, false => withdrawPort p s
      | _, _ => setVote voter d grant s
    if d = .hiveCore ∧ grant ∧ ¬ s.pwr.hive then
      if voter = 2 then latchWake 18 s else if voter = 3 then latchWake 19 s else s
    else s

/-- VOTE_CHANGE. -/
def execVoteChange (voter : Fin 48) (domain : Domain) (grant : Bool) (s : State) : Res := conclude s (voteChange voter domain grant s)

/-- A domain switched on by a vote is powered. ACCESS powers up only with HIVE-CORE on, and the vault reseeds its generator
and reloads its key store (R263, R269, R344). -/
def reloadAccessKeys (s : State) : State :=
  s.vault.accessBlobs.foldl (fun s e =>
    match openBlob s e.2 with
    | .ok k => { s with lf := { s.lf with keys := s.lf.keys.map fun x => if x.index = e.1 then { x with key := some k.key } else x } }
    | .error _ => s) s

/-- The patterns a touch asked for while ACCESS was off run now (R269). [log 69 DEDUCED] -/
def runAfterWake (s : State) : State :=
  let l := s.lf.afterWake
  l.foldl (fun s i => trigger i s) (modLf (fun x => { x with afterWake := [] }) s)

/-- A domain that is voted comes on. -/
def domainPowerOn (d : Domain) (s : State) : State :=
  match d with
  | .access =>
    if s.pwr.hive ∧ ¬ s.pwr.access ∧ s.pwr.voteAccess ≠ 0 then
      runAfterWake (reloadAccessKeys (modLf (fun l => { l with seeded := true })
        (modPwr (fun p => { p with access := true, pll := p.pll ||| BitVec.twoPow 13 4 }) s)))
    else s
  | .pair p =>
    if s.pwr.hive ∧ (s.pwr.votePair[p] || s.pwr.voteOwn[p]) then modPwr (fun q => { q with pairs := q.pairs.set p true }) s else s
  | .port p =>
    if s.pwr.hive ∧ (s.pwr.votePort[p]) then modPwr (fun q => { q with ports := q.ports.set p true }) s else s
  | .hiveCore | .ddr => s

/-- DOMAIN_POWER_ON. -/
def execDomainPowerOn (domain : Domain) (s : State) : Res := conclude s (domainPowerOn domain s)

/-- The effect of a write to 0x2102/01. -/
def effKeeperVotes (s : State) (v : Nat) : Access := .ok (applyKeeperVotes (keepVal (odKey 0x2102 1) v s))

/-- The keeper's votes, written in slot 15. -/
def keeperVotesWrite (v : Nat) (s : State) : State :=
  writeEntry 15 0x2102 1 (numFor 0x2102 1 v) true (fun _ n _ => effKeeperVotes s n) s

/-- KEEPER_VOTES_WRITE. -/
def execKeeperVotesWrite (v : Nat) (s : State) : Res := conclude s (keeperVotesWrite v s)

/-- The active Comb has window starts. -/
def combHasWindows (s : State) : Bool := match s.comb.active with | some c => c.acts.any (actType · == 2) | none => false

/-- The effect of a write to 0x2100/01 (R440): 0 RUN, 1 DOZE, refused with window starts, 2 SLEEP. -/
def effStateRequest (s : State) (v : Nat) : Access :=
  if v = 1 ∧ combHasWindows s then .error abState
  else if 2 < v then .error abRange
  else .ok (setVote 0 .hiveCore (decide (v < 2)) (modPwr (fun p => { p with intent := v }) s))

/-- The write of a state request. -/
def stateRequest (slot v : Nat) (s : State) : State :=
  writeEntry slot 0x2100 1 (numFor 0x2100 1 v) true (fun _ n _ => effStateRequest s n) s

/-- RUN is requested. -/
def requestRun (slot : Nat) (s : State) : State := stateRequest slot 0 s
/-- STATE_REQUEST_RUN. -/
def execStateRequestRun (slot : Fin 16) (s : State) : Res := conclude s (requestRun slot s)
/-- DOZE is requested. -/
def requestDoze (slot : Nat) (s : State) : State := stateRequest slot 1 s
/-- STATE_REQUEST_DOZE. -/
def execStateRequestDoze (slot : Fin 16) (s : State) : Res := conclude s (requestDoze slot s)
/-- SLEEP is requested. -/
def requestSleep (slot : Nat) (s : State) : State := stateRequest slot 2 s
/-- STATE_REQUEST_SLEEP. -/
def execStateRequestSleep (slot : Fin 16) (s : State) : Res := conclude s (requestSleep slot s)

/-! ### Wakes (R442, R443) -/

/-- An enabled wake is latched; in SLEEP it starts a boot with cause 1. [log 107 DEDUCED] -/
def wake (code : Nat) (s : State) : State :=
  let s := latchWake code s
  match s.pwr.wake with
  | none => s
  | some c =>
    if s.pwr.dev = .sleep ∧ ¬ s.pwr.brownout ∧ s.pwr.bootDue.isNone then
      bootDue 1 (setVote 4 .hiveCore true (modPwr (fun p => { p with wake := none, wakeCode := c, bootStart := s.clk.ao }) s))
    else s

/-- WAKE. -/
def execWake (code : Fin 20) (s : State) : Res := conclude s (wake code s)

/-- A WAKE_SENSE input rises above its threshold. -/
def senseRise (i : Nat) (s : State) : State :=
  if ¬ s.pwr.vao ∨ s.pwr.sense.toList.getD i false then s
  else latchWake (1 + i) (modPwr (fun p => { p with sense := vmod p.sense i fun _ => true }) s)

/-- WAKE_SENSE_RISE. -/
def execWakeSenseRise (input : Fin 4) (s : State) : Res := conclude s (senseRise input s)

/-- It falls below its threshold minus the hysteresis: no wake. -/
def senseFall (i : Nat) (s : State) : State :=
  if s.pwr.vao then modPwr (fun p => { p with sense := vmod p.sense i fun _ => false }) s else s

/-- WAKE_SENSE_FALL. -/
def execWakeSenseFall (input : Fin 4) (s : State) : Res := conclude s (senseFall input s)

/-- The effect of a threshold write: in steps of 10 mV; the input at `mv` is judged anew, without a wake. -/
def effSenseThreshold (s : State) (i v mv : Nat) : Access :=
  if v % 10 ≠ 0 then .error abRange
  else
    let hyst := val s (odKey 0x2105 (5 + i))
    .ok (modPwr (fun p => { p with sense := vmod p.sense i fun b =>
      if v < mv then true else if mv + hyst < v then false else b }) (keepVal (odKey 0x2105 (1 + i)) v s))

/-- The write of a threshold, the pin standing at `mv`. -/
def senseThresholdWrite (slot i v mv : Nat) (s : State) : State :=
  writeEntry slot 0x2105 (1 + i) (numFor 0x2105 (1 + i) v) true (fun _ n _ => effSenseThreshold s i n mv) s

/-- WAKE_SENSE_THRESHOLD_WRITE. -/
def execWakeSenseThresholdWrite (slot : Fin 16) (input : Fin 4) (v : Nat) (levelMv : Nat) (s : State) : Res :=
  conclude s (senseThresholdWrite slot input v levelMv s)

/-- HOLD_N has been low for 10 µs, or is released: its votes, and a wake (R438, R442). -/
def holdNLow (low : Bool) (s : State) : State :=
  if ¬ s.pwr.vao then s
  else
    let s := modPwr (fun p => { p with holdN := low }) s
    let s := setVote 3 .ddr low (setVote 3 .access low (setVote 3 .hiveCore low s))
    if low then latchWake 19 s else s

/-- HOLD_N_LOW. -/
def execHoldNLow (low : Bool) (s : State) : Res := conclude s (holdNLow low s)

/-- The real-time clock reaches a non-zero alarm value. -/
def rtcAlarm (s : State) : State :=
  let a := val s (odKey 0x2107 2)
  if s.pwr.vao ∧ a ≠ 0 ∧ aoSec s = a then latchWake 16 s else s

/-- RTC_ALARM. -/
def execRtcAlarm (s : State) : Res := conclude s (rtcAlarm s)

/-! ### SLEEP entry (R444-R446) -/

/-- The last independent HIVE-CORE vote is withdrawn: entry begins with its step 1. [log 105 DEDUCED] -/
def sleepEntry (s : State) : State :=
  if s.pwr.dev = .on ∧ s.pwr.hive ∧ s.pwr.entry.isNone ∧ s.pwr.boot.isNone ∧ ¬ hiveVoted s then
    modPwr (fun p => { p with entry := some 1, entryFrom := runOrDoze s, entryAccess := p.access, entryPorts := [], entryPairs := [] }) s
  else s

/-- SLEEP_ENTRY. -/
def execSleepEntry (s : State) : Res := conclude s (sleepEntry s)

/-- Step 2: port tests end, and running ports begin to stop; every port under a stop keeps its pads held once its domain is
off. A PENDING enable and a flush under way stand. -/
def entryStopPorts (s : State) : State :=
  let run := (List.range 24).filter fun n =>
    (portAt s n).st == .running || (portAt s n).st == .recovering || (portAt s n).st == .busSleep
  let s := (List.range 24).foldl (fun s n => if (portAt s n).test.st = 1 then endPortTest n 0 s else s) s
  let s := run.foldl (fun s n => stopPort n s) s
  let s := (List.range 24).foldl (fun s n =>
    if (portAt s n).st = .stopping ∨ (portAt s n).st = .pending then modPort n (fun p => { p with voteOff := true }) s else s) s
  modPwr (fun p => { p with entryPorts := run }) s

/-- Step 2 is not over: a port has still to send what it holds (R166). A port being flushed counts as stopped (R446), and
so does one that waits for its pads. -/
def portsStopping (s : State) : Bool :=
  (List.range 24).any fun n =>
    !(portAt s n).flushing && ((portAt s n).st == .stopping || ((portAt s n).st == .pending && !s.pwr.held.getLsbD n))

/-- Step 3: FRESH of every receive stream recorded, the attestation snapshot replaced. -/
def entryRecords (s : State) : State :=
  let rx := s.sig.streams.filter fun e => !e.2.transmit && e.2.state ≠ 0
  let s := rx.foldl (fun s e => commitFreshness e.1 s) s
  match attestation [] (val s (odKey 0x2340 3)) 1 s with
  | (some r, s) => snapshotPut r s
  | (none, s) => s

/-- The work of step `k`. -/
def entryStep (k : Nat) (s : State) : State :=
  match k with
  | 2 => entryStopPorts s
  | 3 => entryRecords s
  | 4 =>
    let s := modPwr (fun p => { p with handed := true }) s
    if s.pwr.voteAccess = 0 then accessOff s else s
  | 5 => modPwr (fun p => { p with
      ddr := if p.voteDdr = 0 then .off else .retained, ddrKey := if p.voteDdr = 0 then none else p.ddrKey
      held := p.held ||| BitVec.twoPow 26 24 }) s
  | 6 =>
    modPwr (fun p => { p with
      seqHalted := true, haltAo := s.clk.ao, entryPairs := (List.range 16).filter fun i => p.pairs.toList.getD i false
      pairs := Vector.replicate 16 false }) s
  | 7 => modPwr (fun p => { p with dev := .sleep }) (hiveOff s)
  | _ => s

/-- The Comb resumes from a halt at its next tick; one whose halt ran past the boundary begins at tick 0 of a new
hyperperiod. [log 106 DEDUCED] -/
def resumeComb (s : State) : State :=
  match s.comb.active with
  | none => s
  | some c =>
    let halted := (s.clk.ao - s.pwr.haltAo) * 15625 / 512
    if s.clk.tick + halted < c.hyper then s
    else beginTick (expandFrom0 (keeperLine 3 { s with clk := { s.clk with
      tickPs := s.clk.tickPs + tickPs, slot := 0, tick := 0, ticks := s.clk.ticks + 1, hyper := (s.clk.hyper + 1) % 2 ^ 64, boundaryDue := false } }))

/-- The DDR retention cell powers up from Off: a key is drawn for DRAM (R331, R437). [log 125 DESIGN CHOICE] -/
def keyDdr (s : State) : State :=
  if s.pwr.ddrKey.isSome then s
  else
    let (k, s) := draw 32 s
    modPwr (fun p => { p with ddrKey := some k }) s

/-- Step `k` undone. [log 106 DEDUCED] -/
def undoStep (k : Nat) (s : State) : State :=
  match k with
  | 6 => resumeComb (modPwr (fun p => { p with seqHalted := false, pairs := Vector.ofFn fun i => p.entryPairs.contains i.val }) s)
  | 5 => modPwr (fun p => { p with ddr := .on, held := p.held &&& ~~~BitVec.twoPow 26 24 }) (keyDdr s)
  | 4 =>
    let s := modPwr (fun p => { p with handed := false }) s
    if s.pwr.entryAccess ∧ ¬ s.pwr.access then
      reloadAccessKeys (modLf (fun l => { l with seeded := true }) (modPwr (fun p => { p with
        access := true, held := p.held &&& ~~~BitVec.twoPow 26 25, pll := p.pll ||| BitVec.twoPow 13 4 }) s))
    else s
  | 2 =>
    let l := (List.range 24).filter fun n => s.pwr.entryPorts.contains n || ((portAt s n).st == .pending && !(portAt s n).flushing)
    let mask : Nat := (l.map (2 ^ ·)).sum
    l.foldl (fun s n => startPort n s) (modPwr (fun p => { p with held := p.held &&& ~~~BitVec.ofNat 26 mask, entryPorts := [] }) s)
  | _ => s

/-- The entry is abandoned at abort point `k`: steps undone in reverse, the keeper's vote restored, the cause recorded. [log 105 DEDUCED; log 106 DEDUCED] -/
def abortEntry (k : Nat) (s : State) : State :=
  let s := ((List.range (k + 1)).reverse).foldl (fun s j => undoStep j s) s
  let code := match s.pwr.wake with
    | some c => c
    | none => if s.pwr.voteHive.getLsbD 2 then 18 else if s.pwr.voteHive.getLsbD 3 then 19 else 0
  let s := count (odKey 0x2108 k) (setVote 0 .hiveCore true (modPwr (fun p => { p with entry := none, wake := none, wakeCode := code, intent := 0 }) s))
  logEvent 14 clsState s.pwr.entryFrom (odKey 0x2108 k) (leBytes 1 code) s

/-- An entry step completes: a wake or an independent vote is acted on at the abort point reached, else the next step runs. Step
2 is complete once its ports have stopped. -/
def entryAdvance (s : State) : State :=
  match s.pwr.entry with
  | none => s
  | some k =>
    if k = 2 ∧ portsStopping s then s
    else if s.pwr.wake.isSome ∨ hiveVoted s then abortEntry k s
    else if k < 6 then modPwr (fun p => { p with entry := some (k + 1) }) (entryStep (k + 1) s)
    else entryStep 7 s

/-- SLEEP_ENTRY_STEP_COMPLETE. -/
def execSleepEntryStepComplete (s : State) : Res := conclude s (entryAdvance s)

/-! ### Pads (R447) -/

/-- The effect of a write to 0x2106/01: every held pad is released, and ports that waited start. SLR_A and SLR_B stay low
while ACCESS is off. [log 105 DEDUCED] -/
def effPadRelease (s : State) : Access :=
  let s := modPwr (fun p => { p with held := if p.access then 0 else p.held &&& BitVec.twoPow 26 25 }) s
  .ok ((List.range 24).foldl (fun s n => if (portAt s n).st = .pending ∧ ¬ (portAt s n).flushing then startPort n s else s) s)

/-- The keeper releases the pads. [log 105 DEDUCED] -/
def padRelease (v : Nat) (s : State) : State :=
  writeEntry 15 0x2106 1 (numFor 0x2106 1 v) true (fun _ _ _ => effPadRelease s) s

/-- PAD_RELEASE. -/
def execPadRelease (v : Nat) (s : State) : Res := conclude s (padRelease v s)

/-! ### Clocks (R449, R450) -/

/-- The domain of a clock's bit is on. [log 108 DEDUCED] -/
def clockOn (s : State) (c : Nat) : Bool :=
  if c = 4 then s.pwr.access else if c = 5 then s.nfc.own else if c = 6 then s.pwr.vao else s.pwr.hive

/-- A PLL loses lock: counted once, its bit clears, an event. [log 108 DEDUCED] -/
def pllLoss (c : Nat) (s : State) : State :=
  if !clockOn s c || !s.pwr.pll.getLsbD c then s
  else logEvent 14 clsThreshold 0 (odKey 0x2180 2) (leBytes 1 c) (count (odKey 0x2180 2)
    (modPwr (fun p => { p with pll := p.pll &&& ~~~BitVec.twoPow 13 c }) s))

/-- PLL_LOSS_OF_LOCK. -/
def execPllLossOfLock (clock : Fin 13) (s : State) : Res := conclude s (pllLoss clock s)

/-- It locks. [log 108 DEDUCED] -/
def pllLocks (c : Nat) (s : State) : State :=
  if clockOn s c then modPwr (fun p => { p with pll := p.pll ||| BitVec.twoPow 13 c }) s else s

/-- PLL_LOCK. -/
def execPllLock (clock : Fin 13) (s : State) : Res := conclude s (pllLocks clock s)

/-- The 32.768 kHz crystal is stable. -/
def crystalStable (s : State) : State := if s.pwr.vao then modPwr (fun p => { p with crystal := true }) s else s

/-- CRYSTAL_32K_STABLE. -/
def execCrystal32kStable (s : State) : Res := conclude s (crystalStable s)

/-! ### Reset and rings (R428, R433) -/

/-- The effect of a write to 0x2000/03: answered, then a cold boot with cause 2. -/
def effDeviceReset (s : State) (v : Nat) : Access := if v = 0x74657372 then .ok (bootDue 2 s) else .error abRange

/-- The write of the reset word. -/
def deviceReset (slot v : Nat) (s : State) : State :=
  writeEntry slot 0x2000 3 (numFor 0x2000 3 v) true (fun _ n _ => effDeviceReset s n) s

/-- DEVICE_RESET. -/
def execDeviceReset (slot : Fin 16) (v : Nat) (s : State) : Res := conclude s (deviceReset slot v s)

/-- The effect of a write of a ring's base or entries: it takes effect at the next record, which goes to entry 0. -/
def effRingConfig (s : State) (src : Nat) (entries : Bool) (v : Nat) : Access :=
  if entries ∧ ¬ ((List.range 11).any fun i => v == 64 * 2 ^ i) then .error abRange
  else if ¬ entries ∧ v % 32 ≠ 0 then .error abRange
  else
    let s := keepVal (odKey (0x6010 + src) (if entries then 2 else 1)) v s
    .ok { s with evt := { s.evt with rings := vmod s.evt.rings src fun r => { r with restart := true } } }

/-- The keeper's write of a ring's base or entries. -/
def eventRingConfigWrite (src : Nat) (entries : Bool) (v : Nat) (s : State) : State :=
  let sb := if entries then 2 else 1
  writeEntry 15 (0x6010 + src) sb (numFor (0x6010 + src) sb v) true (fun _ n _ => effRingConfig s src entries n) s

/-- EVENT_RING_CONFIG_WRITE. -/
def execEventRingConfigWrite (source : Fin 40) (entries : Bool) (v : Nat) (s : State) : Res :=
  conclude s (eventRingConfigWrite source entries v s)

end Sys2Proof.Machine
end

