-- ==== Sys2Proof/Machine/Boot.lean ====
section
/-! DEFINITION. Boots (R353, R413, R451-R456, R462, R463, R484). -/

namespace Sys2Proof.Machine

/-! ### The boot ROM's life-cycle procedure (R353) -/

/-- The current record is good. -/
def currentGood (s : State) : Bool := (rule2 s.vault.row.lcA s.vault.row.lcB).isSome

/-- A state in which a share is held. -/
def sharedState (n : Nat) : Bool := n == 1 || n == 2 || n == 3

/-- KD from ROOT and the share that the vault reads from the AO share register (R14, R327). -/
def formKd (s : State) : State :=
  match aoShareOf s with
  | none => s
  | some sh => { s with vault := { s.vault with kd := some (xorB fuseRoot sh) } }

/-- The device is in this state from its record on. [log 82 DEDUCED] -/
def enterState (n : Nat) (s : State) : State := { s with lc := { s.lc with state := n } }

/-- From `if lc.share == 3` on. -/
def bootShare (r : LcRec) (s : State) : State :=
  if !sharedState r.state then enterState r.state s
  else if s.tamper.latch ≠ 0 ∨ latchRead s ≠ 0 then transition 5 0x12 true true false s
  else
    let s := enterState r.state s
    if r.share = 3 then formKd (newShare s)
    else if (aoShareOf s).isNone then transition 5 0x13 true true false s
    else formKd s

/-- From `if lc.share == 2` on, with the record in use. -/
def bootPending (r : LcRec) (s : State) : State :=
  let erased := r.share = 2
  let s := if erased then setShareField 3 (eraseAll s) else s
  let r := if erased then { r with share := 3 } else r
  if r.epoch = s.fuse.epoch + 1 then
    if s.fuse.epoch = 32 then scrapAt32 s else bootShare r (burnEpoch s)
  else bootShare r s

/-- `boot_lifecycle()`. [log 82 DEDUCED; log 83 DEDUCED] -/
def bootLifecycle (s : State) : State :=
  let e := s.fuse.epoch
  if s.fuse.scrap then enterState 6 s
  else match lcRecord s with
  | none => if s.fuse.prov then transition 5 0x14 true true false s else enterState 0 s
  | some r =>
    if !currentGood s || !(r.epoch == e || r.epoch == e + 1) then
      if sharedState r.state then transition 5 0x14 true true false s
      else
        let s := logEvent 8 clsSecurity 0x14 (odKey 0x2010 2) [] (writeLc r.state 0x14 e r.share s)
        bootPending { r with epoch := e } s
    else bootPending r s

/-- The procedure as a boot runs it: the device starts in the state it leaves, and no further boot follows. -/
def lifecycleAtBoot (s : State) : State :=
  let due := s.pwr.bootDue
  let s := bootLifecycle s
  { s with
    lc := { s.lc with debugOpen := s.lc.state == 3 || s.lc.state == 4, challenge := none }
    pwr := { s.pwr with bootDue := due } }

/-! ### What a boot clears (R408, R413, R430, R433) -/

/-- Counters and other volatile objects are cleared by a cold boot. [log 26 DEDUCED; log 109 DEDUCED] -/
def clearVolatile (s : State) : State :=
  -- the identifier that woke the device is kept over the boot its wake causes (R159)
  let keep (k : Nat) : Bool := ((findRow (k / 256) (k % 256)).map (·.keep)) ≠ some .volatile || (List.range 10).any fun n => k == pk n 9 0xB
  { s with
    od := s.od.filter fun e => keep e.1
    blobs := s.blobs.filter fun e => keep e.1
    sess := { s.sess with fails := s.sess.fails.map fun f => { f with count := 0 } } }

/-- Entries RESTORE_DEFAULTS leaves as they are. -/
def notRestored (k : Nat) : Bool :=
  k == odKey 0x3904 1 || k == odKey 0x2201 3 || k / 256 / 16 == 0x230 || k / 256 / 16 == 0x233

/-- Every kept entry returns to its default (R413). [log 109 DEDUCED] -/
def restoreDefaults (s : State) : State :=
  if !s.sess.restore then s
  else
    let gone (k : Nat) : Bool := ((findRow (k / 256) (k % 256)).map (·.keep)) == some .config && !notRestored k
    let keys := ((s.od.map (·.1)) ++ s.blobs.map (·.1)).filter gone
    let s := keys.foldl (fun s k => deleteS 0x23 k s) s
    { s with
      od := s.od.filter fun e => !gone e.1, blobs := s.blobs.filter fun e => !gone e.1
      sess := { s.sess with restore := false } }

/-! ### The start of a boot (R451, R453, R454, R456) -/

/-- Device time at a Hive-die power-up, in ps (R456). -/
def bootTimePs (s : State) : Nat := s.pwr.rtc * secPs + s.pwr.sub * 30517578125 / 1000

/-- Functions whose Enable is stored start by it: pairs and lanes (R458). [log 66 DEDUCED] -/
def startFunctions (s : State) : State :=
  { s with
    pairs := s.pairs.zipIdx.map fun (p, i) =>
      if p.retired then { p with st := .retired } else { p with st := if flag s (pairKey i 1) then .running else .stopped }
    lanes := { s.lanes with lane := s.lanes.lane.zipIdx.map fun (x, i) =>
      { x with st := if flag s (odKey (0x2480 + i) 3) then .running else .stopped } }
    fab := { s.fab with mirrors := s.fab.mirrors.zipIdx.map fun (x, i) =>
      { x with st := if flag s (odKey (0x3810 + i) 8) then .running else .stopped } } }

/-- EN_CORE goes high: the AO sequencer votes during the boot, device time starts from the AO clock, lock-outs run anew from
the power-up (R274), and the policers' buckets are full (R92). -/
def powerHive (cold : Bool) (cause done : Nat) (s : State) : State :=
  let s := setVote 4 .ddr true (setVote 4 .access true (setVote 4 .hiveCore true s))
  let s := { s with
    clk := { s.clk with tickPs := bootTimePs s, slot := 0 }
    pwr := { s.pwr with
      hive := true, access := true, dev := .boot, boot := some (cold, done), bootDue := none, wake := none, resetCause := cause
      handed := false
      wakeCode := if cause = 1 then s.pwr.wakeCode else 0
      unlockDue := cause = 1 ∧ 11 ≤ s.pwr.wakeCode ∧ s.pwr.wakeCode ≤ 14
      bootStart := if cause = 1 then s.pwr.bootStart else s.clk.ao } }
  startFunctions (resetBuckets (lockPowerUp s))

/-- A cold boot with the cause that is due, DRAM under a new key (R437): the Hive die is off for 1 ms where it was on, ACCESS and DDR start from Off
except for a wake, which finds ACCESS as it is voted. The boot ROM reads the flash's SFDP and sets the flash port's mode (R496), and both
planes are tested (R74). [log 109 DEDUCED] -/
def coldBoot (cause : Nat) (sfdp : Option Nat) (s : State) : State :=
  if s.pwr.bootDue ≠ some cause ∨ ¬ s.pwr.vao ∨ s.pwr.brownout ∨ s.store.scanning ∨ (cause = 1 ∧ s.pwr.ddr = .retained) then s
  else
    let s := if s.pwr.hive then hiveOff s else s
    let s := if cause = 1 then s else accessOff s
    let s := keyDdr (modPwr (fun p => { p with ddr := .off, ddrKey := none, held := p.held &&& ~~~BitVec.twoPow 26 24 }) s)
    let s := restoreDefaults (dropPending (clearVolatile s))
    let s := modPwr (fun p => { p with flashOctal := sfdp.isSome, flashDummy := sfdp.getD 0 }) (powerHive true cause 2 s)
    count (odKey 0x2181 2) (modFab (fun b => { b with bootTest := true }) s)

/-- COLD_BOOT, with the dummy-cycle count that the boot flash's SFDP declares for octal DTR; none where it declares no octal DTR. -/
def execColdBoot (cause : Fin 6) (sfdp : Option (Fin 32)) (s : State) : Res := conclude s (coldBoot cause (sfdp.map (·.val)) s)

/-- A wake with DDR retained. -/
def warmBoot (s : State) : State :=
  if s.pwr.bootDue ≠ some 1 ∨ s.pwr.ddr ≠ .retained ∨ ¬ s.pwr.vao ∨ s.pwr.brownout ∨ s.store.scanning then s
  else count (odKey 0x2181 3) (powerHive false 1 1 (dropPending s))

/-- WARM_BOOT. -/
def execWarmBoot (s : State) : Res := conclude s (warmBoot s)

/-! ### The keeper's image (R462, R463) -/

/-- The boot ROM's choice among the slots that fit: highest INSTALL first, confirmed or with a bit of TRIES left. -/
def chooseSlot (s : State) : Option Nat :=
  let usable (i : Nat) : Bool := match keeperSlot s i with
    | some k => slotFits s k && (k.confirmed || k.tries ≠ 0)
    | none => false
  let inst (i : Nat) : Nat := ((keeperSlot s i).map (·.install)).getD 0
  match usable 0, usable 1 with
  | true, true => if inst 0 < inst 1 then some 1 else some 0
  | true, false => some 0
  | false, true => some 1
  | false, false => none

/-- A slot that is not confirmed uses up one of its tries. -/
def useTry (i : Nat) (s : State) : State :=
  setKeeperSlot i ((keeperSlot s i).map fun k => if k.confirmed then k else { k with tries := k.tries - 1 }) s

/-- The recovery loader runs: no Comb, no object dictionary, the boot goes no further. [log 103 DEDUCED] -/
def startRecovery (s : State) : State :=
  { s with
    kpr := { s.kpr with running := false, recovery := true }
    pwr := { s.pwr with boot := none, dev := .on } }

/-- Enabled ports start; those whose pads are held wait for their release (R447, R458). [log 66 DEDUCED] -/
def startEnabledPorts (s : State) : State :=
  (List.range 24).foldl (fun s n =>
    if portFitted s n && flag s (portEnableKey n) && (portAt s n).st == .stopped then startPort n s else s) s

/-- The keeper starts: its votes take over from the AO sequencer's (R438), its settings are in force, sessions may open. [log 66 DEDUCED] -/
def keeperStarts (i : Nat) (s : State) : State :=
  let s := takeSettings (startSlot i s)
  let s := setVote 4 .hiveCore false (setVote 0 .hiveCore true (applyKeeperVotes s))
  let s := putSession 15 (some { transport := .keeperFirmware, endpoint := 32 }) (modPwr (fun p => { p with dev := .on }) s)
  startEnabledPorts s

/-- The keeper image of a boot: chosen from the boot flash, or for a warm boot the copy in DRAM of the one last started. -/
def keeperImage (cold : Bool) (s : State) : State :=
  if cold then
    match chooseSlot s with
    | none => startRecovery s
    | some i => keeperStarts i (useTry i s)
  else keeperStarts s.kpr.lastStarted s

/-! ### Restoring the Comb (R452, R466) -/

/-- The keeper restores a Comb, where none is active and none is being verified. [log 109 DEDUCED] -/
def combRestore (s : State) : State :=
  if s.kpr.running ∧ s.comb.active.isNone ∧ s.comb.state ≠ .verifying ∧ s.comb.state ≠ .loading ∧ s.comb.state ≠ .armed then restoreFrom (restoreOrder s) s
  else s

/-- COMB_RESTORE. -/
def execCombRestore (s : State) : Res := conclude s (combRestore s)

/-! ### Boot steps (R453, R454) -/

/-- DRAM is trained; a test ordered through 0x5051/01 has run and its result is kept (R484). -/
def dramTrained (s : State) : State :=
  let s := modPwr (fun p => { p with ddr := .on }) s
  if s.test.dram then
    let r := match s.test.dramFailing with | none => 0 | some a => 2 ^ 31 + a / 64 % 2 ^ 31
    setVal (odKey 0x5051 2) r { s with test := { s.test with dram := false, dramFailing := none } }
  else s

/-- The boot ROM's step: the ISA levels of the vault's and the access sequencer's images (R240), link, life cycle, KD; the tamper bits of the time off are logged, the generator is reseeded. -/
def bootRom (s : State) : State :=
  let s := { s with kpr := { s.kpr with vaultOk := s.kpr.vaultIsa ≤ 0x11, accessOk := s.kpr.accessIsa ≤ 0x10 } }
  modLf (fun l => { l with seeded := true }) (logUnlogged (lifecycleAtBoot (linkTrain s)))

/-- Tick 0: a restored Comb becomes active, and the sequencer runs. -/
def tickZero (s : State) : State :=
  match s.comb.state, s.comb.standby with
  | .armed, some _ => beginTick (expandFrom0 (swapNow s))
  | _, _ => s

/-- The boot has ended: the AO sequencer's votes end, and the time it took is kept; after a touch that is the time to the unlock
message (R430, R451, R455). [log 107 DEDUCED] -/
def bootEnds (s : State) : State :=
  let s := modPwr (fun p => { p with boot := none }) s
  let s := if s.pwr.unlockDue then s else setVal (odKey 0x2181 4) (min (bootMicros s) 0xFFFFFFFF) s
  setVote 4 .ddr false (setVote 4 .access false s)

/-- The keys of the access island are loaded and patterns that waited for them run (R269, R344). -/
def accessReady (s : State) : State := runAfterWake (if s.pwr.access then reloadAccessKeys s else s)

/-- The clocks of the Hive die lock (R449). -/
def pllsLock (s : State) : State := modPwr (fun p => { p with pll := p.pll ||| 0x001F#13 }) s

/-- Step `k` of a boot. [log 121 DEDUCED] -/
def bootStep (cold : Bool) (k : Nat) (s : State) : State :=
  match cold, k with
  | true, 4 => pllsLock s
  | true, 5 => bootRom s
  | true, 6 => keeperImage true s
  | true, 7 => dramTrained s
  | true, 8 => combRestore s
  | true, 9 => tickZero s
  | true, 10 => accessReady s
  | true, 11 => bootEnds s
  | false, 3 => pllsLock s
  | false, 4 => bootRom s
  | false, 5 => modPwr (fun p => { p with ddr := .on, held := p.held &&& ~~~BitVec.twoPow 26 24 }) s
  | false, 6 => keeperImage false s
  | false, 7 => combRestore s
  | false, 8 => tickZero s
  | false, 9 => bootEnds (accessReady s)
  | _, _ => s

/-- The next step of the boot completes. [log 109 DEDUCED] -/
def bootAdvance (s : State) : State :=
  match s.pwr.boot with
  | none => s
  | some (cold, k) => bootStep cold (k + 1) (modPwr (fun p => { p with boot := some (cold, k + 1) }) s)

/-- BOOT_STEP_COMPLETE. -/
def execBootStepComplete (s : State) : Res := conclude s (bootAdvance s)

end Sys2Proof.Machine
end

