-- ==== Sys2Proof/Machine/Lifecycle.lean ====
section
/-! DEFINITION. Life-cycle transitions by request (R323, R324, R349-R352). -/

namespace Sys2Proof.Machine

/-! ### The challenge (R351) -/

/-- A read of 0x2010/04 makes a new challenge. -/
def lcChallengeRead (slot : Nat) (s : State) : State :=
  match sessionAt s slot with
  | none => s
  | some x =>
    match allow s x false 0x2010 4 with
    | .error c => answerAbort slot c s
    | .ok _ =>
      let (b, s) := draw 32 s
      answerDone slot b { s with lc := { s.lc with challenge := some { bytes := b, madePs := nowPs s, used := false } } }

/-- LC_CHALLENGE_READ. -/
def execLcChallengeRead (slot : Fin 16) (s : State) : Res := conclude s (lcChallengeRead slot s)

/-! ### Requests (R350, R351) -/

/-- Which key a proof is checked against. -/
inductive ProofKey where
  | maker | debug | vendor
  deriving DecidableEq, Repr

/-- Its hash in the fuses. -/
def proofHash (s : State) : ProofKey → Blob
  | .maker => s.fuse.makerKh
  | .debug => s.fuse.debugKh
  | .vendor => fuseVendorKh

/-- A permitted transition (R350). -/
structure Transition where
  /-- The states it starts from. -/
  froms : List Nat
  target : Nat
  /-- Its cause code (R326). -/
  cause : Nat
  /-- The lists of proofs of which one is required. -/
  proofs : List (List ProofKey)
  erase : Bool
  share : Bool
  advance : Bool
  deriving DecidableEq, Repr

/-- The rows of R350 that a signed request asks for. -/
def trFieldLock : Transition := ⟨[1], 2, 0x02, [[.maker]], false, false, false⟩
def trOpenDebug : Transition := ⟨[1, 2], 3, 0x03, [[.debug]], true, true, true⟩
def trReprovision : Transition := ⟨[3], 1, 0x04, [[.maker, .debug]], true, true, true⟩
def trReturn : Transition := ⟨[1, 2, 3, 5], 4, 0x05, [[.vendor, .maker]], true, false, true⟩
def trRefurbish : Transition := ⟨[4], 1, 0x06, [[.vendor, .maker]], true, true, true⟩
def trScrap : Transition := ⟨[0, 4, 5], 6, 0x07, [[.maker], [.vendor]], true, false, false⟩

/-- One proof: the key hashes to its fuse field, which is not 0, and the signature verifies (R323, R351). -/
def proofGood (s : State) (msg : Blob) (k : ProofKey) (p : Blob × Blob) : Bool :=
  let kh := proofHash s k
  kh ≠ [] && kh ≠ zeros 32 && keyHash p.1 == kh && Config.ecdsaVerify p.1 msg p.2

/-- The proofs of a request against one list. -/
def proofsGood (s : State) (msg : Blob) (ks : List ProofKey) (ps : List (Blob × Blob)) : Bool :=
  ks.length == ps.length && (ks.zip ps).all fun e => proofGood s msg e.1 e.2

/-- The challenge is of the last 60 s and not used. [log 102 DEDUCED] -/
def challengeFresh (s : State) (c : Challenge) : Bool := !c.used && decide (nowPs s ≤ c.madePs + 60 * secPs)

/-- The challenge is used up. -/
def useLcChallenge (s : State) : State :=
  { s with lc := { s.lc with challenge := s.lc.challenge.map fun c => { c with used := true } } }

/-- The role VENDOR ends when the device leaves RETURN (R349, R408). -/
def endVendor (s : State) : State :=
  { s with sess := { s.sess with slots := s.sess.slots.map fun o => o.map fun x =>
      if x.role = .vendor then { x with role := .inspect } else x } }

/-- A transition is carried out; the latch is cleared with the record of REFURBISH (R352, R377). [log 82 DEDUCED] -/
def runTransition (t : Transition) (s : State) : State :=
  let wasReturn := s.lc.state = 4
  let s' := transition t.target t.cause t.advance t.erase t.share s
  let s' := if t.cause = 0x06 ∧ s'.lc.state = 1 then clearLatch s' else s'
  let s' := if wasReturn then endVendor s' else s'
  if t.cause = 0x02 then s' else bootDue 5 s'

/-- A request refused, with its event (R350, R351). -/
def refuseTransition (slot code : Nat) (s : State) : State :=
  logEvent 8 clsSecurity 0 (odKey 0x2010 3) (leBytes 4 code) (answerAbort slot code s)

/-- A signed request, its checks in order: access, the state, the cause, the challenge, the proofs. [log 82 DEDUCED] -/
def signedRequest (t : Transition) (slot : Nat) (r : LcRequest) (s : State) : State :=
  match sessionAt s slot with
  | none => s
  | some x =>
    match allow s x true 0x2010 3 with
    | .error c => answerAbort slot c s
    | .ok _ =>
      if !t.froms.contains s.lc.state then refuseTransition slot abState s
      else if r.cause.toNat ≠ t.cause then answerAbort slot abRange s
      else match s.lc.challenge with
      | none => refuseTransition slot abProof s
      | some c =>
        let msg := fuseUid ++ c.bytes ++ leBytes 1 t.target ++ leBytes 1 t.cause
        let fresh := challengeFresh s c
        let good := fresh && t.proofs.any fun ks => proofsGood s msg ks r.proofs
        let s := useLcChallenge s
        if good then answerDone slot [] (runTransition t s) else refuseTransition slot abProof s

/-- PROVISIONED to FIELD. -/
def fieldLock (slot : Nat) (r : LcRequest) (s : State) : State := signedRequest trFieldLock slot r s
/-- FIELD_LOCK. -/
def execFieldLock (slot : Fin 16) (req : LcRequest) (s : State) : Res := conclude s (fieldLock slot req s)
/-- PROVISIONED or FIELD to DEBUG. -/
def openDebug (slot : Nat) (r : LcRequest) (s : State) : State := signedRequest trOpenDebug slot r s
/-- OPEN_DEBUG. -/
def execOpenDebug (slot : Fin 16) (req : LcRequest) (s : State) : Res := conclude s (openDebug slot req s)
/-- DEBUG to PROVISIONED. -/
def reprovision (slot : Nat) (r : LcRequest) (s : State) : State := signedRequest trReprovision slot r s
/-- REPROVISION. -/
def execReprovision (slot : Fin 16) (req : LcRequest) (s : State) : Res := conclude s (reprovision slot req s)
/-- To RETURN. -/
def vendorReturn (slot : Nat) (r : LcRequest) (s : State) : State := signedRequest trReturn slot r s
/-- RETURN. -/
def execVendorReturn (slot : Fin 16) (req : LcRequest) (s : State) : Res := conclude s (vendorReturn slot req s)
/-- RETURN to PROVISIONED. -/
def refurbish (slot : Nat) (r : LcRequest) (s : State) : State := signedRequest trRefurbish slot r s
/-- REFURBISH. -/
def execRefurbish (slot : Fin 16) (req : LcRequest) (s : State) : Res := conclude s (refurbish slot req s)
/-- To SCRAPPED. -/
def scrapRequest (slot : Nat) (r : LcRequest) (s : State) : State := signedRequest trScrap slot r s
/-- SCRAP. -/
def execScrap (slot : Fin 16) (req : LcRequest) (s : State) : Res := conclude s (scrapRequest slot req s)

/-! ### PROVISION and the Comb keys (R324) -/

/-- The fuses PROVISION programs. [log 84 DEDUCED] -/
def programFuses (f : FuseValues) (s : State) : State :=
  let hash (b : Blob) : Blob := if subPad b 0 32 = zeros 32 then [] else subPad b 0 32
  { s with fuse := { s.fuse with
      makerKh := hash f.makerKh, debugKh := hash f.debugKh
      combKh := (List.range 4).map fun i => hash (f.combKh.getD i [])
      combPol := f.combPol.toNat % 4 } }

/-- A session on a CAN service port. [log 84 DEDUCED] -/
def onServicePort (x : Session) : Bool := x.transport == .sdo || (x.transport == .uds && decide (x.endpoint < 10))

/-- BLANK to PROVISIONED: the fuses, the record, a new share; a session on a CAN service port is admitted as MAKER without
proof (R350, R408). [log 84 DEDUCED] -/
def provision (slot : Nat) (cause : Byte) (f : FuseValues) (s : State) : State :=
  match sessionAt s slot with
  | none => s
  | some x =>
    let x := if s.lc.state = 0 ∧ onServicePort x then { x with role := .maker } else x
    match allow s x true 0x2010 3 with
    | .error c => answerAbort slot c s
    | .ok _ =>
      if x.role ≠ .maker then answerAbort slot abRole s
      else if s.lc.state ≠ 0 then refuseTransition slot abState s
      else if cause ≠ 0x01 then answerAbort slot abRange s
      else answerDone slot [] (bootDue 5 (clearLatch (transition 1 0x01 false false true (programFuses f s))))

/-- PROVISION. -/
def execProvision (slot : Fin 16) (cause : Byte) (fuses : FuseValues) (s : State) : Res := conclude s (provision slot cause fuses s)

/-- The effect of a write to 0x2300/06. -/
def effKeyRevoke (s : State) (v : Nat) : Access :=
  if 16 ≤ v then .error abRange
  else .ok { s with fuse := { s.fuse with combRev := s.fuse.combRev ||| v } }

/-- The write that revokes Comb keys. [log 84 DEDUCED] -/
def combKeyRevoke (slot v : Nat) (s : State) : State :=
  writeEntry slot 0x2300 6 (numFor 0x2300 6 v) true (fun _ n _ => effKeyRevoke s n) s

/-- COMB_KEY_REVOKE. -/
def execCombKeyRevoke (slot : Fin 16) (v : Nat) (s : State) : Res := conclude s (combKeyRevoke slot v s)

end Sys2Proof.Machine
end

