-- ==== Sys2Proof/Machine/Live.lean ====
section
/-! DEFINITION. Live service and events: the recovery loader, processor restarts, event rings (R433, R463, R469-R474, R484). -/

namespace Sys2Proof.Machine

/-- No keeper image fits, or the training of the DRAM has failed twice (R484): the recovery loader runs, and nothing is
forwarded. [log 103 DEDUCED] -/
def recoveryLoader (s : State) : State :=
  match s.pwr.boot with
  | some (true, 5) => if (chooseSlot s).isNone then startRecovery s else s
  | some (true, 6) =>
    let s := closeSessions s
    startRecovery { s with port := State.reset.port, sess := { s.sess with slots := Vector.replicate 16 none } }
  | _ => s

/-- RECOVERY_LOADER. -/
def execRecoveryLoader (s : State) : Res := conclude s (recoveryLoader s)

/-- The access sequencer restarts, after a double trap or an unmasked miscompare. -/
def accessSequencerRestart (s : State) : State := if s.pwr.access then accessRestart s.acore.tcode.toNat s else s

/-- ACCESS_SEQUENCER_RESTART. -/
def execAccessSequencerRestart (s : State) : Res := conclude s (accessSequencerRestart s)

/-! ### Event rings (R432, R433, R471-R473) -/

/-- Sources present (0x6000/01). -/
def sourcesPresent (s : State) : Nat := if isSmall s then 0x0000000CCC3FFF3F else 0x000000FFFFFFFFFF

/-- The 32 bytes of a record. -/
def EventRec.bytes (e : EventRec) : Blob :=
  let b := leBytes 4 e.seq ++ leBytes 1 e.source ++ leBytes 1 e.cls ++ leBytes 2 e.detail ++ leBytes 8 e.time ++
    leBytes 3 e.obj ++ leBytes 1 e.flags ++ subPad e.data 0 8
  b ++ leBytes 4 (crc32c b)

/-- A source logs an event: its record is staged. -/
def eventRecord (src cls detail obj : Nat) (data : Blob) (s : State) : State :=
  if (sourcesPresent s).testBit src ∧ (s.pwr.hive ∨ (s.pwr.vao ∧ fieldSource src)) then
    logEvent src cls detail (odKey (obj % 65536) (obj / 65536)) data s
  else s

/-- EVENT_RECORD. -/
def execEventRecord (source : Fin 40) (cls : Byte) (detail : BitVec 16) (obj : BitVec 24) (data : Blob) (s : State) : Res :=
  conclude s (eventRecord source cls.toNat detail.toNat obj.toNat data s)

/-- A ring that its base or entries were written for, or that starts after a power-up, begins at entry 0. -/
def EventRing.begin (r : EventRing) (entries : Nat) : EventRing :=
  if r.restart then { r with restart := false, entries := entries, ring := [], write := 0, read := 0, unread := 0 } else r

/-- At least three quarters of a ring are unread. [log 110 DEDUCED] -/
def EventRing.high (r : EventRing) : Bool := decide (3 * r.entries ≤ 4 * r.unread)

/-- A record enters its source's ring: it gets its SEQ; in a full ring the oldest entry is overwritten and counted. [log 110 DEDUCED] -/
def ringWrite (src : Nat) (e : EventRec) (s : State) : State :=
  let r := ((s.evt.rings[src]?).getD {}).begin (val s (odKey (0x6010 + src) 2))
  let e := { e with seq := r.seq }
  let full := decide (r.entries ≤ r.unread)
  let r' : EventRing := { r with
    ring := mapPut r.write e r.ring, write := (r.write + 1) % max r.entries 1, seq := (r.seq + 1) % 2 ^ 32
    unread := min (r.unread + 1) r.entries }
  let s := { s with evt := { s.evt with rings := vmod s.evt.rings src fun _ => r' } }
  let s := if full then count (odKey (0x6010 + src) 6) s else s
  let s := emit (.dram (val s (odKey (0x6010 + src) 1) + 32 * r.write) e.bytes) (count (odKey (0x6010 + src) 7) s)
  if r'.high then keeperLine 5 s else s

/-- The oldest staged record of a source moves into its ring, in a DRAM slot of client 2; deferred records of the source go
first. In service-only mode no Comb reserves slots, and the record is written as it stands. [log 110 DEDUCED] -/
def eventRingWrite (src : Nat) (s : State) : State :=
  let r := (s.evt.rings[src]?).getD {}
  match r.staging with
  | [] => s
  | e :: rest =>
    if ¬ s.pwr.hive ∨ (s.evt.deferred.any fun d => d.source == src) ∨ ¬ (serviceOnly s ∨ dramSlotDue s 2) then s
    else ringWrite src e { s with evt := { s.evt with rings := vmod s.evt.rings src fun x => { x with staging := rest } } }

/-- EVENT_RING_WRITE. -/
def execEventRingWrite (source : Fin 40) (s : State) : Res := conclude s (eventRingWrite source s)

/-- A summary window closes 1 s after it opened: a SUMMARY record where something was not logged (R470). [log 110 DEDUCED] -/
def summaryClose (detail key : Nat) (s : State) : State :=
  match s.evt.windows.find? fun w => w.detail == detail && w.key == key with
  | none => s
  | some w =>
    if nowPs s < w.openPs + secPs then s
    else
    let s := { s with evt := { s.evt with windows := s.evt.windows.filter fun w => !(w.detail == detail && w.key == key) } }
    if w.count = 0 then s
    else stageEvent { seq := 0, source := w.source, cls := w.cls, detail := w.detail, time := nowNs s, obj := w.obj, flags := 2,
                      data := subPad w.first 0 4 ++ leBytes 4 w.count } s

/-- EVENT_SUMMARY_WINDOW_CLOSE. -/
def execEventSummaryWindowClose (detail : BitVec 16) (key : Nat) (s : State) : Res := conclude s (summaryClose detail.toNat key s)

/-- Deferred records go to their rings after a boot, once the keeper runs, in their order (R473). [log 110 DEDUCED] -/
def deferredFlush (s : State) : State :=
  if s.pwr.hive ∧ s.kpr.running then
    s.evt.deferred.foldl (fun s e => ringWrite e.source e s) { s with evt := { s.evt with deferred := [] } }
  else s

/-- DEFERRED_EVENT_FLUSH. -/
def execDeferredEventFlush (s : State) : Res := conclude s (deferredFlush s)

end Sys2Proof.Machine
end

