-- ==== Sys2Proof/Machine/Test.lean ====
section
/-! DEFINITION. Tests in the field, the debug port and boundary scan (R431, R475-R486). -/

namespace Sys2Proof.Machine

/-- Tests in progress changed by `f`. -/
def modTest (f : TestSt → TestSt) (s : State) : State := { s with test := f s.test }

/-! ### Port tests (R475-R478) -/

/-- Writes to a port or lane test are accepted while the port is STOPPED or DOWN (R431). -/
def portAtRest (s : State) (n : Nat) : Bool := (portAt s n).st == .stopped || (portAt s n).st == .down

/-- SERk's test runs. -/
def serRuns (s : State) (k : Nat) : Bool := ((s.test.ser[k]?).getD {}).running

/-- The effect of a write to 0x5010 + n/05. -/
def effPortTest (s : State) (n v : Nat) : Access :=
  let mode := val s (odKey (0x5010 + n) 1)
  if v ≠ 1 then .ok (stopPortTest n s)
  else if 18 ≤ n ∧ serRuns s (n - 18) then .error abState
  else if !testModeOk n mode || (modeGenerates mode && !testLenOk s n (val s (odKey (0x5010 + n) 2))) then .error abRange
  else .ok (startPortTest n mode (val s (odKey (0x5010 + n) 3)) s)

/-- The write that starts or stops a port test. -/
def portTestWrite (slot n v : Nat) (s : State) : State :=
  writeEntry slot (0x5010 + n) 5 (numFor (0x5010 + n) 5 v) (portAtRest s n) (fun _ v _ => effPortTest s n v) s

/-- PORT_TEST_START. -/
def execPortTestStart (slot : Fin 16) (port : Fin 24) (s : State) : Res := conclude s (portTestWrite slot port 1 s)

/-- PORT_TEST_STOP. -/
def execPortTestStop (slot : Fin 16) (port : Fin 24) (s : State) : Res := conclude s (portTestWrite slot port 2 s)

/-- Sequence number and pattern of a frame with the layout of R476: the sequence, whether the pattern is good. -/
def testLayout (n : Nat) (b : Blob) : Option (Nat × Bool) :=
  if n < 14 then
    let seq := ofBe (sub b 0 2)
    if b.length < 2 then none else some (seq, b.drop 2 == testPattern seq 2 b.length)
  else
    let seq := ofBe (sub b 14 4)
    if b.length < 64 ∨ sub b 0 6 ≠ sub b 6 6 ∨ ofBe (sub b 12 2) ≠ 0x88B6 then none
    else some (seq, sub b 18 (b.length - 22) == testPattern seq 18 (b.length - 4))

/-- The checker evaluates a frame (R477). The first one after a start sets the expected SEQ. [log 112 DEDUCED] -/
def testFrameChecked (n : Nat) (b : Blob) (crcGood : Bool) (s : State) : State :=
  let t := (portAt s n).test
  if t.st ≠ 1 ∨ ¬ modeChecks t.mode then s
  else match testLayout n b with
  | none => s
  | some (seq, good) =>
    let bad := !crcGood || !good || (t.checked ≠ 0 && seq ≠ t.expectSeq)
    modPort n (fun p => { p with test := { p.test with
      checked := min (t.checked + 1) 0xFFFFFFFF, errors := if bad then min (t.errors + 1) 0xFFFFFFFF else t.errors
      expectSeq := (seq + 1) % 2 ^ testSeqBits n } }) s

/-- TEST_FRAME_CHECK. -/
def execTestFrameCheck (port : Fin 24) (frame : Blob) (crcGood : Bool) (s : State) : Res :=
  conclude s (testFrameChecked port frame crcGood s)

/-- A test with a frame count is complete (R477): all sent, all checked, or 100 ms after the last was sent. A LIN commander's
frames are sent on a clock of their own, so its count has been sent by now. [log 112 DEDUCED] -/
def portTestComplete (n : Nat) (s : State) : State :=
  let t := (portAt s n).test
  let lin := portKind n == .lin
  let sent := lin || t.sent == t.count
  if t.st ≠ 1 ∨ t.count = 0 then s
  else if (t.mode = 1 ∧ sent) ∨ (modeChecks t.mode ∧ (t.count ≤ t.checked ∨ sent)) then
    endPortTest n 2 (modPort n (fun p => { p with test := { p.test with
      sent := if lin && modeGenerates t.mode then t.count else t.sent } }) s)
  else s

/-- PORT_TEST_COMPLETE. -/
def execPortTestComplete (port : Fin 24) (s : State) : Res := conclude s (portTestComplete port s)

/-! ### SerDes lanes (R479) -/

/-- SERk's test changed. -/
def modSer (k : Nat) (f : SerTest → SerTest) (s : State) : State := modTest (fun t => { t with ser := vmod t.ser k f }) s

/-- Bits and wrong bits seen since the checker locked, at least `least` of each: how many, only the wire shows; free values. [log 113 DEDUCED] -/
def countSerBits (k least : Nat) (s : State) : State :=
  let x := (s.test.ser[k]?).getD {}
  if !x.locked then s
  else
    let (e, s) := free (2 ^ 64) s
    let (g, s) := free (2 ^ 64) s
    modSer k (fun y => { y with bits := (y.bits + least + e + g) % 2 ^ 64, errors := (y.errors + least + e) % 2 ^ 64 }) s

/-- The effect of a write to 0x5030 + k/03. [log 113 DEDUCED] -/
def effSerTest (s : State) (k v : Nat) : Access :=
  if v ≠ 1 then .ok (if serRuns s k then modSer k (fun x => { x with running := false, locked := false }) (countSerBits k 0 s) else s)
  else if (portAt s (18 + k)).test.st = 1 then .error abState
  else .ok (modSer k (fun _ => { running := true }) s)

/-- The write that starts or stops a lane test. -/
def serTestWrite (slot k v : Nat) (s : State) : State :=
  writeEntry slot (0x5030 + k) 3 (numFor (0x5030 + k) 3 v) (portAtRest s (18 + k)) (fun _ v _ => effSerTest s k v) s

/-- SER_TEST_START. -/
def execSerTestStart (slot : Fin 16) (lane : Fin 6) (s : State) : Res := conclude s (serTestWrite slot lane 1 s)

/-- SER_TEST_STOP. -/
def execSerTestStop (slot : Fin 16) (lane : Fin 6) (s : State) : Res := conclude s (serTestWrite slot lane 2 s)

/-- The checker of a running test that checks locks. [log 113 DEDUCED] -/
def serLock (k : Nat) (s : State) : State :=
  if serRuns s k ∧ (val s (odKey (0x5030 + k) 2)).testBit 1 then modSer k (fun x => { x with locked := true }) s else s

/-- PRBS_CHECKER_LOCK. -/
def execPrbsCheckerLock (lane : Fin 6) (s : State) : Res := conclude s (serLock lane s)

/-- It loses lock: 32 of the last 64 bits were wrong. The counters stand. [log 113 DEDUCED] -/
def serUnlock (k : Nat) (s : State) : State :=
  if ((s.test.ser[k]?).getD {}).locked then modSer k (fun x => { x with locked := false }) (countSerBits k 32 s) else s

/-- PRBS_CHECKER_LOSS_OF_LOCK. -/
def execPrbsCheckerLossOfLock (lane : Fin 6) (s : State) : Res := conclude s (serUnlock lane s)

/-! ### Radio and antenna checks (R480-R482) -/

/-- The effect of a write to 0x5040/02: the loopback is a pending start of requester 33. -/
def effLfLoopback (s : State) : Access :=
  let c := val s (odKey 0x5040 1)
  if chanAt s c = .stopped ∨ chanAt s c = .fault then
    .ok (modTest (fun t => { t with lf := true }) (modLf (fun l => { l with
      loopback := false, pending := if l.pending.contains 33 then l.pending else l.pending ++ [33] }) s))
  else .error abState

/-- The write that starts the LF loopback. -/
def lfLoopbackStart (slot : Nat) (s : State) : State :=
  writeEntry slot 0x5040 2 (numFor 0x5040 2 1) true (fun _ _ _ => effLfLoopback s) s

/-- LF_LOOPBACK_START. -/
def execLfLoopbackStart (slot : Fin 16) (s : State) : Res := conclude s (lfLoopbackStart slot s)

/-- The finding of R261 for a peak at ICUR 32: 0 pass, 1 open, 2 short (above 2.4 A), 3 not reached. [log 114 DEDUCED] -/
def lfFinding (peak : Nat) : Nat :=
  if 2400 < peak then 2
  else if peak * 4000000 < 32 * 7812500 then 1
  else if peak * 10000000 ≤ 32 * 7812500 * 9 then 3
  else 0

/-- The loopback's 64 cycles are over: the result stands in 0x5040/03, and a short leaves the channel in FAULT. -/
def lfLoopbackEnds (peak : Nat) (s : State) : State :=
  if !s.lf.loopback then s
  else
    let c := val s (odKey 0x5040 1)
    let f := lfFinding peak
    let s := modTest (fun t => { t with lf := false }) (modLf (fun l => { l with loopback := false }) s)
    let s := setVal (odKey 0x5040 3) (min peak 0xFFFF + f * 2 ^ 16) s
    if f = 2 then setChan c .fault s else s

/-- LF_LOOPBACK_COMPLETE. -/
def execLfLoopbackComplete (peak : Nat) (s : State) : Res := conclude s (lfLoopbackEnds peak s)

/-- The effect of a write to 0x5041/01. -/
def effUwbLoopback (s : State) : Access :=
  if s.uwb.st = .stopped ∨ s.uwb.st = .fault then
    .ok (modTest (fun t => { t with uwb := true }) { s with uwb := { s.uwb with loopback := true } })
  else .error abState

/-- The write that starts the UWB loopback. -/
def uwbLoopbackStart (slot : Nat) (s : State) : State :=
  writeEntry slot 0x5041 1 (numFor 0x5041 1 1) true (fun _ _ _ => effUwbLoopback s) s

/-- UWB_LOOPBACK_START. -/
def execUwbLoopbackStart (slot : Fin 16) (s : State) : Res := conclude s (uwbLoopbackStart slot s)

/-- The loopback frame was received, with this delay, or was not. -/
def uwbLoopbackEnds (delay : Option Nat) (s : State) : State :=
  if !s.uwb.loopback then s
  else
    let r := match delay with | some d => d % 2 ^ 32 | none => 0xFFFFFFFF
    setVal (odKey 0x5041 2) r (modTest (fun t => { t with uwb := false }) { s with uwb := { s.uwb with loopback := false } })

/-- UWB_LOOPBACK_COMPLETE. -/
def execUwbLoopbackComplete (delay : Option Nat) (s : State) : Res := conclude s (uwbLoopbackEnds delay s)

/-- The effect of a write to 0x5042/01: with an external field nothing is driven. -/
def effNfcLoad (s : State) : Access :=
  if s.nfc.st ≠ .stopped then .error abState
  else if s.nfc.field then .ok (setVal (odKey 0x5042 2) 0xFFFF s)
  else .ok (modTest (fun t => { t with nfc := true }) (setOwnField true s))

/-- The write that starts the load check. [log 114 DEDUCED] -/
def nfcLoadStart (slot : Nat) (s : State) : State :=
  writeEntry slot 0x5042 1 (numFor 0x5042 1 1) true (fun _ _ _ => effNfcLoad s) s

/-- NFC_LOAD_CHECK_START. -/
def execNfcLoadCheckStart (slot : Fin 16) (s : State) : Res := conclude s (nfcLoadStart slot s)

/-- The 1 ms drive is over. -/
def nfcLoadEnds (current offset : Byte) (s : State) : State :=
  if !s.test.nfc then s
  else setVal (odKey 0x5042 2) (current.toNat + offset.toNat * 256) (setOwnField false (modTest (fun t => { t with nfc := false }) s))

/-- NFC_LOAD_CHECK_COMPLETE. -/
def execNfcLoadCheckComplete (current offset : Byte) (s : State) : Res := conclude s (nfcLoadEnds current offset s)

/-! ### Memories (R483, R484) -/

/-- The condition of a memory code for BIST. -/
def bistAllowed (s : State) (code : Nat) : Bool :=
  if code = 0x40 then true
  else if 0x10 ≤ code ∧ code < 0x20 then
    pairFitted s (code - 0x10) && ((pairAt s (code - 0x10)).st == .stopped || (pairAt s (code - 0x10)).st == .retired)
  else if 0x20 ≤ code ∧ code < 0x2C then (laneAt s (code - 0x20)).st == .stopped || (laneAt s (code - 0x20)).st == .fault
  else if 0x30 ≤ code ∧ code < 0x3E then portFitted s (code - 0x30) && portAtRest s (code - 0x30)
  else false

/-- The effect of a write to 0x5050/02. [log 114 DEDUCED] -/
def effBist (s : State) : Access :=
  let code := val s (odKey 0x5050 1)
  if bistAllowed s code then .ok (modTest (fun t => { t with bist := some code }) s) else .error abState

/-- The write that starts a BIST. -/
def bistStart (slot : Nat) (s : State) : State :=
  writeEntry slot 0x5050 2 (numFor 0x5050 2 1) true (fun _ _ _ => effBist s) s

/-- BIST_START. -/
def execBistStart (slot : Fin 16) (s : State) : Res := conclude s (bistStart slot s)

/-- The memory a BIST has overwritten: March C- leaves every word 0. FeRAM is only read. [log 59 DESIGN CHOICE; log 114 DEDUCED] -/
def bistWipes (code : Nat) (s : State) : State :=
  if code < 0x20 then { s with wp := vmod s.wp (code - 0x10) fun k => { k with mem := [], code := [], badCode := [] } }
  else if code < 0x30 then modLane (code - 0x20) (fun x => { x with hold := [] }) s
  else if code < 0x40 then modPort (code - 0x30) (fun p => { p with
    can := { p.can with rq0 := [], rq1 := [] }, lin := { p.lin with rq0 := [], rq1 := [] } }) s
  else s

/-- The owner's PENDING enable starts it. -/
def bistReleases (code : Nat) (s : State) : State :=
  if code < 0x20 then pairStopped (code - 0x10) s
  else if code < 0x30 then laneStopped (code - 0x20) s
  else if code < 0x40 then portStopped (code - 0x30) s
  else s

/-- A BIST ends with its result. [log 114 DEDUCED] -/
def bistEnds (failing : Option Nat) (s : State) : State :=
  match s.test.bist with
  | none => s
  | some code =>
    let r := match failing with | none => 0 | some a => 2 ^ 31 + a % 2 ^ 31
    bistReleases code (setVal (odKey 0x5050 3) r (modTest (fun t => { t with bist := none }) (bistWipes code s)))

/-- BIST_COMPLETE. -/
def execBistComplete (failing : Option Nat) (s : State) : Res := conclude s (bistEnds failing s)

/-- The effect of a write to 0x5051/01: a cold boot with cause 2, in which the boot ROM tests the DRAM; `failing` is what
it will find. [log 114 DEDUCED] -/
def effDramTest (s : State) (failing : Option Nat) : Access :=
  .ok (bootDue 2 (modTest (fun t => { t with dram := true, dramFailing := failing }) s))

/-- The write that orders the DRAM test, in service-only mode. -/
def dramTestStart (slot : Nat) (failing : Option Nat) (s : State) : State :=
  writeEntry slot 0x5051 1 (numFor 0x5051 1 1) (serviceOnly s) (fun _ _ _ => effDramTest s failing) s

/-- DRAM_TEST_START. -/
def execDramTestStart (slot : Fin 16) (failing : Option Nat) (s : State) : Res := conclude s (dramTestStart slot failing s)

/-! ### The debug port (R485) -/

/-- The debug port reaches a core: it is open, and the core is the keeper, a fitted worker or the access sequencer, with
power. Nothing reaches the vault. -/
def debugReaches (s : State) (c : CoreId) : Bool :=
  s.lc.debugOpen && s.pwr.hive &&
  (match c with | .wp p => pairFitted s p | .keeper => true | .vault => false | .access => s.pwr.access)

/-- Halt. -/
def debugHalt (c : CoreId) (s : State) : State :=
  if debugReaches s c then modCore c (fun k => { k with debugHalt := true, debugStep := false }) s else s

/-- DEBUG_HALT. -/
def execDebugHalt (c : CoreId) (s : State) : Res := conclude s (debugHalt c s)

/-- Step: the halted core issues its next instruction, and no more. [log 115 DEDUCED] -/
def debugStep (c : CoreId) (s : State) : State :=
  if debugReaches s c ∧ (coreOf c s).debugHalt then modCore c (fun k => { k with debugStep := true }) s else s

/-- DEBUG_STEP. -/
def execDebugStep (c : CoreId) (s : State) : Res := conclude s (debugStep c s)

/-- Read a general register of a halted core. [log 115 DEDUCED] -/
def debugRead (c : CoreId) (r : Fin 32) (s : State) : State :=
  if debugReaches s c ∧ (coreOf c s).debugHalt then emit (.debug ((coreOf c s).g[r]).val.toNat) s else s

/-- DEBUG_READ. -/
def execDebugRead (c : CoreId) (reg : Fin 32) (s : State) : Res := conclude s (debugRead c reg s)

/-! ### Boundary scan (R485, R486) -/

/-- The TAP controllers are out of Test-Logic-Reset. [log 115 DEDUCED] -/
def tapOpen (s : State) : Bool := s.lc.debugOpen && s.pwr.hive

/-- A JTAG instruction is loaded in both TAPs, and these bits are shifted out. [log 115 DEDUCED] -/
def jtagShift (i : JtagInst) (bits : List Bool) (s : State) : State :=
  if tapOpen s then emit (.jtag bits) (modTest (fun t => { t with jtag := i }) s) else s

/-- One bypass bit in each die. -/
def jtagBypass (s : State) : State := jtagShift .bypass [false, false] s

/-- BYPASS. -/
def execJtagBypass (s : State) : Res := conclude s (jtagBypass s)

/-- IDCODE of a die: its part field. -/
def idcode (s : State) (part : Nat) : Nat := s.fuse.stepping % 16 * 2 ^ 28 + part * 2 ^ 12 + 0x3D9 * 2 + 1

/-- Both dies' IDCODE, Hive die first, each from its bit 0. -/
def jtagIdcode (s : State) : State :=
  let bits (v : Nat) : List Bool := (List.range 32).map v.testBit
  jtagShift .idcode (bits (idcode s (if isSmall s then 0x2412 else 0x2424)) ++ bits (idcode s 0x2400)) s

/-- IDCODE. -/
def execJtagIdcode (s : State) : Res := conclude s (jtagIdcode s)

/-- The boundary cells' sample; their order is the BSDL file's. [log 115 DEDUCED] -/
def jtagSample (pads : List Bool) (s : State) : State := jtagShift .sample pads s

/-- SAMPLE_PRELOAD. -/
def execJtagSamplePreload (pads : List Bool) (s : State) : Res := conclude s (jtagSample pads s)

/-- EXTEST_PULSE or EXTEST_TRAIN on SER0-SER5; outside service-only mode it acts as BYPASS. [log 115 DEDUCED] -/
def jtagExtest (i : JtagInst) (s : State) : State := if serviceOnly s then jtagShift i [] s else jtagBypass s

/-- EXTEST_PULSE. -/
def execExtestPulse (s : State) : Res := conclude s (jtagExtest .extestPulse s)

/-- EXTEST_TRAIN. -/
def execExtestTrain (s : State) : Res := conclude s (jtagExtest .extestTrain s)

end Sys2Proof.Machine
end

