-- ==== Sys2Proof/Machine/Stops.lean ====
section
/-! DEFINITION. Stoppable functions: the end of a shut-down (R457, R458), and the Enable of a mirror session (R102-R104). -/

namespace Sys2Proof.Machine

/-- A mirror session's State changes. [log 27 DEDUCED] -/
def setMirror (m : Nat) (st : FnState) (s : State) : State := modMirror m (fun x => { x with st := st }) s

/-- A session starts: its sequence at 0 (R103), its ring from entry 0. [log 27 DEDUCED] -/
def startMirror (m : Nat) (s : State) : State :=
  modMirror m (fun x => { x with st := .running, seq := 0, write := 0, waiting := [], ring := [] }) s

/-- The effect of a write to 0x3810 + m/08. -/
def effMirrorEnable (s : State) (m v : Nat) : Access :=
  let s := keepVal (odKey (0x3810 + m) 8) v s
  .ok (
    if v = 0 then
      match (mirrorAt s m).st with
      | .running | .pending => setMirror m .stopping s
      | _ => s
    else
      match (mirrorAt s m).st with
      | .stopped => startMirror m s
      | .stopping => setMirror m .pending s
      | _ => s)

/-- The entry being written is complete; entries still waiting are not written (R457). -/
def mirrorStopped (m : Nat) (s : State) : State :=
  match (mirrorAt s m).st with
  | .stopping => modMirror m (fun x => { x with st := .stopped, waiting := [] }) s
  | .pending => startMirror m s
  | _ => s

/-- The frame in progress of a stopping port test is complete: the test is idle, and a pending enable starts the port. -/
def portTestStopped (n : Nat) (s : State) : State :=
  if (portAt s n).test.st = 1 ∧ (portAt s n).test.stopping then portStopped n (endPortTest n 0 s) else s

/-- The shut-down of a stoppable function reaches its end, and a pending enable starts the function. -/
def shutdownEnds (fn : Stoppable) (s : State) : State :=
  match fn with
  | .port p => portStopped p s
  | .pair p => pairStopped p s
  | .lane l => laneStopped l s
  | .lfChannel c => lfStoppedNow c s
  | .uwb => uwbStopped s
  | .nfc => nfcStopped s
  | .mirror m => mirrorStopped m s
  | .portTest p => portTestStopped p s

/-- SHUTDOWN_COMPLETE. -/
def execShutdownComplete (fn : Stoppable) (s : State) : Res := conclude s (shutdownEnds fn s)

end Sys2Proof.Machine
end

