-- ==== Sys2Proof/Machine/OdRead.lean ====
section
/-! DEFINITION. What every entry of the object dictionary reads (R408, R412, R422-R434 and the object tables of the
chapters): entries that show state are computed, the others read as stored. -/

namespace Sys2Proof.Machine

/-- Bits of a mask, bit `i` where `f i` holds. -/
def maskOf (n : Nat) (f : Nat → Bool) : Nat := ((List.range n).map fun i => if f i then 2 ^ i else 0).sum

/-! ### Device-wide entries -/

/-- Readings of 0x2109: die temperatures in 0.1 °C, two's complement, and the two supplies in mV. [log 11 DESIGN CHOICE] -/
def dieReading (s : State) (i : Nat) : Nat := Config.sensor (0x20 + i) s.clk.ticks % 2 ^ 16

/-- The error register (R427). [log 96 DESIGN CHOICE] -/
def errorRegister (s : State) : Nat :=
  let bad (lo hi v : Nat) : Bool := v < lo || hi < v
  let b2 : Bool := bad 3135 3465 (dieReading s 2) || bad 776 824 (dieReading s 3)
  let b3 : Bool := decide (1400 < signedOf 16 (dieReading s 0)) || decide (1400 < signedOf 16 (dieReading s 1))
  let b4 : Bool := serviceOnly s || (List.range 24).any fun n => portFitted s n && (portAt s n).st.portCode == 4
  let b7 : Bool := latchRead s != 0 || s.pairs.toList.any (·.retired) || s.fab.planeA.failed || s.fab.planeB.failed
  let m := b2.toNat * 4 + b3.toNat * 8 + b4.toNat * 16 + b7.toNat * 128
  if m = 0 then 0 else m + 1

/-- Free bytes of a log area: what its current pair and its FRESH pairs but the reserve can still take (0x2200/08). -/
def LogArea.freeBytes (l : LogArea) : Nat :=
  (l.pairs.zipIdx.map fun (p, i) =>
    if i = l.reserve then 0
    else match p.st with
    | .fresh => sectorBytes
    | .active => if i = l.cur then sectorBytes - p.used else 0
    | .obsolete => 0).sum

/-- A log area that cannot take one page more, even after compaction (0x2200/01). -/
def logFull (l : LogArea) : Bool := (l.appendFit ⟨0x01, 0, 0, false, false, false, zeros 256⟩ true).isNone

/-- Tests running (0x5000/01). -/
def testsRunning (s : State) : Nat :=
  maskOf 24 (fun n => (portAt s n).test.st == 1) + 2 ^ 24 * maskOf 6 (serRuns s) +
    2 ^ 30 * (s.test.lf.toNat + 2 * s.test.uwb.toNat + 4 * s.test.nfc.toNat + 8 * s.test.bist.isSome.toNat + 16 * s.test.dram.toNat)

/-- A VERIFY state as 0x4200/10 shows it (R321, R403). -/
def PwState.word (p : PwState) : Nat := p.failures % 16 + p.blocked.toNat * 256 + p.remaining % 2 ^ 16 * 65536

/-- 0x1000-0x2FFF. -/
def scalarDevice (s : State) (x : Session) (idx sb : Nat) : Option Nat :=
  match idx, sb with
  | 0x1001, 0 => some (errorRegister s)
  | 0x1018, 2 => some (if isSmall s then 0x2412 else 0x2424)
  | 0x1018, 3 => some (s.fuse.stepping % 256 * 65536)
  | 0x1018, 4 => some (ofLe (fuseUid.take 4))
  | 0x1020, 3 => some x.role.code
  | 0x1020, 4 => some ((s.sess.fails[x.endpoint]?).getD {}).count
  | 0x1035, 1 => some ((s.sess.slots.toList.take 15).filter (·.isSome)).length
  | 0x2000, 1 => some (serviceOnly s).toNat
  | 0x2000, 2 => some (if s.pwr.entry.isSome then 2 else runOrDoze s)
  | 0x2000, 4 => some (if isSmall s then 0x2412 else 0x2424)
  | 0x2000, 5 => some (portsFitted s)
  | 0x2000, 6 => some (if isSmall s then 0x03 else 0x0F)
  | 0x2010, 1 => some s.lc.state
  | 0x2010, 2 => some (((lcRecord s).map (·.cause)).getD 0)
  | 0x2010, 5 => some s.fuse.epoch
  | 0x2010, 6 => some (((lcRecord s).map (·.seq)).getD 0)
  | 0x2010, 7 => some s.lc.debugOpen.toNat
  | 0x2100, 2 => some s.pwr.wakeCode
  | 0x2101, 1 => some (hiveVoters s).toNat
  | 0x2101, 2 => some s.pwr.voteAccess.toNat
  | 0x2101, 3 => some s.pwr.voteDdr.toNat
  | 0x2101, 4 => some (maskOf 16 fun p => (s.pwr.pairs[p]?).getD false)
  | 0x2101, 5 => some (maskOf 24 fun n => (s.pwr.ports[n]?).getD false)
  | 0x2103, 1 => some s.pwr.holdN.toNat
  | 0x2104, 1 => some s.pwr.resRun
  | 0x2104, 2 => some s.pwr.resDoze
  | 0x2104, 3 => some s.pwr.resSleep
  | 0x2105, 9 => some (maskOf 4 fun i => (s.pwr.sense[i]?).getD false)
  | 0x2106, 2 => some s.pwr.held.toNat
  | 0x2107, 1 => some (s.pwr.rtc % 2 ^ 32)
  | 0x2109, k => if 1 ≤ k then some (dieReading s (k - 1)) else none
  | 0x2180, 1 => some s.pwr.pll.toNat
  | 0x2181, 1 => some s.pwr.resetCause
  | 0x2182, 1 => some (nowNs s)
  | 0x2182, 2 => some (if serviceOnly s then 0 else s.clk.tick)
  | 0x2182, 3 => some (s.clk.hyper % 2 ^ 64)
  | 0x2200, 1 => some (if s.store.scanning then 0 else if logFull s.store.m || logFull s.store.w then 2 else 1)
  | 0x2201, 1 => some x.mOffset
  | 0x2202, 1 => some x.wOffset
  | 0x2202, 5 => some s.store.readPw.word
  | 0x2340, 4 => some (counterVal s 2)
  | 0x2400, 1 => some (maskOf 12 (laneInService s))
  | 0x2400, 2 => some ((standbyLane s).getD 0xFF)
  | 0x2500, 1 => some (latchRead s).toNat
  | 0x2500, 2 => some (s.tamper.first % 256 + s.tamper.stateAt % 256 * 256 + s.tamper.opsAt % 8 * 65536)
  | 0x2500, 3 => some s.tamper.time
  | 0x2500, 4 => some s.tamper.count
  | 0x2500, 5 => some (enabledInputs s).toNat
  | 0x2500, 6 => some (((tamperCfg s).map fun c => c.polarity.toNat).getD 0)
  | 0x2500, 7 => some (((tamperCfg s).map (·.debounce)).getD 10)
  | 0x2500, 8 => some (if isSmall s then 0 else s.tamper.holdMv)
  | 0x2500, 9 => some (if isSmall s then 0 else if holdOk s then 2 else 1)
  | 0x2500, 0xA => some s.tamper.now.toNat
  | 0x2500, 0xB => some s.tamper.loopResult
  | i, 4 => if 0x2480 ≤ i ∧ i ≤ 0x248B then some (laneAt s (i - 0x2480)).st.portCode else none
  | _, _ => none

/-! ### External ports -/

/-- Error state of a CAN controller (0x03/03): 0 active, 1 passive, 2 bus-off. [log 39 PRESUMED] -/
def canErrorState (c : CanSt) : Nat := if 255 < c.tec then 2 else if 127 < c.tec ∨ 127 < c.recv then 1 else 0

/-- The tolerance of a port's timestamps in whole ns, rounded up (R16, R195). [log 48 DEDUCED] -/
def timestampTolerance (s : State) (n : Nat) : Nat :=
  match portKind n with
  | .tsa => 40
  | .xg => 7
  | _ => match val s (pk n 1 1) with | 10 => 400 | 100 => 40 | 1000 => 8 | _ => 4

/-- Entries of a port's block. -/
def scalarPort (s : State) (n off sb : Nat) : Option Nat :=
  let p := portAt s n
  let fill (q : List RxItem) : Nat := (q.map (·.size)).sum
  let can : Bool := portKind n == .can
  match off, sb with
  | 0, 2 => some p.st.portCode
  | 0, 3 => some p.downCause
  | 1, 7 => if isEth n then some (portMac s n) else none
  | 3, 1 => if can then some (min p.can.tec 255) else none
  | 3, 2 => if can then some (min p.can.recv 255) else none
  | 3, 3 => if can then some (canErrorState p.can) else none
  | 6, 1 => if isEth n then none else some (fill (if can then p.can.rq0 else p.lin.rq0))
  | 6, 2 => if isEth n then none else some (fill (if can then p.can.rq1 else p.lin.rq1))
  | 6, 8 => some (portSci s n)
  | 7, 1 => if isEth n then none
            else some (if can then maskOf 8 (fun b => p.can.bufs.any (·.1 == b)) else maskOf 64 fun i => p.lin.resp.any (·.1 == i))
  | 0xA, 3 => if isEth n then some (timestampTolerance s n) else none
  | 0xA, 4 => if can then some p.can.refState else none
  | 0xA, 5 => if isEth n then some p.eth.asCapable.toNat else none
  | 0xA, 6 => if isEth n then some p.eth.meanDelay else none
  | 0xB, 7 => some p.eth.plca
  | _, _ => none

/-! ### Planes, Comb, engines, access -/

/-- 0x3800-0x3BFF. -/
def scalarCore (s : State) (x : Session) (idx sb : Nat) : Option Nat :=
  match idx, sb with
  | 0x3800, 1 => some (match s.fab.planeA.failed, s.fab.planeB.failed with
      | false, false => 0 | false, true => 1 | true, false => 2 | true, true => 3)
  | 0x3800, 2 => some s.fab.planeTest
  | 0x3800, 3 => some s.fab.freeCells
  | 0x3800, 4 => some s.fab.spillInFlight
  | 0x3800, 5 => some (headroomUsed s)
  | 0x3800, 6 => some s.fab.headroomHigh
  | 0x3900, 1 => some ((s.comb.active.map (·.id)).getD 0)
  | 0x3900, 2 => some ((s.comb.active.map (·.generation)).getD 0)
  | 0x3900, 3 => some ((s.comb.active.map (·.hyper)).getD 0)
  | 0x3901, 1 => some (match s.comb.state with
      | .empty => 0 | .loading => 1 | .verifying => 2 | .verified => 3 | .refused => 4 | .armed => 5)
  | 0x3901, 2 => some ((s.comb.standby.map (·.id)).getD (if s.comb.state = .empty then 0 else hdrField s.comb.image 0x08 31 0))
  | 0x3901, 3 => some s.comb.refusal
  | 0x3901, 4 => some s.comb.detail
  | 0x3903, 1 => some s.comb.tickState
  | 0x3903, 2 => some (unsignedOf 16 s.comb.lastK)
  | 0x3A00, 1 => some s.comb.routeTab.length
  | 0x3A00, 2 => some s.comb.pduTab.length
  | 0x3A10, 1 => some x.peek
  | 0x3A10, 2 => some ((sigRaw s x.peek).toNat - (sigTag (sigRaw s x.peek)).toNat * 2 ^ 32 + (sigRead s x.peek).tag.toNat * 2 ^ 32)
  | 0x3A40, 1 => some (counterVal s 0)
  | 0x3A40, 2 => some s.sig.residue
  | 0x3B00, 1 => some (if isSmall s then 0x00FF else 0xFFFF)
  | 0x3B00, 2 => some (maskOf 16 fun p => ((s.pairs[p]?).map (·.retired)).getD false)
  | 0x3B20, 1 => some s.kpr.running.toNat
  | 0x3B20, 2 => some s.kpr.build
  | 0x3B20, 4 => some s.kpr.lastCause
  | i, k =>
    let pair := (s.pairs[i - 0x3B10]?).getD {}
    if 0x3810 ≤ i ∧ i ≤ 0x3817 ∧ k = 6 then some (((s.fab.mirrors[i - 0x3810]?).map (·.write)).getD 0)
    else if 0x3A20 ≤ i ∧ i ≤ 0x3A29 ∧ k = 3 then some (claimAt s (i - 0x3A20)).address
    else if 0x3A20 ≤ i ∧ i ≤ 0x3A29 ∧ k = 4 then some (claimAt s (i - 0x3A20)).state
    else if 0x3B10 ≤ i ∧ i ≤ 0x3B1F ∧ k = 2 then some (if pair.retired then 4 else pair.st.portCode)
    else if 0x3B10 ≤ i ∧ i ≤ 0x3B1F ∧ k = 3 then some (pair.column.getD 0xFF)
    else if 0x3B10 ≤ i ∧ i ≤ 0x3B1F ∧ k = 4 then some pair.retired.toNat
    else if 0x3B10 ≤ i ∧ i ≤ 0x3B1F ∧ k = 7 then some pair.requal
    else none

/-- Failures of a zone that stand within the last 60 s (R274). -/
def failuresNow (s : State) (z : Nat) : Nat := ((lockAt s z).times.filter fun t => aoSec s ≤ t + 60).length

/-- 0x4000-0x6FFF. -/
def scalarAccess (s : State) (idx sb : Nat) : Option Nat :=
  match idx, sb with
  | 0x4000, 1 => some (vlfNow s % 2 ^ 16)
  | 0x4100, 2 => some s.uwb.st.portCode
  | 0x4200, 2 => some s.nfc.st.portCode
  | 0x4200, 8 => some (counterVal s 5)
  | 0x4200, 0xE => some (counterVal s 3)
  | 0x4200, 0xF => some (counterVal s 4)
  | 0x4200, 0x10 => some s.store.verifyPw.word
  | 0x4300, 1 => some (sessionState s)
  | 0x4300, 2 => some ((s.lf.session.map (·.key)).getD 0)
  | 0x4300, 4 => some (counterVal s 1)
  | 0x4320, 2 => some s.lf.keys.length
  | 0x5000, 1 => some (testsRunning s)
  | 0x5060, 1 => some s.lc.debugOpen.toNat
  | 0x6000, 1 => some (sourcesPresent s)
  | 0x6000, 2 => some (maskOf 40 fun i => ((s.evt.rings[i]?).map (·.high)).getD false)
  | i, k =>
    let t := (portAt s (i - 0x5010)).test
    let l := (s.test.ser[i - 0x5030]?).getD {}
    let r := (s.evt.rings[i - 0x6010]?).getD {}
    let z := lockAt s (i - 0x4310)
    if 0x4010 ≤ i ∧ i ≤ 0x4017 ∧ k = 2 then some (chanAt s (i - 0x4010)).portCode
    else if 0x4310 ≤ i ∧ i ≤ 0x4318 then
      match k with
      | 1 => some z.locked.toNat
      | 2 => some z.level
      | 3 => some (failuresNow s (i - 0x4310))
      | 4 => some (if z.locked then min (z.lockEnd - aoSec s) 0xFFFF else 0)
      | 5 => some (counterVal s (8 + (i - 0x4310)))
      | _ => none
    else if 0x5010 ≤ i ∧ i ≤ 0x5027 then
      match k with
      | 6 => some t.st | 7 => some t.sent | 8 => some t.checked | 9 => some t.errors | _ => none
    else if 0x5030 ≤ i ∧ i ≤ 0x5035 then
      match k with
      | 4 => some (l.bits % 2 ^ 64) | 5 => some (l.errors % 2 ^ 64) | 6 => some l.locked.toNat | _ => none
    else if 0x6010 ≤ i ∧ i ≤ 0x6037 then
      match k with
      | 3 => some r.write | 4 => some r.read | 5 => some r.seq | _ => none
    else none

/-- A scalar entry's value (R412): computed where the entry shows state, else as stored. -/
def scalarOf (s : State) (x : Session) (idx sb : Nat) : Nat :=
  if (findRow idx sb).isNone then topSub idx
  else
    (if 0x3000 ≤ idx ∧ idx < 0x3300 then scalarPort s ((idx - 0x3000) / 0x20) ((idx - 0x3000) % 0x20) sb
     else if idx < 0x3000 then scalarDevice s x idx sb
     else if idx < 0x4000 then scalarCore s x idx sb
     else scalarAccess s idx sb).getD (val s (odKey idx sb))

/-! ### Strings and DOMAINs -/

/-- A string of ASCII characters. -/
def asciiOf (t : String) : Blob := t.toList.map fun c => BitVec.ofNat 8 c.toNat

/-- `n` hex digits, in upper case. -/
def hexOf (n v : Nat) : Blob :=
  (List.range n).map fun i =>
    let d := v / 16 ^ (n - 1 - i) % 16
    BitVec.ofNat 8 (if d < 10 then 48 + d else 55 + d)

/-- A stream's entry as R128 lays it out, without the reserved part's use. -/
def streamBytes (s : State) (j : Nat) : Blob :=
  let x := streamAt s j
  leBytes 4 x.fresh ++ leBytes 4 x.resv ++
    leBytes 8 (streamSlot s j % 64 + x.transmit.toNat * 64 + x.state % 4 * 128 + min x.accepts 0x7FFFFF * 512)

/-- The SA table of a port (R199): per SA its channel, AN, key slot, state and next PN; no keys. The layout is the model's. [log 96 DESIGN CHOICE] -/
def saTable (s : State) (n : Nat) : Blob :=
  (portAt s n).eth.sas.flatMap fun a =>
    leBytes 8 a.sci ++ leBytes 1 a.an ++ leBytes 1 a.slot ++ leBytes 1 a.active.toNat ++ leBytes 1 a.transmit.toNat ++ leBytes 8 a.pn

/-- Current bucket maps (R100): for the cluster groups one map for each set of clusters, in the order of the set's mask;
for the XG aggregate its map. [log 29 DEDUCED; log 96 DESIGN CHOICE] -/
def clusterMaps : Blob :=
  (List.range 16).flatMap fun m =>
    let mem := (List.range 4).filter m.testBit
    (List.range 256).map fun b => if mem = [] then 0xFF else BitVec.ofNat 8 (mem.getD (b % mem.length) 0)

/-- The status of a lane's key register (R334). -/
def laneKeyWord (k : Option LaneKey) : Blob :=
  match k with
  | none => zeros 8
  | some x =>
    leBytes 4 (1 + klenCode x.key.length * 2 + (match x.slot with | none => 8 | some i => i % 64 * 16)) ++ kcvOf x.key

/-- The key table (R283): 32 × key ID, kind, zone mask, state; the state is 1 for an enrolled key and 3 with its key
loaded. The layout is the model's. [log 72 DESIGN CHOICE; log 96 DESIGN CHOICE] -/
def keyTable (s : State) : Blob :=
  (List.range 32).flatMap fun i =>
    match s.lf.keys.find? (·.index == i) with
    | none => zeros 8
    | some k => leBytes 4 k.id ++ leBytes 1 k.kind ++ leBytes 1 k.zones ++ leBytes 1 (1 + 2 * k.key.isSome.toNat) ++ [0]

/-- The attribute entries of the 64 slots (R332); those of slots 56-63, whose order the spec does not give, are open. [log 96 DESIGN CHOICE] -/
def slotTable (s : State) : Blob :=
  (List.range 64).flatMap fun i => if i < 56 then slotAttr s i else (List.range 16).map (Config.reservedSlotAttr i)

/-- A string or DOMAIN entry's bytes. [log 96 DESIGN CHOICE] -/
def bytesOfEntry (s : State) (x : Session) (idx sb : Nat) : Blob :=
  match idx, sb with
  | 0x1008, 0 => asciiOf (if isSmall s then "Sorindal SH2412" else "Sorindal SH2424")
  | 0x1009, 0 => asciiOf "S" ++ hexOf 2 s.fuse.stepping
  | 0x100A, 0 => hexOf 8 s.kpr.build
  | 0x1020, 1 => (x.challenge.map (·.bytes)).getD (zeros 32)
  | 0x1021, 2 => subPad (blob s (odKey 0x1021 2)) 0 256
  | 0x2200, 8 => leBytes 4 s.store.m.freeBytes ++ leBytes 4 s.store.w.freeBytes ++ leBytes 4 s.store.sys.freeBytes
  | 0x2201, 2 => areaRead s 0 x.mOffset (min 4096 (65536 - x.mOffset))
  | 0x2202, 2 => areaRead s 1 x.wOffset (min 4096 (8192 - x.wOffset))
  | 0x2300, 1 => fuseUid
  | 0x2300, 2 => Config.ecPublic idEcKey ++ Config.mldsaPublic idMlSeed
  | 0x2300, 4 => match s.vault.kd with | some kd => Config.ecPublic (importKey s kd) | none => []
  | 0x2310, 2 => match s.vault.answers with | (t, c, d) :: _ => t :: BitVec.ofNat 8 c :: d | [] => []
  | 0x2320, 1 => slotTable s
  | 0x2320, 2 => s.vault.gens.flatMap fun (i, g) => leBytes 4 i.toNat ++ leBytes 4 g.toNat
  | 0x2340, 2 => s.vault.attestResult
  | 0x2410, 2 => match s.lanes.answers with | (t, c, d) :: _ => t :: BitVec.ofNat 8 c :: d | [] => []
  | 0x380A, 1 => clusterMaps
  | 0x380A, 2 => (List.range 256).map fun b => BitVec.ofNat 8 (s.fab.pathXg.getD b 0)
  | 0x3900, 4 => match s.comb.active with | some c => subPad c.hash 0 48 | none => zeros 48
  | 0x3A03, 1 => (List.range 4096).flatMap (streamBytes s)
  | 0x3B00, 3 => (List.range 16).map fun c =>
      BitVec.ofNat 8 (((List.range 16).find? fun p => ((s.pairs[p]?).getD {}).column == some c).getD 0xFF)
  | 0x4200, 0xA => s.nfc.lastAnswer
  | 0x4201, 1 => tagFile s 0xE104
  | 0x4201, 2 => tagFile s 0xA102
  | 0x4201, 3 => tagFile s 0xA101
  | 0x4201, 4 => tagFile s 0xA103
  | 0x4320, 1 => keyTable s
  | i, k =>
    let l := laneAt s (i - 0x2480)
    if 0x2480 ≤ i ∧ i ≤ 0x248B ∧ k = 5 then [l.k0, l.k1, l.k2, l.k3].flatMap laneKeyWord
    else if 0x3000 ≤ i ∧ i < 0x3300 ∧ (i - 0x3000) % 0x20 = 6 ∧ k = 9 then saTable s ((i - 0x3000) / 0x20)
    else
      let b := blob s (odKey i k)
      match (findRow i k).bind (·.len) with
      | some n => subPad b 0 n
      | none => b

/-- The value of an entry as its bytes, scalars with the least significant byte first (R412). [log 12 DEDUCED; log 14 DEDUCED] -/
def entryBytes (s : State) (x : Session) (idx sb : Nat) : Blob :=
  match (entryRow idx sb).bind (·.ty.bytes) with
  | some n => leBytes n (scalarOf s x idx sb)
  | none => bytesOfEntry s x idx sb

/-! ### Reads -/

/-- A new role challenge of a session (R408). -/
def newChallenge (slot : Nat) (s : State) : Blob × State :=
  let (b, s) := draw 32 s
  (b, modSession slot (fun y => { y with challenge := some { bytes := b, madePs := nowPs s, used := false } }) s)

/-- A read of an entry in a session: checks 1 to 3 of R410, the rights of R403, then the value; reads that have an effect
have it (R337, R351, R369, R408). -/
def odRead (slot : Nat) (x : Session) (idx sb : Nat) (s : State) : Except Nat (Blob × State) := do
  let _ ← allow s x false idx sb
  if idx = 0x2202 ∧ sb = 2 ∧ ¬ (wRights s slot x).1 then .error abProtected
  else if idx = 0x1020 ∧ sb = 1 then .ok (newChallenge slot s)
  else if idx = 0x2010 ∧ sb = 4 then
    let (b, s) := draw 32 s
    .ok (b, { s with lc := { s.lc with challenge := some { bytes := b, madePs := nowPs s, used := false } } })
  else
    let b := entryBytes s x idx sb
    if idx = 0x2310 ∧ sb = 2 then .ok (b, { s with vault := { s.vault with answers := s.vault.answers.tail } })
    else if idx = 0x2410 ∧ sb = 2 then .ok (b, { s with lanes := { s.lanes with answers := s.lanes.answers.tail } })
    else .ok (b, s)

/-- The snapshot of a string dropped: the session accesses another entry (R434). [log 97 DEDUCED] -/
def dropSnapshot (slot : Nat) (key : Nat) (s : State) : State :=
  modSession slot (fun y => { y with snapshot := match y.snapshot with
    | some (k, b) => if k = key then some (k, b) else none
    | none => none }) s

/-- A read of a part of an entry (R416, R418, R434): its bytes from `off`, at most `len`, and its full length. Strings are
served from a snapshot taken at offset 0, or at a later offset with none held, which ends with its last byte. [log 97 DEDUCED] -/
def readPart (slot : Nat) (x : Session) (idx sb off len : Nat) (s : State) : Except Nat (Blob × Nat × State) := do
  let key := odKey idx sb
  let held := match x.snapshot with | some (k, b) => if k = key ∧ off ≠ 0 then some b else none | none => none
  let s := dropSnapshot slot key s
  match held with
  | some b =>
    let _ ← allow s x false idx sb
    let ended := decide (b.length ≤ off + len)
    .ok (sub b off len, b.length, if ended then modSession slot (fun y => { y with snapshot := none }) s else s)
  | none =>
    let (b, s) ← odRead slot x idx sb s
    let keep := decide (off + len < b.length)
    .ok (sub b off len, b.length, modSession slot (fun y => { y with snapshot := if keep then some (key, b) else none }) s)

end Sys2Proof.Machine
end

