-- ==== Sys2Proof/Machine/Profold.lean ====
section
/-! DEFINITION. The Profold instructions (R218-R232): one command issues one instruction on a core. -/

namespace Sys2Proof.Machine

/-! ### Forms -/

/-- A two-operand instruction with its distance in exposed and in load-delay mode. -/
def binIns (c : CoreId) (op fn : Nat) (rd ra rb : Fin 32) (ex ld : Nat) (f : PfWord → PfWord → Except PfTrap PfVal) : Ins :=
  { word := encR op rd ra rb fn, reads := [ra, rb]
    body := fun s => let k := coreOf c s; writeResult c rd ex ld (f k.g[ra] k.g[rb]) s }

/-- A divide: 12 cycles, on the one divide unit, which in exposed mode traps while it is busy (R224). -/
def divIns (c : CoreId) (op fn : Nat) (rd ra rb : Fin 32) (f : PfWord → PfWord → Except PfTrap PfVal) : Ins :=
  { word := encR op rd ra rb fn, reads := [ra, rb], divides := true
    body := fun s =>
      let k := coreOf c s
      let busy : Bool := !k.loadDelay && (match k.lastDiv with | some d => decide (k.cyc < d + 12) | none => false)
      if busy then trap 0x08
      else writeResult c rd 12 12 (f k.g[ra] k.g[rb]) (modCore c (fun k => { k with lastDiv := some k.cyc }) s) }

/-- A one-operand ALU function, whose rb field is 0. -/
def unIns (c : CoreId) (fn : Nat) (rd ra rb : Fin 32) (f : PfWord → Except PfTrap PfVal) : Ins :=
  { word := encR 0 rd ra rb fn, bad := rb ≠ 0, reads := [ra]
    body := fun s => writeResult c rd 1 1 (f (coreOf c s).g[ra]) s }

/-- A shift by an immediate in the rb field. -/
def shiftIns (c : CoreId) (fn : Nat) (rd ra amount : Fin 32) (k : ShiftKind) : Ins :=
  { word := encR 0 rd ra amount fn, reads := [ra]
    body := fun s => writeResult c rd 1 1 (shiftImm k (coreOf c s).g[ra] amount) s }

/-- A one-operand F32 instruction. -/
def fpUnIns (c : CoreId) (fn : Nat) (rd ra rb : Fin 32) (f : Word → Word × Word) : Ins :=
  { word := encR 2 rd ra rb fn, reads := [ra]
    body := fun s => writeResult c rd 3 3 (fpUnary f (coreOf c s).g[ra]) s }

/-- An instruction with a 16-bit immediate. -/
def immIns (c : CoreId) (op : Nat) (rd ra : Fin 32) (imm : BitVec 16) (f : PfWord → BitVec 16 → Except PfTrap PfVal) : Ins :=
  { word := encI op rd ra imm.toNat, reads := [ra]
    body := fun s => writeResult c rd 1 1 (f (coreOf c s).g[ra] imm) s }

/-- A branch of two registers (B format). -/
def branchIns (c : CoreId) (op : Nat) (ra rb : Fin 32) (disp : BitVec 16) (k : CmpKind) (neg : Bool) : Ins :=
  { word := encI op ra rb disp.toNat, slotOk := false, repOk := false, reads := [ra, rb]
    body := fun s => let r := coreOf c s; branchTo c disp (branchOn k neg r.g[ra] r.g[rb]) s }

/-- BT and BF, whose rb field is 0. -/
def boolBranchIns (c : CoreId) (op : Nat) (ra rb : Fin 32) (disp : BitVec 16) (want : Bool) : Ins :=
  { word := encI op ra rb disp.toNat, bad := rb ≠ 0, slotOk := false, repOk := false, reads := [ra]
    body := fun s => branchTo c disp (branchBool want (coreOf c s).g[ra]) s }

/-- A SYS instruction (R220). [log 53 DEDUCED] -/
def sysIns (fn : Nat) (rd ra rb : Nat) (priv slotOk : Bool) (body : State → Except PfTrap Done) : Ins :=
  { word := encR 6 rd ra rb fn, repOk := false, slotOk := slotOk, priv := priv, body := body }

/-- The value of an operand that must be RAW (R211, R214). -/
def rawOperand (w : PfWord) : Except PfTrap Word :=
  if w.tag == tVoid then trap 0x01 else if w.tag == tRaw then .ok w.val else trap 0x03

/-- A link written by JAL or JALR (R218). -/
def linkWrite (c : CoreId) (rd : Fin 32) (s : State) : State :=
  modCore c (fun k => k.write rd (u32Word (k.pc + (if k.loadDelay then 1 else 2))) 1) s

/-! ### Control registers (R211) -/

/-- The value of a control register. -/
def crRead (k : PfCore) (n : Nat) : Word :=
  match n with
  | 0 => k.status
  | 1 => k.tpc
  | 2 => k.tcode
  | 3 => k.tinfo
  | 4 => k.tvec
  | 5 => k.tstatus
  | 6 => BitVec.ofNat 32 k.cyc
  | 7 => k.cycHi
  | 8 => k.isalvl
  | 9 => k.coreid
  | 10 => k.ipend
  | 11 => k.imask
  | _ => 0

/-- A control register written; RO ones ignore it. [log 53 DEDUCED] -/
def crWrite (k : PfCore) (n : Nat) (v : Word) : PfCore :=
  match n with
  | 0 => { k with status := statusWrite k.status v }
  | 1 => { k with tpc := v }
  | 2 => { k with tcode := v }
  | 3 => { k with tinfo := v }
  | 4 => { k with tvec := v }
  | 5 => { k with tstatus := v }
  | 11 => { k with imask := v }
  | _ => k

/-- Registers user state may read. -/
def crUser (n : Nat) : Bool := n = 0 || (6 ≤ n && n ≤ 9)

/-! ### Strings (R229, R230) -/

/-- What a string instruction does with each word. -/
inductive StrOp where
  | movs | cmps | fils | scns
  deriving DecidableEq, Repr

def StrOp.usesSrc (o : StrOp) : Bool := o ≠ .fils
def StrOp.usesDst (o : StrOp) : Bool := o ≠ .scns
def StrOp.code : StrOp → Nat
  | .movs => 0 | .cmps => 1 | .fils => 2 | .scns => 3

/-- One word of a string instruction: the state after it, and whether it stops here. -/
def strWord (c : CoreId) (o : StrOp) (sgA sgB : Fin 16) (value : PfWord) (src dst : Nat) (s : State) : Except PfTrap (State × Bool) :=
  let k := coreOf c s
  match o with
  | .movs => match segCheck k sgA .load src with
    | .error t => .error t
    | .ok a => match segCheck k sgB .store dst with
      | .error t => .error t
      | .ok b => let (w, s) := loadWord c a s; .ok (storeOwn c b w s, false)
  | .cmps => match segCheck k sgA .load src with
    | .error t => .error t
    | .ok a => match segCheck k sgB .load dst with
      | .error t => .error t
      | .ok b => let (v, s) := loadWord c a s; let (w, s) := loadWord c b s; .ok (s, decide (v ≠ w))
  | .fils => match segCheck k sgB .store dst with
    | .error t => .error t
    | .ok b => .ok (storeOwn c b value s, false)
  | .scns => match segCheck k sgA .load src with
    | .error t => .error t
    | .ok a => let (v, s) := loadWord c a s; .ok (s, decide (v = value))

/-- Where a string instruction stands: offsets, words left, and whether it has stopped at a word. -/
structure StrPos where
  src : Nat
  dst : Nat
  left : Nat
  hit : Bool := false

/-- An offset moves by one, upward or downward, in 32 bits. -/
def strStep (desc use : Bool) (o : Nat) : Nat := if !use then o else if desc then (o + 2 ^ 32 - 1) % 2 ^ 32 else (o + 1) % 2 ^ 32

/-- Some words, one per cycle. [log 56 DEDUCED] -/
def strLoop (c : CoreId) (o : StrOp) (desc : Bool) (sgA sgB : Fin 16) (value : PfWord) :
    Nat → StrPos → State → State × StrPos × Option PfTrap
  | 0, p, s => (s, p, none)
  | n + 1, p, s =>
    let s := settleCore c (modCore c (fun k => { k with cyc := k.cyc + 1 }) s)
    match strWord c o sgA sgB value p.src p.dst s with
    | .error t => (s, p, some t)
    | .ok (s, true) => (s, { p with hit := true }, none)
    | .ok (s, false) =>
      strLoop c o desc sgA sgB value n
        { p with src := strStep desc o.usesSrc p.src, dst := strStep desc o.usesDst p.dst, left := p.left - 1 } s

/-- An operand that must be U32 (R228, R229). -/
def strOperand (w : PfWord) : Except PfTrap Nat :=
  if w.tag == tVoid then trap 0x01 else if w.tag == tU32 then .ok w.val.toNat else trap 0x03

/-- The registers a string instruction leaves. -/
def strRegs (o : StrOp) (p : StrPos) : List (Fin 32 × PfWord) :=
  (if o.usesSrc then [(26, u32Word p.src)] else []) ++ (if o.usesDst then [(27, u32Word p.dst)] else []) ++ [(29, u32Word p.left)]

/-- A string instruction, or in load-delay mode its first `upTo` words before the boundary at which an interrupt is taken; its
registers stand as after those words, and the pc at it (R230, R237). -/
def strBody (c : CoreId) (o : StrOp) (desc : Bool) (sgA sgB : Fin 16) (ra rb : Fin 32) (upTo : Option Nat) (s : State) : Except PfTrap Done :=
  let k := coreOf c s
  match strOperand k.g[26], strOperand k.g[27], strOperand k.g[29] with
  | .error t, _, _ => .error t
  | _, .error t, _ => .error t
  | _, _, .error t => .error t
  | .ok a, .ok b, .ok n =>
    let value := k.g[ra]
    if (o == .fils || o == .scns) && value.tag == tVoid then trap 0x01
    else
      let m := if k.loadDelay then min n (upTo.getD n) else n
      let (s, p, t) := strLoop c o desc sgA sgB value m { src := a, dst := b, left := n } s
      let held (s : State) : State := modCore c (fun k => (strRegs o p).foldl (fun k r => { k with g := k.g.set r.1 r.2 }) k) s
      match t with
      | some t => .ok { s := held s, trap := some t }
      | none =>
        if m < n ∧ ¬ p.hit then .ok { s := held s, flow := .stay, cycles := 0 }
        else
        let flag : List (Fin 32 × PfWord) := match o with
          | .cmps => [(rb, boolWord (!p.hit))]
          | .scns => [(rb, boolWord p.hit)]
          | _ => []
        .ok { s := modCore c (fun k => (strRegs o p ++ flag).foldl (fun k r => k.write r.1 r.2 1) { k with cyc := k.cyc + 1 }) s }

/-- A string instruction's form: ra is unused and 0 in MOVS and CMPS. -/
def strIns (c : CoreId) (o : StrOp) (desc : Bool) (sgA sgB : Fin 16) (ra rb : Fin 32) (upTo : Option Nat) : Ins :=
  { word := encD 0x30 desc.toNat sgA ra sgB rb o.code, bad := (o == .movs || o == .cmps) && ra ≠ 0, repOk := false
    reads := [26, 27, 29, ra], body := strBody c o desc sgA sgB ra rb upTo }

/-! ### Accumulators (R231) -/

/-- Tag of a MACD mode's operands. -/
def macTag (mode : Nat) : BitVec 4 := match mode with | 0 => tQ15 | 1 => tS16 | 2 => tQ31 | 3 => tS32 | _ => tF32

/-- A saturated 80-bit sum; the flag: it saturated. -/
def sat80 (v : Int) : Int × Bool :=
  let m : Int := 2 ^ 79
  if v < -m then (-m, true) else if m - 1 < v then (m - 1, true) else (v, false)

/-- The accumulator after a MACD of two words, with the STATUS flags. -/
def macStep (x : Fin 2) (mode : Nat) (subtract : Bool) (old : PfAcc) (a b : PfWord) : PfAcc × Word :=
  let bad (t : BitVec 4) : Bool := a.tag == t || b.tag == t
  if old.st == .fault || bad tFault then ({ st := .fault, val := 0, f32 := mode = 4 }, 0)
  else if old.st == .stale || bad tStale then ({ st := .stale, val := 0, f32 := mode = 4 }, 0)
  else if mode = 4 then
    let r := f32Fma (BitVec.ofInt 32 old.val) (if subtract then f32Negate a.val else a.val) b.val
    ({ old with val := r.1.toNat, f32 := true }, r.2)
  else
    let p := a.num * b.num
    let (v, o) := sat80 (if subtract then old.val - p else old.val + p)
    ({ old with val := v, f32 := false }, if o then flagAov x else 0)

/-- MACD. -/
def macBody (c : CoreId) (x : Fin 2) (sgA sgB : Fin 16) (ra rb : Fin 32) (sub : BitVec 7) (s : State) : Except PfTrap Done :=
  let k := coreOf c s
  let mode := bitsOf sub.toNat 6 4
  let at_ (r : Fin 32) (sg : Fin 16) : Except PfTrap Nat := match baseOffset k.g[r] with
    | .error t => .error t
    | .ok o => segCheck k sg .load o
  match at_ ra sgA, at_ rb sgB with
  | .error t, _ => .error t
  | _, .error t => .error t
  | .ok a, .ok b =>
    let (wa, s) := loadWord c a s
    let (wb, s) := loadWord c b s
    let fits (w : PfWord) : Bool := w.tag == macTag mode || w.tag == tStale || w.tag == tFault
    if wa.tag == tVoid || wb.tag == tVoid then trap 0x01
    else if !(fits wa && fits wb) then trap 0x02
    else
      let old : PfAcc := if sub.getLsbD 0 then { f32 := mode = 4 } else k.accFull[x]
      let (v, flags) := macStep x mode (sub.getLsbD 3) old wa wb
      let open_ : Bool := decide (mode = 4) && old.st == .valid && wa.tag == tF32 && wb.tag == tF32 &&
        fmaOpen (BitVec.ofInt 32 old.val) wa.val wb.val
      let (n, s) := if open_ then free 2 s else (0, s)
      let flags := if n = 1 then flags ||| flagNV else flags
      let inc : Int := match bitsOf sub.toNat 2 1 with | 0 => 0 | 1 => 1 | 2 => 2 | _ => -1
      let bump (k : PfCore) (r : Fin 32) (w : PfWord) : PfCore := if inc = 0 then k else k.write r (wrapWord w.tag (w.num + inc)) 1
      .ok { s := modCore c (fun k1 =>
        bump (bump { k1.writeAcc x v 3 with accFull := k1.accFull.set x v, status := k1.status ||| flags } ra k.g[ra]) rb k.g[rb]) s }

/-- An accumulator cleared to 0, valid. -/
def clearAcc (x : Fin 2) (k : PfCore) : PfCore :=
  let z : PfAcc := { f32 := k.accFull[x].f32 }
  { k.writeAcc x z 1 with accFull := k.accFull.set x z }

/-- The accumulator the ra field selects. -/
def accOf (ra : Fin 32) : Fin 2 := if ra.val % 2 = 0 then 0 else 1

/-- ACCR: the accumulator rounded, shifted and saturated to the target. [log 57 DEDUCED] -/
def accrBody (c : CoreId) (rd ra : Fin 32) (fn : BitVec 10) (s : State) : Except PfTrap Done :=
  let k := coreOf c s
  let x := accOf ra
  let a := k.acc[x]
  let t := fn.extractLsb' 0 4
  let sh := bitsOf fn.toNat 8 4
  if a.st = .valid ∧ a.f32 ≠ (t == tF32) then trap 0x0B
  else
    let w : PfWord := match a.st with
      | .fault => faultWord
      | .stale => ⟨tStale, 0⟩
      | .valid => if a.f32 then ⟨tF32, BitVec.ofInt 32 a.val⟩
        else satWord t (if sh = 0 then a.val else (a.val + (2 ^ (sh - 1) : Nat)) / (2 ^ sh : Nat))
    .ok { s := modCore c (fun k => let k := k.write rd w 1; if fn.getLsbD 9 then clearAcc x k else k) s }

/-! ### LRW and SCW (R232) -/

/-- SCW: stores only under an intact reservation of this core on the word; the reservation ends either way. Where the snapshot
engine writes the word in the same cycle, the memory's pointer orders the two, and an SCW that comes second fails (R233). -/
def scwBody (c : CoreId) (rd ra : Fin 32) (sg : Fin 16) (off : BitVec 12) (s : State) : Except PfTrap Done :=
  let k := coreOf c s
  match address k .atomic ra sg off with
  | .error t => .error t
  | .ok a =>
    if k.g[rd].tag == tVoid then trap 0x01
    else
      let held : Bool := match k.resv with | some (b, t) => decide (b = a) && decide (k.cyc ≤ t + 63) | none => false
      let (late, s) := if held then meet c a s else (false, s)
      let ok := held && !late
      let s := if ok then storeWord c a k.g[rd] s else s
      .ok { s := modCore c (fun k => { k.writeLoad rd (boolWord ok) 0 false with resv := none }) s }

/-! ### ALU group (R219) -/

/-- NOP: reads and writes nothing. -/
def execPfNop (c : CoreId) (s : State) : Res := conclude s (issue c { word := 0, body := fun s => .ok { s := s } } s)

/-- ADD: wraps. -/
def execPfAdd (c : CoreId) (rd ra rb : Fin 32) (s : State) : Res := conclude s (issue c (binIns c 0 0x001 rd ra rb 1 1 (addOp false false)) s)

/-- SUB: wraps. -/
def execPfSub (c : CoreId) (rd ra rb : Fin 32) (s : State) : Res := conclude s (issue c (binIns c 0 0x002 rd ra rb 1 1 (addOp true false)) s)

/-- ADDS: saturates. -/
def execPfAdds (c : CoreId) (rd ra rb : Fin 32) (s : State) : Res := conclude s (issue c (binIns c 0 0x003 rd ra rb 1 1 (addOp false true)) s)

/-- SUBS: saturates. -/
def execPfSubs (c : CoreId) (rd ra rb : Fin 32) (s : State) : Res := conclude s (issue c (binIns c 0 0x004 rd ra rb 1 1 (addOp true true)) s)

/-- AND: bitwise and. -/
def execPfAnd (c : CoreId) (rd ra rb : Fin 32) (s : State) : Res := conclude s (issue c (binIns c 0 0x005 rd ra rb 1 1 (logicOp (· &&& ·))) s)

/-- OR: bitwise or. -/
def execPfOr (c : CoreId) (rd ra rb : Fin 32) (s : State) : Res := conclude s (issue c (binIns c 0 0x006 rd ra rb 1 1 (logicOp (· ||| ·))) s)

/-- XOR: bitwise exclusive or. -/
def execPfXor (c : CoreId) (rd ra rb : Fin 32) (s : State) : Res := conclude s (issue c (binIns c 0 0x007 rd ra rb 1 1 (logicOp (· ^^^ ·))) s)

/-- NOT: bitwise complement within the tag's width. -/
def execPfNot (c : CoreId) (rd ra rb : Fin 32) (s : State) : Res := conclude s (issue c (unIns c 0x008 rd ra rb notOp) s)

/-- SHL: shift left. -/
def execPfShl (c : CoreId) (rd ra rb : Fin 32) (s : State) : Res := conclude s (issue c (binIns c 0 0x009 rd ra rb 1 1 (shiftOp .left)) s)

/-- SHR: logical shift right. -/
def execPfShr (c : CoreId) (rd ra rb : Fin 32) (s : State) : Res := conclude s (issue c (binIns c 0 0x00A rd ra rb 1 1 (shiftOp .right)) s)

/-- SRA: arithmetic shift right. -/
def execPfSra (c : CoreId) (rd ra rb : Fin 32) (s : State) : Res := conclude s (issue c (binIns c 0 0x00B rd ra rb 1 1 (shiftOp .arith)) s)

/-- SHLI: shift left by the rb field. -/
def execPfShli (c : CoreId) (rd ra : Fin 32) (amount : Fin 32) (s : State) : Res := conclude s (issue c (shiftIns c 0x00C rd ra amount .left) s)

/-- SHRI: logical shift right by the rb field. -/
def execPfShri (c : CoreId) (rd ra : Fin 32) (amount : Fin 32) (s : State) : Res := conclude s (issue c (shiftIns c 0x00D rd ra amount .right) s)

/-- SRAI: arithmetic shift right by the rb field. -/
def execPfSrai (c : CoreId) (rd ra : Fin 32) (amount : Fin 32) (s : State) : Res := conclude s (issue c (shiftIns c 0x00E rd ra amount .arith) s)

/-- CEQ: BOOL of ra = rb. -/
def execPfCeq (c : CoreId) (rd ra rb : Fin 32) (s : State) : Res := conclude s (issue c (binIns c 0 0x00F rd ra rb 1 1 (compareOp .eq)) s)

/-- CNE: BOOL of ra ≠ rb. -/
def execPfCne (c : CoreId) (rd ra rb : Fin 32) (s : State) : Res := conclude s (issue c (binIns c 0 0x010 rd ra rb 1 1 (compareOp .ne)) s)

/-- CLT: BOOL of ra < rb. -/
def execPfClt (c : CoreId) (rd ra rb : Fin 32) (s : State) : Res := conclude s (issue c (binIns c 0 0x011 rd ra rb 1 1 (compareOp .lt)) s)

/-- CLE: BOOL of ra ≤ rb. -/
def execPfCle (c : CoreId) (rd ra rb : Fin 32) (s : State) : Res := conclude s (issue c (binIns c 0 0x012 rd ra rb 1 1 (compareOp .le)) s)

/-- MIN: the lower word in the tag's order. -/
def execPfMin (c : CoreId) (rd ra rb : Fin 32) (s : State) : Res := conclude s (issue c (binIns c 0 0x013 rd ra rb 1 1 (minMaxOp false)) s)

/-- MAX: the higher word in the tag's order. -/
def execPfMax (c : CoreId) (rd ra rb : Fin 32) (s : State) : Res := conclude s (issue c (binIns c 0 0x014 rd ra rb 1 1 (minMaxOp true)) s)

/-- MOV: a copy, STALE and FAULT whole. -/
def execPfMov (c : CoreId) (rd ra rb : Fin 32) (s : State) : Res := conclude s (issue c (unIns c 0x015 rd ra rb movOp) s)

/-- NEG: negation, saturating. -/
def execPfNeg (c : CoreId) (rd ra rb : Fin 32) (s : State) : Res := conclude s (issue c (unIns c 0x016 rd ra rb negOp) s)

/-- ABS: absolute value, saturating. -/
def execPfAbs (c : CoreId) (rd ra rb : Fin 32) (s : State) : Res := conclude s (issue c (unIns c 0x017 rd ra rb absOp) s)

/-! ### MUL group (R208, R218) -/

/-- MUL: product, wrapping. -/
def execPfMul (c : CoreId) (rd ra rb : Fin 32) (s : State) : Res := conclude s (issue c (binIns c 1 0x000 rd ra rb 2 1 (mulOp false)) s)

/-- MULS: product, saturating. -/
def execPfMuls (c : CoreId) (rd ra rb : Fin 32) (s : State) : Res := conclude s (issue c (binIns c 1 0x001 rd ra rb 2 1 (mulOp true)) s)

/-- MULH: upper word of the product. -/
def execPfMulh (c : CoreId) (rd ra rb : Fin 32) (s : State) : Res := conclude s (issue c (binIns c 1 0x002 rd ra rb 2 1 mulhOp) s)

/-- QMUL: rounded fractional product. -/
def execPfQmul (c : CoreId) (rd ra rb : Fin 32) (s : State) : Res := conclude s (issue c (binIns c 1 0x003 rd ra rb 2 1 qmulOp) s)

/-- DIV: quotient towards zero. -/
def execPfDiv (c : CoreId) (rd ra rb : Fin 32) (s : State) : Res := conclude s (issue c (divIns c 1 0x004 rd ra rb (divOp false)) s)

/-- REM: remainder with the sign of the dividend. -/
def execPfRem (c : CoreId) (rd ra rb : Fin 32) (s : State) : Res := conclude s (issue c (divIns c 1 0x005 rd ra rb (divOp true)) s)

/-! ### FP group (R208, R218) -/

/-- FADD: binary32, rounded to nearest even. -/
def execPfFadd (c : CoreId) (rd ra rb : Fin 32) (s : State) : Res := conclude s (issue c (binIns c 2 0x000 rd ra rb 3 3 (fpOp f32Add)) s)

/-- FSUB: binary32, rounded to nearest even. -/
def execPfFsub (c : CoreId) (rd ra rb : Fin 32) (s : State) : Res := conclude s (issue c (binIns c 2 0x001 rd ra rb 3 3 (fpOp f32Sub)) s)

/-- FMUL: binary32, rounded to nearest even. -/
def execPfFmul (c : CoreId) (rd ra rb : Fin 32) (s : State) : Res := conclude s (issue c (binIns c 2 0x002 rd ra rb 3 3 (fpOp f32Mul)) s)

/-- FDIV: binary32 quotient, on the divide unit. -/
def execPfFdiv (c : CoreId) (rd ra rb : Fin 32) (s : State) : Res := conclude s (issue c (divIns c 2 0x003 rd ra rb (fpOp f32Div)) s)

/-- FMIN: minNum. -/
def execPfFmin (c : CoreId) (rd ra rb : Fin 32) (s : State) : Res := conclude s (issue c (binIns c 2 0x004 rd ra rb 3 3 (fpOp (f32MinMax false))) s)

/-- FMAX: maxNum. -/
def execPfFmax (c : CoreId) (rd ra rb : Fin 32) (s : State) : Res := conclude s (issue c (binIns c 2 0x005 rd ra rb 3 3 (fpOp (f32MinMax true))) s)

/-- FABS: magnitude. -/
def execPfFabs (c : CoreId) (rd ra rb : Fin 32) (s : State) : Res := conclude s (issue c (fpUnIns c 0x006 rd ra rb f32Abs) s)

/-- FNEG: opposite sign. -/
def execPfFneg (c : CoreId) (rd ra rb : Fin 32) (s : State) : Res := conclude s (issue c (fpUnIns c 0x007 rd ra rb f32Neg) s)

/-- FMA's form (PF1.1): rd + ra * rb, rounded once. -/
def fmaIns (c : CoreId) (rd ra rb : Fin 32) : Ins :=
  { word := encR 2 rd ra rb 8, pf11 := true, reads := [rd, ra, rb]
    body := fun s =>
      let k := coreOf c s
      let open_ : Bool := k.g[rd].tag == tF32 && k.g[ra].tag == tF32 && k.g[rb].tag == tF32 && fmaOpen k.g[rd].val k.g[ra].val k.g[rb].val
      let (n, s) := if open_ then free 2 s else (0, s)
      writeResult c rd 3 3 (match fmaOp k.g[rd] k.g[ra] k.g[rb] with
        | .error t => .error t
        | .ok v => .ok { v with flags := if n = 1 then v.flags ||| flagNV else v.flags }) s }

/-- FMA: fused multiply-add. -/
def execPfFma (c : CoreId) (rd ra rb : Fin 32) (s : State) : Res := conclude s (issue c (fmaIns c rd ra rb) s)

/-! ### CVT, TAG, ACC groups (R209, R218, R231) -/

/-- CVT's form: target tag fn[3:0], wrap fn[4], rb = 0; 3 cycles to or from F32. -/
def cvtIns (c : CoreId) (rd ra rb : Fin 32) (fn : BitVec 11) : Ins :=
  let t := fn.extractLsb' 0 4
  { word := encR 3 rd ra rb fn.toNat, bad := rb ≠ 0 || !isTarget t, reads := [ra]
    body := fun s =>
      let a := (coreOf c s).g[ra]
      let d := if t == tF32 || a.tag == tF32 then 3 else 1
      writeResult c rd d d (cvtOp t (fn.getLsbD 4) a) s }

/-- TAGT's form: reads only the tag. -/
def tagtIns (c : CoreId) (rd ra rb : Fin 32) (fn : BitVec 8) : Ins :=
  { word := encR 4 rd ra rb fn.toNat, bad := rb ≠ 0, reads := [ra]
    body := fun s => writeResult c rd 1 1 (okW (mkWord tU8 (coreOf c s).g[ra].tag.toNat)) s }

/-- RETAG's form: target tag fn[3:0]; to F32 it is taken as the TAG group with F32 (R224). [log 56 DEDUCED] -/
def retagIns (c : CoreId) (rd ra rb : Fin 32) (fn : BitVec 8) : Ins :=
  let t := fn.extractLsb' 0 4
  let d := if t == tF32 then 3 else 1
  { word := encR 4 rd ra rb (256 + fn.toNat), bad := rb ≠ 0 || !isTarget t, reads := [ra]
    body := fun s => writeResult c rd d d (retagOp t (coreOf c s).g[ra]) s }

/-- ACCR's form. [log 53 DEDUCED] -/
def accrIns (c : CoreId) (rd ra rb : Fin 32) (fn : BitVec 10) : Ins :=
  let t := fn.extractLsb' 0 4
  { word := encR 5 rd ra rb fn.toNat, accRead := some (accOf ra)
    bad := !(t == tQ15 || t == tQ31 || t == tS16 || t == tS32 || t == tF32), body := accrBody c rd ra fn }

/-- CVT: conversion to another tag. -/
def execPfCvt (c : CoreId) (rd ra rb : Fin 32) (fn : BitVec 11) (s : State) : Res := conclude s (issue c (cvtIns c rd ra rb fn) s)

/-- TAGT: the tag code as U8. -/
def execPfTagt (c : CoreId) (rd ra rb : Fin 32) (fn : BitVec 8) (s : State) : Res := conclude s (issue c (tagtIns c rd ra rb fn) s)

/-- RETAG: a RAW pattern as a word of a tag. -/
def execPfRetag (c : CoreId) (rd ra rb : Fin 32) (fn : BitVec 8) (s : State) : Res := conclude s (issue c (retagIns c rd ra rb fn) s)

/-- ACCR: an accumulator into a register. -/
def execPfAccr (c : CoreId) (rd ra rb : Fin 32) (fn : BitVec 10) (s : State) : Res := conclude s (issue c (accrIns c rd ra rb fn) s)

/-- ACC clear: clears without writing rd. -/
def execPfAccClear (c : CoreId) (rd ra rb : Fin 32) (fn : BitVec 10) (s : State) : Res :=
  conclude s (issue c
    { word := encR 5 rd ra rb (1024 + fn.toNat), accRead := some (accOf ra),
      body := fun s => .ok { s := modCore c (clearAcc (accOf ra)) s } } s)

/-! ### SYS group and REP (R220, R228) -/

/-- TRAP: code 0x0E with the rb field in TINFO. -/
def execPfTrap (c : CoreId) (rb : Fin 32) (s : State) : Res := conclude s (issue c (sysIns 0 0 0 rb false true fun _ => .error ⟨0x0E, BitVec.ofNat 32 rb⟩) s)

/-- BREAK: code 0x0F. -/
def execPfBreak (c : CoreId) (s : State) : Res := conclude s (issue c (sysIns 1 0 0 0 false true fun _ => trap 0x0F) s)

/-- RTE: STATUS and PC from TSTATUS and TPC. -/
def execPfRte (c : CoreId) (s : State) : Res := conclude s (issue c (sysIns 2 0 0 0 true false fun s => .ok { s := s, flow := .rte }) s)

/-- MFC's form: privileged but for the registers user state may read; CYCLO latches CYCHI (R213). -/
def mfcIns (c : CoreId) (rd cr : Fin 32) : Ins :=
  { (sysIns 3 rd cr 0 false true fun s =>
      let k := coreOf c s
      if k.user && !crUser cr then trap 0x0A
      else
        let s := modCore c (fun k => if cr.val = 6 then { k with cycHi := BitVec.ofNat 32 (k.cyc / 2 ^ 32) } else k) s
        writeResult c rd 1 1 (okW (rawWord (crRead k cr))) s) with bad := 11 < cr.val }

/-- MTC's form. -/
def mtcIns (c : CoreId) (rd cr : Fin 32) : Ins :=
  { (sysIns 4 rd cr 0 true true fun s =>
      match rawOperand (coreOf c s).g[rd] with
      | .error t => .error t
      | .ok v => .ok { s := modCore c (fun k => crWrite k cr v) s }) with bad := 11 < cr.val, reads := [rd] }

/-- MTSG's form: BASE from ra, the low word from rd; reserved bits stay 0. [log 53 DEDUCED; log 58 DEDUCED] -/
def mtsgIns (c : CoreId) (rd ra sg : Fin 32) : Ins :=
  { (sysIns 5 rd ra sg true true fun s =>
      let k := coreOf c s
      match rawOperand k.g[rd], rawOperand k.g[ra] with
      | .error t, _ => .error t
      | _, .error t => .error t
      | .ok lo, .ok base =>
        .ok { s := modCore c (fun k => { k with sg := vmod k.sg sg.val (fun _ => base ++ (lo &&& 0xFFFFFF1F)) }) s }) with
    bad := 15 < sg.val, reads := [rd, ra] }

/-- MFSG's form: the low word into rd, BASE into ra. -/
def mfsgIns (c : CoreId) (rd ra sg : Fin 32) : Ins :=
  { (sysIns 6 rd ra sg true true fun s =>
      .ok { s := modCore c (fun k =>
        let d := (k.sg[sg.val]?).getD 0
        (k.write rd (rawWord (d.extractLsb' 0 32)) 1).write ra (rawWord (d.extractLsb' 32 32)) 1) s }) with bad := 15 < sg.val }

/-- MFC: a control register into rd. -/
def execPfMfc (c : CoreId) (rd : Fin 32) (cr : Fin 32) (s : State) : Res := conclude s (issue c (mfcIns c rd cr) s)

/-- MTC: rd into a control register. -/
def execPfMtc (c : CoreId) (rd : Fin 32) (cr : Fin 32) (s : State) : Res := conclude s (issue c (mtcIns c rd cr) s)

/-- MTSG: writes a segment descriptor. -/
def execPfMtsg (c : CoreId) (rd ra : Fin 32) (sg : Fin 32) (s : State) : Res := conclude s (issue c (mtsgIns c rd ra sg) s)

/-- MFSG: reads a segment descriptor. -/
def execPfMfsg (c : CoreId) (rd ra : Fin 32) (sg : Fin 32) (s : State) : Res := conclude s (issue c (mfsgIns c rd ra sg) s)

/-- FENCE: completes at once: a store is visible to every agent when it is made. -/
def execPfFence (c : CoreId) (s : State) : Res := conclude s (issue c (sysIns 7 0 0 0 false true fun s => .ok { s := s }) s)

/-- WAIT: stops issue until an enabled interrupt is pending. -/
def execPfWait (c : CoreId) (s : State) : Res := conclude s (issue c ({ (sysIns 8 0 0 0 true true fun s => .ok { s := s, flow := .wait }) with ldOnly := true }) s)

/-- WEND: ends the window. -/
def execPfWend (c : CoreId) (s : State) : Res := conclude s (issue c ({ (sysIns 9 0 0 0 false false fun s => .ok { s := s, flow := .wend }) with exOnly := true }) s)

/-- REP's form: every other field 0; g29 is U32. -/
def repIns (c : CoreId) (zero : BitVec 26) : Ins :=
  { word := BitVec.ofNat 32 (7 * 2 ^ 26 + zero.toNat), bad := zero ≠ 0, slotOk := false, repOk := false, reads := [29]
    body := fun s => match strOperand (coreOf c s).g[29] with
      | .error t => .error t
      | .ok n => .ok { s := s, flow := .rep n } }

/-- REP: the next instruction g29 times. -/
def execPfRep (c : CoreId) (zero : BitVec 26) (s : State) : Res := conclude s (issue c (repIns c zero) s)

/-! ### Immediates (R206, R218) -/

/-- ADDI: adds the sign-extended immediate. -/
def execPfAddi (c : CoreId) (rd ra : Fin 32) (imm : BitVec 16) (s : State) : Res := conclude s (issue c (immIns c 0x08 rd ra imm addImm) s)

/-- ANDI: and with the zero-extended immediate. -/
def execPfAndi (c : CoreId) (rd ra : Fin 32) (imm : BitVec 16) (s : State) : Res := conclude s (issue c (immIns c 0x09 rd ra imm (logicImm (· &&& ·))) s)

/-- ORI: or with the zero-extended immediate. -/
def execPfOri (c : CoreId) (rd ra : Fin 32) (imm : BitVec 16) (s : State) : Res := conclude s (issue c (immIns c 0x0A rd ra imm (logicImm (· ||| ·))) s)

/-- XORI: exclusive or with the zero-extended immediate. -/
def execPfXori (c : CoreId) (rd ra : Fin 32) (imm : BitVec 16) (s : State) : Res := conclude s (issue c (immIns c 0x0B rd ra imm (logicImm (· ^^^ ·))) s)

/-- CLTI: BOOL of ra < imm. -/
def execPfClti (c : CoreId) (rd ra : Fin 32) (imm : BitVec 16) (s : State) : Res := conclude s (issue c (immIns c 0x0C rd ra imm (compareImm .lt)) s)

/-- CEQI: BOOL of ra = imm. -/
def execPfCeqi (c : CoreId) (rd ra : Fin 32) (imm : BitVec 16) (s : State) : Res := conclude s (issue c (immIns c 0x0D rd ra imm (compareImm .eq)) s)

/-- LI: an immediate with a tag. -/
def execPfLi (c : CoreId) (rd : Fin 32) (zext : Bool) (tag : BitVec 4) (imm : BitVec 16) (s : State) : Res :=
  conclude s (issue c
    { word := encI 0x0E rd (zext.toNat * 16 + tag.toNat) imm.toNat, bad := !isTarget tag,
      body := writeResult c rd 1 1 (liOp tag zext imm) } s)

/-- LIH: the upper half of rd. -/
def execPfLih (c : CoreId) (rd ra : Fin 32) (imm : BitVec 16) (s : State) : Res :=
  conclude s (issue c
    { word := encI 0x0F rd ra imm.toNat, bad := ra ≠ 0, reads := [rd],
      body := fun s => writeResult c rd 1 1 (lihOp (coreOf c s).g[rd] imm) s } s)

/-! ### Memory (R215, R216, R218, R232) -/

/-- LD: a load. -/
def execPfLd (c : CoreId) (rd ra : Fin 32) (sg : Fin 16) (off : BitVec 12) (s : State) : Res :=
  conclude s (issue c
    { word := encM 0x10 rd ra sg off.toNat, reads := [ra],
      body := fun s => loadInto c rd false (address (coreOf c s) .load ra sg off) s } s)

/-- ST: a store. -/
def execPfSt (c : CoreId) (rd ra : Fin 32) (sg : Fin 16) (off : BitVec 12) (s : State) : Res :=
  conclude s (issue c
    { word := encM 0x11 rd ra sg off.toNat, reads := [ra, rd],
      body := fun s => storeFrom c rd false (address (coreOf c s) .store ra sg off) s } s)

/-- LDP: a load through a SEG word. -/
def execPfLdp (c : CoreId) (rd ra : Fin 32) (sg : Fin 16) (off : BitVec 12) (s : State) : Res :=
  conclude s (issue c
    { word := encM 0x12 rd ra sg off.toNat, bad := sg ≠ 0, reads := [ra],
      body := fun s => loadInto c rd false (addressSeg (coreOf c s) .load ra off) s } s)

/-- STP: a store through a SEG word. -/
def execPfStp (c : CoreId) (rd ra : Fin 32) (sg : Fin 16) (off : BitVec 12) (s : State) : Res :=
  conclude s (issue c
    { word := encM 0x13 rd ra sg off.toNat, bad := sg ≠ 0, reads := [ra, rd],
      body := fun s => storeFrom c rd false (addressSeg (coreOf c s) .store ra off) s } s)

/-- LRW: a load that places a reservation. -/
def execPfLrw (c : CoreId) (rd ra : Fin 32) (sg : Fin 16) (off : BitVec 12) (s : State) : Res :=
  conclude s (issue c
    { word := encM 0x14 rd ra sg off.toNat, repOk := false, reads := [ra],
      body := fun s => loadInto c rd true (address (coreOf c s) .atomic ra sg off) s } s)

/-- SCW: a store under the reservation. -/
def execPfScw (c : CoreId) (rd ra : Fin 32) (sg : Fin 16) (off : BitVec 12) (s : State) : Res := conclude s (issue c ({ word := encM 0x15 rd ra sg off.toNat, repOk := false, reads := [ra, rd], body := scwBody c rd ra sg off }) s)

/-- MKP: a SEG word. -/
def execPfMkp (c : CoreId) (rd ra : Fin 32) (sg : Fin 16) (off : BitVec 12) (s : State) : Res :=
  conclude s (issue c
    { word := encM 0x16 rd ra sg off.toNat, reads := [ra],
      body := fun s => match baseOffset (coreOf c s).g[ra] with
        | .error t => .error t
        | .ok b => writeResult c rd 1 1 (okW (segWord sg (unsignedOf 28 (b + off.toInt)))) s } s)

/-- STT: a store of a register whole. -/
def execPfStt (c : CoreId) (rd ra : Fin 32) (sg : Fin 16) (off : BitVec 12) (s : State) : Res :=
  conclude s (issue c
    { word := encM 0x17 rd ra sg off.toNat, priv := true, reads := [ra, rd],
      body := fun s => storeFrom c rd true (address (coreOf c s) .store ra sg off) s } s)

/-! ### Branches and jumps (R217, R218, R227) -/

/-- BEQ: if ra = rb. -/
def execPfBeq (c : CoreId) (ra rb : Fin 32) (disp : BitVec 16) (s : State) : Res := conclude s (issue c (branchIns c 0x18 ra rb disp .eq false) s)

/-- BNE: if ra ≠ rb. -/
def execPfBne (c : CoreId) (ra rb : Fin 32) (disp : BitVec 16) (s : State) : Res := conclude s (issue c (branchIns c 0x19 ra rb disp .ne false) s)

/-- BLT: if ra < rb. -/
def execPfBlt (c : CoreId) (ra rb : Fin 32) (disp : BitVec 16) (s : State) : Res := conclude s (issue c (branchIns c 0x1A ra rb disp .lt false) s)

/-- BGE: if ra ≥ rb. -/
def execPfBge (c : CoreId) (ra rb : Fin 32) (disp : BitVec 16) (s : State) : Res := conclude s (issue c (branchIns c 0x1B ra rb disp .lt true) s)

/-- BT: if BOOL ra is 1. -/
def execPfBt (c : CoreId) (ra rb : Fin 32) (disp : BitVec 16) (s : State) : Res := conclude s (issue c (boolBranchIns c 0x1C ra rb disp true) s)

/-- BF: if BOOL ra is 0. -/
def execPfBf (c : CoreId) (ra rb : Fin 32) (disp : BitVec 16) (s : State) : Res := conclude s (issue c (boolBranchIns c 0x1D ra rb disp false) s)

/-- BTAG: if the tag of ra equals, or differs. -/
def execPfBtag (c : CoreId) (ra : Fin 32) (differs : Bool) (tag : BitVec 4) (disp : BitVec 16) (s : State) : Res :=
  conclude s (issue c
    { word := encI 0x1E ra (differs.toNat * 16 + tag.toNat) disp.toNat, slotOk := false, repOk := false, reads := [ra],
      body := fun s => branchTo c disp (.ok (((coreOf c s).g[ra].tag == tag) != differs, 0)) s } s)

/-- JAL: jump with a link. -/
def execPfJal (c : CoreId) (rd ra : Fin 32) (imm : BitVec 16) (s : State) : Res :=
  conclude s (issue c
    { word := encI 0x20 rd ra imm.toNat, bad := ra ≠ 0, slotOk := false, repOk := false,
      body := fun s => .ok { s := linkWrite c rd s, flow := .jump (some (unsignedOf 32 ((coreOf c s).pc + 1 + imm.toInt))) } } s)

/-- JALR: jump through a register. -/
def execPfJalr (c : CoreId) (rd ra : Fin 32) (imm : BitVec 16) (s : State) : Res :=
  conclude s (issue c
    { word := encI 0x21 rd ra imm.toNat, slotOk := false, repOk := false, reads := [ra],
      body := fun s => match strOperand (coreOf c s).g[ra] with
        | .error t => .error t
        | .ok a => .ok { s := linkWrite c rd s, flow := .jump (some (unsignedOf 32 (a + imm.toInt))) } } s)

/-! ### Bit fields and CRC (R218) -/

/-- BFX: a bit field of ra. -/
def execPfBfx (c : CoreId) (rd ra : Fin 32) (imm : BitVec 16) (s : State) : Res :=
  conclude s (issue c
    { word := encI 0x22 rd ra imm.toNat, pf11 := true, reads := [ra],
      body := fun s =>
        let (v, s) := if bfOpen imm then free (2 ^ 32) s else (0, s)
        writeResult c rd 1 1 (bfxOp imm v (coreOf c s).g[ra]) s } s)

/-- BFI: a bit field into rd. -/
def execPfBfi (c : CoreId) (rd ra : Fin 32) (imm : BitVec 16) (s : State) : Res :=
  conclude s (issue c
    { word := encI 0x23 rd ra imm.toNat, pf11 := true, reads := [rd, ra],
      body := fun s => let k := coreOf c s; writeResult c rd 1 1 (bfiOp imm k.g[rd] k.g[ra]) s } s)

/-- CRC: one CRC-32C step over a word. -/
def execPfCrc (c : CoreId) (rd ra : Fin 32) (s : State) : Res :=
  conclude s (issue c
    { word := encR 0x24 rd ra 0 0, pf11 := true, reads := [rd, ra],
      body := fun s => let k := coreOf c s; writeResult c rd 1 1 (crcOp k.g[rd] k.g[ra]) s } s)

/-! ### Strings and MACD (R229, R231) -/

/-- MOVS: copies words. -/
def execPfMovs (c : CoreId) (desc : Bool) (sgA sgB : Fin 16) (ra rb : Fin 32) (upTo : Option Nat) (s : State) : Res :=
  conclude s (issue c (strIns c .movs desc sgA sgB ra rb upTo) s)

/-- CMPS: compares words. -/
def execPfCmps (c : CoreId) (desc : Bool) (sgA sgB : Fin 16) (ra rb : Fin 32) (upTo : Option Nat) (s : State) : Res :=
  conclude s (issue c (strIns c .cmps desc sgA sgB ra rb upTo) s)

/-- FILS: fills words with ra. -/
def execPfFils (c : CoreId) (desc : Bool) (sgA sgB : Fin 16) (ra rb : Fin 32) (upTo : Option Nat) (s : State) : Res :=
  conclude s (issue c (strIns c .fils desc sgA sgB ra rb upTo) s)

/-- SCNS: searches words for ra. -/
def execPfScns (c : CoreId) (desc : Bool) (sgA sgB : Fin 16) (ra rb : Fin 32) (upTo : Option Nat) (s : State) : Res :=
  conclude s (issue c (strIns c .scns desc sgA sgB ra rb upTo) s)

/-- MACD: multiply-accumulate of two memory words. -/
def execPfMacd (c : CoreId) (acc : Bool) (sgA sgB : Fin 16) (ra rb : Fin 32) (sub : BitVec 7) (s : State) : Res :=
  conclude s (issue c
    { word := encD 0x31 acc.toNat sgA ra sgB rb sub.toNat, bad := 4 < bitsOf sub.toNat 6 4, pf11 := bitsOf sub.toNat 6 4 = 4,
      reads := [ra, rb], body := macBody c (if acc then 1 else 0) sgA sgB ra rb sub } s)

/-! ### What happens between instructions (R223, R226, R232, R237) -/

/-- The lowest line set in IPEND and IMASK. -/
def pendingLine (k : PfCore) : Option Nat := (List.range 32).find? fun i => (k.ipend &&& k.imask).getLsbD i

/-- An interrupt can be taken: load-delay mode, IE set, EXL clear, no load result outstanding. -/
def mayInterrupt (k : PfCore) : Bool :=
  k.loadDelay && k.status.getLsbD 1 && !k.status.getLsbD 2 &&
  !(k.pend.any fun p => match p.what with | .load _ _ => true | _ => false)

/-- An interrupt is taken at an instruction boundary, between the words of a string instruction, or between the iterations of a
REP, whose address TPC then holds; the line is pending no longer. -/
def takeInterrupt (c : CoreId) (s : State) : State :=
  let s := settleCore c s
  let k := coreOf c s
  if !(coreRuns c s) || k.halted || k.debugHalt || !mayInterrupt k then s
  else match pendingLine k with
  | none => s
  | some line =>
    modCore c (fun k => { k with
      tpc := BitVec.ofNat 32 (if k.rep.isSome then k.pc - 1 else k.pc), tcode := BitVec.ofNat 32 (0x20 + line), tinfo := 0
      tstatus := k.status, status := (k.status ||| stSup ||| stExl) &&& ~~~stIe, pc := k.tvec.toNat
      rep := none, repWord := none, prevLoad := none, resv := none, waiting := false, ipend := k.ipend &&& ~~~(BitVec.twoPow 32 line) }) s

/-- INTERRUPT_TAKEN. -/
def execInterruptTaken (c : CoreId) (s : State) : Res := conclude s (takeInterrupt c s)

/-- A reservation is lost at the end of cycle t + 63. A core that may stall has by then reached that cycle. -/
def expireReservation (c : CoreId) (s : State) : State :=
  modCore c (fun k => match k.resv with
    | none => k
    | some (_, t) =>
      if k.loadDelay then { k with resv := none, cyc := max k.cyc (t + 64) }
      else if t + 63 < k.cyc then { k with resv := none } else k) s

/-- RESERVATION_EXPIRY. -/
def execReservationExpiry (c : CoreId) (s : State) : Res := conclude s (expireReservation c s)

/-- The results due by now are written. A core that may stall waits for the earliest one, slow load data among them. -/
def writeback (c : CoreId) (s : State) : State :=
  settleCore c (modCore c (fun k =>
    if k.loadDelay then
      match (k.pend.filter fun p => some p ≠ k.shadowed).head? with
      | some p => { k with cyc := max k.cyc (p.due + 1) }
      | none => k
    else k) s)

/-- PIPELINE_WRITEBACK. -/
def execPipelineWriteback (c : CoreId) (s : State) : Res := conclude s (writeback c s)

end Sys2Proof.Machine
end

