-- ==== Sys2Proof/Machine/OdWrite.lean ====
section
/-! DEFINITION. A write to any entry of the object dictionary: its state condition, its own checks and its effect (R408-R413,
R421-R433 and the object tables of the chapters). -/

namespace Sys2Proof.Machine

/-- How a write ends: answered as done, aborted, or answered later by its owner. -/
inductive Written where
  | done (s : State)
  | abort (code : Nat) (s : State)
  | later (s : State)
  deriving DecidableEq, Repr

/-! ### State conditions of entries (check 5 of R410) -/

/-- The state condition of a write of `n` to an entry. -/
def entryOpen (s : State) (idx sb n : Nat) : Bool :=
  let port := (idx - 0x3000) / 0x20
  let off := (idx - 0x3000) % 0x20
  if 18 * 0x20 + 0x3000 ≤ idx ∧ idx < 0x3300 ∧ off = 1 ∧ sb = 3 then flowModeOpen s port true n
  else if 18 * 0x20 + 0x3000 ≤ idx ∧ idx < 0x3300 ∧ off = 3 ∧ sb = 3 then flowModeOpen s port false n
  else if 0x5010 ≤ idx ∧ idx ≤ 0x5027 then portAtRest s (idx - 0x5010)
  else if 0x5030 ≤ idx ∧ idx ≤ 0x5035 then portAtRest s (18 + (idx - 0x5030))
  else if idx = 0x5051 then serviceOnly s
  else true

/-! ### Values an entry admits beyond its range (checks 6 and 7 of R410) -/

/-- A mask of ports names one this part does not have, or that is not of the kind meant (R424). [log 95 DEDUCED] -/
def namesAbsent (s : State) (v lo hi : Nat) : Bool :=
  (List.range 32).any fun n => v.testBit n && !(lo ≤ n && n ≤ hi && portFitted s n)

/-- A filter or default entry sends to a fabric port this part does not have (R424). -/
def destAbsent (s : State) (b : Blob) : Bool :=
  (chunks 16 b).any fun e => (List.range 32).any fun f => (ofLe e).testBit (91 + f) && fabricUnused s f

/-- Rates of R169; half duplex at 10 and 100 only, aggregate members at 10000 (R199). -/
def rateOk (s : State) (n v : Nat) : Bool :=
  if n < 22 then [10, 100, 1000, 2500].contains v && (!flag s (pk n 1 3) || v ≤ 100)
  else [100, 1000, 2500, 5000, 10000].contains v && (!flag s (pk n 1 6) || v == 10000)

/-- Lanes of a port (R199): numbers below 12 or 0xF, the reserved byte 0xFF. -/
def lanesOk (v : Nat) : Bool :=
  v / 256 == 0xFF && (v % 16 < 12 || v % 16 == 15) && (v / 16 % 16 < 12 || v / 16 % 16 == 15)

/-- Entries of a port's block whose values the tables restrict further: none where the value stands. [log 95 DEDUCED; log 124 DEDUCED] -/
def portValueBad (s : State) (n off sb v : Nat) (b : Blob) : Bool :=
  match off, sb with
  | 1, 1 => isEth n && !rateOk s n v
  | 1, 6 => v ≠ 0 && val s (pk n 1 1) ≠ 10000
  | 3, 5 => decide (val s (odKey 0x3808 (n + 1)) < v + 10)
  | 5, 1 => destAbsent s b
  | 5, 2 => destAbsent s b
  | 6, 3 => v ≠ 0 && v ≠ 30 && v ≠ 50
  | 6, 6 => !lanesOk v
  | 6, 7 => !lanesOk v
  | 9, 8 => !([125, 250, 500, 1000].contains v)
  | _, _ => false

/-- A value the tables refuse with 0x06090030 beyond their ranges. [log 95 DEDUCED] -/
def valueBad (s : State) (idx sb v : Nat) (b : Blob) : Bool :=
  if 0x3000 ≤ idx ∧ idx < 0x3300 then portValueBad s ((idx - 0x3000) / 0x20) ((idx - 0x3000) % 0x20) sb v b
  else if 0x3810 ≤ idx ∧ idx ≤ 0x3817 then
    (sb == 1 && fabricUnused s v) || (sb == 4 && v % 128 ≠ 0) || (sb == 5 && !((List.range 13).any fun i => v == 256 * 2 ^ i))
  else if 0x5010 ≤ idx ∧ idx ≤ 0x5027 then
    (sb == 1 && !testModeOk (idx - 0x5010) v) || (sb == 2 && !testLenOk s (idx - 0x5010) v)
  else if 0x5030 ≤ idx ∧ idx ≤ 0x5035 then sb == 1 && !([7, 15, 23, 31].contains v)
  else if 0x6010 ≤ idx ∧ idx ≤ 0x6037 then
    sb == 4 && decide (val s (odKey idx 2) ≤ v)
  else match idx, sb with
  | 0x1021, 1 => !(v ≤ 55 || v == 0xFF)
  | 0x1030, 1 => namesAbsent s v 0 9
  | 0x1033, 1 => namesAbsent s v 14 23
  | 0x1033, 2 => v == 13400
  | 0x2100, 3 => !v.testBit 16
  | 0x2300, 3 => (derSplit 4 b).flatten ≠ b
  | 0x4200, 9 => !([106, 212, 424, 848].contains v)
  | _, _ => false

/-! ### Effects -/

/-- The keeper's read index of a ring (R433). -/
def effReadIndex (s : State) (src v : Nat) : Access :=
  .ok { s with evt := { s.evt with rings := vmod s.evt.rings src fun r =>
    { r with read := v, unread := min r.unread ((r.write + r.entries - v) % max r.entries 1) } } }

/-- The effect of a write in a port's block. -/
def portEffect (s : State) (n off sb idx v : Nat) (b : Blob) : Access :=
  match off, sb with
  | 0, 1 => effPortEnable s n v
  | 1, 3 => if n < 10 then effXlMode s n false v else if 18 ≤ n then effFlowMode s n true v else .ok (storeEntry idx sb s v b)
  | 1, 4 => if n < 10 then effXlMode s n true v else .ok (storeEntry idx sb s v b)
  | 2, _ => if n < 10 then effBitTiming s n sb v else .ok (storeEntry idx sb s v b)
  | 3, 3 => effFlowMode s n false v
  | 9, 1 => effWakeMode s n v
  | _, _ => .ok (storeEntry idx sb s v b)

/-- The effect of a write to 0x3800-0x3BFF. -/
def coreEffect (s : State) (slot : Nat) (idx sb v : Nat) (b : Blob) : Access :=
  match idx, sb with
  | 0x3800, 2 => effPlaneTest s v
  | 0x3800, 7 => effClearHighWater s v
  | 0x3807, _ => effPauseGrace s (sb - 1) v
  | 0x3808, _ => effStallLimit s (sb - 1) v
  | 0x3902, 1 => effStandbyLoad s b
  | 0x3902, 2 => effSwap s v
  | 0x3904, 1 => effMinGeneration s v
  | 0x3A03, 2 => effStreamSlots s b
  | 0x3A2B, 1 => effBindings s b
  | 0x3A10, 1 => .ok (modSession slot (fun y => { y with peek := v }) s)
  | 0x3B20, 6 => effWatchdog s
  | i, k =>
    if 0x3810 ≤ i ∧ i ≤ 0x3817 ∧ k = 8 then effMirrorEnable s (i - 0x3810) v
    else if 0x3B10 ≤ i ∧ i ≤ 0x3B1F ∧ k = 1 then effPairEnable s (i - 0x3B10) v
    else if 0x3830 ≤ i ∧ i ≤ 0x3847 ∧ 1 ≤ k ∧ k ≤ 16 then .ok (storeEntry i k (settleBucket (i - 0x3830) ((k - 1) % 8) s) v b)
    else if 0x3B10 ≤ i ∧ i ≤ 0x3B1F ∧ k = 7 then effRequalify s (i - 0x3B10) v
    else .ok (storeEntry i k s v b)

/-- The effect of a write below 0x3000. What a pin or a wire shows while the write is carried out is a reading. -/
def deviceEffect (s : State) (slot : Nat) (x : Session) (idx sb v : Nat) (b : Blob) : Access :=
  match idx, sb with
  | 0x1011, 1 => if v = 0x64616F6C then .ok { s with sess := { s.sess with restore := true } } else .error abRange
  | 0x2000, 3 => effDeviceReset s v
  | 0x2100, 1 => effStateRequest s v
  | 0x2102, 1 => effKeeperVotes s v
  | 0x2106, 1 => effPadRelease s
  | 0x2201, 1 => .ok (modSession slot (fun y => { y with mOffset := v }) s)
  | 0x2201, 2 => mWrite x b s
  | 0x2201, 3 => blockProtect v s
  | 0x2202, 1 => .ok (modSession slot (fun y => { y with wOffset := v }) s)
  | 0x2202, 2 => wWrite slot x b s
  | 0x2202, 6 => storePasswords b s
  | 0x2300, 6 => effKeyRevoke s v
  | 0x2330, 2 => revokeRequest v s
  | 0x2340, 1 => startAttestation b s
  | 0x2500, 5 => effTamperConfig s 5 v
  | 0x2500, 6 => effTamperConfig s 6 v
  | 0x2500, 7 => effTamperConfig s 7 v
  | 0x2500, 0xB => effLoopCheck s v (BitVec.ofNat 8 (Config.sensor 0x60 s.clk.ticks))
  | i, k =>
    if i = 0x2105 ∧ 1 ≤ k ∧ k ≤ 4 then effSenseThreshold s (k - 1) v (Config.sensor (0x24 + k) s.clk.ticks)
    else if 0x2480 ≤ i ∧ i ≤ 0x248B ∧ (k = 1 ∨ k = 2) then effLaneKey s (i - 0x2480) (k == 2) b
    else if 0x2480 ≤ i ∧ i ≤ 0x248B ∧ k = 3 then effLaneEnable s (i - 0x2480) v
    else .ok (storeEntry i k s v b)

/-- The effect of a write from 0x4000 on. -/
def accessEffect (s : State) (x : Session) (idx sb v : Nat) (b : Blob) : Access :=
  match idx, sb with
  | 0x4001, 1 => effWakeId s v
  | 0x4002, 1 => effPatternTable s b
  | 0x4100, 1 => effUwbEnable s v
  | 0x4200, 1 => effNfcEnable s v
  | 0x4200, 0xA => effReaderExchange s b
  | 0x4201, 1 => if b.length ≤ 1024 then .ok (tagFileWrite 0xE104 x.role.code b s) else .error abLong
  | 0x4201, 2 => if b.length ≤ 1024 then .ok (tagFileWrite 0xA102 x.role.code b s) else .error abLong
  | 0x5040, 2 => effLfLoopback s
  | 0x5041, 1 => effUwbLoopback s
  | 0x5042, 1 => effNfcLoad s
  | 0x5050, 2 => effBist s
  | 0x5051, 1 =>
    let r := Config.sensor 0x61 s.clk.ticks
    effDramTest s (if r = 0 then none else some (r - 1))
  | i, k =>
    if 0x4010 ≤ i ∧ i ≤ 0x4017 ∧ k = 1 then effLfEnable s (i - 0x4010) v
    else if 0x5010 ≤ i ∧ i ≤ 0x5027 ∧ k = 5 then effPortTest s (i - 0x5010) v
    else if 0x5030 ≤ i ∧ i ≤ 0x5035 ∧ k = 3 then effSerTest s (i - 0x5030) v
    else if 0x6010 ≤ i ∧ i ≤ 0x6037 ∧ (k = 1 ∨ k = 2) then effRingConfig s (i - 0x6010) (k == 2) v
    else if 0x6010 ≤ i ∧ i ≤ 0x6037 ∧ k = 4 then effReadIndex s (i - 0x6010) v
    else .ok (storeEntry i k s v b)

/-- The effect of a write that has passed checks 1 to 6. -/
def entryEffect (s : State) (slot : Nat) (x : Session) (idx sb v : Nat) (b : Blob) : Access :=
  if valueBad s idx sb v b then .error abRange
  else if idx = 0x2300 ∧ sb = 3 ∧ 8192 < b.length then .error abLong
  else if 0x3000 ≤ idx ∧ idx < 0x3300 then portEffect s ((idx - 0x3000) / 0x20) ((idx - 0x3000) % 0x20) sb idx v b
  else if idx < 0x3000 then deviceEffect s slot x idx sb v b
  else if idx < 0x4000 then coreEffect s slot idx sb v b
  else accessEffect s x idx sb v b

/-! ### Role requests (R408) -/

/-- The role of a code. [log 102 DEDUCED] -/
def roleOf : Nat → Option Role
  | 0 => some .inspect | 1 => some .host | 2 => some .maker | 3 => some .workshop | 4 => some .vendor | _ => none

/-- A signature proof: the key hashes to one of the hashes given, and its signature over the message verifies. [log 102 DEDUCED] -/
def signedProof (hashes : List Blob) (msg proof : Blob) : Bool :=
  proof.length == 129 && hashes.any (fun h => h ≠ [] && h ≠ zeros 32 && keyHash (proof.take 65) == h) &&
    Config.ecdsaVerify (proof.take 65) msg (proof.drop 65)

/-- The vault's check of a proof for a role. [log 102 DEDUCED] -/
def proofAdmits (s : State) (r : Role) (msg proof : Blob) : Bool :=
  match r with
  | .inspect => true
  | .host =>
    (match slotAt s (val s (odKey 0x1021 1)) with
     | some k => decide (val s (odKey 0x1021 1) ≤ 55) && k.usage.getLsbD 3 && aesCmac k.key msg == proof
     | none => false)
  | .workshop => signedProof (chunks 32 (subPad (blob s (odKey 0x1021 2)) 0 256)) msg proof
  | .maker => signedProof [s.fuse.makerKh] msg proof
  | .vendor => s.lc.state == 4 && signedProof [fuseVendorKh] msg proof

/-- A failure is counted; the eighth within 10 minutes blocks the endpoint, which clears the times. -/
def RoleFail.fail (f : RoleFail) (now : Nat) : RoleFail :=
  let times := now :: f.times.filter fun t => now < t + 600 * secPs
  if 8 ≤ times.length then { count := min (f.count + 1) 0xFFFFFFFF, times := [], blocked := true, blockedPs := now }
  else { f with count := min (f.count + 1) 0xFFFFFFFF, times := times, blocked := false }

/-- A role request: the role byte and the proof over UID, challenge, role and endpoint. INSPECT needs no proof and no
challenge. The challenge is used up. [log 102 DEDUCED] -/
def roleWrite (slot : Nat) (x : Session) (d : Blob) (s : State) : Written :=
  let f := (s.sess.fails[x.endpoint]?).getD {}
  if f.blocked then .abort abState s
  else
    let r := roleOf (ofLe (d.take 1))
    let fresh : Bool := match x.challenge with
      | some c => !c.used && decide (nowPs s ≤ c.madePs + 60 * secPs)
      | none => false
    let msg := fuseUid ++ (x.challenge.map (·.bytes)).getD [] ++ d.take 1 ++ leBytes 1 x.endpoint
    let used (y : Session) : Session := { y with challenge := y.challenge.map fun c => { c with used := true } }
    match (if d = [] then none else r) with
    | some .inspect => .done (modSession slot (fun y => { used y with role := .inspect }) s)
    | some r' =>
      if fresh ∧ proofAdmits s r' msg (d.drop 1) then .done (modSession slot (fun y => { used y with role := r' }) s)
      else refused used
    | none => refused used
where
  /-- The request fails: the role stays, the failure is counted and logged. -/
  refused (used : Session → Session) : Written :=
    let s := modSession slot used { s with sess := { s.sess with fails := vmod s.sess.fails x.endpoint (·.fail (nowPs s)) } }
    .abort abProof (logEvent 8 clsSecurity 0 (odKey 0x1020 4) (leBytes 1 x.endpoint) s)

/-! ### Requests written as bytes -/

/-- The row of R350 a signed request names from the state the device is in. [log 84 DEDUCED] -/
def requestedTransition (s : State) (target : Nat) : Option Transition :=
  [trFieldLock, trOpenDebug, trReprovision, trReturn, trRefurbish, trScrap].find? fun t =>
    t.target == target && t.froms.contains s.lc.state

/-- A write to 0x2010/03 (R351): target, cause, then key and signature of each proof. In BLANK the request of PROVISION
carries COMB_KH0-COMB_KH3, COMB_POL, DEBUG_KH and MAKER_KH in that order. -/
def transitionWrite (slot : Nat) (d : Blob) (s : State) : State :=
  let target := ofLe (d.take 1)
  let cause := (sub d 1 1).headD 0
  let rest := d.drop 2
  if s.lc.state = 0 ∧ target = 1 then
    provision slot cause { combKh := (List.range 4).map fun i => sub rest (32 * i) 32, combPol := (sub rest 128 1).headD 0,
                           debugKh := sub rest 129 32, makerKh := sub rest 161 32 } s
  else match requestedTransition s target with
  | some t => signedRequest t slot { cause := cause, proofs := (chunks 129 rest).map fun p => (p.take 65, p.drop 65) } s
  | none => refuseTransition slot abState s

/-- A request written to 0x2310/01 (R337): opcode, tag, 16-bit parameter length, parameters. The widths of the parameters
are the model's: one byte for a slot, KLEN, USAGE, OWNER, MEAS and the algorithm set, four for KEY_ID and KCV; a label
stands behind its length. [log 79 DEDUCED] -/
def vaultRequestWrite (d : Blob) (s : State) : State :=
  let op := ofLe (d.take 1)
  let tag := (sub d 1 1).headD 0
  let p := sub (d.drop 4) 0 (ofLe (sub d 2 2))
  let n (o : Nat) : Nat := ofLe (sub p o 1)
  let by1 (o : Nat) : Byte := (sub p o 1).headD 0
  let last := p.length - 1
  match op with
  | 0x01 => vaultLoad 0 tag (n 0) (p.drop 1) s
  | 0x02 => vaultClear 0 tag (n 0) s
  | 0x03 => vaultGenerate 0 tag (n 0) (by1 1) (BitVec.ofNat 4 (n 2)) (n 3 ≠ 0) (BitVec.ofNat 32 (ofLe (sub p 4 4))) (n 8) s
  | 0x04 => vaultImport 0 tag (p.take 65) (sub p 65 32) (p.drop 97) s
  | 0x05 => vaultRewrap 0 tag (p.take last) (n last ≠ 0) s
  | 0x06 =>
    let l := n 0
    let q := p.length - 5
    vaultDerive 0 tag (sub p 1 l) (sub p (1 + l) (q - 1 - l)) (n q) (by1 (q + 1)) (BitVec.ofNat 4 (n (q + 2))) (n (q + 3) ≠ 0) (n (q + 4)) s
  | 0x07 => vaultReplace 0 tag (n 0) (sub p 1 (p.length - 5)) (BitVec.ofNat 32 (ofLe (p.drop (p.length - 4)))) s
  | 0x08 => vaultKcv 0 tag (n 0) s
  | 0x09 => vaultMkaKeys 0 tag (n 0) (sub p 1 (p.length - 3)) (n (last - 1)) (n last) s
  | 0x0A => vaultMkaIcv 0 tag (n 0) (p.drop 1) s
  | 0x0B => vaultMkaUnwrap 0 tag (n 0) (sub p 1 (p.length - 2)) (n last) s
  | 0x0C => vaultMkaNewsak 0 tag (n 0) (n 1) (n 2) s
  | 0x0D => enrolRequest 15 (n last) (by1 (last - 2)) (by1 (last - 1)) (p.take (p.length - 3)) s
  | 0x0E => vaultAttest 0 tag (p.take last) (by1 last) s
  | _ => s

/-- A request written to 0x2410/01 (R369): its fields; the bytes at SRC are the DRAM's, which the model does not hold. [log 87 DEDUCED] -/
def laneRequestWrite (d : Blob) (s : State) : State :=
  let f (o hi lo : Nat) : Nat := bitsOf (ofLe (sub d o 4)) hi lo
  let src := ofLe (sub d 0x0C 8)
  let xts := f 0 23 16 = 7
  let unit4 := (ofLe (sub d 8 4)).testBit 31
  let dlen := if xts then (ofLe (sub d 8 4) % 2 ^ 31) * (if unit4 then 4096 else 512) else ofLe (sub d 8 4)
  let aadLen := f 4 31 16
  let dram (o n : Nat) : Blob := (List.range n).map fun i => Config.dramByte s.clk.ticks (src + o + i)
  laneRequest (f 0 15 8)
    { tag := BitVec.ofNat 8 (f 0 7 0), mode := BitVec.ofNat 8 (f 0 23 16), ksel := BitVec.ofNat 8 (f 0 31 24)
      lane := BitVec.ofNat 4 (f 4 3 0), tlen := BitVec.ofNat 4 (f 4 11 8), aad := dram 0 aadLen, data := dram aadLen dlen
      unit4096 := unit4, dst := ofLe (sub d 0x14 8), iv := sub d 0x1C 16, tagv := sub d 0x2C 16 } s

/-! ### A write -/

/-- A write in a session, through every check of R410, with its effect. -/
def odWrite (slot : Nat) (x : Session) (idx sb : Nat) (v : OdValue) (s : State) : Written :=
  let s := dropSnapshot slot (odKey idx sb) s
  match checkedWrite s x idx sb v (entryOpen s idx sb (match v with | .num _ n => n | .tagged _ n => n | .bytes b => ofLe b))
      (fun n b => if valueBad s idx sb n b then .error abRange else .ok s) with
  | .error c =>
    if idx = 0x2010 ∧ sb = 3 ∧ s.lc.state = 0 ∧ onServicePort x then
      match v with | .bytes b => .later (transitionWrite slot b s) | _ => .abort c s
    else .abort c s
  | .ok _ =>
    match idx, sb, v with
    | 0x1020, 2, .bytes b => roleWrite slot x b s
    | 0x2010, 3, .bytes b => .later (transitionWrite slot b s)
    | 0x2202, 3, .bytes b => match offerPassword slot false b s with | (t, none) => .done t | (t, some c) => .abort c t
    | 0x2202, 4, .bytes b => match offerPassword slot true b s with | (t, none) => .done t | (t, some c) => .abort c t
    | 0x2310, 1, .bytes b =>
      if 1 ≤ ofLe (b.take 1) ∧ ofLe (b.take 1) ≤ 14 then .done (vaultRequestWrite b s) else .abort abRange s
    | 0x2330, 1, .bytes b =>
      let l := b.length - 3
      .later (enrolRequest slot (ofLe (sub b (l + 2) 1)) ((sub b l 1).headD 0) ((sub b (l + 1) 1).headD 0) (b.take l) s)
    | 0x2410, 1, .bytes b => .done (laneRequestWrite b s)
    | _, _, _ =>
      match checkedWrite s x idx sb v true (fun n b => entryEffect s slot x idx sb n b) with
      | .ok t => .done t
      | .error c => .abort c s

/-- The answer of a write to its session. [log 86 DEDUCED] -/
def answerWritten (slot : Nat) : Written → State
  | .done s => answerDone slot [] s
  | .abort c s => answerAbort slot c s
  | .later s => touchSession slot s

end Sys2Proof.Machine
end

