-- ==== Sys2Proof/Machine/Dict.lean ====
section
/-! DEFINITION. The transports of the object dictionary: sessions and roles, SDO, OD-over-UDP, UDS with DoIP and the window
(R407-R421, R434), and the downloads of the update manager (R464, R465). -/

namespace Sys2Proof.Machine

/-! ### Serving (R407, R420, R421) -/

/-- The keeper serves accesses: it runs, the Hive die is on, no entry has halted it. -/
def odServes (s : State) : Bool := s.kpr.running && !s.kpr.recovery && s.pwr.hive && !s.pwr.seqHalted

/-- A transport reaches the keeper through a port. -/
def transportOn (s : State) (t : Transport) (n : Nat) : Bool :=
  match t with
  | .sdo => canService s n
  | .udp => ethService s n
  | .uds => canService s n
  | .doip => ethService s n
  | .keeperFirmware => false

/-- A request reaches the keeper's server through a port of a transport: its line 2 (R256). -/
def odPending (t : Transport) (n : Nat) (s : State) : State := if odServes s && transportOn s t n then keeperLine 2 s else s

/-- The session of a channel: the slot of its transport on its endpoint. -/
def channelSlot (s : State) (t : Transport) (n : Nat) : Option Nat :=
  (List.range 15).find? fun i => match (s.sess.slots[i]?).join with
    | some x => x.transport == t && x.endpoint == n
    | none => false

/-- A session opens in the lowest free slot, as INSPECT. -/
def openSession15 (t : Transport) (n : Nat) (s : State) : Option (Nat × State) :=
  (openSlot s).map fun i => (i, putSession i (some { transport := t, endpoint := n, lastPs := nowPs s }) s)

/-- The eight bytes of an SDO answer. -/
def sdo8 (b : Blob) : Blob := subPad b 0 8
/-- The multiplexer of an entry. -/
def sdoMux (idx sb : Nat) : Blob := leBytes 2 idx ++ leBytes 1 sb

/-- An SDO answer. -/
def sdoSend (n : Nat) (b : Blob) (s : State) : State := emit (.sdo n (sdo8 b)) s
/-- An SDO abort. -/
def sdoAbortSend (n idx sb code : Nat) (s : State) : State := sdoSend n ([0x80] ++ sdoMux idx sb ++ leBytes 4 code) s

/-- REFUSED, in clear: an abort code (R415). -/
def udpRefused (n session code : Nat) (s : State) : State := emit (.udp n 6 session 0 (beBytes 4 code)) s

/-- A negative response of UDS. [log 101 DEDUCED] -/
def udsNegative (slot sid nrc : Nat) (s : State) : State := emit (.uds slot [0x7F, BitVec.ofNat 8 sid, BitVec.ofNat 8 nrc]) s

/-- The answer to an opening request that finds no slot (R407); 16 stands for no session. [log 101 DEDUCED] -/
def refuseOpen (t : Transport) (n : Nat) (s : State) : State :=
  match t with
  | .sdo => sdoAbortSend n 0 0 abFull s
  | .udp => udpRefused n 0 abFull s
  | .uds | .doip => udsNegative 16 0 0x21 s
  | .keeperFirmware => s

/-- A first request opens its channel's session; a UDP session and a UDS connection of an Ethernet port are one each. -/
def sessionOpen (t : Transport) (n : Nat) (s : State) : State :=
  if !odServes s || !transportOn s t n then s
  else if n < 10 ∧ (channelSlot s t n).isSome then s
  else match openSession15 t n s with
  | none => refuseOpen t n s
  | some (i, s) =>
    if t = .udp then
      modSession i (fun x => { x with udpId := s.sess.nextUdpId })
        { s with sess := { s.sess with nextUdpId := (s.sess.nextUdpId + 1) % 2 ^ 32 } }
    else s

/-- OD_SESSION_OPEN. -/
def execOdSessionOpen (transport : Transport) (endpoint : Fin 24) (s : State) : Res := conclude s (sessionOpen transport endpoint s)

/-- A session without a request for the time of 0x1033/03 closes (R407); slot 15 has no idle timeout. -/
def idleTimeout (slot : Nat) (s : State) : State :=
  match (s.sess.slots[slot]?).join with
  | some x =>
    if slot < 15 ∧ odServes s ∧ x.lastPs + setting s (odKey 0x1033 3) * secPs ≤ nowPs s then closeSession slot s else s
  | none => s

/-- OD_SESSION_IDLE_TIMEOUT. -/
def execOdSessionIdleTimeout (slot : Fin 16) (s : State) : Res := conclude s (idleTimeout slot s)

/-! ### Roles and plain accesses (R408, R410, R413) -/

/-- An access that a read makes, answered. -/
def readEntry (slot idx sb : Nat) (s : State) : State :=
  match sessionAt s slot with
  | none => s
  | some x =>
    match odRead slot x idx sb (dropSnapshot slot (odKey idx sb) s) with
    | .ok (b, s') => answerDone slot b s'
    | .error c => answerAbort slot c s

/-- ROLE_CHALLENGE_READ. -/
def execRoleChallengeRead (slot : Fin 16) (s : State) : Res := conclude s (readEntry slot 0x1020 1 s)

/-- A write of any entry, answered. -/
def writeAny (slot idx sb : Nat) (v : OdValue) (s : State) : State :=
  match sessionAt s slot with
  | none => s
  | some x => answerWritten slot (odWrite slot x idx sb v s)

/-- The write of a role request. [log 102 DEDUCED] -/
def roleRequest (slot : Nat) (role : Byte) (proof : Blob) (s : State) : State := writeAny slot 0x1020 2 (.bytes (role :: proof)) s

/-- ROLE_REQUEST. -/
def execRoleRequest (slot : Fin 16) (role : Byte) (proof : List Byte) (s : State) : Res := conclude s (roleRequest slot role proof s)

/-- The block of an endpoint ends after 10 minutes. -/
def roleBlockEnd (endpoint : Nat) (s : State) : State :=
  { s with sess := { s.sess with fails := vmod s.sess.fails endpoint fun f =>
    { f with blocked := f.blocked && decide (nowPs s < f.blockedPs + 600 * secPs) } } }

/-- ROLE_BLOCK_END. -/
def execRoleBlockEnd (endpoint : Fin 33) (s : State) : Res := conclude s (roleBlockEnd endpoint s)

/-- OBJECT_WRITE. -/
def execObjectWrite (slot : Fin 16) (index : BitVec 16) (sub : Byte) (v : OdValue) (s : State) : Res :=
  conclude s (writeAny slot index.toNat sub.toNat v s)

/-- RESTORE_DEFAULTS. -/
def execRestoreDefaults (slot : Fin 16) (v : Nat) (s : State) : Res := conclude s (writeAny slot 0x1011 1 (numFor 0x1011 1 v) s)

/-! ### SDO (R414) -/

/-- The transfer of a channel. -/
def sdoAt (s : State) (n : Nat) : SdoTransfer := (s.sess.sdo[n]?).getD .none
/-- The transfer of a channel replaced. -/
def setSdo (n : Nat) (t : SdoTransfer) (s : State) : State :=
  { s with sess := { s.sess with sdo := vmod s.sess.sdo n fun _ => t, sdoPs := vmod s.sess.sdoPs n fun _ => nowPs s } }

/-- The entry of a transfer. -/
def SdoTransfer.entry : SdoTransfer → Option (Nat × Nat)
  | .none => Option.none
  | .download i b _ _ _ => Option.some (i, b)
  | .upload i b _ _ => Option.some (i, b)

/-- A transfer ends with an abort code. [log 98 DEDUCED] -/
def sdoFail (n code : Nat) (s : State) : State :=
  match (sdoAt s n).entry with
  | none => sdoAbortSend n 0 0 code s
  | some (i, b) => sdoAbortSend n i b code (setSdo n .none s)

/-- The transfer a new request finds on its channel is aborted. -/
def sdoFresh (n : Nat) (s : State) : State := if (sdoAt s n).entry.isSome then sdoFail n 0x05040001 s else s

/-- The session of a request on a channel; a first request opens it. -/
def sdoBegin (n : Nat) (s : State) : Option (Nat × Session × State) :=
  match channelSlot s .sdo n with
  | some i => ((s.sess.slots[i]?).join).map fun x => (i, x, touchSession i s)
  | none => (openSession15 .sdo n s).map fun (i, s) => (i, { transport := .sdo, endpoint := n, lastPs := nowPs s }, s)

/-- A request of a channel served, or refused for want of a slot. -/
def sdoServe (n : Nat) (f : Nat → Session → State → State) (s : State) : State :=
  if !odServes s || !canService s n then s
  else
    let s := sdoFresh n s
    match sdoBegin n s with
    | some (i, x, s') => f i x s'
    | none => refuseOpen .sdo n s

/-- The write of a download, with the answer that ends it. [log 98 DEDUCED] -/
def sdoWrite (n slot : Nat) (x : Session) (idx sb : Nat) (d good : Blob) (s : State) : State :=
  match odWrite slot x idx sb (.bytes d) s with
  | .done t => sdoSend n good t
  | .abort c t => sdoAbortSend n idx sb c t
  | .later t => t

/-- A download is initiated: an expedited one is written at once. [log 98 DEDUCED] -/
def sdoInitDownload (n idx sb : Nat) (expedited : Bool) (size : Nat) (d : Blob) (s : State) : State :=
  sdoServe n (fun slot x s =>
    if expedited then sdoWrite n slot x idx sb (d.take 4) ([0x60] ++ sdoMux idx sb) s
    else sdoSend n ([0x60] ++ sdoMux idx sb) (setSdo n (.download idx sb size [] false) s)) s

/-- SDO_INITIATE_DOWNLOAD. -/
def execSdoInitiateDownload (port : Fin 24) (index : BitVec 16) (sub : Byte) (expedited : Bool) (size : Nat)
    (data : List Byte) (s : State) : Res :=
  conclude s (sdoInitDownload port index.toNat sub.toNat expedited size data (odPending .sdo port s))

/-- The slot and session of a channel with a transfer. -/
def sdoSession (s : State) (n : Nat) : Option (Nat × Session) :=
  (channelSlot s .sdo n).bind fun i => ((s.sess.slots[i]?).join).map fun x => (i, x)

/-- A download segment: up to seven bytes; the last one writes the entry. [log 98 DEDUCED] -/
def sdoDownSegment (n : Nat) (toggle last : Bool) (d : Blob) (s : State) : State :=
  if !odServes s || !canService s n then s
  else match sdoAt s n, sdoSession s n with
  | .download idx sb size got t, some (slot, x) =>
    let s := touchSession slot s
    if toggle ≠ t then sdoFail n 0x05030000 s
    else
      let got := got ++ d.take 7
      let ack : Blob := [BitVec.ofNat 8 (0x20 + toggle.toNat * 16)]
      if !last then sdoSend n ack (setSdo n (.download idx sb size got (!t)) s)
      else if size ≠ 0 ∧ got.length ≠ size then sdoFail n abType s
      else sdoWrite n slot x idx sb got ack (setSdo n .none s)
  | _, _ => sdoFail n 0x05040001 s

/-- SDO_DOWNLOAD_SEGMENT. -/
def execSdoDownloadSegment (port : Fin 24) (toggle last : Bool) (data : List Byte) (s : State) : Res :=
  conclude s (sdoDownSegment port toggle last data (odPending .sdo port s))

/-- An upload is initiated: the entry's snapshot is taken (R434); up to four bytes are sent at once. -/
def sdoInitUpload (n idx sb : Nat) (s : State) : State :=
  sdoServe n (fun slot x s =>
    match odRead slot x idx sb (dropSnapshot slot (odKey idx sb) s) with
    | .error c => sdoAbortSend n idx sb c s
    | .ok (b, s) =>
      if 1 ≤ b.length ∧ b.length ≤ 4 then sdoSend n ([BitVec.ofNat 8 (0x43 + (4 - b.length) * 4)] ++ sdoMux idx sb ++ b) s
      else sdoSend n ([0x41] ++ sdoMux idx sb ++ leBytes 4 b.length) (setSdo n (.upload idx sb b false) s)) s

/-- SDO_INITIATE_UPLOAD. -/
def execSdoInitiateUpload (port : Fin 24) (index : BitVec 16) (sub : Byte) (s : State) : Res :=
  conclude s (sdoInitUpload port index.toNat sub.toNat (odPending .sdo port s))

/-- An upload segment: seven bytes, fewer in the last. [log 98 DEDUCED] -/
def sdoUpSegment (n : Nat) (toggle : Bool) (s : State) : State :=
  if !odServes s || !canService s n then s
  else match sdoAt s n, sdoSession s n with
  | .upload idx sb left t, some (slot, _) =>
    let s := touchSession slot s
    if toggle ≠ t then sdoFail n 0x05030000 s
    else
      let k := min left.length 7
      let last := left.length ≤ 7
      sdoSend n ([BitVec.ofNat 8 (toggle.toNat * 16 + (7 - k) * 2 + (if last then 1 else 0))] ++ left.take 7)
        (setSdo n (if last then .none else .upload idx sb (left.drop 7) (!t)) s)
  | _, _ => sdoFail n 0x05040001 s

/-- SDO_UPLOAD_SEGMENT. -/
def execSdoUploadSegment (port : Fin 24) (toggle : Bool) (s : State) : Res := conclude s (sdoUpSegment port toggle (odPending .sdo port s))

/-- The segments of a block download bear the sequence numbers 1 to 127 of their blocks. -/
def blockSeqGood (segs : List (Nat × Blob)) : Bool := segs.zipIdx.all fun (g, i) => g.1 == i % 127 + 1

/-- A block download: blocks of up to 127 segments of seven bytes, each block acknowledged, then the CRC over the data, whose
last segment has `unused` bytes of no meaning, and the write. [log 98 DEDUCED] -/
def sdoBlockDown (n idx sb : Nat) (segs : List (Nat × Blob)) (unused crc : Nat) (s : State) : State :=
  sdoServe n (fun slot x s =>
    let s := sdoSend n ([0xA4] ++ sdoMux idx sb ++ [127]) s
    if !blockSeqGood segs then sdoAbortSend n idx sb 0x05040003 s
    else
      let d := segs.flatMap fun g => subPad g.2 0 7
      let s := (chunks 889 d).foldl (fun s b => sdoSend n [0xA2, BitVec.ofNat 8 (ceilDiv b.length 7), 127] s) s
      let d := d.take (d.length - unused)
      if crc16 0 d ≠ crc then sdoAbortSend n idx sb 0x05040004 s
      else sdoWrite n slot x idx sb d [0xA1] s) s

/-- SDO_BLOCK_DOWNLOAD. -/
def execSdoBlockDownload (port : Fin 24) (index : BitVec 16) (sub : Byte) (segs : List (Nat × List Byte)) (unused : Fin 7)
    (crc : BitVec 16) (s : State) : Res :=
  conclude s (sdoBlockDown port index.toNat sub.toNat segs unused crc.toNat (odPending .sdo port s))

/-- A block upload, with block sizes of 1 to 127 and the CRC. [log 98 DEDUCED] -/
def sdoBlockUp (n idx sb bs : Nat) (s : State) : State :=
  sdoServe n (fun slot x s =>
    if bs = 0 ∨ 127 < bs then sdoAbortSend n idx sb 0x05040002 s
    else match odRead slot x idx sb (dropSnapshot slot (odKey idx sb) s) with
    | .error c => sdoAbortSend n idx sb c s
    | .ok (b, s) =>
      let s := sdoSend n ([0xC6] ++ sdoMux idx sb ++ leBytes 4 b.length) s
      let segs := chunks 7 b
      let s := segs.zipIdx.foldl (fun s (d, i) =>
        sdoSend n ([BitVec.ofNat 8 (i % bs + 1 + (if i + 1 = segs.length then 128 else 0))] ++ d) s) s
      sdoSend n ([BitVec.ofNat 8 (0xC1 + (7 * segs.length - b.length) * 4)] ++ leBytes 2 (crc16 0 b)) s) s

/-- SDO_BLOCK_UPLOAD. -/
def execSdoBlockUpload (port : Fin 24) (index : BitVec 16) (sub : Byte) (blockSize : Nat) (s : State) : Res :=
  conclude s (sdoBlockUp port index.toNat sub.toNat blockSize (odPending .sdo port s))

/-- The client aborts the transfer of a channel. -/
def sdoAborted (n : Nat) (s : State) : State := if odServes s && canService s n then setSdo n .none s else s

/-- SDO_ABORT. -/
def execSdoAbort (port : Fin 24) (_code : Word) (s : State) : Res := conclude s (sdoAborted port s)

/-- The gap of 0x1032/01 has passed between two frames of a transfer. -/
def sdoTimeout (n : Nat) (s : State) : State :=
  if odServes s && canService s n && (sdoAt s n).entry.isSome &&
      decide ((s.sess.sdoPs[n]?).getD 0 + setting s (odKey 0x1032 1) * msPs < nowPs s) then sdoFail n 0x05040000 s else s

/-- SDO_SEGMENT_TIMEOUT. -/
def execSdoSegmentTimeout (port : Fin 24) (s : State) : Res := conclude s (sdoTimeout port s)

/-! ### Requests of OD-over-UDP, of the UDS routine and of the window (R416, R418, R434) -/

/-- Bytes of an entry in the order of a big-endian payload: a scalar's are reversed (R412). -/
def wireOrder (idx sb : Nat) (b : Blob) : Blob := if ((entryRow idx sb).bind (·.ty.bytes)).isSome then b.reverse else b

/-- A read request: status, full length, data. -/
def requestRead (slot : Nat) (x : Session) (idx sb off len : Nat) (s : State) : Nat × Nat × Blob × State :=
  let res : Except Nat (Blob × Nat × State) :=
    if ((entryRow idx sb).bind (·.ty.bytes)).isSome then
      (odRead slot x idx sb (dropSnapshot slot (odKey idx sb) s)).map fun (b, s) => (sub b.reverse off len, b.length, s)
    else readPart slot x idx sb off len s
  match res with
  | .ok (b, total, s') => (0, total, b, s')
  | .error c => (c, 0, [], s)

/-- A write request: a string of a stated length, or one that does not end with a part shorter than `most`, is gathered
over successive requests at rising offsets and written as one whole. -/
def requestWrite (slot : Nat) (x : Session) (idx sb off most : Nat) (d : Blob) (s : State) : Written :=
  let whole (b : Blob) : Written :=
    odWrite slot x idx sb (.bytes (wireOrder idx sb b)) (modSession slot (fun y => { y with partialWrite := none }) s)
  match entryRow idx sb with
  | none => whole d
  | some r =>
    if r.ty.bytes.isSome then whole d
    else
      let got : Option Blob := if off = 0 then some [] else match x.partialWrite with
        | some (i, k, g) => if i = idx ∧ k = sb ∧ g.length = off then some g else none
        | none => none
      match got with
      | none => .abort abRange (modSession slot (fun y => { y with partialWrite := none }) s)
      | some g =>
        let g := g ++ d
        let ended : Bool := match r.len with | some l => decide (l ≤ g.length) | none => decide (d.length < most)
        if ended then whole g
        else match allow s x true idx sb with
        | .error c => .abort c s
        | .ok _ => .done (modSession slot (fun y => { y with partialWrite := some (idx, sb, g) }) s)

/-- A write's status and state. A write answered later answers done here, and its outcome in the session. -/
def Written.status : Written → Nat × State
  | .done s => (0, s)
  | .abort c s => (c, s)
  | .later s => (0, s)

/-- A RESPONSE payload (R416). [log 99 DESIGN CHOICE] -/
def responseBytes (status total : Nat) (d : Blob) : Blob := beBytes 4 status ++ beBytes 4 total ++ d

/-! ### OD-over-UDP (R415, R416) -/

/-- The header of a message. -/
def udpHeader (type session seq len : Nat) : Blob :=
  [0x4F, 0x44, 0x01, BitVec.ofNat 8 type] ++ beBytes 4 session ++ beBytes 4 seq ++ beBytes 2 len ++ [0, 0]

/-- A payload as the device sends it: AES-128-GCM under the session key, then the tag. [log 99 DESIGN CHOICE] -/
def udpSeal (key : Blob) (type session seq : Nat) (p : Blob) : Blob :=
  let (c, t) := gcmEnc key (beBytes 4 session ++ beBytes 4 1 ++ beBytes 4 seq) (udpHeader type session seq p.length) p
  c ++ t

/-- The tag of a client's message with this payload under the session key. -/
def udpTag (key : Blob) (type session seq : Nat) (p : Blob) : Blob :=
  (gcmEnc key (beBytes 4 session ++ beBytes 4 0 ++ beBytes 4 seq) (udpHeader type session seq p.length) p).2

/-- The payload of a REQUEST (R416). -/
def requestBytes (op idx sb off len : Nat) (d : Blob) : Blob :=
  leBytes 1 op ++ leBytes 1 sb ++ beBytes 2 idx ++ beBytes 4 off ++ beBytes 4 len ++ d

/-- OPEN: the key is imported, a session opens, OPENED carries its first challenge. [log 99 DESIGN CHOICE] -/
def udpOpen (n : Nat) (p : Blob) (s : State) : State :=
  if !odServes s || !ethService s n then s
  else if s.vault.kd.isNone then udpRefused n 0 abState s
  else
    let (st, b, s) := importReq (p.take 65) (sub p 65 32) (p.drop 97) s
    match (if st = 0 ∧ p.length = 137 then openBlob s b else .error 1) with
    | .error _ => udpRefused n 0 abProof s
    | .ok k =>
      if k.key.length ≠ 16 ∨ ¬ k.usage.getLsbD 0 ∨ ¬ k.usage.getLsbD 1 ∨ ¬ k.owner.getLsbD 0 then udpRefused n 0 abProof s
      else match openSession15 .udp n s with
      | none => udpRefused n 0 abFull s
      | some (i, s) =>
        let id := s.sess.nextUdpId
        let (c, s) := newChallenge i { s with sess := { s.sess with nextUdpId := (id + 1) % 2 ^ 32 } }
        emit (.udp n 2 id 0 (udpSeal k.key 2 id 0 c)) (modSession i (fun x => { x with udpId := id, udpKey := k.key }) s)

/-- UDP_OPEN. -/
def execUdpOpen (port : Fin 24) (payload : List Byte) (s : State) : Res := conclude s (udpOpen port payload (odPending .udp port s))

/-- The session a message names, on its port. -/
def udpSlot (s : State) (n id : Nat) : Option (Nat × Session) :=
  (List.range 15).findSome? fun i => match (s.sess.slots[i]?).join with
    | some x => if x.transport == .udp && x.endpoint == n && x.udpId == id then some (i, x) else none
    | none => none

/-- A message of a session served, of which payload and tag are given: an unknown session is refused, a tag that is not the
message's under the session key counted. [log 99 DESIGN CHOICE] -/
def udpServe (n type id q : Nat) (p tag : Blob) (f : Nat → Session → State → State) (s : State) : State :=
  if !odServes s || !ethService s n then s
  else match udpSlot s n id with
  | none => udpRefused n id abState s
  | some (i, x) => if tag ≠ udpTag x.udpKey type id q p then count (odKey 0x1033 4) s else f i x (touchSession i s)

/-- A REQUEST by its SEQ: a repeated one gets the stored RESPONSE, a lower one is discarded. After SEQ 0xFFFFFFFF the
device sends CLOSE and ends the session. -/
def udpRequest (n id q : Nat) (run : Nat → Session → State → Blob × State) (i : Nat) (x : Session) (s : State) : State :=
  if q < x.lastSeq then s
  else if q = x.lastSeq then (match x.response with | some r => emit (.udp n 4 id q r) s | none => s)
  else
    let (p, s) := run i x s
    let r := udpSeal x.udpKey 4 id q p
    let s := emit (.udp n 4 id q r) (modSession i (fun y => { y with lastSeq := q, response := some r }) s)
    if q = 0xFFFFFFFF then
      let (cs, s) := free (2 ^ 32) s
      closeSession i (emit (.udp n 5 id cs (udpSeal x.udpKey 5 id cs [])) s)
    else s

/-- A REQUEST that reads: at most 1,392 bytes. [log 99 DESIGN CHOICE] -/
def udpRead (n id q : Nat) (tag : Blob) (idx sb off len : Nat) (s : State) : State :=
  udpServe n 3 id q (requestBytes 1 idx sb off len []) tag (udpRequest n id q fun i x s =>
    if 1392 < len then (responseBytes abRange 0 [], s)
    else
      let (st, total, d, s) := requestRead i x idx sb off len s
      (responseBytes st total d, s)) s

/-- UDP_READ. -/
def execUdpRead (port : Fin 24) (sessionId : Word) (seqNo : Word) (index : BitVec 16) (sub : Byte)
    (offset length : Word) (tag : List Byte) (s : State) : Res :=
  conclude s (udpRead port sessionId.toNat seqNo.toNat tag index.toNat sub.toNat offset.toNat length.toNat (odPending .udp port s))

/-- Full length of an entry as a RESPONSE to a write reports it: the stated length, or that of the bytes written. -/
def totalOf (idx sb off : Nat) (d : Blob) : Nat :=
  match entryRow idx sb with
  | some r => (r.ty.bytes.orElse fun _ => r.len).getD (off + d.length)
  | none => 0

/-- A REQUEST that writes: at most 1,388 bytes. [log 99 DESIGN CHOICE] -/
def udpWrite (n id q : Nat) (tag : Blob) (idx sb off : Nat) (d : Blob) (s : State) : State :=
  udpServe n 3 id q (requestBytes 2 idx sb off d.length d) tag (udpRequest n id q fun i x s =>
    if 1388 < d.length then (responseBytes abRange 0 [], s)
    else
      let (st, s) := (requestWrite i x idx sb off 1388 d s).status
      (responseBytes st (totalOf idx sb off d) [], s)) s

/-- UDP_WRITE. -/
def execUdpWrite (port : Fin 24) (sessionId : Word) (seqNo : Word) (index : BitVec 16) (sub : Byte)
    (offset : Word) (data tag : List Byte) (s : State) : Res :=
  conclude s (udpWrite port sessionId.toNat seqNo.toNat tag index.toNat sub.toNat offset.toNat data (odPending .udp port s))

/-- CLOSE from the client. [log 99 DESIGN CHOICE] -/
def udpClose (n id q : Nat) (tag : Blob) (s : State) : State := udpServe n 5 id q [] tag (fun i _ s => closeSession i s) s

/-- UDP_CLOSE. -/
def execUdpClose (port : Fin 24) (sessionId : Word) (seqNo : Word) (tag : List Byte) (s : State) : Res :=
  conclude s (udpClose port sessionId.toNat seqNo.toNat tag (odPending .udp port s))

/-! ### UDS (R417, R463) -/

/-- A UDS request in a session: `sid` is served where the diagnostic session admits it, else answered with 0x11. [log 101 DEDUCED] -/
def udsServe (slot sid : Nat) (f : Session → State → State) (s : State) : State :=
  match sessionAt s slot with
  | none => s
  | some x =>
    if x.transport ≠ .uds ∧ x.transport ≠ .doip then s
    else if x.diag = 2 ∧ sid = 0x22 then udsNegative slot sid 0x11 (touchSession slot s)
    else f x (touchSession slot s)

/-- The diagnostic session changes; a download that was open is abandoned with the programming session (R464). -/
def setDiag (slot kind : Nat) (s : State) : State :=
  let s := { s with sess := { s.sess with download := if kind = 2 then s.sess.download else s.sess.download.filter (·.1 ≠ slot) } }
  emit (.uds slot ([0x50, BitVec.ofNat 8 kind] ++ bytesOf 4 Config.udsTiming)) (modSession slot (fun y => { y with diag := kind }) s)

/-- The recovery loader answers on CAN0 without a session of the dictionary (R463): slot 0 stands for its connection. [log 103 DEDUCED] -/
def loaderOn (s : State) : Bool := s.kpr.recovery && s.pwr.hive

/-- DiagnosticSessionControl. [log 101 DEDUCED] -/
def diagnosticSession (slot kind : Nat) (s : State) : State :=
  if loaderOn s then
    if kind = 2 then setDiag 0 2 (putSession 0 (some { transport := .uds, endpoint := 0, diag := 2 }) s) else udsNegative 0 0x10 0x12 s
  else udsServe slot 0x10 (fun x s =>
    if kind = 1 ∨ kind = 3 then setDiag slot kind s
    else if kind ≠ 2 then udsNegative slot 0x10 0x12 s
    else if x.role = .maker then setDiag slot 2 s
    else udsNegative slot 0x10 0x33 s) s

/-- DIAGNOSTIC_SESSION_CONTROL. -/
def execDiagnosticSessionControl (slot : Fin 16) (kind : Byte) (s : State) : Res := conclude s (diagnosticSession slot kind.toNat s)

/-- The recovery loader restarts the boot ROM's choice (R462, R463): the boot goes on from the keeper's step. [log 103 DEDUCED] -/
def loaderRestart (s : State) : State :=
  bootAdvance { s with kpr := { s.kpr with recovery := false }, pwr := { s.pwr with boot := some (true, 5), dev := .boot } }

/-- ECUReset: answered, then a reset of the keeper alone, with cause 4 where a keeper is staged (R465). -/
def ecuReset (slot kind : Nat) (s : State) : State :=
  if loaderOn s then
    if kind = 1 then loaderRestart (putSession 0 none (emit (.uds 0 [0x51, 0x01]) { s with sess := { s.sess with download := none } }))
    else udsNegative 0 0x11 0x12 s
  else udsServe slot 0x11 (fun _ s =>
    if kind = 1 then keeperReset (if s.kpr.staged.isSome then 4 else 0) (emit (.uds slot [0x51, 0x01]) s)
    else udsNegative slot 0x11 0x12 s) s

/-- ECU_RESET. -/
def execEcuReset (slot : Fin 16) (kind : Byte) (s : State) : Res := conclude s (ecuReset slot kind.toNat s)

/-- TesterPresent: the idle time begins anew, as with every request. -/
def testerHere (slot sb : Nat) (s : State) : State :=
  udsServe slot 0x3E (fun _ s =>
    if sb = 0 then emit (.uds slot [0x7E, 0x00]) s else if sb = 0x80 then s else udsNegative slot 0x3E 0x12 s) s

/-- TESTER_PRESENT. -/
def execTesterPresent (slot : Fin 16) (sub : Byte) (s : State) : Res := conclude s (testerHere slot sub.toNat s)

/-- ReadDataByIdentifier: UID, part code, keeper build. [log 101 DEDUCED] -/
def readByIdentifier (slot did : Nat) (s : State) : State :=
  udsServe slot 0x22 (fun _ s =>
    let data : Option Blob :=
      if did = 0xF18C then some fuseUid
      else if did = 0xF187 then some (beBytes 2 (if isSmall s then 0x2412 else 0x2424))
      else if did = 0xF195 then some (beBytes 4 s.kpr.build)
      else none
    match data with
    | some d => emit (.uds slot ([0x62] ++ beBytes 2 did ++ d)) s
    | none => udsNegative slot 0x22 0x31 s) s

/-- READ_DATA_BY_IDENTIFIER. -/
def execReadDataByIdentifier (slot : Fin 16) (did : BitVec 16) (s : State) : Res := conclude s (readByIdentifier slot did.toNat s)

/-- Routine 0xFD00: a request of R416 within the extended session, and in the programming session, which serves 0x31
(R464); the result is its RESPONSE payload. [log 101 DEDUCED] -/
def routine (slot rid op idx sb off len : Nat) (d : Blob) (s : State) : State :=
  udsServe slot 0x31 (fun x s =>
    if x.diag = 1 then udsNegative slot 0x31 0x33 s
    else if rid ≠ 0xFD00 then udsNegative slot 0x31 0x31 s
    else
      let reply (p : Blob) (s : State) : State := emit (.uds slot ([0x71, 0x01, 0xFD, 0x00] ++ p)) s
      if op = 1 then
        let (st, total, b, s) := requestRead slot x idx sb off len s
        reply (responseBytes st total b) s
      else if op = 2 then
        let (st, s) := (requestWrite slot x idx sb off 1388 d s).status
        reply (responseBytes st (totalOf idx sb off d) []) s
      else udsNegative slot 0x31 0x31 s) s

/-- ROUTINE_CONTROL. -/
def execRoutineControl (slot : Fin 16) (routine : BitVec 16) (op : Byte) (index : BitVec 16) (sub : Byte)
    (offset length : Nat) (data : List Byte) (s : State) : Res :=
  conclude s (Sys2Proof.Machine.routine slot routine.toNat op.toNat index.toNat sub.toNat offset length data s)

/-! ### Downloads (R464, R465) -/

/-- The slot of the boot flash a download goes to: the one not last started. -/
def spareSlot (s : State) : Nat := 1 - s.kpr.lastStarted

/-- The Comb set entry an address names. -/
def combAddress (a : Nat) : Option Nat := if 0x43000000 ≤ a ∧ a ≤ 0x43000003 then some (a - 0x43000000) else none

/-- A Comb set entry holds the active or the standby Comb. -/
def entryInUse (s : State) (e : Nat) : Bool :=
  match setEntry s e with
  | some x => (s.comb.active.isSome && x.image == s.comb.activeImage) || (s.comb.state != .empty && x.image == s.comb.image)
  | none => false

/-- The refusal of a RequestDownload. -/
def downloadRefusal (s : State) (format addrLen address length : Nat) : Option Nat :=
  let keeper := address = 0x4B000000
  let comb := combAddress address
  if format ≠ 0 ∨ addrLen ≠ 0x44 then some 0x31
  else if ¬ keeper ∧ (comb.isNone ∨ s.kpr.recovery) then some 0x31
  else if keeper ∧ 2 ^ 21 + 4096 < length then some 0x31
  else if ¬ keeper ∧ 10590617 + 3425 < length then some 0x31
  else if ¬ keeper ∧ entryInUse s (comb.getD 0) then some 0x22
  else if s.sess.download.isSome then some 0x22
  else none

/-- What stands at the target of a download is no longer valid once it begins. -/
def eraseTarget (address : Nat) (s : State) : State :=
  match combAddress address with
  | some e => modComb (fun m => { m with set := vmod m.set e fun _ => none }) s
  | none =>
    let s := setKeeperSlot (spareSlot s) none s
    { s with kpr := { s.kpr with staged := none } }

/-- A UDS request of the downloads: in the programming session, or to the recovery loader. -/
def programming (slot sid : Nat) (f : Nat → State → State) (s : State) : State :=
  if loaderOn s then
    if ((s.sess.slots[0]?).join).isSome then f 0 s else udsNegative 0 sid 0x22 s
  else udsServe slot sid (fun x s => if x.diag = 2 then f slot s else udsNegative slot sid 0x22 s) s

/-- RequestDownload. [log 101 DEDUCED] -/
def downloadOpen (slot format addrLen address length : Nat) (s : State) : State :=
  programming slot 0x34 (fun i s =>
    match downloadRefusal s format addrLen address length with
    | some c => udsNegative i 0x34 c s
    | none =>
      let s := eraseTarget address s
      emit (.uds i [0x74, 0x20, 0x04, 0x02])
        { s with sess := { s.sess with download := some (i, { address := address, length := length, got := [], counter := 0 }) } }) s

/-- REQUEST_DOWNLOAD. -/
def execRequestDownload (slot : Fin 16) (format addrLen : Byte) (address length : Nat) (s : State) : Res :=
  conclude s (downloadOpen slot format.toNat addrLen.toNat address length s)

/-- The open download of a slot. -/
def downloadOf (s : State) (i : Nat) : Option Download := match s.sess.download with | some (k, d) => if k = i then some d else none | none => none

/-- TransferData: blocks in the order of their counter, a repeated one acknowledged again. [log 101 DEDUCED] -/
def downloadData (slot counter : Nat) (d : Blob) (s : State) : State :=
  programming slot 0x36 (fun i s =>
    match downloadOf s i with
    | none => udsNegative i 0x36 0x24 s
    | some x =>
      if 0x400 < d.length then udsNegative i 0x36 0x13 s
      else if counter = x.counter ∧ x.got ≠ [] then emit (.uds i [0x76, BitVec.ofNat 8 counter]) s
      else if counter ≠ (x.counter + 1) % 256 then udsNegative i 0x36 0x73 s
      else if x.length < x.got.length + d.length then udsNegative i 0x36 0x71 s
      else emit (.uds i [0x76, BitVec.ofNat 8 counter])
        { s with sess := { s.sess with download := some (i, { x with got := x.got ++ d, counter := counter }) } }) s

/-- TRANSFER_DATA. -/
def execTransferData (slot : Fin 16) (counter : Byte) (data : List Byte) (s : State) : Res := conclude s (downloadData slot counter.toNat data s)

/-- A keeper image agrees with a Comb: ABI, BUILD (R53) and the Comb's FORMAT. [log 67 DEDUCED] -/
def keeperAgrees (b : Blob) (c : Comb) : Bool :=
  let f := hdrField c.hdr 4 15 0
  c.keeperAbi == kimgAbi b % 2 ^ 16 && c.buildMin ≤ kimgBuild b && kimgBuild b ≤ c.buildMax && kimgFmtMin b ≤ f && f ≤ kimgFmtMax b

/-- The Combs a new keeper image may agree with: the active one, and those of the set whose images verify. [log 67 DEDUCED] -/
def combsToMatch (s : State) : List Comb :=
  s.comb.active.toList ++ (List.range 4).filterMap fun e =>
    match setEntry s e with
    | some x => if (imageFault x.image).isNone && signaturesGood s x.image then some (parseComb x.image) else none
    | none => none

/-- A keeper image that passes its checks stands in its slot, with the next install number, and is the staged keeper. [log 67 DEDUCED] -/
def stageKeeper (b : Blob) (s : State) : State :=
  let i := spareSlot s
  let top := max (((keeperSlot s 0).map (·.install)).getD 0) (((keeperSlot s 1).map (·.install)).getD 0)
  let s := setKeeperSlot i (some { image := some b, install := top + 1 }) s
  if s.kpr.recovery then s else { s with kpr := { s.kpr with staged := some (i, kimgHash b) } }

/-- TransferExit: none where a check fails. -/
def installImage (address : Nat) (b : Blob) (s : State) : Option State :=
  match combAddress address with
  | none => if keeperFits s b && (combsToMatch s).any (keeperAgrees b) then some (stageKeeper b s) else none
  | some e =>
    if (imageFault b).isNone && signaturesGood s b && val s (odKey 0x3904 1) ≤ (parseComb b).generation then
      some (modComb (fun m => { m with set := vmod m.set e fun _ => some { image := b } }) s)
    else none

/-- RequestTransferExit. [log 101 DEDUCED] -/
def downloadExit (slot : Nat) (s : State) : State :=
  programming slot 0x37 (fun i s =>
    match downloadOf s i with
    | none => udsNegative i 0x37 0x24 s
    | some x =>
      if x.got.length ≠ x.length then udsNegative i 0x37 0x24 s
      else
        let s := { s with sess := { s.sess with download := none } }
        match installImage x.address x.got s with
        | some t => emit (.uds i [0x77]) t
        | none => udsNegative i 0x37 0x72 s) s

/-- REQUEST_TRANSFER_EXIT. -/
def execRequestTransferExit (slot : Fin 16) (s : State) : Res := conclude s (downloadExit slot s)

/-! ### DoIP (R407, R417, R420) -/

/-- DOIP_ROUTING_ACTIVATION: a UDS session of the port. -/
def execDoipRoutingActivation (port : Fin 24) (s : State) : Res := conclude s (sessionOpen .doip port s)

/-- A TCP disconnect closes the connection's session. -/
def doipGone (slot : Nat) (s : State) : State :=
  match sessionAt s slot with
  | some x => if x.transport = .doip then emit (.doipClosed slot) (closeSession slot s) else s
  | none => s

/-- DOIP_DISCONNECT. -/
def execDoipDisconnect (slot : Fin 16) (s : State) : Res := conclude s (doipGone slot s)

/-! ### The window (R418) -/

/-- The window's registers changed. [log 100 DESIGN CHOICE] -/
def modWindow (f : OdWindow → OdWindow) (s : State) : State := { s with sess := { s.sess with window := f s.sess.window } }

/-- Words of the window the hardware writes for a request: STATUS and TOTAL, and for a read VALUE or DATA. A reservation of the
keeper on one of them is lost (R232, R418). -/
def windowWritten (read : Bool) (s : State) : State :=
  loseReservation .keeper (fun a =>
    a == 0x01000004 || a == 0x01000005 || (read && (a == 0x01000010 || a == 0x01000011 || (0x01000100 ≤ a && a < 0x01100000)))) s

/-- CMD of a request: 1 reads, 2 writes. -/
def cmdWord (op idx sb : Nat) : Nat := op * 2 ^ 24 + sb % 256 * 2 ^ 16 + idx % 2 ^ 16

/-- A request that firmware's store to CMD began is still busy, and it is another one than this. [log 100 DESIGN CHOICE] -/
def windowBusy (op idx sb : Nat) (s : State) : Bool :=
  s.sess.window.status == 0xFFFFFFFF && s.sess.window.cmd ≠ cmdWord op idx sb

/-- A write to CMD while STATUS reads busy is ignored and logged. [log 100 DESIGN CHOICE] -/
def windowIgnored (op idx sb : Nat) (s : State) : State := logEvent 0 clsRefusal 0 0 (leBytes 4 (cmdWord op idx sb)) s

/-- A read through the window, in the session of SLOT. A scalar stands in VALUE under its type's tag; an entry that is
absent leaves VALUE VOID. [log 97 DEDUCED; log 100 DESIGN CHOICE] -/
def windowRead (idx sb : Nat) (s : State) : State :=
  if !s.kpr.running then s
  else if windowBusy 1 idx sb s then windowIgnored 1 idx sb s
  else
    let s := windowWritten true (modWindow (fun w => { w with cmd := cmdWord 1 idx sb }) s)
    let w := s.sess.window
    match sessionAt s w.slot with
    | none => modWindow (fun w => { w with status := abState, value := none }) s
    | some x =>
      match (entryRow idx sb).bind (·.ty.bytes) with
      | some n =>
        match odRead w.slot x idx sb (dropSnapshot w.slot (odKey idx sb) s) with
        | .error c => modWindow (fun w => { w with status := c, value := none }) s
        | .ok (b, s) =>
          let t := ((entryRow idx sb).map (·.ty.tag.toNat)).getD 0
          modWindow (fun w => { w with
            status := 0, total := n, value := some (t, ofLe (b.take 4)), valueHi := ofLe (b.drop 4) }) s
      | none =>
        match readPart w.slot x idx sb w.offset (min w.length 4193280) s with
        | .error c => modWindow (fun w => { w with status := c, value := none }) s
        | .ok (b, total, s) => modWindow (fun w => { w with status := 0, total := total, data := b }) s

/-- OD_WINDOW_READ. -/
def execOdWindowRead (index : BitVec 16) (sub : Byte) (s : State) : Res := conclude s (windowRead index.toNat sub.toNat s)

/-- A write through the window: VALUE for a scalar, with its tag; OFFSET, LENGTH and DATA for a string. [log 100 DESIGN CHOICE] -/
def windowWrite (idx sb : Nat) (s : State) : State :=
  if !s.kpr.running then s
  else if windowBusy 2 idx sb s then windowIgnored 2 idx sb s
  else
    let s := windowWritten false (modWindow (fun w => { w with cmd := cmdWord 2 idx sb }) s)
    let w := s.sess.window
    match sessionAt s w.slot with
    | none => modWindow (fun w => { w with status := abState }) s
    | some x =>
      let res : Written := match (entryRow idx sb).bind (·.ty.bytes) with
        | some n =>
          let (t, v) := w.value.getD (0, 0)
          odWrite w.slot x idx sb (.tagged (BitVec.ofNat 4 t) (if n = 8 then v + w.valueHi * 2 ^ 32 else v)) s
        | none => requestWrite w.slot x idx sb w.offset 4193280 (subPad w.data 0 (min w.length 4193280)) s
      let (c, s) := res.status
      modWindow (fun w => { w with status := c, total := totalOf idx sb w.offset (w.data.take w.length) }) s

/-- OD_WINDOW_WRITE. -/
def execOdWindowWrite (index : BitVec 16) (sub : Byte) (s : State) : Res := conclude s (windowWrite index.toNat sub.toNat s)

end Sys2Proof.Machine
end

