-- ==== Sys2Proof/WellFormed.lean ====
section
/-! DEFINITION. Which operands of a command can occur: the lengths that the wire or the transport of each
event allows. `exec` is total; a command outside these bounds describes no event of the block. -/

namespace Sys2Proof

/-- Payload lengths of the CAN formats and LIN (R107, R142, R160). -/
def CanFrame.wf (f : CanFrame) : Bool :=
  match f.fmt with
  | .classicBase => f.data.length ≤ 8 && f.id.toNat < 2 ^ 11
  | .classicExt => f.data.length ≤ 8
  | .fdBase => f.data.length ∈ [0, 1, 2, 3, 4, 5, 6, 7, 8, 12, 16, 20, 24, 32, 48, 64] && f.id.toNat < 2 ^ 11 && !f.rtr
  | .fdExt => f.data.length ∈ [0, 1, 2, 3, 4, 5, 6, 7, 8, 12, 16, 20, 24, 32, 48, 64] && !f.rtr
  | .xl => 1 ≤ f.data.length && f.data.length ≤ 2048 && f.id.toNat < 2 ^ 11 && !f.rtr
  | .lin => 1 ≤ f.data.length && f.data.length ≤ 8 && f.id.toNat < 2 ^ 6

/-- Field lengths of a keeper lane request (R369). -/
def LaneReq.wf (r : LaneReq) : Bool := r.aad.length ≤ 65535 && r.iv.length = 16 && r.tagv.length = 16

/-- Field lengths of the PROVISION values (R323). -/
def FuseValues.wf (f : FuseValues) : Bool :=
  f.makerKh.length = 32 && f.debugKh.length = 32 && f.combKh.length = 4 && f.combKh.all (·.length = 32) && f.combPol.toNat ≤ 3

/-- A command whose operands can occur. [log 8 DEDUCED] -/
def Instr.wf : Instr → Bool
  | .dieToDieFlitReceived _ _ => true
  | .linkTraining => true
  | .linkTrainingTimeout => true
  | .tick _ => true
  | .ageClockAdvance => true
  | .hyperperiodBoundary => true
  | .rescanComplete => true
  | .referenceLost => true
  | .holdoverExceeded => true
  | .referenceReturn => true
  | .standbyImageLoad _ image => (image.length ≤ 16777215 : Bool)
  | .verifierDone => true
  | .swapArm _ => true
  | .swapCancel _ => true
  | .minGenerationWrite _ _ => true
  | .fabricSlot faults => (faults.length ≤ 32 : Bool)
  | .pauseRefreshTimer _ => true
  | .planeTestRequest _ => true
  | .planeTestComplete _ _ => true
  | .spillDramSlot => true
  | .spillReadbackComplete _ _ => true
  | .stallLimitExpiry _ => true
  | .flushComplete _ => true
  | .mirrorCapture _ cap => (cap.frame.length ≤ 16383 : Bool)
  | .mirrorEntryWrite _ => true
  | .mirrorSkipTimeout _ => true
  | .clearHighWater _ _ => true
  | .pauseGraceWrite _ _ _ => true
  | .stallLimitWrite _ _ _ => true
  | .routeReloadComplete _ _ => true
  | .freshnessRecordCommit _ => true
  | .addressClaimInitial _ _ => true
  | .addressClaimRequest _ _ => true
  | .addressClaimedReceived _ _ _ => true
  | .bamAnnounce _ _ _ _ size packets => (size ≤ 65535 && packets ≤ 255 : Bool)
  | .bamPacket _ _ _ seqNo data => (seqNo ≤ 255 && data.length ≤ 7 : Bool)
  | .bamGapTimeout _ _ _ => true
  | .streamKeySlotWrite _ _ => true
  | .bitTimingWrite _ _ _ _ => true
  | .xlModeWrite _ _ _ _ => true
  | .wakeModeWrite _ _ _ => true
  | .canFrameReceive _ frame _ => frame.wf
  | .canErrorDetected _ _ _ => true
  | .canDisabledFormatFrame _ => true
  | .receiveQueueDrain _ => true
  | .transmitBufferLoad _ => true
  | .canFrameTransmitted _ _ _ => true
  | .canArbitrationLost _ => true
  | .canHoldoffExpiry _ => true
  | .canRecoveryComplete _ => true
  | .basicCycleStart _ => true
  | .referenceArbitrationLost _ => true
  | .referenceMessageReceive _ frame _ => frame.wf
  | .referenceTimeout _ => true
  | .canWakeEdge _ _ => true
  | .canWakeFrame _ frame => frame.wf
  | .wakeDecoderError _ => true
  | .linScheduleSlot _ _ => true
  | .linResponseBufferLoad _ => true
  | .linHeaderReceived _ _ _ => true
  | .linResponseComplete _ data _ _ => (data.length ≤ 8 : Bool)
  | .linResponseTimeout _ _ => true
  | .linReadbackError _ => true
  | .linWakeupBlackoutEnd _ => true
  | .linBusSleepTimeout _ => true
  | .linWakeupReceived _ => true
  | .portEnableWrite _ _ _ => true
  | .shutdownComplete _ => true
  | .linkUp _ _ _ => true
  | .linkFailure _ => true
  | .ethFrameHead _ head _ => (head.length ≤ 64 : Bool)
  | .ethFrameEnd _ frame _ => (frame.length ≤ 16383 : Bool)
  | .pauseFrameReceived _ _ => true
  | .pfcFrameReceived _ _ times => (times.length = 8 : Bool)
  | .pauseExpiry _ _ => true
  | .pauseWatchdogExpiry _ _ => true
  | .watchdogOverrideTimeout _ _ => true
  | .flowControlModeWrite _ _ _ _ => true
  | .ethFrameTransmitted _ _ => true
  | .collision _ => true
  | .backoffExpiry _ => true
  | .plcaBeacon _ => true
  | .plcaBeaconTimeout _ => true
  | .plcaCycleStart _ => true
  | .tsaPhyFault _ => true
  | .tsaJabberTimeout _ => true
  | .tsaFaultClear _ => true
  | .tsaWakeActivity _ _ => true
  | .tsaWakeBurstEnd _ => true
  | .gptpSyncReceived _ _ _ _ => true
  | .pfNop _ => true
  | .pfAdd _ _ _ _ => true
  | .pfSub _ _ _ _ => true
  | .pfAdds _ _ _ _ => true
  | .pfSubs _ _ _ _ => true
  | .pfAnd _ _ _ _ => true
  | .pfOr _ _ _ _ => true
  | .pfXor _ _ _ _ => true
  | .pfNot _ _ _ _ => true
  | .pfShl _ _ _ _ => true
  | .pfShr _ _ _ _ => true
  | .pfSra _ _ _ _ => true
  | .pfShli _ _ _ _ => true
  | .pfShri _ _ _ _ => true
  | .pfSrai _ _ _ _ => true
  | .pfCeq _ _ _ _ => true
  | .pfCne _ _ _ _ => true
  | .pfClt _ _ _ _ => true
  | .pfCle _ _ _ _ => true
  | .pfMin _ _ _ _ => true
  | .pfMax _ _ _ _ => true
  | .pfMov _ _ _ _ => true
  | .pfNeg _ _ _ _ => true
  | .pfAbs _ _ _ _ => true
  | .pfMul _ _ _ _ => true
  | .pfMuls _ _ _ _ => true
  | .pfMulh _ _ _ _ => true
  | .pfQmul _ _ _ _ => true
  | .pfDiv _ _ _ _ => true
  | .pfRem _ _ _ _ => true
  | .pfFadd _ _ _ _ => true
  | .pfFsub _ _ _ _ => true
  | .pfFmul _ _ _ _ => true
  | .pfFdiv _ _ _ _ => true
  | .pfFmin _ _ _ _ => true
  | .pfFmax _ _ _ _ => true
  | .pfFabs _ _ _ _ => true
  | .pfFneg _ _ _ _ => true
  | .pfFma _ _ _ _ => true
  | .pfCvt _ _ _ _ _ => true
  | .pfTagt _ _ _ _ _ => true
  | .pfRetag _ _ _ _ _ => true
  | .pfAccr _ _ _ _ _ => true
  | .pfAccClear _ _ _ _ _ => true
  | .pfTrap _ _ => true
  | .pfBreak _ => true
  | .pfRte _ => true
  | .pfMfc _ _ _ => true
  | .pfMtc _ _ _ => true
  | .pfMtsg _ _ _ _ => true
  | .pfMfsg _ _ _ _ => true
  | .pfFence _ => true
  | .pfWait _ => true
  | .pfWend _ => true
  | .pfRep _ _ => true
  | .pfAddi _ _ _ _ => true
  | .pfAndi _ _ _ _ => true
  | .pfOri _ _ _ _ => true
  | .pfXori _ _ _ _ => true
  | .pfClti _ _ _ _ => true
  | .pfCeqi _ _ _ _ => true
  | .pfLi _ _ _ _ _ => true
  | .pfLih _ _ _ _ => true
  | .pfLd _ _ _ _ _ => true
  | .pfSt _ _ _ _ _ => true
  | .pfLdp _ _ _ _ _ => true
  | .pfStp _ _ _ _ _ => true
  | .pfLrw _ _ _ _ _ => true
  | .pfScw _ _ _ _ _ => true
  | .pfMkp _ _ _ _ _ => true
  | .pfStt _ _ _ _ _ => true
  | .pfBeq _ _ _ _ => true
  | .pfBne _ _ _ _ => true
  | .pfBlt _ _ _ _ => true
  | .pfBge _ _ _ _ => true
  | .pfBt _ _ _ _ => true
  | .pfBf _ _ _ _ => true
  | .pfBtag _ _ _ _ _ => true
  | .pfJal _ _ _ _ => true
  | .pfJalr _ _ _ _ => true
  | .pfBfx _ _ _ _ => true
  | .pfBfi _ _ _ _ => true
  | .pfCrc _ _ _ => true
  | .pfMovs _ _ _ _ _ _ _ => true
  | .pfCmps _ _ _ _ _ _ _ => true
  | .pfFils _ _ _ _ _ _ _ => true
  | .pfScns _ _ _ _ _ _ _ => true
  | .pfMacd _ _ _ _ _ _ _ => true
  | .interruptTaken _ => true
  | .reservationExpiry _ => true
  | .pipelineWriteback _ => true
  | .windowStart _ _ => true
  | .miscompare _ => true
  | .spareLoadComplete _ => true
  | .windowCommit _ => true
  | .windowOverrun _ => true
  | .windowDeadline _ => true
  | .pairEnableWrite _ _ _ => true
  | .drainLoadComplete _ => true
  | .requalify _ _ _ => true
  | .requalifyComplete _ _ => true
  | .watchdogService _ => true
  | .watchdogHalfPeriod => true
  | .keeperWatchdogExpiry => true
  | .keeperRestart => true
  | .keeperConfirm => true
  | .touchScan caps => (caps.length = 4 : Bool)
  | .periodicTimer _ => true
  | .combPoll _ _ => true
  | .startRequest => true
  | .lfEngineGrant _ peaks => (peaks.length = 8 : Bool)
  | .lfShort _ => true
  | .patternEnd => true
  | .patternTableWrite _ _ => true
  | .wakeIdWrite _ _ => true
  | .lfChannelEnableWrite _ _ _ => true
  | .transponderTransaction => true
  | .fieldChargeComplete => true
  | .transponderAnswer _ => true
  | .transponderAnswerTimeout => true
  | .lockEnd _ => true
  | .sessionTimeout => true
  | .driverDoorOpen => true
  | .slrHalfPeriod _ _ => true
  | .accessSignalRefresh => true
  | .answerPeriodOpen => true
  | .uwbAnswerReceived _ _ frame => (frame.length ≤ 127 : Bool)
  | .answerSlotEnd _ _ => true
  | .repoll => true
  | .exchangeStart _ => true
  | .uwbRrespReceived _ _ _ => true
  | .foragerAnswer _ _ _ _ => true
  | .uwbRreportReceived frame _ => (frame.length ≤ 127 : Bool)
  | .uwbAckReceived frame _ => (frame.length ≤ 127 : Bool)
  | .uwbFrameTimeout => true
  | .exchangeSlotEnd => true
  | .roundEnd => true
  | .uwbRangingSlot _ _ => true
  | .uwbFault => true
  | .uwbEnableWrite _ _ => true
  | .nfcFieldDetect => true
  | .nfcFieldLoss => true
  | .fieldDetRelease => true
  | .nfcPoll cards => (cards.all fun c => c.length = 4 || c.length = 7 || c.length = 10 : Bool)
  | .nfcCardResponse _ => true
  | .nfcFwtTimeout => true
  | .readerExchange apdu => (apdu.length ≤ 65543 : Bool)
  | .readerOfferTimeout => true
  | .nfcEnableWrite _ _ => true
  | .tagActivation => true
  | .pps => true
  | .tagSelect _ => true
  | .readBinary _ _ => true
  | .updateBinary _ data _ => (data.length ≤ 255 : Bool)
  | .tagWriteComplete => true
  | .verify password => (password.length ≤ 255 : Bool)
  | .verifyBlockEnd _ => true
  | .makerAuth publicKey signature => (publicKey.length ≤ 65 && signature.length ≤ 64 : Bool)
  | .attestApdu nonce => (nonce.length ≤ 255 : Bool)
  | .deselect => true
  | .snapshotTimer => true
  | .vaultLoad _ _ _ _ => true
  | .vaultClear _ _ _ => true
  | .vaultGenerate _ _ _ _ _ _ _ _ => true
  | .vaultImport _ _ _ _ _ => true
  | .vaultRewrap _ _ _ _ => true
  | .vaultDerive _ _ _ _ _ _ _ _ _ => true
  | .vaultReplace _ _ _ _ _ => true
  | .replaceCommitted => true
  | .vaultKcv _ _ _ => true
  | .mkaKeys _ _ _ _ _ _ => true
  | .mkaIcv _ _ _ _ => true
  | .mkaUnwrap _ _ _ _ _ => true
  | .mkaNewsak _ _ _ _ _ => true
  | .enrol _ _ _ _ _ => true
  | .revokeKey _ _ => true
  | .attest _ _ _ _ => true
  | .attestationNonceWrite _ _ => true
  | .attestationReady => true
  | .vaultAnswerRead => true
  | .vaultRestart => true
  | .lcChallengeRead _ => true
  | .provision _ _ fuses => fuses.wf
  | .fieldLock _ _ => true
  | .openDebug _ _ => true
  | .reprovision _ _ => true
  | .vendorReturn _ _ => true
  | .refurbish _ _ => true
  | .scrap _ _ => true
  | .combKeyRevoke _ _ => true
  | .laneKeyWrite _ _ _ => true
  | .cipherLaneSlot _ => true
  | .cipherPassRequest _ => true
  | .cipherBlockComplete _ _ => true
  | .cipherPassComplete _ _ => true
  | .laneTestComplete _ _ => true
  | .maskReseed _ _ => true
  | .laneEncrypt req => req.wf
  | .laneDecrypt req => req.wf
  | .laneMacGenerate req => req.wf
  | .laneMacVerify req => req.wf
  | .laneAnswerRead => true
  | .laneEnableWrite _ _ _ => true
  | .tamperTrip _ => true
  | .holdOkReached _ => true
  | .loopCheck _ _ _ => true
  | .tamperConfigWrite _ _ _ => true
  | .recordWrite _ _ _ id _ _ _ payload => (payload.length ≤ 2048 && id < 2 ^ 32 : Bool)
  | .storeGrant => true
  | .recordCopyComplete => true
  | .compactionSlice _ => true
  | .indexScan _ => true
  | .scanComplete _ => true
  | .counterUpdate _ _ => true
  | .snapshotReplace content => (content.length ≤ 4608 : Bool)
  | .mDataWrite _ _ => true
  | .blockProtectWrite _ _ => true
  | .wDataWrite _ _ => true
  | .readPasswordWrite _ _ => true
  | .writePasswordWrite _ _ => true
  | .setPasswords _ _ => true
  | .odSessionOpen _ _ => true
  | .odSessionIdleTimeout _ => true
  | .roleChallengeRead _ => true
  | .roleRequest _ _ _ => true
  | .roleBlockEnd _ => true
  | .objectWrite _ _ _ _ => true
  | .restoreDefaults _ _ => true
  | .sdoInitiateDownload _ _ _ _ _ data => (data.length ≤ 4 : Bool)
  | .sdoDownloadSegment _ _ _ data => (data.length ≤ 7 : Bool)
  | .sdoInitiateUpload _ _ _ => true
  | .sdoUploadSegment _ _ => true
  | .sdoBlockDownload _ _ _ segs _ _ => (segs.all fun g => g.1 ≤ 127 && g.2.length ≤ 7 : Bool)
  | .sdoBlockUpload _ _ _ blockSize => (blockSize ≤ 255 : Bool)
  | .sdoAbort _ _ => true
  | .sdoSegmentTimeout _ => true
  | .udpOpen _ payload => (payload.length ≤ 1400 : Bool)
  | .udpRead _ _ _ _ _ _ _ _ => true
  | .udpWrite _ _ _ _ _ _ data _ => (data.length ≤ 1388 : Bool)
  | .udpClose _ _ _ _ => true
  | .diagnosticSessionControl _ _ => true
  | .ecuReset _ _ => true
  | .testerPresent _ _ => true
  | .readDataByIdentifier _ _ => true
  | .routineControl _ _ _ _ _ _ _ _ => true
  | .requestDownload _ _ _ _ _ => true
  | .transferData _ _ data => (data.length ≤ 1024 : Bool)
  | .requestTransferExit _ => true
  | .doipRoutingActivation _ => true
  | .doipDisconnect _ => true
  | .odWindowRead _ _ => true
  | .odWindowWrite _ _ => true
  | .deviceReset _ _ => true
  | .stateRequestRun _ => true
  | .stateRequestDoze _ => true
  | .stateRequestSleep _ => true
  | .keeperVotesWrite _ => true
  | .padRelease _ => true
  | .wakeSenseThresholdWrite _ _ _ _ => true
  | .eventRingConfigWrite _ _ _ => true
  | .vaoPowerUp => true
  | .aoBrownout => true
  | .brownoutRecovery => true
  | .aoReset _ => true
  | .fieldPowerUp => true
  | .wakeSenseRise _ => true
  | .holdNLow _ => true
  | .rtcAlarm => true
  | .wake _ => true
  | .voteChange _ _ _ => true
  | .domainPowerOn _ => true
  | .sleepEntry => true
  | .sleepEntryStepComplete => true
  | .pllLossOfLock _ => true
  | .pllLock _ => true
  | .crystal32kStable => true
  | .coldBoot _ _ => true
  | .warmBoot => true
  | .bootStepComplete => true
  | .combRestore => true
  | .recoveryLoader => true
  | .accessSequencerRestart => true
  | .eventRecord _ _ _ _ data => (data.length ≤ 8 : Bool)
  | .eventRingWrite _ => true
  | .eventSummaryWindowClose _ _ => true
  | .deferredEventFlush => true
  | .portTestStart _ _ => true
  | .portTestStop _ _ => true
  | .testFrameCheck _ frame _ => (frame.length ≤ 16383 : Bool)
  | .portTestComplete _ => true
  | .serTestStart _ _ => true
  | .serTestStop _ _ => true
  | .lfLoopbackStart _ => true
  | .uwbLoopbackStart _ => true
  | .nfcLoadCheckStart _ => true
  | .bistStart _ => true
  | .bistComplete _ => true
  | .dramTestStart _ _ => true
  | .debugHalt _ => true
  | .debugStep _ => true
  | .debugRead _ _ => true
  | .jtagBypass => true
  | .jtagIdcode => true
  | .jtagSamplePreload _ => true
  | .extestPulse => true
  | .extestTrain => true
  | .pnExhaustionTimeout _ => true
  | .busIntegrationComplete _ => true
  | .wakeSenseFall _ => true
  | .wtxExtensionEnd => true
  | .prbsCheckerLock _ => true
  | .prbsCheckerLossOfLock _ => true
  | .lfLoopbackComplete _ => true
  | .uwbLoopbackComplete _ => true
  | .nfcLoadCheckComplete _ _ => true

end Sys2Proof
end

