-- ==== Sys2Proof/Machine/Dispatch.lean ====
section
/-! DEFINITION. Every command with its meaning. -/

namespace Sys2Proof.Machine

/-- The effect of a command on everything but the queue. -/
def exec (i : Instr) (s : State) : Host.Outcome State Fault Refusal :=
  match i with
  | .dieToDieFlitReceived toHive flit => Sys2Proof.Machine.execDieToDieFlitReceived toHive flit s
  | .linkTraining => Sys2Proof.Machine.execLinkTraining s
  | .linkTrainingTimeout => Sys2Proof.Machine.execLinkTrainingTimeout s
  | .tick faults => Sys2Proof.Machine.execTick faults s
  | .ageClockAdvance => Sys2Proof.Machine.execAgeClockAdvance s
  | .hyperperiodBoundary => Sys2Proof.Machine.execHyperperiodBoundary s
  | .rescanComplete => Sys2Proof.Machine.execRescanComplete s
  | .referenceLost => Sys2Proof.Machine.execReferenceLost s
  | .holdoverExceeded => Sys2Proof.Machine.execHoldoverExceeded s
  | .referenceReturn => Sys2Proof.Machine.execReferenceReturn s
  | .standbyImageLoad slot image => Sys2Proof.Machine.execStandbyImageLoad slot image s
  | .verifierDone => Sys2Proof.Machine.execVerifierDone s
  | .swapArm slot => Sys2Proof.Machine.execSwapArm slot s
  | .swapCancel slot => Sys2Proof.Machine.execSwapCancel slot s
  | .minGenerationWrite slot v => Sys2Proof.Machine.execMinGenerationWrite slot v s
  | .fabricSlot faults => Sys2Proof.Machine.execFabricSlot faults s
  | .pauseRefreshTimer port => Sys2Proof.Machine.execPauseRefreshTimer port s
  | .planeTestRequest slot => Sys2Proof.Machine.execPlaneTestRequest slot s
  | .planeTestComplete passA passB => Sys2Proof.Machine.execPlaneTestComplete passA passB s
  | .spillDramSlot => Sys2Proof.Machine.execSpillDramSlot s
  | .spillReadbackComplete queue eccBad => Sys2Proof.Machine.execSpillReadbackComplete queue eccBad s
  | .stallLimitExpiry port => Sys2Proof.Machine.execStallLimitExpiry port s
  | .flushComplete port => Sys2Proof.Machine.execFlushComplete port s
  | .mirrorCapture session cap => Sys2Proof.Machine.execMirrorCapture session cap s
  | .mirrorEntryWrite session => Sys2Proof.Machine.execMirrorEntryWrite session s
  | .mirrorSkipTimeout session => Sys2Proof.Machine.execMirrorSkipTimeout session s
  | .clearHighWater slot v => Sys2Proof.Machine.execClearHighWater slot v s
  | .pauseGraceWrite slot port v => Sys2Proof.Machine.execPauseGraceWrite slot port v s
  | .stallLimitWrite slot port v => Sys2Proof.Machine.execStallLimitWrite slot port v s
  | .routeReloadComplete pduTable index => Sys2Proof.Machine.execRouteReloadComplete pduTable index s
  | .freshnessRecordCommit stream => Sys2Proof.Machine.execFreshnessRecordCommit stream s
  | .addressClaimInitial port address => Sys2Proof.Machine.execAddressClaimInitial port address s
  | .addressClaimRequest port destination => Sys2Proof.Machine.execAddressClaimRequest port destination s
  | .addressClaimedReceived port sa name => Sys2Proof.Machine.execAddressClaimedReceived port sa name s
  | .bamAnnounce cluster port sa pgn size packets => Sys2Proof.Machine.execBamAnnounce cluster port sa pgn size packets s
  | .bamPacket cluster port sa seqNo data => Sys2Proof.Machine.execBamPacket cluster port sa seqNo data s
  | .bamGapTimeout cluster port sa => Sys2Proof.Machine.execBamGapTimeout cluster port sa s
  | .streamKeySlotWrite slot data => Sys2Proof.Machine.execStreamKeySlotWrite slot data s
  | .bitTimingWrite slot port sub v => Sys2Proof.Machine.execBitTimingWrite slot port sub v s
  | .xlModeWrite slot port switching v => Sys2Proof.Machine.execXlModeWrite slot port switching v s
  | .wakeModeWrite slot port v => Sys2Proof.Machine.execWakeModeWrite slot port v s
  | .canFrameReceive port frame ago => Sys2Proof.Machine.execCanFrameReceive port frame ago s
  | .canErrorDetected port err xlData => Sys2Proof.Machine.execCanErrorDetected port err xlData s
  | .canDisabledFormatFrame port => Sys2Proof.Machine.execCanDisabledFormatFrame port s
  | .receiveQueueDrain port => Sys2Proof.Machine.execReceiveQueueDrain port s
  | .transmitBufferLoad port => Sys2Proof.Machine.execTransmitBufferLoad port s
  | .canFrameTransmitted port delayTq ago => Sys2Proof.Machine.execCanFrameTransmitted port delayTq ago s
  | .canArbitrationLost port => Sys2Proof.Machine.execCanArbitrationLost port s
  | .canHoldoffExpiry port => Sys2Proof.Machine.execCanHoldoffExpiry port s
  | .canRecoveryComplete port => Sys2Proof.Machine.execCanRecoveryComplete port s
  | .basicCycleStart port => Sys2Proof.Machine.execBasicCycleStart port s
  | .referenceArbitrationLost port => Sys2Proof.Machine.execReferenceArbitrationLost port s
  | .referenceMessageReceive port frame ago => Sys2Proof.Machine.execReferenceMessageReceive port frame ago s
  | .referenceTimeout port => Sys2Proof.Machine.execReferenceTimeout port s
  | .canWakeEdge port halfMicros => Sys2Proof.Machine.execCanWakeEdge port halfMicros s
  | .canWakeFrame port frame => Sys2Proof.Machine.execCanWakeFrame port frame s
  | .wakeDecoderError port => Sys2Proof.Machine.execWakeDecoderError port s
  | .linScheduleSlot channel ident => Sys2Proof.Machine.execLinScheduleSlot channel ident s
  | .linResponseBufferLoad port => Sys2Proof.Machine.execLinResponseBufferLoad port s
  | .linHeaderReceived port ident measuredRate => Sys2Proof.Machine.execLinHeaderReceived port ident measuredRate s
  | .linResponseComplete port data framingGood checksum => Sys2Proof.Machine.execLinResponseComplete port data framingGood checksum s
  | .linResponseTimeout port started => Sys2Proof.Machine.execLinResponseTimeout port started s
  | .linReadbackError port => Sys2Proof.Machine.execLinReadbackError port s
  | .linWakeupBlackoutEnd port => Sys2Proof.Machine.execLinWakeupBlackoutEnd port s
  | .linBusSleepTimeout port => Sys2Proof.Machine.execLinBusSleepTimeout port s
  | .linWakeupReceived port => Sys2Proof.Machine.execLinWakeupReceived port s
  | .portEnableWrite slot port v => Sys2Proof.Machine.execPortEnableWrite slot port v s
  | .shutdownComplete fn => Sys2Proof.Machine.execShutdownComplete fn s
  | .linkUp port rate half => Sys2Proof.Machine.execLinkUp port rate half s
  | .linkFailure port => Sys2Proof.Machine.execLinkFailure port s
  | .ethFrameHead port head ago => Sys2Proof.Machine.execEthFrameHead port head ago s
  | .ethFrameEnd port frame codeError => Sys2Proof.Machine.execEthFrameEnd port frame codeError s
  | .pauseFrameReceived port quanta => Sys2Proof.Machine.execPauseFrameReceived port quanta s
  | .pfcFrameReceived port enables times => Sys2Proof.Machine.execPfcFrameReceived port enables times s
  | .pauseExpiry port tc => Sys2Proof.Machine.execPauseExpiry port tc s
  | .pauseWatchdogExpiry port tc => Sys2Proof.Machine.execPauseWatchdogExpiry port tc s
  | .watchdogOverrideTimeout port tc => Sys2Proof.Machine.execWatchdogOverrideTimeout port tc s
  | .flowControlModeWrite slot port halfDuplex v => Sys2Proof.Machine.execFlowControlModeWrite slot port halfDuplex v s
  | .ethFrameTransmitted port ago => Sys2Proof.Machine.execEthFrameTransmitted port ago s
  | .collision port => Sys2Proof.Machine.execCollision port s
  | .backoffExpiry port => Sys2Proof.Machine.execBackoffExpiry port s
  | .plcaBeacon port => Sys2Proof.Machine.execPlcaBeacon port s
  | .plcaBeaconTimeout port => Sys2Proof.Machine.execPlcaBeaconTimeout port s
  | .plcaCycleStart port => Sys2Proof.Machine.execPlcaCycleStart port s
  | .tsaPhyFault port => Sys2Proof.Machine.execTsaPhyFault port s
  | .tsaJabberTimeout port => Sys2Proof.Machine.execTsaJabberTimeout port s
  | .tsaFaultClear port => Sys2Proof.Machine.execTsaFaultClear port s
  | .tsaWakeActivity port micros => Sys2Proof.Machine.execTsaWakeActivity port micros s
  | .tsaWakeBurstEnd port => Sys2Proof.Machine.execTsaWakeBurstEnd port s
  | .gptpSyncReceived port offsetNs wellFormed delayNs => Sys2Proof.Machine.execGptpSyncReceived port offsetNs wellFormed delayNs s
  | .pfNop c => Sys2Proof.Machine.execPfNop c s
  | .pfAdd c rd ra rb => Sys2Proof.Machine.execPfAdd c rd ra rb s
  | .pfSub c rd ra rb => Sys2Proof.Machine.execPfSub c rd ra rb s
  | .pfAdds c rd ra rb => Sys2Proof.Machine.execPfAdds c rd ra rb s
  | .pfSubs c rd ra rb => Sys2Proof.Machine.execPfSubs c rd ra rb s
  | .pfAnd c rd ra rb => Sys2Proof.Machine.execPfAnd c rd ra rb s
  | .pfOr c rd ra rb => Sys2Proof.Machine.execPfOr c rd ra rb s
  | .pfXor c rd ra rb => Sys2Proof.Machine.execPfXor c rd ra rb s
  | .pfNot c rd ra rb => Sys2Proof.Machine.execPfNot c rd ra rb s
  | .pfShl c rd ra rb => Sys2Proof.Machine.execPfShl c rd ra rb s
  | .pfShr c rd ra rb => Sys2Proof.Machine.execPfShr c rd ra rb s
  | .pfSra c rd ra rb => Sys2Proof.Machine.execPfSra c rd ra rb s
  | .pfShli c rd ra amount => Sys2Proof.Machine.execPfShli c rd ra amount s
  | .pfShri c rd ra amount => Sys2Proof.Machine.execPfShri c rd ra amount s
  | .pfSrai c rd ra amount => Sys2Proof.Machine.execPfSrai c rd ra amount s
  | .pfCeq c rd ra rb => Sys2Proof.Machine.execPfCeq c rd ra rb s
  | .pfCne c rd ra rb => Sys2Proof.Machine.execPfCne c rd ra rb s
  | .pfClt c rd ra rb => Sys2Proof.Machine.execPfClt c rd ra rb s
  | .pfCle c rd ra rb => Sys2Proof.Machine.execPfCle c rd ra rb s
  | .pfMin c rd ra rb => Sys2Proof.Machine.execPfMin c rd ra rb s
  | .pfMax c rd ra rb => Sys2Proof.Machine.execPfMax c rd ra rb s
  | .pfMov c rd ra rb => Sys2Proof.Machine.execPfMov c rd ra rb s
  | .pfNeg c rd ra rb => Sys2Proof.Machine.execPfNeg c rd ra rb s
  | .pfAbs c rd ra rb => Sys2Proof.Machine.execPfAbs c rd ra rb s
  | .pfMul c rd ra rb => Sys2Proof.Machine.execPfMul c rd ra rb s
  | .pfMuls c rd ra rb => Sys2Proof.Machine.execPfMuls c rd ra rb s
  | .pfMulh c rd ra rb => Sys2Proof.Machine.execPfMulh c rd ra rb s
  | .pfQmul c rd ra rb => Sys2Proof.Machine.execPfQmul c rd ra rb s
  | .pfDiv c rd ra rb => Sys2Proof.Machine.execPfDiv c rd ra rb s
  | .pfRem c rd ra rb => Sys2Proof.Machine.execPfRem c rd ra rb s
  | .pfFadd c rd ra rb => Sys2Proof.Machine.execPfFadd c rd ra rb s
  | .pfFsub c rd ra rb => Sys2Proof.Machine.execPfFsub c rd ra rb s
  | .pfFmul c rd ra rb => Sys2Proof.Machine.execPfFmul c rd ra rb s
  | .pfFdiv c rd ra rb => Sys2Proof.Machine.execPfFdiv c rd ra rb s
  | .pfFmin c rd ra rb => Sys2Proof.Machine.execPfFmin c rd ra rb s
  | .pfFmax c rd ra rb => Sys2Proof.Machine.execPfFmax c rd ra rb s
  | .pfFabs c rd ra rb => Sys2Proof.Machine.execPfFabs c rd ra rb s
  | .pfFneg c rd ra rb => Sys2Proof.Machine.execPfFneg c rd ra rb s
  | .pfFma c rd ra rb => Sys2Proof.Machine.execPfFma c rd ra rb s
  | .pfCvt c rd ra rb fn => Sys2Proof.Machine.execPfCvt c rd ra rb fn s
  | .pfTagt c rd ra rb fn => Sys2Proof.Machine.execPfTagt c rd ra rb fn s
  | .pfRetag c rd ra rb fn => Sys2Proof.Machine.execPfRetag c rd ra rb fn s
  | .pfAccr c rd ra rb fn => Sys2Proof.Machine.execPfAccr c rd ra rb fn s
  | .pfAccClear c rd ra rb fn => Sys2Proof.Machine.execPfAccClear c rd ra rb fn s
  | .pfTrap c rb => Sys2Proof.Machine.execPfTrap c rb s
  | .pfBreak c => Sys2Proof.Machine.execPfBreak c s
  | .pfRte c => Sys2Proof.Machine.execPfRte c s
  | .pfMfc c rd cr => Sys2Proof.Machine.execPfMfc c rd cr s
  | .pfMtc c rd cr => Sys2Proof.Machine.execPfMtc c rd cr s
  | .pfMtsg c rd ra sg => Sys2Proof.Machine.execPfMtsg c rd ra sg s
  | .pfMfsg c rd ra sg => Sys2Proof.Machine.execPfMfsg c rd ra sg s
  | .pfFence c => Sys2Proof.Machine.execPfFence c s
  | .pfWait c => Sys2Proof.Machine.execPfWait c s
  | .pfWend c => Sys2Proof.Machine.execPfWend c s
  | .pfRep c zero => Sys2Proof.Machine.execPfRep c zero s
  | .pfAddi c rd ra imm => Sys2Proof.Machine.execPfAddi c rd ra imm s
  | .pfAndi c rd ra imm => Sys2Proof.Machine.execPfAndi c rd ra imm s
  | .pfOri c rd ra imm => Sys2Proof.Machine.execPfOri c rd ra imm s
  | .pfXori c rd ra imm => Sys2Proof.Machine.execPfXori c rd ra imm s
  | .pfClti c rd ra imm => Sys2Proof.Machine.execPfClti c rd ra imm s
  | .pfCeqi c rd ra imm => Sys2Proof.Machine.execPfCeqi c rd ra imm s
  | .pfLi c rd zext tag imm => Sys2Proof.Machine.execPfLi c rd zext tag imm s
  | .pfLih c rd ra imm => Sys2Proof.Machine.execPfLih c rd ra imm s
  | .pfLd c rd ra sg off => Sys2Proof.Machine.execPfLd c rd ra sg off s
  | .pfSt c rd ra sg off => Sys2Proof.Machine.execPfSt c rd ra sg off s
  | .pfLdp c rd ra sg off => Sys2Proof.Machine.execPfLdp c rd ra sg off s
  | .pfStp c rd ra sg off => Sys2Proof.Machine.execPfStp c rd ra sg off s
  | .pfLrw c rd ra sg off => Sys2Proof.Machine.execPfLrw c rd ra sg off s
  | .pfScw c rd ra sg off => Sys2Proof.Machine.execPfScw c rd ra sg off s
  | .pfMkp c rd ra sg off => Sys2Proof.Machine.execPfMkp c rd ra sg off s
  | .pfStt c rd ra sg off => Sys2Proof.Machine.execPfStt c rd ra sg off s
  | .pfBeq c ra rb disp => Sys2Proof.Machine.execPfBeq c ra rb disp s
  | .pfBne c ra rb disp => Sys2Proof.Machine.execPfBne c ra rb disp s
  | .pfBlt c ra rb disp => Sys2Proof.Machine.execPfBlt c ra rb disp s
  | .pfBge c ra rb disp => Sys2Proof.Machine.execPfBge c ra rb disp s
  | .pfBt c ra rb disp => Sys2Proof.Machine.execPfBt c ra rb disp s
  | .pfBf c ra rb disp => Sys2Proof.Machine.execPfBf c ra rb disp s
  | .pfBtag c ra differs tag disp => Sys2Proof.Machine.execPfBtag c ra differs tag disp s
  | .pfJal c rd ra imm => Sys2Proof.Machine.execPfJal c rd ra imm s
  | .pfJalr c rd ra imm => Sys2Proof.Machine.execPfJalr c rd ra imm s
  | .pfBfx c rd ra imm => Sys2Proof.Machine.execPfBfx c rd ra imm s
  | .pfBfi c rd ra imm => Sys2Proof.Machine.execPfBfi c rd ra imm s
  | .pfCrc c rd ra => Sys2Proof.Machine.execPfCrc c rd ra s
  | .pfMovs c desc sgA sgB ra rb upTo => Sys2Proof.Machine.execPfMovs c desc sgA sgB ra rb upTo s
  | .pfCmps c desc sgA sgB ra rb upTo => Sys2Proof.Machine.execPfCmps c desc sgA sgB ra rb upTo s
  | .pfFils c desc sgA sgB ra rb upTo => Sys2Proof.Machine.execPfFils c desc sgA sgB ra rb upTo s
  | .pfScns c desc sgA sgB ra rb upTo => Sys2Proof.Machine.execPfScns c desc sgA sgB ra rb upTo s
  | .pfMacd c acc sgA sgB ra rb sub => Sys2Proof.Machine.execPfMacd c acc sgA sgB ra rb sub s
  | .interruptTaken c => Sys2Proof.Machine.execInterruptTaken c s
  | .reservationExpiry c => Sys2Proof.Machine.execReservationExpiry c s
  | .pipelineWriteback c => Sys2Proof.Machine.execPipelineWriteback c s
  | .windowStart col win => Sys2Proof.Machine.execWindowStart col win s
  | .miscompare pair => Sys2Proof.Machine.execMiscompare pair s
  | .spareLoadComplete pair => Sys2Proof.Machine.execSpareLoadComplete pair s
  | .windowCommit col => Sys2Proof.Machine.execWindowCommit col s
  | .windowOverrun col => Sys2Proof.Machine.execWindowOverrun col s
  | .windowDeadline col => Sys2Proof.Machine.execWindowDeadline col s
  | .pairEnableWrite slot pair v => Sys2Proof.Machine.execPairEnableWrite slot pair v s
  | .drainLoadComplete pair => Sys2Proof.Machine.execDrainLoadComplete pair s
  | .requalify slot pair v => Sys2Proof.Machine.execRequalify slot pair v s
  | .requalifyComplete pair pass => Sys2Proof.Machine.execRequalifyComplete pair pass s
  | .watchdogService v => Sys2Proof.Machine.execWatchdogService v s
  | .watchdogHalfPeriod => Sys2Proof.Machine.execWatchdogHalfPeriod s
  | .keeperWatchdogExpiry => Sys2Proof.Machine.execKeeperWatchdogExpiry s
  | .keeperRestart => Sys2Proof.Machine.execKeeperRestart s
  | .keeperConfirm => Sys2Proof.Machine.execKeeperConfirm s
  | .touchScan caps => Sys2Proof.Machine.execTouchScan caps s
  | .periodicTimer pattern => Sys2Proof.Machine.execPeriodicTimer pattern s
  | .combPoll pattern zone => Sys2Proof.Machine.execCombPoll pattern zone s
  | .startRequest => Sys2Proof.Machine.execStartRequest s
  | .lfEngineGrant vlfMv peaks => Sys2Proof.Machine.execLfEngineGrant vlfMv peaks s
  | .lfShort channel => Sys2Proof.Machine.execLfShort channel s
  | .patternEnd => Sys2Proof.Machine.execPatternEnd s
  | .patternTableWrite slot data => Sys2Proof.Machine.execPatternTableWrite slot data s
  | .wakeIdWrite slot v => Sys2Proof.Machine.execWakeIdWrite slot v s
  | .lfChannelEnableWrite slot channel v => Sys2Proof.Machine.execLfChannelEnableWrite slot channel v s
  | .transponderTransaction => Sys2Proof.Machine.execTransponderTransaction s
  | .fieldChargeComplete => Sys2Proof.Machine.execFieldChargeComplete s
  | .transponderAnswer answer => Sys2Proof.Machine.execTransponderAnswer answer s
  | .transponderAnswerTimeout => Sys2Proof.Machine.execTransponderAnswerTimeout s
  | .lockEnd record => Sys2Proof.Machine.execLockEnd record s
  | .sessionTimeout => Sys2Proof.Machine.execSessionTimeout s
  | .driverDoorOpen => Sys2Proof.Machine.execDriverDoorOpen s
  | .slrHalfPeriod padA padB => Sys2Proof.Machine.execSlrHalfPeriod padA padB s
  | .accessSignalRefresh => Sys2Proof.Machine.execAccessSignalRefresh s
  | .answerPeriodOpen => Sys2Proof.Machine.execAnswerPeriodOpen s
  | .uwbAnswerReceived answerSlot atPs frame => Sys2Proof.Machine.execUwbAnswerReceived answerSlot atPs frame s
  | .answerSlotEnd answerSlot ports => Sys2Proof.Machine.execAnswerSlotEnd answerSlot ports s
  | .repoll => Sys2Proof.Machine.execRepoll s
  | .exchangeStart sent => Sys2Proof.Machine.execExchangeStart sent s
  | .uwbRrespReceived received sts phase => Sys2Proof.Machine.execUwbRrespReceived received sts phase s
  | .foragerAnswer index sent received polarity => Sys2Proof.Machine.execForagerAnswer index sent received polarity s
  | .uwbRreportReceived frame received => Sys2Proof.Machine.execUwbRreportReceived frame received s
  | .uwbAckReceived frame received => Sys2Proof.Machine.execUwbAckReceived frame received s
  | .uwbFrameTimeout => Sys2Proof.Machine.execUwbFrameTimeout s
  | .exchangeSlotEnd => Sys2Proof.Machine.execExchangeSlotEnd s
  | .roundEnd => Sys2Proof.Machine.execRoundEnd s
  | .uwbRangingSlot key zone => Sys2Proof.Machine.execUwbRangingSlot key zone s
  | .uwbFault => Sys2Proof.Machine.execUwbFault s
  | .uwbEnableWrite slot v => Sys2Proof.Machine.execUwbEnableWrite slot v s
  | .nfcFieldDetect => Sys2Proof.Machine.execNfcFieldDetect s
  | .nfcFieldLoss => Sys2Proof.Machine.execNfcFieldLoss s
  | .fieldDetRelease => Sys2Proof.Machine.execFieldDetRelease s
  | .nfcPoll cards => Sys2Proof.Machine.execNfcPoll cards s
  | .nfcCardResponse response => Sys2Proof.Machine.execNfcCardResponse response s
  | .nfcFwtTimeout => Sys2Proof.Machine.execNfcFwtTimeout s
  | .readerExchange apdu => Sys2Proof.Machine.execReaderExchange apdu s
  | .readerOfferTimeout => Sys2Proof.Machine.execReaderOfferTimeout s
  | .nfcEnableWrite slot v => Sys2Proof.Machine.execNfcEnableWrite slot v s
  | .tagActivation => Sys2Proof.Machine.execTagActivation s
  | .pps => Sys2Proof.Machine.execPps s
  | .tagSelect target => Sys2Proof.Machine.execTagSelect target s
  | .readBinary offset length => Sys2Proof.Machine.execReadBinary offset length s
  | .updateBinary offset data energyEnough => Sys2Proof.Machine.execUpdateBinary offset data energyEnough s
  | .tagWriteComplete => Sys2Proof.Machine.execTagWriteComplete s
  | .verify password => Sys2Proof.Machine.execVerify password s
  | .verifyBlockEnd readPassword => Sys2Proof.Machine.execVerifyBlockEnd readPassword s
  | .makerAuth publicKey signature => Sys2Proof.Machine.execMakerAuth publicKey signature s
  | .attestApdu nonce => Sys2Proof.Machine.execAttestApdu nonce s
  | .deselect => Sys2Proof.Machine.execDeselect s
  | .snapshotTimer => Sys2Proof.Machine.execSnapshotTimer s
  | .vaultLoad rq tag slot blob => Sys2Proof.Machine.execVaultLoad rq tag slot blob s
  | .vaultClear rq tag slot => Sys2Proof.Machine.execVaultClear rq tag slot s
  | .vaultGenerate rq tag klen usage owner meas keyId slot => Sys2Proof.Machine.execVaultGenerate rq tag klen usage owner meas keyId slot s
  | .vaultImport rq tag ephemeral header kwp => Sys2Proof.Machine.execVaultImport rq tag ephemeral header kwp s
  | .vaultRewrap rq tag blob stagedKeeper => Sys2Proof.Machine.execVaultRewrap rq tag blob stagedKeeper s
  | .vaultDerive rq tag label context klen usage owner meas slot => Sys2Proof.Machine.execVaultDerive rq tag label context klen usage owner meas slot s
  | .vaultReplace rq tag slot blob kcv => Sys2Proof.Machine.execVaultReplace rq tag slot blob kcv s
  | .replaceCommitted => Sys2Proof.Machine.execReplaceCommitted s
  | .vaultKcv rq tag slot => Sys2Proof.Machine.execVaultKcv rq tag slot s
  | .mkaKeys rq tag cak ckn ick kek => Sys2Proof.Machine.execMkaKeys rq tag cak ckn ick kek s
  | .mkaIcv rq tag ick mkpdu => Sys2Proof.Machine.execMkaIcv rq tag ick mkpdu s
  | .mkaUnwrap rq tag kek wrapped slot => Sys2Proof.Machine.execMkaUnwrap rq tag kek wrapped slot s
  | .mkaNewsak rq tag kek klen slot => Sys2Proof.Machine.execMkaNewsak rq tag kek klen slot s
  | .enrol slot index kind zones blob => Sys2Proof.Machine.execEnrol slot index kind zones blob s
  | .revokeKey slot keyId => Sys2Proof.Machine.execRevokeKey slot keyId s
  | .attest rq tag nonce algs => Sys2Proof.Machine.execAttest rq tag nonce algs s
  | .attestationNonceWrite slot nonce => Sys2Proof.Machine.execAttestationNonceWrite slot nonce s
  | .attestationReady => Sys2Proof.Machine.execAttestationReady s
  | .vaultAnswerRead => Sys2Proof.Machine.execVaultAnswerRead s
  | .vaultRestart => Sys2Proof.Machine.execVaultRestart s
  | .lcChallengeRead slot => Sys2Proof.Machine.execLcChallengeRead slot s
  | .provision slot cause fuses => Sys2Proof.Machine.execProvision slot cause fuses s
  | .fieldLock slot req => Sys2Proof.Machine.execFieldLock slot req s
  | .openDebug slot req => Sys2Proof.Machine.execOpenDebug slot req s
  | .reprovision slot req => Sys2Proof.Machine.execReprovision slot req s
  | .vendorReturn slot req => Sys2Proof.Machine.execVendorReturn slot req s
  | .refurbish slot req => Sys2Proof.Machine.execRefurbish slot req s
  | .scrap slot req => Sys2Proof.Machine.execScrap slot req s
  | .combKeyRevoke slot v => Sys2Proof.Machine.execCombKeyRevoke slot v s
  | .laneKeyWrite lane key3 key => Sys2Proof.Machine.execLaneKeyWrite lane key3 key s
  | .cipherLaneSlot lane => Sys2Proof.Machine.execCipherLaneSlot lane s
  | .cipherPassRequest req => Sys2Proof.Machine.execCipherPassRequest req s
  | .cipherBlockComplete lane miscompare => Sys2Proof.Machine.execCipherBlockComplete lane miscompare s
  | .cipherPassComplete lane reserved => Sys2Proof.Machine.execCipherPassComplete lane reserved s
  | .laneTestComplete lane pass => Sys2Proof.Machine.execLaneTestComplete lane pass s
  | .maskReseed lane trngGood => Sys2Proof.Machine.execMaskReseed lane trngGood s
  | .laneEncrypt req => Sys2Proof.Machine.execLaneEncrypt req s
  | .laneDecrypt req => Sys2Proof.Machine.execLaneDecrypt req s
  | .laneMacGenerate req => Sys2Proof.Machine.execLaneMacGenerate req s
  | .laneMacVerify req => Sys2Proof.Machine.execLaneMacVerify req s
  | .laneAnswerRead => Sys2Proof.Machine.execLaneAnswerRead s
  | .laneEnableWrite slot lane v => Sys2Proof.Machine.execLaneEnableWrite slot lane v s
  | .tamperTrip inputs => Sys2Proof.Machine.execTamperTrip inputs s
  | .holdOkReached mv => Sys2Proof.Machine.execHoldOkReached mv s
  | .loopCheck slot mask mismatched => Sys2Proof.Machine.execLoopCheck slot mask mismatched s
  | .tamperConfigWrite slot sub v => Sys2Proof.Machine.execTamperConfigWrite slot sub v s
  | .recordWrite writer area rtype id txn commit delete payload => Sys2Proof.Machine.execRecordWrite writer area rtype id txn commit delete payload s
  | .storeGrant => Sys2Proof.Machine.execStoreGrant s
  | .recordCopyComplete => Sys2Proof.Machine.execRecordCopyComplete s
  | .compactionSlice area => Sys2Proof.Machine.execCompactionSlice area s
  | .indexScan damage => Sys2Proof.Machine.execIndexScan damage s
  | .scanComplete micros => Sys2Proof.Machine.execScanComplete micros s
  | .counterUpdate counter n => Sys2Proof.Machine.execCounterUpdate counter n s
  | .snapshotReplace content => Sys2Proof.Machine.execSnapshotReplace content s
  | .mDataWrite slot data => Sys2Proof.Machine.execMDataWrite slot data s
  | .blockProtectWrite slot v => Sys2Proof.Machine.execBlockProtectWrite slot v s
  | .wDataWrite slot data => Sys2Proof.Machine.execWDataWrite slot data s
  | .readPasswordWrite slot password => Sys2Proof.Machine.execReadPasswordWrite slot password s
  | .writePasswordWrite slot password => Sys2Proof.Machine.execWritePasswordWrite slot password s
  | .setPasswords slot data => Sys2Proof.Machine.execSetPasswords slot data s
  | .odSessionOpen transport endpoint => Sys2Proof.Machine.execOdSessionOpen transport endpoint s
  | .odSessionIdleTimeout slot => Sys2Proof.Machine.execOdSessionIdleTimeout slot s
  | .roleChallengeRead slot => Sys2Proof.Machine.execRoleChallengeRead slot s
  | .roleRequest slot role proof => Sys2Proof.Machine.execRoleRequest slot role proof s
  | .roleBlockEnd endpoint => Sys2Proof.Machine.execRoleBlockEnd endpoint s
  | .objectWrite slot index sub v => Sys2Proof.Machine.execObjectWrite slot index sub v s
  | .restoreDefaults slot v => Sys2Proof.Machine.execRestoreDefaults slot v s
  | .sdoInitiateDownload port index sub expedited size data => Sys2Proof.Machine.execSdoInitiateDownload port index sub expedited size data s
  | .sdoDownloadSegment port toggle last data => Sys2Proof.Machine.execSdoDownloadSegment port toggle last data s
  | .sdoInitiateUpload port index sub => Sys2Proof.Machine.execSdoInitiateUpload port index sub s
  | .sdoUploadSegment port toggle => Sys2Proof.Machine.execSdoUploadSegment port toggle s
  | .sdoBlockDownload port index sub segs unused crc => Sys2Proof.Machine.execSdoBlockDownload port index sub segs unused crc s
  | .sdoBlockUpload port index sub blockSize => Sys2Proof.Machine.execSdoBlockUpload port index sub blockSize s
  | .sdoAbort port code => Sys2Proof.Machine.execSdoAbort port code s
  | .sdoSegmentTimeout port => Sys2Proof.Machine.execSdoSegmentTimeout port s
  | .udpOpen port payload => Sys2Proof.Machine.execUdpOpen port payload s
  | .udpRead port sessionId seqNo index sub offset length tag => Sys2Proof.Machine.execUdpRead port sessionId seqNo index sub offset length tag s
  | .udpWrite port sessionId seqNo index sub offset data tag => Sys2Proof.Machine.execUdpWrite port sessionId seqNo index sub offset data tag s
  | .udpClose port sessionId seqNo tag => Sys2Proof.Machine.execUdpClose port sessionId seqNo tag s
  | .diagnosticSessionControl slot kind => Sys2Proof.Machine.execDiagnosticSessionControl slot kind s
  | .ecuReset slot kind => Sys2Proof.Machine.execEcuReset slot kind s
  | .testerPresent slot sub => Sys2Proof.Machine.execTesterPresent slot sub s
  | .readDataByIdentifier slot did => Sys2Proof.Machine.execReadDataByIdentifier slot did s
  | .routineControl slot routine op index sub offset length data => Sys2Proof.Machine.execRoutineControl slot routine op index sub offset length data s
  | .requestDownload slot format addrLen address length => Sys2Proof.Machine.execRequestDownload slot format addrLen address length s
  | .transferData slot counter data => Sys2Proof.Machine.execTransferData slot counter data s
  | .requestTransferExit slot => Sys2Proof.Machine.execRequestTransferExit slot s
  | .doipRoutingActivation port => Sys2Proof.Machine.execDoipRoutingActivation port s
  | .doipDisconnect slot => Sys2Proof.Machine.execDoipDisconnect slot s
  | .odWindowRead index sub => Sys2Proof.Machine.execOdWindowRead index sub s
  | .odWindowWrite index sub => Sys2Proof.Machine.execOdWindowWrite index sub s
  | .deviceReset slot v => Sys2Proof.Machine.execDeviceReset slot v s
  | .stateRequestRun slot => Sys2Proof.Machine.execStateRequestRun slot s
  | .stateRequestDoze slot => Sys2Proof.Machine.execStateRequestDoze slot s
  | .stateRequestSleep slot => Sys2Proof.Machine.execStateRequestSleep slot s
  | .keeperVotesWrite v => Sys2Proof.Machine.execKeeperVotesWrite v s
  | .padRelease v => Sys2Proof.Machine.execPadRelease v s
  | .wakeSenseThresholdWrite slot input v levelMv => Sys2Proof.Machine.execWakeSenseThresholdWrite slot input v levelMv s
  | .eventRingConfigWrite source entries v => Sys2Proof.Machine.execEventRingConfigWrite source entries v s
  | .vaoPowerUp => Sys2Proof.Machine.execVaoPowerUp s
  | .aoBrownout => Sys2Proof.Machine.execAoBrownout s
  | .brownoutRecovery => Sys2Proof.Machine.execBrownoutRecovery s
  | .aoReset fieldPresent => Sys2Proof.Machine.execAoReset fieldPresent s
  | .fieldPowerUp => Sys2Proof.Machine.execFieldPowerUp s
  | .wakeSenseRise input => Sys2Proof.Machine.execWakeSenseRise input s
  | .holdNLow low => Sys2Proof.Machine.execHoldNLow low s
  | .rtcAlarm => Sys2Proof.Machine.execRtcAlarm s
  | .wake code => Sys2Proof.Machine.execWake code s
  | .voteChange voter domain grant => Sys2Proof.Machine.execVoteChange voter domain grant s
  | .domainPowerOn domain => Sys2Proof.Machine.execDomainPowerOn domain s
  | .sleepEntry => Sys2Proof.Machine.execSleepEntry s
  | .sleepEntryStepComplete => Sys2Proof.Machine.execSleepEntryStepComplete s
  | .pllLossOfLock clock => Sys2Proof.Machine.execPllLossOfLock clock s
  | .pllLock clock => Sys2Proof.Machine.execPllLock clock s
  | .crystal32kStable => Sys2Proof.Machine.execCrystal32kStable s
  | .coldBoot cause sfdp => Sys2Proof.Machine.execColdBoot cause sfdp s
  | .warmBoot => Sys2Proof.Machine.execWarmBoot s
  | .bootStepComplete => Sys2Proof.Machine.execBootStepComplete s
  | .combRestore => Sys2Proof.Machine.execCombRestore s
  | .recoveryLoader => Sys2Proof.Machine.execRecoveryLoader s
  | .accessSequencerRestart => Sys2Proof.Machine.execAccessSequencerRestart s
  | .eventRecord source cls detail obj data => Sys2Proof.Machine.execEventRecord source cls detail obj data s
  | .eventRingWrite source => Sys2Proof.Machine.execEventRingWrite source s
  | .eventSummaryWindowClose detail key => Sys2Proof.Machine.execEventSummaryWindowClose detail key s
  | .deferredEventFlush => Sys2Proof.Machine.execDeferredEventFlush s
  | .portTestStart slot port => Sys2Proof.Machine.execPortTestStart slot port s
  | .portTestStop slot port => Sys2Proof.Machine.execPortTestStop slot port s
  | .testFrameCheck port frame crcGood => Sys2Proof.Machine.execTestFrameCheck port frame crcGood s
  | .portTestComplete port => Sys2Proof.Machine.execPortTestComplete port s
  | .serTestStart slot lane => Sys2Proof.Machine.execSerTestStart slot lane s
  | .serTestStop slot lane => Sys2Proof.Machine.execSerTestStop slot lane s
  | .lfLoopbackStart slot => Sys2Proof.Machine.execLfLoopbackStart slot s
  | .uwbLoopbackStart slot => Sys2Proof.Machine.execUwbLoopbackStart slot s
  | .nfcLoadCheckStart slot => Sys2Proof.Machine.execNfcLoadCheckStart slot s
  | .bistStart slot => Sys2Proof.Machine.execBistStart slot s
  | .bistComplete failing => Sys2Proof.Machine.execBistComplete failing s
  | .dramTestStart slot failing => Sys2Proof.Machine.execDramTestStart slot failing s
  | .debugHalt c => Sys2Proof.Machine.execDebugHalt c s
  | .debugStep c => Sys2Proof.Machine.execDebugStep c s
  | .debugRead c reg => Sys2Proof.Machine.execDebugRead c reg s
  | .jtagBypass => Sys2Proof.Machine.execJtagBypass s
  | .jtagIdcode => Sys2Proof.Machine.execJtagIdcode s
  | .jtagSamplePreload pads => Sys2Proof.Machine.execJtagSamplePreload pads s
  | .extestPulse => Sys2Proof.Machine.execExtestPulse s
  | .extestTrain => Sys2Proof.Machine.execExtestTrain s
  | .pnExhaustionTimeout port => Sys2Proof.Machine.execPnExhaustionTimeout port s
  | .busIntegrationComplete port => Sys2Proof.Machine.execBusIntegrationComplete port s
  | .wakeSenseFall input => Sys2Proof.Machine.execWakeSenseFall input s
  | .wtxExtensionEnd => Sys2Proof.Machine.execWtxExtensionEnd s
  | .prbsCheckerLock lane => Sys2Proof.Machine.execPrbsCheckerLock lane s
  | .prbsCheckerLossOfLock lane => Sys2Proof.Machine.execPrbsCheckerLossOfLock lane s
  | .lfLoopbackComplete peak => Sys2Proof.Machine.execLfLoopbackComplete peak s
  | .uwbLoopbackComplete delay => Sys2Proof.Machine.execUwbLoopbackComplete delay s
  | .nfcLoadCheckComplete current offset => Sys2Proof.Machine.execNfcLoadCheckComplete current offset s

end Sys2Proof.Machine
end

