-- ==== Sys2Proof/Machine/Time.lean ====
section
/-! DEFINITION. The clock of the always-on domain (R448, R449, R456): what one period of 32.768 kHz changes. -/

namespace Sys2Proof.Machine

/-- One period of the AO clock, while VAO is present: the real-time clock and its divider, the residency
counter of the state the device is in (R448), and the seconds left of a password block (R316). [log 2 DESIGN CHOICE; log 9 DESIGN CHOICE] -/
def aoPeriod (s : State) : State :=
  if s.pwr.vao then
    { s with
      clk := { s.clk with ao := s.clk.ao + 1 },
      store := if s.pwr.sub + 1 = 32768 then { s.store with
          verifyPw := { s.store.verifyPw with remaining := s.store.verifyPw.remaining - 1 },
          readPw := { s.store.readPw with remaining := s.store.readPw.remaining - 1 } }
        else s.store,
      pwr := { s.pwr with
        sub := (s.pwr.sub + 1) % 32768,
        rtc := if s.pwr.sub + 1 = 32768 then (s.pwr.rtc + 1) % 2 ^ 32 else s.pwr.rtc,
        resSleep := if s.pwr.hive then s.pwr.resSleep else (s.pwr.resSleep + 1) % 2 ^ 64,
        resRun := if s.pwr.hive ∧ runOrDoze s = 0 then (s.pwr.resRun + 1) % 2 ^ 64 else s.pwr.resRun,
        resDoze := if s.pwr.hive ∧ runOrDoze s = 1 then (s.pwr.resDoze + 1) % 2 ^ 64 else s.pwr.resDoze } }
  else s

end Sys2Proof.Machine
end

