-- ==== Sys2Proof/Safety.lean ====
section
/-! DEFINITION. What the statements mean by a well-formed state: the dictionary's maps in their one canonical form. -/

namespace Sys2Proof.Machine

/-- Keys strictly rising, each entry accepted by `ok`: the one canonical form of a map. -/
def mapWf {α : Type} (ok : Nat → α → Bool) : List (Nat × α) → Bool
  | [] => true
  | [(k, v)] => ok k v
  | (k, v) :: (k', v') :: rest => decide (k < k') && ok k v && mapWf ok ((k', v') :: rest)

/-- The scalar entries listed are those that differ from their defaults, in rising order. -/
def State.odWf (s : State) : Bool := mapWf (fun k v => v ≠ odDefault k) s.od

/-- The string entries listed are those that are not empty, in rising order. -/
def State.blobsWf (s : State) : Bool := mapWf (fun _ b => b ≠ []) s.blobs

/-- A command completes: `exec` answers a next state, of which `P` holds. -/
def Completes (c : Instr) (s : State) (P : State → Prop) : Prop := ∃ t, exec c s = .next t ∧ P t

/-- A write of `v` to an entry in the session of a slot passes checks 1 to 6 of R410, and stands for the number `n` or the
bytes `b`. -/
def WriteReady (s : State) (slot idx sb : Nat) (v : OdValue) (n : Nat) (b : Blob) : Prop :=
  ∃ x r, sessionAt s slot = some x ∧ allow s x true idx sb = .ok r ∧ typed r v = .ok (n, b) ∧
    (r.acc = .rws → ownerStopped s idx sb = true) ∧ stateOpen s idx sb = true ∧ inRange r n = true

/-- A write of `v` to an entry in a session's slot, by one command. Without a session nothing happens. Where a check of R410 refuses
it, or `cond` does not hold, the answer is the code. Where they pass for the number `n` and the bytes `b`, `eff` says what becomes
of it: a code, or the state, which the answer follows. Every answer is the session's last request. -/
def Writes (c : Instr) (slot idx sb : Nat) (v : OdValue) (cond : State → Bool) (eff : State → Nat → Blob → Except Nat (State → Prop)) : Prop :=
  ∀ s : State,
    let abort (e : Nat) : Prop := exec c s = .next { touchSession slot s with out := .odAbort slot e :: s.out }
    (sessionAt s slot = none → exec c s = .next s) ∧
    (∀ x e, sessionAt s slot = some x → checkedWrite s x idx sb v (cond s) (fun _ _ => .ok s) = .error e → abort e) ∧
    (∀ n b, WriteReady s slot idx sb v n b → cond s = true → match eff s n b with
      | .error e => abort e
      | .ok P => ∃ t, exec c s = .next { touchSession slot t with out := .odDone slot [] :: t.out } ∧ P t)

/-- The core can issue the instruction word `w`: no word at the program counter has an uncorrectable error, the program counter lies
in instruction memory, and the word the memory lists there, if any, spells the instruction. -/
def PfCore.offers (k : PfCore) (w : Word) : Prop :=
  k.badCode.contains k.pc = false ∧ (k.imem = 0 ∨ k.pc < k.imem ∨ k.codeAt.isSome = true) ∧ k.fetches w = true ∧
    k.codeAt.any reservedWord = false

/-- A core is about to issue the instruction word `w` with nothing in flight: it can issue, no write, REP, delay slot or load shadow
is under way, the core implements PF1.1, its divide unit is free and, on a worker, the whole snapshot has landed. -/
def Quiet (c : CoreId) (s : State) (w : Word) : Prop :=
  canIssue c s = true ∧ (coreOf c s).pend = [] ∧ (coreOf c s).rep = none ∧ (coreOf c s).slotTarget = none ∧
    (coreOf c s).prevLoad = none ∧ (coreOf c s).repWord = none ∧ (coreOf c s).offers w ∧ 0x11 ≤ (coreOf c s).isalvl.toNat ∧
    (∀ d, (coreOf c s).lastDiv = some d → d + 12 ≤ (coreOf c s).cyc) ∧
    ∀ p, c = .wp p → ∃ r, (pairAt s p).run = some r ∧ r.landed = (colAt s r.col).snap.length ∧
      r.landed ≤ 8 * ((coreOf c s).cyc - r.base)

/-- A core after an instruction of one cycle that has no other effect. -/
def PfCore.moved (k : PfCore) : PfCore :=
  { k with cyc := k.cyc + 1, pc := (k.pc + 1) % 2 ^ 32, prevLoad := none, waiting := false, debugStep := false }

/-- A core after an instruction with a result for `rd` that is written `d` cycles from its issue. -/
def PfCore.after (k : PfCore) (rd : Fin 32) (v : PfVal) (d : Nat) : PfCore :=
  { k.moved with pend := [⟨k.cyc + d - 1, .reg rd v.w⟩], status := k.status ||| v.flags }

/-- A core in load-delay mode after it has taken a trap (R235). -/
def PfCore.trapped (k : PfCore) (t : PfTrap) : PfCore :=
  { k with
    tpc := BitVec.ofNat 32 k.pc, tcode := BitVec.ofNat 32 t.code, tinfo := t.info, tstatus := k.status
    status := (k.status ||| stSup ||| stExl) &&& ~~~stIe, pc := k.tvec.toNat, prevLoad := none, resv := none
    waiting := false, debugStep := false, cyc := k.cyc + 1 }

/-- A core in exposed mode after a trap has ended its window (R238). -/
def PfCore.stopped (k : PfCore) (t : PfTrap) : PfCore :=
  { k with
    tpc := BitVec.ofNat 32 k.pc, tcode := BitVec.ofNat 32 t.code, tinfo := t.info, resv := none
    waiting := false, debugStep := false, cyc := k.cyc + 1 }

/-- A core in load-delay mode after a trap inside an exception has halted it (R236). -/
def PfCore.halts (k : PfCore) : PfCore := { k with halted := true, resv := none, waiting := false, debugStep := false }

/-- An instruction of a quiet core takes the trap `t` and does nothing else: outside an exception a core in load-delay mode enters
its handler, inside one it halts, the keeper, the vault and the access sequencer being reset; in exposed mode the window ends. -/
def Traps (c : CoreId) (s : State) (t : PfTrap) (i : Instr) : Prop :=
  ((coreOf c s).loadDelay = true → (coreOf c s).status.getLsbD 2 = false → exec i s = .next (modCore c (·.trapped t) s)) ∧
  ((coreOf c s).loadDelay = true → (coreOf c s).status.getLsbD 2 = true →
    exec i s = conclude s (let u := modCore c (·.halts) s
      match c with | .keeper => keeperReset 2 u | .vault => vaultRestart u | .access => accessRestart t.code u | .wp _ => u)) ∧
  ((coreOf c s).loadDelay = false →
    exec i s = conclude s (let u := modCore c (·.stopped t) s; match c with | .wp p => runTrapped p u | _ => u))

/-- What an instruction with one result does when its core is quiet and offers its word `w`: the result `r` for `rd` is written
`ex` cycles from the issue in exposed mode and `ld` in load-delay mode, with its flags in STATUS; where `r` is a trap, the core
takes it. -/
def Gives (c : CoreId) (s : State) (w : Word) (rd : Fin 32) (ex ld : Nat) (r : Except PfTrap PfVal) (i : Instr) : Prop :=
  Quiet c s w →
  (∀ v, r = .ok v → exec i s = .next (modCore c (fun k => k.after rd v (if k.loadDelay then ld else ex)) s)) ∧
  ∀ t, r = .error t → t.code ≠ 0x0B → Traps c s t i

/-- A word address in a core's own data memory: the keeper has 0x80000 words, a worker 32,768. -/
def OwnWord (c : CoreId) (a : Nat) : Prop :=
  match c with
  | .keeper => a < 0x80000
  | .wp _ => a < 32768
  | _ => True

/-- A core after a load of the word `w` into `rd` has issued, its data `slow` cycles later than fast memory's; a trap of the next
instruction discards it where `again`. -/
def PfCore.loading (k : PfCore) (rd : Fin 32) (w : PfWord) (slow : Nat) (again : Bool) : PfCore :=
  { k.moved with
    pend := [⟨k.cyc + (if k.loadDelay then 1 else 2) + slow, .load rd w⟩]
    prevLoad := if k.loadDelay then some (k.pc, again, ⟨k.cyc + 1 + slow, .load rd w⟩) else none }

/-- A core after a branch or a jump: in load-delay mode at the target, in exposed mode in the delay slot before it. -/
def PfCore.jumped (k : PfCore) (target : Option Nat) (flags : Word) : PfCore :=
  if k.loadDelay then { k.moved with pc := target.getD ((k.pc + 1) % 2 ^ 32), status := k.status ||| flags }
  else { k.moved with slotTarget := some (target.getD ((k.pc + 2) % 2 ^ 32)), status := k.status ||| flags }

/-- `t` is `s` after a store of `w` to word `a` of a core: no other word, no register and nothing outside the core changes,
but for the output staging of a worker's column. -/
def Stored (c : CoreId) (a : Nat) (w : PfWord) (s t : State) : Prop :=
  (∀ b, (coreOf c t).word b = if b = a then w else (coreOf c s).word b) ∧
  coreOf c t = { (coreOf c s).moved with
    mem := (coreOf c t).mem
    resv := if (coreOf c s).resv.map (·.1) = some a then none else (coreOf c s).resv } ∧
  t = { modCore c (fun _ => coreOf c t) s with pairs := t.pairs } ∧ ((∀ p, c ≠ .wp p) → t.pairs = s.pairs)

/-- `t` is reached from `s` by a transition that was carried out (R350, R352): the state, the record with the transition's own
cause, the epoch, and, where the row of R350 says so, the erase and a new share. -/
def Transition.carried (tr : Transition) (s t : State) : Prop :=
  t.lc.state = tr.target ∧ t.lc.challenge = none ∧ (t.lc.debugOpen = true ↔ tr.target = 3 ∨ tr.target = 4) ∧
  (∃ x, lcRecord t = some x ∧ x.state = tr.target ∧ x.cause = tr.cause ∧ x.epoch = s.fuse.epoch + tr.advance.toNat ∧
    x.share = (if tr.share then 1 else if tr.erase then 3 else ((lcRecord s).map (·.share)).getD 0) ∧
    x.seq = min ((((lcRecord s).map (·.seq)).getD 0) + 1) 0xFFFFFFFF ∧ x.prev = ((lcRecord s).map (·.state)).getD 0) ∧
  t.fuse.epoch = s.fuse.epoch + tr.advance.toNat ∧
  (tr.erase = true → t.vault.kd = none ∧ (∀ i, slotAt t i = none) ∧ t.vault.repl = [] ∧
    (∀ e ∈ t.lf.keys, e.key = none) ∧ (∀ l ∈ t.lanes.lane.toList, l.k0 = none ∧ l.k1 = none ∧ l.k2 = none ∧ l.k3 = none)) ∧
  (tr.erase = false → (∀ i, slotAt t i = slotAt s i) ∧ t.lf = s.lf ∧ t.lanes = s.lanes) ∧
  (tr.share = true → t.vault.aoShare.length = 32 ∧ t.vault.row.shA = some t.vault.aoShare ∧ t.vault.row.shB = some t.vault.aoShare) ∧
  (tr.erase = true → tr.share = false → rowShare t = none ∧ t.vault.aoShare = zeros 32) ∧
  t.pwr.bootDue = (if tr.cause = 0x02 then s.pwr.bootDue else some 5)

/-- A vault request of opcode `op` by requester `rq`. A requester that cannot ask changes nothing; one with its 4 places taken is
answered 0x13 at once. Any other is granted, and the queue's pointer moves past it; the lockstep compare lets it through, or, where
the rerun miscompares too, it answers 0x0C. Let through it has the status, the data and the state that `f` gives. -/
def Serves (c : Instr) (op : Nat) (rq : Fin 5) (tag : Byte) (f : State → Nat × Blob × State) : Prop :=
  ∀ s : State,
    let g := lockstep op { s with vault := { s.vault with pointer := (rq.val + 1) % 5 } }
    let answers (st : Nat) (d : Blob) (t : State) : Prop := exec c s = .next { vaultAnswer rq tag st d t with pending := s.pending }
    (mayRequest s rq = false → exec c s = .next s) ∧
    (mayRequest s rq = true → 4 ≤ placesTaken s rq → answers 0x13 [] s) ∧
    (mayRequest s rq = true → placesTaken s rq < 4 → g.1 = true → answers 0x0C [] g.2) ∧
    (mayRequest s rq = true → placesTaken s rq < 4 → g.1 = false → answers (f g.2).1 (f g.2).2.1 (f g.2).2.2)

/-- A request on an SDO channel of CAN port `n` (R414). Where the keeper serves the port, its line 2 is raised, a transfer under way on
the channel is aborted with 0x05040001, and the request has the effect `f` in the channel's session, or in one that opens in the lowest
free slot as INSPECT; with no slot free it is aborted with 0x05040005. Where the keeper does not serve the port nothing happens. -/
def SdoServed (c : Instr) (n : Fin 24) (f : Nat → Session → State → State) : Prop :=
  ∀ s : State,
    let act (t : State) : Prop := exec c s = .next { t with pending := s.pending }
    let fresh : Session := { transport := .sdo, endpoint := n, lastPs := nowPs s }
    let u : State := { s with keeper := { s.keeper with ipend := s.keeper.ipend ||| 4 } }
    let v : State := match (sdoAt s n).entry with
      | none => u
      | some (i, b) => { u with
          sess := { s.sess with sdo := vmod s.sess.sdo n fun _ => .none, sdoPs := vmod s.sess.sdoPs n fun _ => nowPs s }
          out := .sdo n (sdo8 ([0x80] ++ sdoMux i b ++ leBytes 4 0x05040001)) :: s.out }
    (odServes s = false ∨ canService s n = false → exec c s = .next s) ∧
    (odServes s = true → canService s n = true →
      (∀ i x, channelSlot s .sdo n = some i → (s.sess.slots[i]?).join = some x → act (f i x (touchSession i v))) ∧
      (∀ i, channelSlot s .sdo n = none → openSlot s = some i → act (f i fresh (putSession i (some fresh) v))) ∧
      (channelSlot s .sdo n = none → openSlot s = none → act { v with out := .sdo n (sdo8 ([0x80] ++ sdoMux 0 0 ++ leBytes 4 abFull)) :: v.out }))

/-- A message of a UDP session on Ethernet port `n` (R415), of this type, session ID, SEQ, payload and tag. Where the keeper serves
the port, its line 2 is raised; a session that is not open on the port is refused with 0x08000022, a tag that is not the message's
under the session key counted in 0x1033/04, and the message has the effect `f` in its session otherwise. Where the keeper does not
serve the port nothing happens. -/
def UdpServed (c : Instr) (n : Fin 24) (type id q : Nat) (p tag : Blob) (f : Nat → Session → State → State) : Prop :=
  ∀ s : State,
    let act (t : State) : Prop := exec c s = .next { t with pending := s.pending }
    let u : State := { s with keeper := { s.keeper with ipend := s.keeper.ipend ||| 4 } }
    (odServes s = false ∨ ethService s n = false → exec c s = .next s) ∧
    (odServes s = true → ethService s n = true →
      (udpSlot s n id = none → act { u with out := .udp n 6 id 0 (beBytes 4 abState) :: s.out }) ∧
      ∀ i x, udpSlot s n id = some (i, x) →
        (tag ≠ udpTag x.udpKey type id q p → act (countN (odKey 0x1033 4) 1 u)) ∧
        (tag = udpTag x.udpKey type id q p → act (f i x (touchSession i u))))

/-- A UDS request of service `sid` in a session of UDS or DoIP (R417), outside the recovery loader. It is answered with 0x11 where
its programming session does not serve it, and has the effect `f` otherwise; either way it is the session's last request. In no other
slot does anything happen. -/
def UdsServes (c : Instr) (slot : Fin 16) (sid : Byte) (f : Session → State → State) (s : State) : Prop :=
  let act (t : State) : Prop := exec c s = .next { t with pending := s.pending }
  (sessionAt s slot = none → exec c s = .next s) ∧
  ∀ x, sessionAt s slot = some x →
    (x.transport ≠ .uds → x.transport ≠ .doip → exec c s = .next s) ∧
    (x.transport = .uds ∨ x.transport = .doip →
      (x.diag = 2 ∧ sid = 0x22 → act { touchSession slot s with out := .uds slot [0x7F, sid, 0x11] :: s.out }) ∧
      (¬ (x.diag = 2 ∧ sid = 0x22) → act (f x (touchSession slot s))))

/-- A signed request of this transition (R351). Without a session nothing happens, and without access it is aborted. From a state
that the transition does not start from it is refused with 0x08000022, with another cause byte aborted with 0x06090030, and
without a challenge refused with 0x08000000. With one, the challenge is used up: where it is fresh and the proofs are good the
transition is carried out, otherwise it is refused with 0x08000000. Whether a signature verifies is a function of Config. -/
def Transition.signed (tr : Transition) (c : Fin 16 → LcRequest → Instr) : Prop :=
  ∀ (s : State) (slot : Fin 16) (q : LcRequest),
    let act (t : State) : Prop := exec (c slot q) s = .next { t with pending := s.pending }
    let abort (e : Nat) : Prop := exec (c slot q) s = .next { touchSession slot s with out := .odAbort slot e :: s.out }
    let refuse (e : Nat) (t : State) : Prop :=
      act (logEvent 8 clsSecurity 0 (odKey 0x2010 3) (leBytes 4 e) { touchSession slot t with out := .odAbort slot e :: t.out })
    (sessionAt s slot = none → exec (c slot q) s = .next s) ∧
    ∀ x, sessionAt s slot = some x →
      (∀ e, allow s x true 0x2010 3 = .error e → abort e) ∧
      ∀ r, allow s x true 0x2010 3 = .ok r →
        (s.lc.state ∉ tr.froms → refuse abState s) ∧
        (s.lc.state ∈ tr.froms → q.cause.toNat ≠ tr.cause → abort abRange) ∧
        (s.lc.state ∈ tr.froms → q.cause.toNat = tr.cause → s.lc.challenge = none → refuse abProof s) ∧
        ∀ ch, s.lc.challenge = some ch → s.lc.state ∈ tr.froms → q.cause.toNat = tr.cause →
          let u : State := { s with lc := { s.lc with challenge := some { ch with used := true } } }
          let msg := fuseUid ++ ch.bytes ++ leBytes 1 tr.target ++ leBytes 1 tr.cause
          let good := challengeFresh s ch = true ∧ ∃ ks ∈ tr.proofs, proofsGood s msg ks q.proofs = true
          (¬ good → refuse abProof u) ∧
          (good → act (let t := runTransition tr u; { touchSession slot t with out := .odDone slot [] :: t.out })) ∧
          (good → s.tamper.now = 0 → s.fuse.epoch < 32 →
            Completes (c slot q) s fun t => tr.carried s t ∧ t.out.head? = some (.odDone slot []))

end Sys2Proof.Machine
end

