-- ==== Sys2Proof/Certificates/Slice0/Obligations.lean ====
section
/-! DEFINITION. The statements about the model. -/

open Sys2Proof Sys2Proof.Machine

/-- A step runs the command at the front of the queue, first in, first out.
* For every command and state, a step with the command at the front of the queue is exec of it on the state with the queue's rest.
* A word spells no command, so placing a word changes nothing: the opcode table gives no row any bits. -/
def Obligations.StepRunsFront : Prop :=
  (∀ (c : Instr) (rest : List Instr) (s : State), step { s with pending := c :: rest } = exec c { s with pending := rest }) ∧
  (∀ (s : State) (nbits w : Nat), decodeTableWord nbits w = none ∧ s.withFetchWord nbits w = s)

/-- An empty queue lets one period of the AO clock pass (the model's choice, log entry 2), and what reset leaves.
* With the AO supply present the AO clock counts one period and its real-time clock a second after 32,768 of them (R448); without it nothing happens. That a step on an empty queue is such a period is the model's choice (log entry 2).
* Reset: no command waits; BLANK with every fuse field of the life cycle at 0; no active Comb; the cycle counters at 0; of each worker STATUS with SUP alone, COREID its number, every general register VOID and every descriptor without V; the dictionary's and the strings' maps empty, so every entry at its default. That reset is a device whose cold boot has ended is the model's choice (log entry 1). -/
def Obligations.IdleAndReset : Prop :=
  (∀ s : State, s.pending = [] →
      (s.pwr.vao = false → step s = .next s) ∧
      (s.pwr.vao = true → ∃ t, step s = .next t ∧ t.clk = { s.clk with ao := s.clk.ao + 1 } ∧ t.pwr.sub = (s.pwr.sub + 1) % 32768 ∧
        t.pwr.rtc = (if s.pwr.sub + 1 = 32768 then (s.pwr.rtc + 1) % 2 ^ 32 else s.pwr.rtc) ∧
        t.pwr.resRun + t.pwr.resDoze + t.pwr.resSleep ≤ s.pwr.resRun + s.pwr.resDoze + s.pwr.resSleep + 1 ∧
        t = { s with clk := t.clk, store := t.store, pwr := t.pwr })) ∧
  (State.reset.pending = [] ∧ State.reset.lc.state = 0 ∧ State.reset.fuse.epoch = 0 ∧ State.reset.fuse.prov = false ∧ State.reset.fuse.scrap = false ∧ State.reset.fuse.combRev = 0 ∧ State.reset.fuse.combPol = 0 ∧
      State.reset.comb.active = none ∧ (∀ p : Fin 16, State.reset.wp[p].cyc = 0 ∧ State.reset.wp[p].status = 1 ∧ (∀ i : Fin 32, State.reset.wp[p].g[i].tag = tVoid) ∧ State.reset.wp[p].coreid = BitVec.ofNat 32 p ∧ ∀ i : Fin 16, State.reset.wp[p].sg[i].getLsbD 0 = false) ∧
      State.reset.od = [] ∧ State.reset.blobs = [] ∧ State.reset.odWf = true ∧ State.reset.blobsWf = true ∧ ∀ k, val State.reset k = odDefault k)

/-- Every command of the table completes, whatever the state, so a queue of commands runs to its end.
* Every command answers a next state and leaves the queue's rest as it is.
* From every state as many steps as commands wait empty the queue, with no fault and no refusal; and running one queue after another is running their concatenation. -/
def Obligations.QueueRunsDry : Prop :=
  (∀ (c : Instr) (s : State), ∃ t, exec c s = .next t ∧ t.pending = s.pending) ∧
  ((∀ s : State, ∃ t, Host.Core.run core s.pending.length s = .next t ∧ t.pending = []) ∧
    (∀ (a b : List Instr) (s t : State), Host.Core.run core a.length { s with pending := a } = .next t → t.pending = [] ∧
      Host.Core.run core (a ++ b).length { s with pending := a ++ b } = Host.Core.run core b.length { t with pending := b }))

/-- Fuses only ever burn: over every step the epoch, PROV, SCRAP, the revocation bits and the hashes move one way.
* In every state whose fuse fields fit their widths (EPOCH at most 32 bits, COMB_REV 4, COMB_POL 2), a step leaves them fitting; the epoch never falls; PROV, SCRAP and every COMB_REV bit that is set stays set; the part and its stepping never change; and outside BLANK no step changes a key hash or COMB_POL. -/
def Obligations.FusesBurnOneWay : Prop :=
  (∀ s t : State, s.fuse.epoch ≤ 32 → s.fuse.combRev < 16 → s.fuse.combPol < 4 → step s = .next t →
      t.fuse.epoch ≤ 32 ∧ t.fuse.combRev < 16 ∧ t.fuse.combPol < 4 ∧
      s.fuse.epoch ≤ t.fuse.epoch ∧
      (s.fuse.prov = true → t.fuse.prov = true) ∧ (s.fuse.scrap = true → t.fuse.scrap = true) ∧
      (∀ i, s.fuse.combRev.testBit i = true → t.fuse.combRev.testBit i = true) ∧
      t.fuse.part = s.fuse.part ∧ t.fuse.stepping = s.fuse.stepping ∧
      (s.lc.state ≠ 0 → t.fuse.makerKh = s.fuse.makerKh ∧ t.fuse.debugKh = s.fuse.debugKh ∧ t.fuse.combKh = s.fuse.combKh ∧ t.fuse.combPol = s.fuse.combPol))

/-- MKP, LDP and STP: segment words made and used.
* MKP makes a SEG word of the segment number and of the offset of R215 modulo 2^28, whatever the segment's limit; a VOID base traps with 0x01, another that is no integer with 0x03.
* The address of LDP and STP: segment and offset of a SEG base, the sign-extended off12 added modulo 2^28, then the checks of R215 in their order; a VOID base is 0x01, another that is not SEG is 0x03.
* LDP and STP go to that address; a failed check traps with its code and nothing is read or written; an sg field that is not 0 is illegal (0x0B). -/
def Obligations.SegmentWords : Prop :=
  (∀ (c : CoreId) (rd ra : Fin 32) (sg : Fin 16) (off : BitVec 12) (s : State),
      let w := (coreOf c s).g[ra]
      Gives c s (encM 0x16 rd ra sg off.toNat) rd 1 1
        (if w.tag = tVoid then .error ⟨0x01, 0⟩ else if isInteger w.tag = true then .ok { w := segWord sg (unsignedOf 28 (w.num + off.toInt)) }
         else .error ⟨0x03, 0⟩) (.pfMkp c rd ra sg off)) ∧
  (∀ (k : PfCore) (need : Need) (ra : Fin 32) (off : BitVec 12),
      let d := k.sg[k.g[ra].val.toNat / 2 ^ 28 % 16]
      let o : Nat := (((k.g[ra].val.toNat % 2 ^ 28 : Nat) : Int) + off.toInt).emod (2 ^ 28) |>.toNat
      let right := match need with | .load => d.getLsbD 1 | .store => d.getLsbD 2 | .atomic => d.getLsbD 4
      addressSeg k need ra off =
        if k.g[ra].tag = tVoid then .error ⟨0x01, 0⟩
        else if k.g[ra].tag ≠ tSeg then .error ⟨0x03, 0⟩
        else if d.getLsbD 0 = false then .error ⟨0x07, BitVec.ofNat 32 o⟩
        else if bitsOf d.toNat 31 8 < o then .error ⟨0x05, BitVec.ofNat 32 o⟩
        else if right = false ∨ (k.user = true ∧ d.getLsbD 3 = false) then .error ⟨0x06, BitVec.ofNat 32 o⟩
        else .ok ((bitsOf d.toNat 63 32 + o) % 2 ^ 32)) ∧
  (∀ (c : CoreId) (rd ra : Fin 32) (sg : Fin 16) (off : BitVec 12) (s : State),
      let w (op : Nat) : Word := encM op rd ra 0 off.toNat
      let bad (op : Nat) (i : Instr) : Prop := Quiet c s (encM op rd ra sg off.toNat) →
        Traps c s ⟨0x0B, (coreOf c s).codeAt.getD (encM op rd ra sg off.toNat)⟩ i
      (Quiet c s (w 0x12) → ∀ a, OwnWord c a → addressSeg (coreOf c s) .load ra off = .ok a →
        exec (.pfLdp c rd ra 0 off) s = .next (modCore c (·.loading rd ((coreOf c s).word a) 0 true) s)) ∧
      (Quiet c s (w 0x13) → ∀ a, OwnWord c a → addressSeg (coreOf c s) .store ra off = .ok a →
        ((coreOf c s).g[rd].tag ≠ tVoid → Completes (.pfStp c rd ra 0 off) s fun t => Stored c a (coreOf c s).g[rd] s t) ∧
        ((coreOf c s).g[rd].tag = tVoid → Traps c s ⟨0x01, 0⟩ (.pfStp c rd ra 0 off))) ∧
      (∀ t, addressSeg (coreOf c s) .load ra off = .error t → Quiet c s (w 0x12) → Traps c s t (.pfLdp c rd ra 0 off)) ∧
      (∀ t, addressSeg (coreOf c s) .store ra off = .error t → Quiet c s (w 0x13) → Traps c s t (.pfStp c rd ra 0 off)) ∧
      (sg ≠ 0 →
        bad 0x12 (.pfLdp c rd ra sg off) ∧ bad 0x13 (.pfStp c rd ra sg off)))

/-- Every access to the dictionary is checked in the order of R410, a refused one changes nothing, and what roles may write.
* The order of a write's checks: existence and role, the access code, the type, the state, the range, and only then the entry's own effect.
* A refused write answers its abort code and changes nothing else but the time of the session's last request; without a session nothing happens at all.
* Access admits a write only of an entry that exists and is not RO or CONST, in a role whose bit its mask has; INSPECT writes only 0x1020/02 and 0x2340/01; only slot 15 writes a "Keeper firmware only" entry, which does not exist for others where its reads are the keeper's too. -/
def Obligations.EntryChecks : Prop :=
  (∀ (s : State) (x : Session) (idx sb : Nat) (v : OdValue) (cond : Bool) (eff : Nat → Blob → Access),
      checkedWrite s x idx sb v cond eff =
        match allow s x true idx sb with
        | .error e => .error e
        | .ok r => match typed r v with
          | .error e => .error e
          | .ok (n, b) =>
            if (r.acc = .rws ∧ ownerStopped s idx sb = false) ∨ cond = false ∨ stateOpen s idx sb = false then .error abState
            else if inRange r n = false then .error abRange
            else eff n b) ∧
  (∀ (s : State) (slot idx sb : Nat) (v : OdValue) (cond : Bool) (eff : Session → Nat → Blob → Access),
      (sessionAt s slot = none → writeEntry slot idx sb v cond eff s = s) ∧
      (∀ x e, sessionAt s slot = some x → checkedWrite s x idx sb v cond (eff x) = .error e → writeEntry slot idx sb v cond eff s = { touchSession slot s with out := .odAbort slot e :: s.out })) ∧
  (∀ (s : State) (x : Session) (idx sb : Nat),
      (∀ r, allow s x true idx sb = .ok r → entryRow idx sb = some r ∧ r.acc ≠ .ro ∧ r.acc ≠ .const ∧ (r.keeperWr = true → x.isKeeper = true) ∧
        (r.keeperWr = false → r.wr.testBit x.role.bit = true ∧ (x.role = .inspect → (idx = 0x1020 ∧ sb = 2) ∨ (idx = 0x2340 ∧ sb = 1)))) ∧
      (∀ r, allow s x false idx sb = .ok r → entryRow idx sb = some r ∧ r.acc ≠ .wo ∧ (x.isKeeper = false → r.rd.testBit x.role.bit = true ∧ ¬ (r.keeperRd = true ∧ r.keeperWr = true))))

/-- The die-to-die link: flits that check, fail their CRC or fail their tag, in each direction; training; and a training that takes too long.
* A flit with a good CRC and a good tag under the session key clears the direction's failure mark and delivers its payload; nothing else changes.
* The first flit of a direction with a bad CRC marks the direction, asks for the replay, counts in 0x2180/03 and logs the case; nothing else changes.
* A second bad CRC in a row, or a bad tag on a good CRC, is a link-integrity tamper: tamper input 18 trips, and then a Hive-die reset with cause 4 is due.
* Training takes two 128-bit nonces, gives the link a session key from PAIR, sets it up with no failure marked, and changes nothing else. The order of the nonces, the empty label and the key's length are the model's (log 90).
* A link that has not trained within 2 ms is a link-integrity failure: tamper input 18 trips, and a reset with cause 4 is due.
* A flit on a link that is down, training or its timeout on one that is up, and any of them with the Hive die off change nothing. -/
def Obligations.LinkFlits : Prop :=
  (∀ (s : State) (toHive : Bool) (flit : BitVec 128) (k : Blob), s.link.up = true → s.pwr.hive = true → s.link.key = some k →
      let body := flit.extractLsb' 48 80
      let tag := flit.extractLsb' 16 32
      flit.extractLsb' 0 16 = Config.flitCrc body tag → tag = Config.flitTag k toHive body →
      exec (.dieToDieFlitReceived toHive flit) s = .next { s with
        link := if toHive then { s.link with failedToHive := false } else { s.link with failedToField := false }
        out := .flit toHive (Config.flitPayload k toHive body) :: s.out }) ∧
  (∀ (s : State) (toHive : Bool) (flit : BitVec 128), s.link.up = true → s.pwr.hive = true →
      flit.extractLsb' 0 16 ≠ Config.flitCrc (flit.extractLsb' 48 80) (flit.extractLsb' 16 32) →
      (if toHive then s.link.failedToHive else s.link.failedToField) = false →
      exec (.dieToDieFlitReceived toHive flit) s = .next (logEvent 15 clsMasked 0x000A (odKey 0x2180 3) [if toHive then 1 else 0, 0, 0, 0]
        { count (odKey 0x2180 3) s with
          link := if toHive then { s.link with failedToHive := true } else { s.link with failedToField := true }
          out := .flitReplay toHive :: s.out })) ∧
  (∀ (s : State) (toHive : Bool) (flit : BitVec 128), s.link.up = true → s.pwr.hive = true →
      let body := flit.extractLsb' 48 80
      let tag := flit.extractLsb' 16 32
      let intact : Prop := flit.extractLsb' 0 16 = Config.flitCrc body tag
      (¬ intact ∧ (if toHive then s.link.failedToHive else s.link.failedToField) = true ∨ intact ∧ ∀ k, s.link.key = some k → tag ≠ Config.flitTag k toHive body) →
      let u := tripInputs (BitVec.twoPow 32 18) { s with link := if toHive then { s.link with failedToHive := false } else { s.link with failedToField := false } }
      exec (.dieToDieFlitReceived toHive flit) s = .next { u with pwr := { u.pwr with bootDue := some 4 }, pending := s.pending }) ∧
  (∀ s : State, s.pwr.hive = true → s.link.up = false →
      exec .linkTraining s = .next { s with
        link := { up := true, key := some (kdf fusePair [] (bytesOf 16 (Config.random s.draws) ++ bytesOf 16 (Config.random (s.draws + 1))) 128), failedToHive := false, failedToField := false }
        draws := s.draws + 2 }) ∧
  (∀ s : State, s.pwr.hive = true → s.link.up = false →
      let u := tripInputs (BitVec.twoPow 32 18) s
      exec .linkTrainingTimeout s = .next { u with pwr := { u.pwr with bootDue := some 4 }, pending := s.pending }) ∧
  (∀ (s : State) (toHive : Bool) (flit : BitVec 128),
      (s.link.up = false ∨ s.pwr.hive = false → exec (.dieToDieFlitReceived toHive flit) s = .next s) ∧
      (s.link.up = true ∨ s.pwr.hive = false → exec .linkTraining s = .next s ∧ exec .linkTrainingTimeout s = .next s))

/-- Ticks, hyperperiod boundaries and the age clock: when the next tick begins, when the hyperperiod ends, what the steering is and what a boundary does.
* A tick first takes the hardware faults that have shown themselves, the cycles of the cores and the end of a load. Where the sequencer does not run or the boundary is due, nothing else happens; where the last tick ends or the hyperperiod, steered by k, ends within the tick in progress, the boundary is due with that k.
* Otherwise the next tick begins 1 us later at slot 0, with the occurrences that were expanded ahead; without an active Comb it is tick 0 again, and an armed bank that the spare check passes becomes active in it.
* A tick's cycles are 800 of each core that has power; a worker in a window is held to its own issues. A load that has ended goes to the verifier.
* What a fault of the hardware does. A corrected memory error is the event 0x0006 of the memory's owner, with the memory's code and the word's address. An uncorrectable one is the event 0x0027: a signal reads as FAULT, a stream in use is restored from its record, a word of a pair is a miscompare, a data word of another core reads as FAULT with payload 0, and an instruction word traps when it is fetched; a route or a PDU is reloaded, absent until then. A miscompare of the vault waits for its next request.
* At a boundary tick 0 begins where the steered hyperperiod ends, k slots after its length; the hyperperiod is counted, 0x3903/02 reads k, and a returned reference counts from then on. A bank armed for two ticks or more becomes active, or is VERIFIED again with code 0x0D.
* Without an active Comb, with no boundary due or with the sequencer stopped the command changes nothing. The steering is zero without a reference and where the device is its own CAN master, and never beyond the range of the Comb's header.
* The age clock counts modulo 2^18 while the Hive die is on, and nothing else changes; without the die nothing does. -/
def Obligations.TicksAndBoundaries : Prop :=
  (∀ (faults : List HwFault) (s : State),
      let u := loadEnds (tickCores (faults.foldl hwFault s))
      (sequencerOn u = false ∨ u.clk.boundaryDue = true → exec (.tick faults) s = .next { u with pending := s.pending }) ∧
      (∀ c, sequencerOn u = true → u.clk.boundaryDue = false → u.comb.active = some c →
        c.hyper ≤ u.clk.tick + 1 ∨ 64 * ((c.hyper : Int) - u.clk.tick) + steering u c ≤ 64 →
        exec (.tick faults) s = .next { u with clk := { u.clk with boundaryDue := true }, comb := { u.comb with dueK := steering u c }, pending := s.pending })) ∧
  (∀ (faults : List HwFault) (s : State),
      let u := loadEnds (tickCores (faults.foldl hwFault s))
      let next (n : Nat) : Clock := { u.clk with tickPs := u.clk.tickPs + 1000000, slot := 0, tick := n, ticks := u.clk.ticks + 1 }
      sequencerOn u = true → u.clk.boundaryDue = false →
      (∀ c, u.comb.active = some c → u.clk.tick + 1 < c.hyper → 64 < 64 * ((c.hyper : Int) - u.clk.tick) + steering u c →
        Completes (.tick faults) s fun t => t.clk = next (u.clk.tick + 1) ∧
          t.comb.now = u.comb.ahead1 ∧ t.comb.ahead1 = u.comb.ahead2 ∧
          t.comb.ahead2 = (if u.clk.tick + 3 < c.hyper then c.due (u.clk.tick + 3) else []) ∧ t.comb.active = some c ∧ t.pending = s.pending) ∧
      (u.comb.active = none → Completes (.tick faults) s fun t => t.clk = next 0 ∧ t.pending = s.pending ∧
        (u.comb.state ≠ .armed → t.comb.active = none) ∧
        ∀ d, u.comb.state = .armed → u.comb.standby = some d → spareCheck { u with clk := next 0 } d = none →
          t.comb.active = some d ∧ t.comb.now = d.due 0 ∨ d.hyper = 0)) ∧
  (∀ s : State,
      (s.pwr.hive = true → ∀ p : Fin 16, (pairAt s p).run = none → (tickCores s).wp[p].cyc = max s.wp[p].cyc (s.wp[p].cycMark + 800) ∧ (tickCores s).wp[p].cycMark = s.wp[p].cycMark + 800) ∧
      (s.pwr.hive = true → ∀ p : Fin 16, (pairAt s p).run ≠ none → (tickCores s).wp[p].cyc = s.wp[p].cyc) ∧
      (s.pwr.hive = true → (tickCores s).keeper.cyc = max s.keeper.cyc (s.keeper.cycMark + 800)) ∧ (s.pwr.hive = false → tickCores s = s) ∧
      tickCores s = { s with keeper := (tickCores s).keeper, vcore := (tickCores s).vcore, acore := (tickCores s).acore, wp := (tickCores s).wp } ∧
      (s.comb.state = .loading → s.kpr.running = true → (loadEnds s).comb = { s.comb with state := .verifying }) ∧
      (s.comb.state ≠ .loading ∨ s.kpr.running = false → loadEnds s = s)) ∧
  (∀ (s : State) (m : MemWord),
      let event (cls code : Nat) : State := logEvent (memPlace m).1 cls code 0 (leBytes 1 (memPlace m).2.1 ++ leBytes 3 (memPlace m).2.2) s
      let bad : State := event clsUnmasked 0x27
      let reload (pdu : Bool) (i : Nat) : State := if reloadingEntry s pdu i = true then s else { s with sig := { s.sig with reloading := s.sig.reloading ++ [(pdu, i)] } }
      hwFault s (.memory m false) = event clsMasked 6 ∧
      hwFault s (.memory m true) = (match m with
        | .route i => reload false i
        | .pdu i => reload true i
        | .signal i => sigPoison i bad
        | .stream j => if (streamAt s j).state = 0 then bad else activateStream j (streamAt s j).transmit (putStream j {} bad)
        | .data (.wp p) _ => miscompare p bad
        | .code (.wp p) _ => miscompare p bad
        | .data c w => modCore c (fun k => k.putWord w ⟨tFault, 0⟩) bad
        | .code c w => modCore c (fun k => { k with badCode := if k.badCode.contains w = true then k.badCode else k.badCode ++ [w] }) bad
        | _ => bad) ∧
      hwFault s .vaultMiscompare = { s with vault := { s.vault with upset := s.vault.upset + 1 } }) ∧
  (∀ (s : State) (c : Comb), s.comb.active = some c → s.clk.boundaryDue = true → sequencerOn s = true →
      Completes .hyperperiodBoundary s fun t =>
        t.clk = { s.clk with
          tickPs := ((s.clk.tickPs : Int) + (64 * ((c.hyper : Int) - s.clk.tick) + s.comb.dueK) * 15625).toNat
          slot := 0, tick := 0, ticks := s.clk.ticks + 1, hyper := s.clk.hyper + 1, boundaryDue := false } ∧
        t.comb.lastK = s.comb.dueK ∧ t.pending = s.pending ∧
        (s.comb.state ≠ .armed ∨ s.comb.armTicks < 2 → t.comb.active = some c ∧ t.comb.tickState = (if s.comb.refBack then 1 else s.comb.tickState) ∧ t.comb.refBack = false ∧
          t.comb.phasePs = s.comb.phasePs - s.comb.dueK * 15625) ∧
        (∀ d, s.comb.state = .armed → 2 ≤ s.comb.armTicks → s.comb.standby = some d →
          t.comb.active = some d ∨ t.comb.active = some c ∧ t.comb.state = .verified ∧ t.comb.refusal = 0x0D)) ∧
  (∀ (s : State) (c : Comb),
      (s.comb.active = none ∨ s.clk.boundaryDue = false ∨ sequencerOn s = false → exec .hyperperiodBoundary s = .next s) ∧
      (s.comb.tickState ≠ 1 → s.comb.refBack = false → steering s c = 0) ∧ (c.tsrc = 2 → (portAt s c.tref).can.refState = 4 → steering s c = 0) ∧
      -(c.p : Int) ≤ steering s c ∧ steering s c ≤ c.p) ∧
  (∀ s : State,
      (s.pwr.hive = true → exec .ageClockAdvance s = .next { s with sig := { s.sig with age := (s.sig.age + 1) % 262144 } }) ∧
      (s.pwr.hive = false → exec .ageClockAdvance s = .next s))

/-- The reference, the rescan and the standby bank: loading, verifying, arming and cancelling, and the minimum generation.
* A rescan that ends leaves on the free list every cell that no queue, staging or transit holds, counts the rest as allocated and takes the credits from what the sources hold; the Comb and the clock go on. Without a rescan nothing changes.
* A lost reference: a steered Comb, or one in holdover whose reference was back, goes into holdover with an event; a return that was awaited is void.
* The holdover limit has passed: 0x3903/01 reads 3, an event is logged, and the Comb keeps running; elsewhere nothing changes.
* The reference of the active Comb is back: 0x3903/01 keeps reading 2 or 3 until the next boundary. A return without the source, or without a loss, changes nothing.
* A write of an image to an EMPTY, VERIFIED or REFUSED standby bank is taken: the bank is LOADING, without a standby Comb; the active Comb runs on. In another state it is refused.
* A verifier outside a restore ends with the bank VERIFIED, ARMED or REFUSED as its checks say: an accepted image stands in the standby bank with no refusal code, armed where the keeper asked for it, a refused one is dropped with its code. The active Comb runs on. Whether its signatures verify is a function of Config. With no image in the verifier, or the keeper not running, nothing changes.
* A write of 1 arms a VERIFIED bank outside SLEEP entry, and one of 2 takes an ARMED bank back to VERIFIED; elsewhere they are refused. Nothing else changes but the keeper's line 4.
* A write of a minimum generation from the present one up to that of the active Comb (0 without one) is kept; a lower or a higher one is out of range. -/
def Obligations.ReferenceAndStandby : Prop :=
  (∀ s : State,
      (s.fab.rescan = true → cellsHeld s ≤ 131072 →
        Completes .rescanComplete s fun t => t.fab.rescan = false ∧ t.fab.freeCells = 131072 - cellsHeld s ∧
          t.fab.allocCells = cellsHeld s ∧ t = { s with fab := t.fab, od := t.od, evt := t.evt } ∧
          (∀ e ∈ creditImbalances { s with fab := { s.fab with rescan := false } }, (queueAt t e.1).credits = creditsHeld s e.1)) ∧
      (s.fab.rescan = false → exec .rescanComplete s = .next s)) ∧
  (∀ s : State,
      (s.comb.tickState = 1 ∨ s.comb.tickState = 2 ∧ s.comb.refBack = true →
        exec .referenceLost s = .next (logEvent 1 clsState 2 (odKey 0x3903 1) [] { s with comb := { s.comb with tickState := 2, refBack := false } })) ∧
      (s.comb.tickState ≠ 1 → s.comb.tickState ≠ 2 ∨ s.comb.refBack = false →
        exec .referenceLost s = .next { s with comb := { s.comb with refBack := false } })) ∧
  (∀ s : State,
      (s.comb.tickState = 2 → s.comb.refBack = false →
        exec .holdoverExceeded s = .next (logEvent 1 clsState 3 (odKey 0x3903 1) [] { s with comb := { s.comb with tickState := 3 } })) ∧
      (s.comb.tickState ≠ 2 ∨ s.comb.refBack = true → exec .holdoverExceeded s = .next s)) ∧
  (∀ s : State,
      (∀ c, s.comb.active = some c → s.comb.tickState = 2 ∨ s.comb.tickState = 3 → referencePresent s c = true →
        exec .referenceReturn s = .next { s with comb := { s.comb with refBack := true } }) ∧
      (s.comb.active = none ∨ (∃ c, s.comb.active = some c ∧ referencePresent s c = false) ∨ s.comb.tickState < 2 ∨ 3 < s.comb.tickState →
        exec .referenceReturn s = .next s)) ∧
  (∀ (slot : Fin 16) (image : Blob), Writes (.standbyImageLoad slot image) slot 0x3902 1 (.bytes image) (fun _ => true) fun s _ b =>
      match s.comb.state with
      | .empty | .verified | .refused => .ok fun t => t = { s with comb := t.comb, keeper := { s.keeper with ipend := s.keeper.ipend ||| BitVec.twoPow 32 4 } } ∧
        t.comb.state = .loading ∧ t.comb.image = b ∧ t.comb.standby = none ∧ t.comb.active = s.comb.active ∧ t.comb.activeImage = s.comb.activeImage ∧ t.comb.bank = s.comb.bank ∧
        t.comb.autoArm = false ∧ t.comb.restore = none ∧ t.comb.armTicks = 0
      | _ => .error abState) ∧
  (∀ s : State,
      (s.comb.state = .verifying ∨ s.comb.state = .loading → s.kpr.running = true → s.comb.restore = none →
        Completes .verifierDone s fun t => t = { s with comb := t.comb, evt := t.evt, keeper := t.keeper } ∧ t.comb.active = s.comb.active ∧ t.comb.autoArm = false ∧
          match verifyComb s s.comb.image with
          | none => t.comb.state = (if s.comb.autoArm then .armed else .verified) ∧ t.comb.refusal = 0 ∧ t.comb.detail = 0xFFFFFFFF ∧ t.comb.standby = some (parseComb s.comb.image) ∧ t.comb.image = s.comb.image
          | some (code, detail) => t.comb.state = .refused ∧ t.comb.refusal = code ∧ t.comb.detail = detail ∧ t.comb.standby = none ∧ t.comb.image = []) ∧
      ((s.comb.state ≠ .verifying ∧ s.comb.state ≠ .loading) ∨ s.kpr.running = false → exec .verifierDone s = .next s)) ∧
  (∀ slot : Fin 16,
      let bank (st : BankState) (s : State) : State := { s with
        comb := { s.comb with state := st, armTicks := 0 }, keeper := { s.keeper with ipend := s.keeper.ipend ||| BitVec.twoPow 32 4 } }
      Writes (.swapArm slot) slot 0x3902 2 (numFor 0x3902 2 1) (fun _ => true) (fun s n _ =>
        if n = 1 then (if s.comb.state = .verified ∧ s.pwr.entry = none then .ok (· = bank .armed s) else .error abState)
        else if n = 2 then (if s.comb.state = .armed then .ok (· = bank .verified s) else .error abState) else .error abRange) ∧
      Writes (.swapCancel slot) slot 0x3902 2 (numFor 0x3902 2 2) (fun _ => true) (fun s n _ =>
        if n = 1 then (if s.comb.state = .verified ∧ s.pwr.entry = none then .ok (· = bank .armed s) else .error abState)
        else if n = 2 then (if s.comb.state = .armed then .ok (· = bank .verified s) else .error abState) else .error abRange)) ∧
  (∀ (slot : Fin 16) (v : Nat), Writes (.minGenerationWrite slot v) slot 0x3904 1 (numFor 0x3904 1 v) (fun _ => true) fun s n _ =>
      if val s (odKey 0x3904 1) ≤ n ∧ n ≤ (s.comb.active.map (·.generation)).getD 0 then
        .ok fun t => t = { s with od := t.od, store := t.store } ∧ val t (odKey 0x3904 1) = n ∧ ∀ k, k ≠ odKey 0x3904 1 → k ≠ odKey 0x2200 7 → val t k = val s k
      else .error abRange)

/-- The keeper's watchdog, its restart and the confirmation of its slot.
* The keeper's own session services the watchdog: the period begins anew, and nothing else changes.
* Half the period of 0x3B20/05 without a service sets interrupt line 0 of the keeper; earlier, or with the keeper not running, nothing changes.
* A missed period resets the keeper alone, with cause 1, counted in 0x3B20/03: every session of a transport ends, and the fabric, the pairs, the signal store, the clock and the active Comb are untouched and no port changes its state. Earlier, or with the keeper not running, nothing changes.
* A keeper that restarts runs the slot of R462, with the settings now stored in force and its watchdog and confirmation times begun; an image that was in the verifier outside a restore is refused with 0x0E; the active Comb runs on. A keeper that runs or is in recovery, a boot under way and a Hive die without power make it do nothing.
* 10 s after its start without a reset, with no boot and no restore under way, the slot the keeper runs from is confirmed; nothing else changes. Earlier nothing does. -/
def Obligations.KeeperLife : Prop :=
  (∀ v : Nat, Writes (.watchdogService v) 15 0x3B20 6 (numFor 0x3B20 6 v) (fun _ => true) fun s _ _ =>
      .ok (· = { s with kpr := { s.kpr with half := false, watchPs := nowPs s } })) ∧
  (∀ s : State,
      let due : Prop := s.kpr.running = true ∧ s.pwr.hive = true ∧ s.kpr.watchPs + val s (odKey 0x3B20 5) * 1000000000 / 2 ≤ nowPs s
      (due → exec .watchdogHalfPeriod s = .next { s with kpr := { s.kpr with half := true }, keeper := { s.keeper with ipend := s.keeper.ipend ||| BitVec.twoPow 32 0 } }) ∧
      (¬ due → exec .watchdogHalfPeriod s = .next s)) ∧
  (∀ s : State,
      let due : Prop := s.kpr.running = true ∧ s.pwr.hive = true ∧ s.kpr.watchPs + val s (odKey 0x3B20 5) * 1000000000 ≤ nowPs s
      (due → Completes .keeperWatchdogExpiry s fun t =>
        t.kpr.running = false ∧ t.kpr.lastCause = 1 ∧ t.keeper = { coreid := 0x10, imem := 0x80000, status := 9 } ∧
        val t (odKey 0x3B20 3) = min (val s (odKey 0x3B20 3) + 1) 0xFFFFFFFF ∧
        (∀ i : Fin 16, i.val < 15 → t.sess.slots[i] = none) ∧ t.sess.slots[(15 : Fin 16)] = some { transport := .keeperFirmware, endpoint := 32 } ∧
        t.fab = s.fab ∧ t.pairs = s.pairs ∧ t.sig = s.sig ∧ t.clk = s.clk ∧ t.comb.active = s.comb.active ∧ ∀ n : Fin 24, t.port[n].st = s.port[n].st) ∧
      (¬ due → exec .keeperWatchdogExpiry s = .next s)) ∧
  (∀ s : State,
      let due : Prop := s.kpr.running = false ∧ s.kpr.recovery = false ∧ s.pwr.hive = true ∧ s.pwr.boot = none
      (due → s.comb.restore = none → Completes .keeperRestart s fun t =>
        t.kpr.running = true ∧ t.kpr.lastStarted = restartSlot s ∧ t.kpr.half = false ∧ t.kpr.watchPs = nowPs s ∧ t.kpr.startPs = nowPs s ∧
        t.comb.active = s.comb.active ∧ t.sess.inForce = s.od.filter (fun e => atKeeperStart e.1) ∧ t.fab = s.fab ∧ t.port = s.port ∧ t.pairs = s.pairs ∧ t.sig = s.sig ∧ t.clk = s.clk ∧
        (s.comb.active = none → s.comb.state ≠ .verifying → s.comb.state ≠ .loading → t.comb = s.comb) ∧
        (s.comb.active = none → s.comb.state = .verifying ∨ s.comb.state = .loading → t.comb.state = .refused ∧ t.comb.refusal = 0x0E ∧ t.comb.standby = none)) ∧
      (¬ due → exec .keeperRestart s = .next s)) ∧
  (∀ s : State,
      let due : Prop := s.kpr.running = true ∧ s.pwr.hive = true ∧ s.pwr.boot = none ∧ s.comb.restore = none ∧ s.kpr.startPs + 10000000000000 ≤ nowPs s
      (due → Completes .keeperConfirm s fun t =>
        t = { s with kpr := if s.kpr.lastStarted = 0 then { s.kpr with slotA := t.kpr.slotA } else { s.kpr with slotB := t.kpr.slotB } } ∧
        keeperSlot t s.kpr.lastStarted = (keeperSlot s s.kpr.lastStarted).map fun k => { k with confirmed := true }) ∧
      (¬ due → exec .keeperConfirm s = .next s))

/-- Fabric slots: what crosses, faults of a cell, matching, plane tests, the spill and mirror engines, the stall limit, pause refresh and their settings.
* A fabric slot within the tick carries its cells, in order, each with the faults that met it; the inputs' staging is filled again, idle Ethernet outputs start a frame, and the slot number steps by one. The Comb, the keeper, the vault and the fuses stand. Past the tick's last slot, or with the Hive die off, nothing changes.
* A cell staged at its input at the start of the slot before, alone on the fabric, with or without its reservation in this slot, both planes good and no fault, crosses: it is no longer staged, it stands in its output's queue, and its frame counts it.
* In degraded mode the first slot of a double slot carries nothing and the second what the first decided; with both planes out nothing is carried at all.
* The matches of an iteration are among the cells offered by inputs still free, to outputs still free, and no input and no output is in two of them.
* Of a cell whose frame is known, carried with both planes in service: without a fault it crosses; one bad header copy gives its plane a fault count and the cell crosses from the other; two different good copies count against plane A; a bad payload parity fails its plane and the cell stays to be sent again; with both header copies bad its frame ends.
* A write of 1 while a plane is out and no test runs, the boot's own included, starts the test, and changes nothing else; in other states it is refused, another value is out of range.
* A boot's self-test fails each plane that did not pass. A test on request makes the failed plane that passed, plane A first, wait for its return; with none passed the test reads failed. Without a test nothing changes.
* A DRAM slot of client 0 carries one tail write or one head read; where both are pending they alternate. A write takes the queue's oldest waiting cell to its DRAM segment; a read begins the transit of its first DRAM cell. Each moves its own pointer past the queue. Without a slot due, or with nothing pending, nothing changes.
* A cell read back arrives in the reserved cells of its queue, and one cell fewer is in flight. A good one logs nothing. The first uncorrectable one of its parity group is rebuilt and counted in 0x3821/01; a second loses both frames, counted in 0x3821/02. With nothing in transit nothing changes.
* A running port that holds a complete frame it could not send is declared down with cause 2; one that recovers likewise, an Ethernet one whatever it holds; one that is stopping flushes what remains. In every other case nothing changes.
* A running session takes a frame that passes its port in its direction, of an admitted class, into its queue with the time of its first byte, behind those that wait; another frame, or a session that does not run, changes nothing.
* In a DRAM slot of client 1 the oldest capture is written at the ring's write index, with its SEQ; both step, a full ring's oldest entry is overwritten and counted, and nothing else changes. Without a capture or a slot nothing does.
* The oldest capture, which found no slot in 64 us, is dropped and counted; with none waiting nothing changes.
* A write of 0 clears the high-water marks: those of the queues, of the CAN and LIN receive queues and of the headroom read 0; another value is out of range. Nothing else changes.
* A write of a pause grace is kept while the graces of the device with it stay within the headroom of 3,584 cells, and is out of range above.
* A write of a stall limit is kept; that of a GE or XG port exceeds the port's pause-watchdog limit by at least 10 ms, or is out of range.
* A GE or XG port that may pause sends each pause it holds again, with 0xFFFF quanta, once each; a port that holds none, or may not pause, sends nothing.
* Among n requesters with the pointer at one of them: the winner wants the resource, no requester from the pointer up to it in rising order (wrapping to 0) does, and there is no winner exactly where nobody wants it. The pointer then stands above the winner, wrapping from the highest to 0. -/
def Obligations.FabricSlots : Prop :=
  (∀ (s : State) (faults : List CellFault),
      (s.clk.slot < slotsNow s → s.pwr.hive = true →
        let cells := (slotCells s).1
        let crossing := (cells ++ (slotCells s).2.fab.double).map (·.2.2)
        let u := { (slotCells s).2 with fab := { (slotCells s).2.fab with ready := (List.range 32).map fun i => (i, offers (slotCells s).2 crossing i) } }
        let v := (List.range 32).foldl (fun s p => fillStaging p s) (cells.foldl (fun s m => carryCell faults m.1 m.2.2 s) u)
        exec (.fabricSlot faults) s = .next { startAll { v with clk := { v.clk with slot := v.clk.slot + 1 } } with pending := s.pending } ∧
        Completes (.fabricSlot faults) s fun t => t.clk = { s.clk with slot := s.clk.slot + 1 } ∧ t.comb = s.comb ∧ t.kpr = s.kpr ∧ t.vault = s.vault ∧ t.fuse = s.fuse) ∧
      (slotsNow s ≤ s.clk.slot ∨ s.pwr.hive = false → exec (.fabricSlot faults) s = .next s)) ∧
  (∀ (s : State) (i : Fin 32) (c : CellRef) (f : Frame), s.clk.slot < slotsNow s → s.pwr.hive = true → planeDown s = false →
      slotReservations s = [] ∨ slotReservations s = [(i.val, f.outPort, f.tc)] → s.fab.ready = [(i.val, [(c, f.outPort, f.tc)])] →
      s.fab.frames = [f] → c.frame = f.id → (fabPortAt s i).staging = [c] → (fabPortAt s i).arriving = [] → f.outPort = 29 → f.cells = 1 → f.crossed = 0 → f.ct = false → f.flushed = false → f.whole = true → c.idx = 0 → f.tc < 8 →
      (placeCell { s with fab := { s.fab with ready := [(i.val, [])] } } f.queue false).isSome →
      Completes (.fabricSlot []) s fun t => (fabPortAt t i).staging = [] ∧ (∃ g, frameAt t f.id = some g ∧ g.crossed = 1) ∧ (queueAt t f.queue).cells.any (fun e => e.1 == c) = true) ∧
  (∀ s : State,
      (planesDown s = true → (slotCells s).1 = []) ∧
      (planesDown s = false → planeDown s = true → s.clk.slot % 2 = 0 → (slotCells s).1 = [] ∧ (slotCells s).2.fab.double = (planSlot s).1) ∧
      (planesDown s = false → planeDown s = true → s.clk.slot % 2 = 1 → (slotCells s).1 = s.fab.double ∧ (slotCells s).2 = { s with fab := { s.fab with double := [] } }) ∧
      (planeDown s = false → slotCells s = planSlot s)) ∧
  (∀ (s : State) (all : List (Nat × List (CellRef × Nat × Nat))) (usedIn usedOut : List Nat),
      let m := matchRound s all usedIn usedOut
      (∀ x ∈ m, x.1 ∉ usedIn ∧ x.2.1 ∉ usedOut ∧ x.1 < 32 ∧ x.2.1 < 32 ∧ ∃ e ∈ all, e.1 = x.1 ∧ ∃ o ∈ e.2, o.1 = x.2.2 ∧ o.2.1 = x.2.1) ∧
      m.Pairwise fun x y => x.1 ≠ y.1 ∧ x.2.1 ≠ y.2.1) ∧
  (∀ (s : State) (i : Nat) (c : CellRef) (f : Frame) (e : CellFault) (faults : List CellFault), frameAt s c.frame = some f → planeDown s = false →
      (faults.find? (fun e => e.input.toNat == i) = none → carryCell faults i c s = crossCell i c s) ∧
      (faults.find? (fun e => e.input.toNat == i) = some e → 
        (e.badA = true → e.badB = false → e.parityA = false → e.parityB = false → carryCell faults i c s = crossCell i c (planeFault false f.outPort s)) ∧
        (e.badB = true → e.badA = false → e.parityA = false → e.parityB = false → carryCell faults i c s = crossCell i c (planeFault true f.outPort s)) ∧
        (e.badA = false → e.badB = false → e.parityA = false → e.parityB = false → e.differ = true → carryCell faults i c s = crossCell i c (planeFault false f.outPort s)) ∧
        (e.badA = false → e.badB = false → e.differ = false → e.parityA = true → e.parityB = false → carryCell faults i c s = failPlane false s) ∧
        (e.badA = false → e.badB = false → e.differ = false → e.parityA = false → e.parityB = true → carryCell faults i c s = failPlane true s) ∧
        (e.badA = true → e.badB = true → e.parityA = false → e.parityB = false → carryCell faults i c s = unrecoverable c.frame s))) ∧
  (∀ slot : Fin 16, Writes (.planeTestRequest slot) slot 0x3800 2 (numFor 0x3800 2 1) (fun _ => true) fun s n _ =>
      if n ≠ 1 then .error abRange
      else if planeDown s = true ∧ s.fab.planeTest ≠ 1 ∧ s.fab.bootTest = false then .ok (· = { s with fab := { s.fab with planeTest := 1 } }) else .error abState) ∧
  (∀ (s : State) (passA passB : Bool),
      (s.fab.bootTest = true → let u := { s with fab := { s.fab with bootTest := false } }
        let u := if passA then u else failPlane false u
        exec (.planeTestComplete passA passB) s = .next { (if passB then u else failPlane true u) with pending := s.pending }) ∧
      (s.fab.bootTest = false → s.fab.planeTest = 1 →
        exec (.planeTestComplete passA passB) s = .next { s with fab := { s.fab with
          planeTest := if (s.fab.planeA.failed && passA) || (s.fab.planeB.failed && passB) then 2 else 3
          planeA := { s.fab.planeA with returning := s.fab.planeA.returning || (s.fab.planeA.failed && passA) }
          planeB := { s.fab.planeB with returning := s.fab.planeB.returning || (!(s.fab.planeA.failed && passA) && (s.fab.planeB.failed && passB)) } } }) ∧
      (s.fab.bootTest = false → s.fab.planeTest ≠ 1 → exec (.planeTestComplete passA passB) s = .next s)) ∧
  (∀ s : State,
      let w := rrPick 256 s.fab.spillWPtr (wantsWrite s)
      let r := rrPick 256 s.fab.spillRPtr (wantsRead s)
      (dramSlotDue s 0 = false ∨ w = none ∧ r = none → exec .spillDramSlot s = .next s) ∧
      (∀ q, dramSlotDue s 0 = true → w = some q → r = none ∨ s.fab.spillReadNext = false →
        Completes .spillDramSlot s fun t => t = { s with fab := t.fab } ∧ t.fab.spillReadNext = true ∧ t.fab.spillWPtr = (q + 1) % 256 ∧ t.fab.spillRPtr = s.fab.spillRPtr ∧
          t.fab.spillUsed = s.fab.spillUsed + 1 ∧ t.fab.spillInFlight = s.fab.spillInFlight - 1 ∧ (queueAt t q).cells = firstPool Pool.toSpill .dram (queueAt s q).cells ∧
          ∀ j, j ≠ q → queueAt t j = queueAt s j) ∧
      (∀ q, dramSlotDue s 0 = true → r = some q → w = none ∨ s.fab.spillReadNext = true →
        Completes .spillDramSlot s fun t => t = { s with fab := t.fab, od := t.od, out := t.out, port := t.port } ∧ t.fab.spillReadNext = false ∧ t.fab.spillRPtr = (q + 1) % 256 ∧
          t.fab.spillWPtr = s.fab.spillWPtr ∧ t.fab.spillUsed = s.fab.spillUsed - 1 ∧ t.fab.spillInFlight = s.fab.spillInFlight + 1 ∧
          (sentHead s q = none → (queueAt t q).cells = firstPool (· == Pool.dram) .transit (queueAt s q).cells ∧ t.out = s.out))) ∧
  (∀ (s : State) (q : Fin 256),
      ((queueAt s q).cells.find? (·.2 == .transit) = none → ∀ bad, exec (.spillReadbackComplete q bad) s = .next s) ∧
      (∀ c, (queueAt s q).cells.find? (·.2 == .transit) = some c →
        let g := (((queueAt s q).dram.find? (·.1 == c.1)).map (·.2.1)).getD 0
        (Completes (.spillReadbackComplete q false) s fun t => t.fab.spillInFlight = s.fab.spillInFlight - 1 ∧
          (queueAt t q).cells = firstPool (· == Pool.transit) .reserved (queueAt s q).cells ∧ t = { s with fab := t.fab, port := t.port }) ∧
        (mapGet g (queueAt s q).groupLost = none → Completes (.spillReadbackComplete q true) s fun t => t.fab.spillInFlight = s.fab.spillInFlight - 1 ∧
          (queueAt t q).cells = firstPool (· == Pool.transit) .reserved (queueAt s q).cells ∧ t = { s with fab := t.fab, port := t.port, od := t.od, evt := t.evt } ∧
          val t (odKey 0x3821 1) = min (val s (odKey 0x3821 1) + 1) 0xFFFFFFFF) ∧
        (∀ other, mapGet g (queueAt s q).groupLost = some other → Completes (.spillReadbackComplete q true) s fun t =>
          frameAt t c.1.frame = none ∧ frameAt t other = none ∧ val t (odKey 0x3821 2) = min (val s (odKey 0x3821 2) + 1) 0xFFFFFFFF ∧ t.comb = s.comb ∧ t.sig = s.sig))) ∧
  (∀ (s : State) (p : Fin 24),
      let st := (portAt s p).st
      let loaded : Prop := (servedOrder s p).any (frameComplete s) = true ∨ (portAt s p).can.bufs ≠ [] ∨ (portAt s p).can.refBuf ≠ none ∨ (portAt s p).lin.resp ≠ []
      let due : Prop := (st = .running ∨ st = .busSleep) ∧ loaded ∨ st = .recovering ∧ (14 ≤ p.val ∨ loaded)
      (due → Completes (.stallLimitExpiry p) s fun t => (portAt t p).st = .down ∧ (portAt t p).flushing = true ∧ ((portAt t p).downCause = 2 ∨ (portAt t p).downCause = 4) ∧
        val t (pk p 4 4) = min (val s (pk p 4 4) + 1) 0xFFFFFFFF ∧ t.kpr = s.kpr ∧ t.vault = s.vault ∧ t.sig = s.sig ∧ t.clk = s.clk) ∧
      ((st = .stopping ∨ st = .pending) → loaded → (portAt s p).flushing = false → Completes (.stallLimitExpiry p) s fun t =>
        (portAt t p).st = st ∧ (portAt t p).flushing = true ∧ (portAt t p).can.bufs = [] ∧ (portAt t p).eth.tx = none ∧ t.comb = s.comb ∧ t.kpr = s.kpr) ∧
      (¬ due → ¬ ((st = .stopping ∨ st = .pending) ∧ loaded ∧ (portAt s p).flushing = false) → exec (.stallLimitExpiry p) s = .next s)) ∧
  (∀ (s : State) (m : Fin 8) (cap : MirrorCap),
      let here : Prop := (if val s (odKey (0x3810 + m) 2) = 0 then cap.inPort.val else cap.outPort.val) = val s (odKey (0x3810 + m) 1)
      let takes : Prop := (mirrorAt s m).st = .running ∧ here ∧ (val s (odKey (0x3810 + m) 3)).testBit cap.tc.val = true
      (takes → exec (.mirrorCapture m cap) s = .next { s with fab := { s.fab with mirrors := vmod s.fab.mirrors m fun x => { x with waiting := x.waiting ++ [(cap, nowNs s - cap.ago)] } } }) ∧
      (¬ takes → exec (.mirrorCapture m cap) s = .next s)) ∧
  (∀ (s : State) (m : Fin 8),
      (∀ cap time rest, (mirrorAt s m).waiting = (cap, time) :: rest → dramSlotDue s 1 = true →
        Completes (.mirrorEntryWrite m) s fun t => t = { s with fab := { s.fab with mirrors := t.fab.mirrors }, od := t.od } ∧ (mirrorAt t m).waiting = rest ∧
          (mirrorAt t m).seq = ((mirrorAt s m).seq + 1) % 4294967296 ∧ (mirrorAt t m).write = ((mirrorAt s m).write + 1) % max (val s (odKey (0x3810 + m) 5)) 1 ∧
          (mirrorAt t m).ring = mapPut (mirrorAt s m).write (mirrorEntry s m (mirrorAt s m).seq cap time) (mirrorAt s m).ring ∧ (mirrorAt t m).st = (mirrorAt s m).st ∧
          (∀ j : Fin 8, j ≠ m → mirrorAt t j = mirrorAt s j) ∧
          ∀ k, val t k = if odKey (0x3810 + m) 7 = k ∧ (mapGet (mirrorAt s m).write (mirrorAt s m).ring).isSome then min (val s k + 1) 0xFFFFFFFF else val s k) ∧
      ((mirrorAt s m).waiting = [] ∨ dramSlotDue s 1 = false → exec (.mirrorEntryWrite m) s = .next s)) ∧
  (∀ (s : State) (m : Fin 8),
      (∀ c rest, (mirrorAt s m).waiting = c :: rest →
        exec (.mirrorSkipTimeout m) s = .next (count (odKey (0x3810 + m) 9) { s with fab := { s.fab with mirrors := vmod s.fab.mirrors m fun x => { x with waiting := rest } } })) ∧
      ((mirrorAt s m).waiting = [] → exec (.mirrorSkipTimeout m) s = .next s)) ∧
  (∀ (slot : Fin 16) (v : Nat), Writes (.clearHighWater slot v) slot 0x3800 7 (numFor 0x3800 7 v) (fun _ => true) fun s n _ =>
      if n ≠ 0 then .error abRange else .ok fun t => t = { s with fab := { s.fab with headroomHigh := 0 }, od := t.od } ∧
        ∀ k, val t k = if (∃ f : Fin 32, k = odKey 0x3805 (f + 1)) ∨ (∃ p : Fin 14, k = pk p 6 3 ∨ k = pk p 6 4) then 0 else val s k) ∧
  (∀ (slot : Fin 16) (p : Fin 24) (v : Nat), Writes (.pauseGraceWrite slot p v) slot 0x3807 (p + 1) (numFor 0x3807 (p + 1) v) (fun _ => true) fun s n _ =>
      if graceSum (setVal (odKey 0x3807 (p + 1)) n s) ≤ 3584 then .ok (· = keepVal (odKey 0x3807 (p + 1)) n s) else .error 0x06090030) ∧
  (∀ (slot : Fin 16) (p : Fin 24) (v : Nat), Writes (.stallLimitWrite slot p v) slot 0x3808 (p + 1) (numFor 0x3808 (p + 1) v) (fun _ => true) fun s n _ =>
      if p.val < 18 ∨ val s (pk p 3 5) + 10 ≤ n then .ok (· = keepVal (odKey 0x3808 (p + 1)) n s) else .error 0x06090030) ∧
  (∀ (s : State) (p : Fin 24),
      (canPause s p = false ∨ (fabPortAt s p).pausedBy = [] → exec (.pauseRefreshTimer p) s = .next s) ∧
      (canPause s p = true → exec (.pauseRefreshTimer p) s =
        .next { (((fabPortAt s p).pausedBy.map fun q => pauseVector s p (q % 8)).eraseDups.foldl (fun u v => sendPause p v 0xFFFF u) s) with pending := s.pending }) ∧
      ∀ v, sendPause p v 0xFFFF s = if (portAt s p).eth.tx = none then count (pk p 3 8) { s with out := .pause p v 0xFFFF :: s.out }
        else modPort p (fun x => { x with eth := { x.eth with control := x.eth.control ++ [(v, 0xFFFF)] } }) s) ∧
  (∀ (n ptr : Nat) (want : Nat → Bool), ptr < n →
      (∀ w, rrPick n ptr want = some w → w < n ∧ want w = true ∧
        (ptr ≤ w → ∀ i, ptr ≤ i → i < w → want i = false) ∧ (w < ptr → (∀ i, ptr ≤ i → i < n → want i = false) ∧ ∀ i, i < w → want i = false)) ∧
      (rrPick n ptr want = none ↔ ∀ i, i < n → want i = false) ∧
      (∀ w, w < n → rrNext n w = if w + 1 = n then 0 else w + 1))

/-- A read of the signal store, stale or not (R110).
* A read returns the entry's VALUE unchanged, with TAG = STALE where EXP = 1, or where NOAGE = 0 and (EXPIRY - now) mod 2^18 is not in 1 to 65,535.
* A read of an entry whose TAG is VOID, FAULT or STALE returns that tag unchanged. -/
def Obligations.SignalReads : Prop :=
  (∀ (s : State) (i : Nat), sigTag (sigRaw s i) ∉ [0, 0xE, 0xF] →
      (sigRead s i).val = sigValue (sigRaw s i) ∧
      ((sigExp (sigRaw s i) = true ∨ (sigNoAge (sigRaw s i) = false ∧
          ¬(1 ≤ ((sigExpiry (sigRaw s i) : Int) - s.sig.age) % 262144 ∧ ((sigExpiry (sigRaw s i) : Int) - s.sig.age) % 262144 ≤ 65535))) →
        (sigRead s i).tag = 0xE) ∧
      (¬(sigExp (sigRaw s i) = true ∨ (sigNoAge (sigRaw s i) = false ∧
          ¬(1 ≤ ((sigExpiry (sigRaw s i) : Int) - s.sig.age) % 262144 ∧ ((sigExpiry (sigRaw s i) : Int) - s.sig.age) % 262144 ≤ 65535))) →
        (sigRead s i).tag = sigTag (sigRaw s i))) ∧
  (∀ (s : State) (i : Nat), sigTag (sigRaw s i) ∈ [0, 0xE, 0xF] → (sigRead s i).tag = sigTag (sigRaw s i))

/-- A write of the signal store, and the age sweeper's visit.
* A write sets VALUE, TAG and SEALV, steps WSEQ modulo 128, sets NOAGE exactly for an age bound of 0 and EXPIRY from the age clock otherwise, and clears EXP; the other entries stay.
* A visit of the sweeper sets EXP of an entry that R110 finds stale, never clears it, and keeps value, tag and every other entry. -/
def Obligations.SignalWrites : Prop :=
  (∀ (s : State) (i : Nat) (tag : BitVec 4) (value : Word) (sealv : Bool) (age : Nat),
      sigValue (sigRaw (sigWrite i tag value sealv age s) i) = value ∧ sigTag (sigRaw (sigWrite i tag value sealv age s) i) = tag ∧
      sigSealV (sigRaw (sigWrite i tag value sealv age s) i) = sealv ∧ sigExp (sigRaw (sigWrite i tag value sealv age s) i) = false ∧
      sigWseq (sigRaw (sigWrite i tag value sealv age s) i) = (sigWseq (sigRaw s i) + 1) % 128 ∧
      sigNoAge (sigRaw (sigWrite i tag value sealv age s) i) = (age == 0) ∧
      (age ≠ 0 → sigExpiry (sigRaw (sigWrite i tag value sealv age s) i) = (s.sig.age + age) % 262144) ∧
      ∀ j, j ≠ i → sigRaw (sigWrite i tag value sealv age s) j = sigRaw s j) ∧
  (∀ (s : State) (i : Nat), (sigStale s (sigRaw s i) = true → sigTag (sigRaw s i) ≠ 0 → sigExp (sigRaw (sigSweepOne s i) i) = true) ∧
      (sigExp (sigRaw s i) = true → sigExp (sigRaw (sigSweepOne s i) i) = true) ∧
      sigValue (sigRaw (sigSweepOne s i) i) = sigValue (sigRaw s i) ∧ sigTag (sigRaw (sigSweepOne s i) i) = sigTag (sigRaw s i) ∧
      ∀ j, j ≠ i → sigRaw (sigSweepOne s i) j = sigRaw s j)

/-- Ends of reloads, freshness records, address claims, broadcast transport and the streams' key slots.
* A reload that is complete lets its entry act again, and logs the case; nothing else changes. In the service-only state, or with the Hive die off, nothing changes.
* The record a stream waits for is committed: a transmit stream has reserved 65,536 more values, saturating; a receive stream's RESV is its FRESH and it counts its acceptances from 0. The wait ends, the record of the stream's group goes to the store, and the stream's FRESH and state, the other streams and the rest stay. A stream that waits for no record is unchanged.
* The keeper claims an address on a running CAN port that has one to claim: the port holds it, CLAIMED or, for 0xFE, LOST, and the Address Claimed frame leaves from F28 for the port. Otherwise nothing changes.
* A request to the global address, or to the one the port has claimed, is answered with an Address Claimed, counted as transmitted; nothing else changes. A request to another address, or at a port without a claim, changes nothing.
* A claim received on a running CAN port moves the bindings of its NAME to its address, or from 0xFE to none; the other bindings stay. Where it contends for the port's own claimed address, a higher NAME than the port's is answered with an Address Claimed, counted; a lower one makes the claim LOST, with an event. Nothing else changes.
* An announcement first aborts, and counts in 0x3A2A/01, the session the source has open at the cluster. A group no receive PDU of the port carries to the cluster is then ignored; one larger than 1,785 bytes, or with all 32 sessions of the cluster busy, is ignored and counted in 0x3A2A/03; one whose packet count does not fit its size is aborted at once and counted in 0x3A2A/01; any other opens a session. Nothing else changes.
* A packet of 7 bytes with the next sequence number is added to its session, which waits for the one after; nothing else changes. The last packet ends the session, which is counted in 0x3A2A/02, and its size's bytes are unpacked through the routes of the PDU, up to PAYLEN of them, another length being counted in 0x3A01/05.
* A packet out of sequence or not of 7 bytes, and 750 ms without a packet, abort the session, which writes nothing: it is gone, the abort is counted in 0x3A2A/01, and nothing else changes. Without a session nothing changes.
* A write of the streams' key slots is of 4,096 bytes, each below 64, and changes the slot of no active stream of a resident PDU; it is then kept. -/
def Obligations.SignalEngine : Prop :=
  (∀ (s : State) (pdu : Bool) (i : Nat),
      (serviceOnly s = false → s.pwr.hive = true →
        exec (.routeReloadComplete pdu i) s = .next { logEvent 3 clsMasked 0x000B 0 (leBytes 1 pdu.toNat ++ leBytes 3 i)
          { s with sig := { s.sig with reloading := s.sig.reloading.filter (· ≠ (pdu, i)) } } with pending := s.pending }) ∧
      (serviceOnly s = true ∨ s.pwr.hive = false → exec (.routeReloadComplete pdu i) s = .next s)) ∧
  (∀ (s : State) (j : Fin 4096),
      let x := streamAt s j
      (x.waiting = true →
        let y := if x.transmit then { x with resv := min (x.resv + 65536) 0xFFFFFFFF, waiting := false } else { x with resv := x.fresh, accepts := 0, waiting := false }
        exec (.freshnessRecordCommit j) s = .next { commitFreshness j (putStream j y s) with pending := s.pending } ∧
        Completes (.freshnessRecordCommit j) s fun t => t = { s with sig := t.sig, od := t.od, store := t.store } ∧ t.sig = { s.sig with streams := t.sig.streams } ∧
          streamAt t j = y ∧ ∀ k, k ≠ j.val → streamAt t k = streamAt s k) ∧
      (x.waiting = false → exec (.freshnessRecordCommit j) s = .next s)) ∧
  (∀ (s : State) (p : Fin 24) (a : Byte),
      (canRunning s p = true → s.kpr.running = true → val s (odKey (0x3A20 + p) 2) ≠ 0xFE →
        let u := { s with sig := { s.sig with claims := vmod s.sig.claims p fun _ => { address := a.toNat, state := if a = 0xFE then 3 else 2 } } }
        exec (.addressClaimInitial p a) s = .next { sendFrame { id := 0, bytes := canFabric (claimFrame s p a.toNat) false, inPort := 28, outPort := p, tc := 0, ts := nowNs s } u with pending := s.pending } ∧
        Completes (.addressClaimInitial p a) s fun t => t.sig = u.sig ∧ t.kpr = s.kpr ∧ t.comb = s.comb ∧ t.store = s.store ∧ t.vault = s.vault ∧
          ∃ f ∈ t.fab.frames, f.inPort = 28 ∧ f.outPort = p.val ∧ f.bytes = canFabric (claimFrame s p a.toNat) false) ∧
      (canRunning s p = false ∨ s.kpr.running = false ∨ val s (odKey (0x3A20 + p) 2) = 0xFE → exec (.addressClaimInitial p a) s = .next s)) ∧
  (∀ (s : State) (p : Fin 24) (dest : Byte),
      (canRunning s p = true → (claimAt s p).state = 2 → dest = 0xFF ∨ dest.toNat = (claimAt s p).address →
        exec (.addressClaimRequest p dest) s = .next { count (pk p 8 2) { s with out := .can p (claimFrame s p (claimAt s p).address) :: s.out } with pending := s.pending }) ∧
      (canRunning s p = false ∨ (claimAt s p).state ≠ 2 ∨ dest ≠ 0xFF ∧ dest.toNat ≠ (claimAt s p).address → exec (.addressClaimRequest p dest) s = .next s)) ∧
  (∀ (s : State) (p : Fin 24) (sa : Byte) (name : BitVec 64),
      (canRunning s p = true →
        let u := bindAddress p sa.toNat name.toNat s
        (∀ i, (mapGet i u.sig.bindings = if i < 256 ∧ bindingOf s i = (name.toNat, p.val) then (if sa = 0xFE then none else some sa.toNat) else mapGet i s.sig.bindings) ∨ mapWf (fun _ _ => true) s.sig.bindings = false) ∧
        u = { s with sig := { s.sig with bindings := u.sig.bindings } } ∧
        ((claimAt s p).state ≠ 2 ∨ sa.toNat ≠ (claimAt s p).address ∨ name.toNat = nameOf s p → exec (.addressClaimedReceived p sa name) s = .next u) ∧
        ((claimAt s p).state = 2 → sa.toNat = (claimAt s p).address → nameOf s p < name.toNat →
          exec (.addressClaimedReceived p sa name) s = .next { count (pk p 8 2) { u with out := .can p (claimFrame s p (claimAt s p).address) :: s.out } with pending := s.pending }) ∧
        ((claimAt s p).state = 2 → sa.toNat = (claimAt s p).address → name.toNat < nameOf s p →
          exec (.addressClaimedReceived p sa name) s = .next { logEvent 3 clsPartner 0 (odKey (0x3A20 + p) 4) [p.val, sa]
            { u with sig := { u.sig with claims := vmod s.sig.claims p fun x => { x with state := 3 } } } with pending := s.pending })) ∧
      (canRunning s p = false → exec (.addressClaimedReceived p sa name) s = .next s)) ∧
  (∀ (s : State) (k : Fin 4) (p : Fin 24) (sa : Byte) (pgn : BitVec 18) (size packets : Nat),
      let u := bamAbort k p sa.toNat s
      let busy := (u.sig.bams.filter (·.1 == k.val)).length
      let act := exec (.bamAnnounce k p sa pgn size packets) s
      (bamPdu s p sa.toNat pgn.toNat = none → act = .next { u with pending := s.pending }) ∧
      (∀ i d, bamPdu s p sa.toNat pgn.toNat = some (i, d) →
        ((pduCmask d).testBit k = false ∨ clusterFitted s k = false → act = .next { u with pending := s.pending }) ∧
        ((pduCmask d).testBit k = true → clusterFitted s k = true →
          (1785 < size ∨ 32 ≤ busy → act = .next { count (odKey 0x3A2A 3) u with pending := s.pending }) ∧
          (size ≤ 1785 → busy < 32 → packets ≠ ceilDiv size 7 ∨ packets = 0 → act = .next { count (odKey 0x3A2A 1) u with pending := s.pending }) ∧
          (size ≤ 1785 → busy < 32 → packets = ceilDiv size 7 → packets ≠ 0 → act = .next { u with pending := s.pending, sig := { u.sig with bams := u.sig.bams ++
            [(k.val, { port := p, sa := sa.toNat, pgn := pgn.toNat, size := size, packets := packets, next := 1, data := [] })] } }))) ∧
      (bamOf s k p sa.toNat = none → u = s) ∧
      (bamOf s k p sa.toNat ≠ none → u = count (odKey 0x3A2A 1) { s with sig := { s.sig with bams := s.sig.bams.filter fun e => !(e.1 == k.val && e.2.port == p.val && e.2.sa == sa.toNat) } })) ∧
  (∀ (s : State) (k : Fin 4) (p : Fin 24) (sa : Byte) (data : Blob) (x : BamSession), bamOf s k p sa.toNat = some x → data.length = 7 →
      let u := { s with sig := { s.sig with bams := s.sig.bams.filter fun e => !(e.1 == k.val && e.2.port == p.val && e.2.sa == sa.toNat) } }
      let whole := (x.data ++ data).take x.size
      (x.next ≠ x.packets → exec (.bamPacket k p sa x.next data) s = .next { u with sig := { u.sig with bams := u.sig.bams ++ [(k.val, { x with next := x.next + 1, data := x.data ++ data })] } }) ∧
      (x.next = x.packets → exec (.bamPacket k p sa x.next data) s = .next { count (odKey 0x3A2A 2) (bamUnpack p sa.toNat x.pgn whole u) with pending := s.pending } ∧
        (bamPdu u p sa.toNat x.pgn = none → bamUnpack p sa.toNat x.pgn whole u = u) ∧
        ∀ i d, bamPdu u p sa.toNat x.pgn = some (i, d) →
          let v := unpackRoutes i (min (pduPaylen d) whole.length) whole (pduSeal d == 2) (fun _ => true) u
          bamUnpack p sa.toNat x.pgn whole u = if whole.length ≠ pduPaylen d then count (odKey 0x3A01 5) v else v)) ∧
  (∀ (s : State) (k : Fin 4) (p : Fin 24) (sa : Byte) (n : Nat) (data : Blob),
      (bamOf s k p sa.toNat = none → exec (.bamPacket k p sa n data) s = .next s ∧ exec (.bamGapTimeout k p sa) s = .next s) ∧
      ∀ x, bamOf s k p sa.toNat = some x →
        let u := { count (odKey 0x3A2A 1) { s with sig := { s.sig with bams := s.sig.bams.filter fun e => !(e.1 == k.val && e.2.port == p.val && e.2.sa == sa.toNat) } } with pending := s.pending }
        exec (.bamGapTimeout k p sa) s = .next u ∧ (n ≠ x.next ∨ data.length ≠ 7 → exec (.bamPacket k p sa n data) s = .next u)) ∧
  (∀ (slot : Fin 16) (data : Blob), Writes (.streamKeySlotWrite slot data) slot 0x3A03 2 (.bytes data) (fun _ => true) fun s _ b =>
      let old := subPad (blob s (odKey 0x3A03 2)) 0 4096
      if b.length ≠ 4096 then .error abType
      else if ∃ j : Fin 4096, old[j.val]? ≠ b[j.val]? ∧ (streamAt s j).state ≠ 0 ∧ streamResident s j = true then .error abState
      else if ∃ x ∈ b, 64 ≤ x.toNat then .error abRange
      else .ok fun t => t = { s with od := t.od, blobs := t.blobs, store := t.store } ∧ blob t (odKey 0x3A03 2) = b)

/-- CAN settings written: bit timing, the two XL modes, the wake mode.
* A bit-timing word inside the fields and the rate limits is kept; one with a reserved bit set, SJW above TSEG2, a bit shorter than 1 us (nominal), 125 ns (FD) or 100 ns (XL), or a nominal TSEG1 of 0 is aborted with 0x06090030 and leaves the setting in force, as is, with mode switching on, an XL data bit of fewer than 4 tq (that the spec ties no such refusal to the PWM symbol is log 43).
* An XL mode is kept, unless it enables mode switching with error signalling enabled, or the other way round: then 0x06090030.
* A wake mode is kept on CAN0 to CAN3, TSA0 and TSA1; on any other port one other than 0 is aborted with 0x06090030. -/
def Obligations.CanSettings : Prop :=
  (∀ (slot : Fin 16) (p : Fin 24) (sub : Fin 4) (v : Nat),
      Writes (.bitTimingWrite slot p sub v) slot (0x3000 + 0x20 * p + 2) (sub + 1) (numFor (0x3000 + 0x20 * p + 2) (sub + 1) v) (fun _ => true) fun s n _ =>
        let mask := if sub = 0 then 0x7F7FFF1F else if sub = 3 then 0xFF7F else 0x0F0F3F1F
        let tseg1 := if sub = 0 then bitsOf n 15 8 else bitsOf n 13 8
        let tseg2 := if sub = 0 then bitsOf n 22 16 else bitsOf n 19 16
        let units := (bitsOf n 4 0 + 1) * (1 + (tseg1 + 1) + (tseg2 + 1))
        let least := if sub = 0 then 80 else if sub = 1 then 10 else 8
        if n &&& mask ≠ n ∨ (sub ≠ 3 ∧ (bitsOf n 30 24 > bitsOf n 22 16 ∨ units < least ∨ sub = 0 ∧ tseg1 = 0)) ∨
          (sub = 2 ∧ flag s (pk p 1 4) = true ∧ 3 + bitsOf n 13 8 + bitsOf n 19 16 < 4)
        then .error 0x06090030 else .ok (· = keepVal (pk p 2 (sub + 1)) n s)) ∧
  (∀ (slot : Fin 16) (p : Fin 24) (sw : Bool) (v : Nat),
      Writes (.xlModeWrite slot p sw v) slot (0x3000 + 0x20 * p + 1) (if sw then 4 else 3) (numFor (0x3000 + 0x20 * p + 1) (if sw then 4 else 3) v) (fun _ => true) fun s n _ =>
        if n ≠ 0 ∧ flag s (pk p 1 (if sw then 3 else 4)) = true then .error 0x06090030 else .ok (· = keepVal (pk p 1 (if sw then 4 else 3)) n s)) ∧
  (∀ (slot : Fin 16) (p : Fin 24) (v : Nat),
      Writes (.wakeModeWrite slot p v) slot (0x3000 + 0x20 * p + 9) 1 (numFor (0x3000 + 0x20 * p + 9) 1 v) (fun _ => true) fun s n _ =>
        if n ≠ 0 ∧ p.val ∉ [0, 1, 2, 3, 14, 15] then .error 0x06090030 else .ok (· = keepVal (pk p 9 1) n s))

/-- CAN reception, transmission, errors, recovery and the end of a port's flush.
* A valid frame at a port on its bus, RUNNING or with the frame begun before its stop, counts as received and steps the receive error counter down; with no copy it is counted as not accepted, else it meets the policer and its receive queue with the time of its start of frame. In a disabled format it does what a disabled-format frame does. At any other port nothing changes.
* A frame for a receive queue that its policer refuses is discarded under cause 1; one that would take the queue over 8,192 bytes under cause 5, with an event; any other charges the policer and stands last in its queue, whose high-water mark follows.
* A frame in a disabled format at an accepting port is counted; with protocol exception the controller enters bus integration, without it sends an error frame and its receive error counter steps by 1. Nothing else changes; at another port nothing does.
* An error on a port's bus is counted in base + 0x08/04 with an error frame, and the error counters move as ISO 11898-1 has it: a receiver's by 1, a transmitter's by 8, a passive transmitter's missing acknowledge and a stuff error in arbitration by nothing. What the controller meets within the error frame moves the counters alone by 8. In the data phase of an XL frame with error signalling off no error frame is sent and the controller enters bus integration. Off its bus nothing changes.
* A transmit error counter that passes 255 is bus-off: a running port is declared down with cause 1. Below it only the counter moves.
* The oldest frame of RQ0, or of RQ1 where RQ0 is empty, leaves the receive queues of a fitted CAN or LIN port, and each of its copies enters the fabric there. While a frame of the port still waits to enter staging, with both queues empty, or at another port, nothing changes.
* With a free buffer and a complete frame in the port's queues, the next frame in the order of service is loaded into the lowest free buffer behind those loaded, counted as an output violation where a reserved bit is cleared or an FD length padded. A frame that cannot be represented is discarded as flushed, counted and logged. Otherwise nothing changes.
* Valid at the transmitter, the reference message in the reference buffer leaves first, with the tick of its start of frame, and the device is master of the cycle; else the frame that wins among the buffers leaves its buffer and the device. Both count as sent and step the transmit error counter down. An FD or XL frame with a measured delay over 127 data tq is a transmit error. Under a generating port test the frame is the test's. Without a frame, or off its bus, nothing changes.
* A loaded frame, in a buffer or in the reference buffer, that loses arbitration stays loaded, and the loss is counted in base + 0x08/03. With nothing loaded, or off its bus, nothing changes.
* At the end of the holdoff of a down port, outside a port test and with its PHY sound, a CAN port begins its recovery sequence, a GE or XG port recovers once its link is up, and any other runs again. Without such a holdoff nothing changes.
* A recovery sequence that ends clears both error counters and the down cause, and the port runs; without one in progress nothing changes.
* Integration ends, and nothing else changes.
* A flush that ends releases the pauses the port's queues asked for and is logged with its frame and cell counts. A stopping port then reads STOPPED, or starts again where it was PENDING; a down port that may recover, its PHY sound, begins its holdoff. Without a flush nothing changes. -/
def Obligations.CanFrames : Prop :=
  (∀ (s : State) (p : Fin 24) (x : CanFrame) (ago : Nat),
      let sof := nowPs s - 12500 * ago
      let takes := canOnBus s p = true ∧ ((portAt s p).st = .running ∨ sof ≤ (portAt s p).stopPs)
      let u := count (pk p 8 1) (modCan p (fun c => { c with recv := if 127 < c.recv then 127 else c.recv - 1 }) s)
      let (q1, tc, copies, bucket) := canClassify u p x
      (¬ takes → exec (.canFrameReceive p x ago) s = .next s) ∧
      (takes → formatEnabled s p x.fmt = false → exec (.canFrameReceive p x ago) s = exec (.canDisabledFormatFrame p) s) ∧
      (takes → formatEnabled s p x.fmt = true → copies = [] → exec (.canFrameReceive p x ago) s = .next { count (pk p 8 5) u with pending := s.pending }) ∧
      (takes → formatEnabled s p x.fmt = true → copies ≠ [] → exec (.canFrameReceive p x ago) s =
        .next { receiveItem p q1 { bytes := canFabric x false, copies := copies, hash := bucket, tc := tc, ts := sof / 1000 } u with pending := s.pending })) ∧
  (∀ (s : State) (n : Nat) (q1 : Bool) (x : RxItem), n < 14 →
      let lin := decide (portKind n = .lin)
      let q (s : State) : List RxItem := if lin then (if q1 then (portAt s n).lin.rq1 else (portAt s n).lin.rq0) else (if q1 then (portAt s n).can.rq1 else (portAt s n).can.rq0)
      let fill := ((q s).map (·.size)).sum + x.size
      let hw := pk n 6 (if q1 then 4 else 3)
      (bucketAdmits s n x.tc = false → receiveItem n q1 x s = policed n 1 x.copies.length s) ∧
      (bucketAdmits s n x.tc = true → 8192 < fill → receiveItem n q1 x s = logEvent (16 + n) clsPartner 0 (odKey 0x3803 0x25) [] (policed n 5 x.copies.length s)) ∧
      (bucketAdmits s n x.tc = true → fill ≤ 8192 →
        let t := receiveItem n q1 x s
        q t = q s ++ [x] ∧ val t hw = max (val (bucketCharge n x.tc x.bytes.length s) hw) fill ∧
        t = { setVal hw (max (val (bucketCharge n x.tc x.bytes.length s) hw) fill) (bucketCharge n x.tc x.bytes.length s) with port := t.port } ∧
        ∀ m, m ≠ n → portAt t m = portAt s m)) ∧
  (∀ (s : State) (p : Fin 24),
      let u := count (pk p 8 6) s
      (canAccepts s p = false → exec (.canDisabledFormatFrame p) s = .next s) ∧
      (canAccepts s p = true → flag s (pk p 1 2) = true → exec (.canDisabledFormatFrame p) s = .next { modPort p (fun x => { x with integrating := true }) u with pending := s.pending }) ∧
      (canAccepts s p = true → flag s (pk p 1 2) = false → exec (.canDisabledFormatFrame p) s = .next { modCan p (fun c => { c with recv := c.recv + 1 }) u with out := .canError p :: s.out, pending := s.pending })) ∧
  (∀ (s : State) (p : Fin 24) (xl : Bool),
      let u : State := { count (pk p 8 4) s with out := .canError p :: s.out }
      let act (e : CanErr) (t : State) : Prop := exec (.canErrorDetected p e xl) s = .next { t with pending := s.pending }
      let more (t : State) : State := modCan p (fun c => { c with recv := c.recv + 8 }) t
      (canOnBus s p = false → ∀ e, exec (.canErrorDetected p e xl) s = .next s) ∧
      (canOnBus s p = true → xl = true → flag s (pk p 1 3) = false → ∀ e, act e (modPort p (fun x => { x with integrating := true }) (count (pk p 8 4) s))) ∧
      (canOnBus s p = true → xl = false ∨ flag s (pk p 1 3) = true →
        act .receiver (modCan p (fun c => { c with recv := c.recv + 1 }) u) ∧ act .receiverDominantFirst (more s) ∧ act .receiverInFlag (more s) ∧ act .receiverDominantRun (more s) ∧
        act .transmitter (raiseTec p 8 u) ∧ act .transmitterInFlag (raiseTec p 8 s) ∧ act .transmitterDominantRun (raiseTec p 8 s) ∧ act .passiveAck u ∧ act .arbitrationStuff u)) ∧
  (∀ (s : State) (p : Fin 24) (n : Nat),
      let u := modCan p (fun c => { c with tec := c.tec + n }) s
      ((portAt s p).can.tec + n ≤ 255 → raiseTec p n s = u) ∧
      (255 < (portAt s p).can.tec + n → raiseTec p n s = portDown p 1 u ∧ ((portAt s p).st = .running → (portAt (raiseTec p n s) p).st = .down ∧
        (portAt (raiseTec p n s) p).downCause ∈ [1, 4] ∧ (portAt (raiseTec p n s) p).flushing = true ∧ (portAt (raiseTec p n s) p).can.bufs = [] ∧ (raiseTec p n s).comb = s.comb))) ∧
  (∀ (s : State) (p : Fin 24),
      let queues := portKind p = .can ∨ portKind p = .lin
      let q0 := if portKind p = .lin then (portAt s p).lin.rq0 else (portAt s p).can.rq0
      let q1 := if portKind p = .lin then (portAt s p).lin.rq1 else (portAt s p).can.rq1
      let set (a b : List RxItem) : State := modPort p (fun x => if portKind p = .lin then { x with lin := { x.lin with rq0 := a, rq1 := b } } else { x with can := { x.can with rq0 := a, rq1 := b } }) s
      let enter (x : RxItem) (u : State) : State := x.copies.foldl (fun u c => sendFrame { id := 0, bytes := x.bytes, inPort := p, outPort := c.1, tc := x.tc, ts := x.ts, hash := x.hash, rxPort := p, ciph := c.1 == 29, next := c.2.1, pdu := c.2.2 } u) u
      (¬ queues ∨ portFitted s p = false ∨ (fabPortAt s p).arriving ≠ [] ∨ q0 = [] ∧ q1 = [] → exec (.receiveQueueDrain p) s = .next s) ∧
      (∀ x r, queues → portFitted s p = true → (fabPortAt s p).arriving = [] → q0 = x :: r → exec (.receiveQueueDrain p) s = .next { enter x (set r q1) with pending := s.pending }) ∧
      (∀ x r, queues → portFitted s p = true → (fabPortAt s p).arriving = [] → q0 = [] → q1 = x :: r → exec (.receiveQueueDrain p) s = .next { enter x (set [] r) with pending := s.pending })) ∧
  (∀ (s : State) (p : Fin 24),
      (canOnBus s p = false ∨ freeBuffer s p = none ∨ readyHead s p (fun _ => true) = none → exec (.transmitBufferLoad p) s = .next s) ∧
      (∀ b id f, canOnBus s p = true → freeBuffer s p = some b → readyHead s p (fun _ => true) = some id → frameAt s id = some f →
        (unrepresentable s p f = true → exec (.transmitBufferLoad p) s =
          .next { logEvent (16 + p) clsRefusal 0 (pk p 8 7) [] (count (pk p 8 7) (frameFlushed id s)) with pending := s.pending }) ∧
        (unrepresentable s p f = false →
          let u := takeFrame id (if outputViolation f then count (pk p 8 7) s else s)
          exec (.transmitBufferLoad p) s = .next { modCan p (fun c => { c with bufs := c.bufs ++ [(b, id)] }) u with pending := s.pending } ∧
          Completes (.transmitBufferLoad p) s fun t => (portAt t p).can.bufs = (portAt s p).can.bufs ++ [(b, id)] ∧ (∀ e ∈ (portAt s p).can.bufs, e.1 ≠ b) ∧ b < 8 ∧
            (∃ g, frameAt t id = some g ∧ g.taken = true ∧ g.bytes = f.bytes) ∧ t.comb = s.comb ∧ t.kpr = s.kpr ∧ t.sig = s.sig))) ∧
  (∀ (s : State) (p : Fin 24) (delay ago : Nat),
      let act (t : State) : Prop := exec (.canFrameTransmitted p delay ago) s = .next { t with pending := s.pending }
      let slow (code : Nat) : Prop := 127 < delay ∧ 2 ≤ code
      (testGenerates s p = true → (slow (testFormatCode s p) → act (transmitError p s)) ∧ (¬ slow (testFormatCode s p) → act (testFrameSent p s))) ∧
      (testGenerates s p = false → canOnBus s p = false → act s) ∧
      (testGenerates s p = false → canOnBus s p = true →
        (∀ x, (portAt s p).can.refBuf = some x →
          let u := modCan p (fun c => { c with tec := c.tec - 1, refBuf := none, refState := 4 })
            { count (pk p 0xA 5) (count (pk p 8 2) s) with out := .can p { x with data := x.data.take 2 ++ beBytes 2 (placePs s (canInstant s ago) / 1000000 % 65536) } :: s.out }
          act (if canReference s p then loseReference u else u)) ∧
        ((portAt s p).can.refBuf = none → offered s p = none → act s) ∧
        (∀ b f, (portAt s p).can.refBuf = none → offered s p = some (b, f) →
          (slow (fmtCode (onTheBus f).fmt) → act (transmitError p s)) ∧
          (¬ slow (fmtCode (onTheBus f).fmt) →
            act (frameOut f.id (unlockSent f (12500 * ago) { count (pk p 8 2) (modCan p (fun c => { c with tec := c.tec - 1, bufs := c.bufs.filter (·.1 ≠ b) }) s) with out := .can p (onTheBus f) :: s.out })) ∧
            Completes (.canFrameTransmitted p delay ago) s fun t => (∃ o, t.out = o ++ .can p (onTheBus f) :: s.out) ∧
              (portAt t p).can.bufs = (portAt s p).can.bufs.filter (·.1 ≠ b) ∧ (portAt t p).can.tec = (portAt s p).can.tec - 1 ∧ val t (pk p 8 2) = min (val s (pk p 8 2) + 1) 0xFFFFFFFF ∧
              t.comb = s.comb ∧ t.kpr = s.kpr))) ∧
      transmitError p s = raiseTec p 8 { count (pk p 8 4) s with out := .canError p :: s.out }) ∧
  (∀ (s : State) (p : Fin 24),
      (canOnBus s p = true → offered s p ≠ none ∨ (portAt s p).can.refBuf ≠ none → exec (.canArbitrationLost p) s = .next { count (pk p 8 3) s with pending := s.pending }) ∧
      (canOnBus s p = false ∨ offered s p = none ∧ (portAt s p).can.refBuf = none → exec (.canArbitrationLost p) s = .next s)) ∧
  (∀ (s : State) (p : Fin 24),
      let x := portAt s p
      let u := modPort p (fun x => { x with holdoff := false }) s
      let act (t : State) : Prop := exec (.canHoldoffExpiry p) s = .next { t with pending := s.pending }
      (x.st ≠ .down ∨ x.holdoff = false ∨ x.test.st = 1 ∨ x.eth.phyFault = true → act s) ∧
      (x.st = .down → x.holdoff = true → x.test.st ≠ 1 → x.eth.phyFault = false →
        (portKind p = .can → act (setPortState p .recovering (modPort p (fun x => { x with recoverySeq := true }) u)) ∧
          Completes (.canHoldoffExpiry p) s fun t => (portAt t p).st = .recovering ∧ (portAt t p).recoverySeq = true ∧ (portAt t p).holdoff = false ∧
            t = { s with port := t.port, pwr := t.pwr, evt := t.evt, keeper := t.keeper }) ∧
        (portKind p ∈ [.ge, .xg] → x.eth.linkUp = false → act (setPortState p .recovering u)) ∧
        (portKind p ∈ [.ge, .xg] → x.eth.linkUp = true → act (recovered p u)) ∧ (portKind p ∈ [.lin, .tsa] → act (recovered p u)))) ∧
  (∀ (s : State) (p : Fin 24),
      ((portAt s p).st = .recovering → (portAt s p).recoverySeq = true →
        Completes (.canRecoveryComplete p) s fun t => (portAt t p).st = .running ∧ (portAt t p).can = { (portAt s p).can with tec := 0, recv := 0 } ∧
          (portAt t p).downCause = 0 ∧ (portAt t p).recoverySeq = false ∧ (portAt t p).integrating = false ∧ (∀ m : Fin 24, m ≠ p → portAt t m = portAt s m) ∧
          t = { s with port := t.port, pwr := t.pwr, evt := t.evt, keeper := t.keeper }) ∧
      ((portAt s p).st ≠ .recovering ∨ (portAt s p).recoverySeq = false → exec (.canRecoveryComplete p) s = .next s)) ∧
  (∀ (s : State) (p : Fin 24), exec (.busIntegrationComplete p) s = .next { s with port := vmod s.port p fun x => { x with integrating := false } }) ∧
  (∀ (s : State) (p : Fin 24),
      let x := portAt s p
      let u := logEvent (16 + p) clsState (4 + 256 * x.downCause) (flushedKey p) (leBytes 4 x.flushedFrames ++ leBytes 4 x.flushedCells)
        (releaseQueues p (modPort p (fun x => { x with flushing := false }) s))
      let act (t : State) : Prop := exec (.flushComplete p) s = .next { t with pending := s.pending }
      (x.flushing = false → act s) ∧
      (x.flushing = true →
        (x.st = .stopping → act (finishStop p u) ∧ Completes (.flushComplete p) s fun t => (portAt t p).st = .stopped ∧ (portAt t p).flushing = false ∧
          (portAt t p).eth.linkUp = false ∧ (portAt t p).can.bufs = [] ∧ t.comb = s.comb ∧ t.kpr = s.kpr) ∧
        (x.st = .pending → act (finishStop p u)) ∧
        (x.st = .down → mayRecover u p = true → x.eth.phyFault = false → act (modPort p (fun x => { x with holdoff := true }) u)) ∧
        (x.st = .down → mayRecover u p = false ∨ x.eth.phyFault = true → act u) ∧
        (x.st ∉ [.stopping, .pending, .down] → act u)))

/-- Reference messages and the CAN wake.
* At the start of a basic cycle a running potential master places its reference message, the cycle's number in its first byte, in the reference buffer; at another tick or port, or without an active Comb, nothing changes.
* A device whose reference message loses arbitration withdraws it and is backup for the cycle; the loss is counted in base + 0x08/03. Without one, or off the bus, nothing changes.
* A reference message at a port that takes it in counts as received there and in base + 0x0A/06, steps the receive error counter down, locks a follower, and makes a potential master backup; the time of its start of frame, its Master_Ref_Mark and its cycle number are held. At the reference port of the active Comb it is the Comb's phase as well. Another frame, or another port, changes nothing.
* A frame is a reference message where the port has a reference role and it has the format and, but for the three priority bits, the identifier of base + 0x0A/02.
* With no reference message for 1.5 basic cycles, a locked port and a backup lose the reference, with an event; where the port is the reference of the active Comb, the Comb's is lost too. Before that, or in another reference state, nothing changes.
* A Comb whose reference is lost reports holdover, with an event, where it was locked or waited in holdover for the boundary; in any case no reference is waited for.
* In wake mode 1 of an armed port a dominant level of at least the filter time is counted in base + 0x09/09 and latched as the port's wake code, 5 + n; a shorter one, or one at a port that is not armed, changes nothing.
* In wake mode 2 of an armed port a classic frame steps the decoder's error counter down. One that matches format, identifier under the mask, length and at least one data bit keeps its identifier in base + 0x09/0B, is counted and latched. An FD or XL frame, or a port that is not armed, changes nothing.
* A frame the decoder of an armed port in mode 2 cannot decode steps its counter up; the 32nd is counted and latched as a wake, and the counter starts again. A port that is not armed does not change.
* A wake code that is enabled is latched in SLEEP and during the entry to it, while the always-on supply stands; of several the lowest code stands. In another state nothing changes. -/
def Obligations.CanReference : Prop :=
  (∀ (s : State) (p : Fin 24),
      let cycle := max (val s (pk p 0xA 3)) 1
      let start := canAccepts s p = true ∧ val s (pk p 0xA 1) = 2 ∧ serviceOnly s = false ∧ s.clk.tick % cycle = 0
      let id := val s (pk p 0xA 2)
      let x : CanFrame := { id := BitVec.ofNat 29 (id % 2 ^ 29 / 8 * 8 + val s (pk p 0xA 7) % 8), fmt := if id.testBit 31 then .classicExt else .classicBase,
                            data := leBytes 1 (s.clk.tick / cycle % 64) ++ zeros 3 }
      (start → exec (.basicCycleStart p) s = .next { s with port := vmod s.port p fun y => { y with can := { y.can with refBuf := some x, refCycle := s.clk.tick / cycle % 64 } } }) ∧
      (¬ start → exec (.basicCycleStart p) s = .next s)) ∧
  (∀ (s : State) (p : Fin 24),
      (canOnBus s p = true → (portAt s p).can.refBuf ≠ none → exec (.referenceArbitrationLost p) s =
        .next { count (pk p 8 3) { s with port := vmod s.port p fun y => { y with can := { y.can with refBuf := none, refState := 3 } } } with pending := s.pending }) ∧
      (canOnBus s p = false ∨ (portAt s p).can.refBuf = none → exec (.referenceArbitrationLost p) s = .next s)) ∧
  (∀ (s : State) (p : Fin 24) (x : CanFrame) (ago : Nat),
      let sof := nowPs s - 12500 * ago
      let takes := (canOnBus s p = true ∧ ((portAt s p).st = .running ∨ sof ≤ (portAt s p).stopPs)) ∧ isReference s p x = true
      let mark := ofBe (subPad x.data 2 2)
      let u := count (pk p 0xA 6) (modCan p (fun c => { c with
        recv := if 127 < c.recv then 127 else c.recv - 1, refState := if val s (pk p 0xA 1) = 2 then 3 else 1, lastRefPs := some sof, refMark := mark
        refCycle := bitsOf (ofLe (x.data.take 1)) 5 0 }) (count (pk p 8 1) s))
      (takes → canReference s p = false → exec (.referenceMessageReceive p x ago) s = .next { u with pending := s.pending }) ∧
      (takes → canReference s p = true → exec (.referenceMessageReceive p x ago) s = .next { u with comb := { s.comb with phasePs := referencePhase s sof mark }, pending := s.pending }) ∧
      (¬ takes → exec (.referenceMessageReceive p x ago) s = .next s)) ∧
  (∀ (s : State) (p : Nat) (x : CanFrame), isReference s p x = true ↔
      val s (pk p 0xA 1) ≠ 0 ∧ x.fmt = (if (val s (pk p 0xA 2)).testBit 31 then .classicExt else .classicBase) ∧ x.id.toNat / 8 = val s (pk p 0xA 2) % 2 ^ 29 / 8) ∧
  (∀ (s : State) (p : Fin 24),
      let x := (portAt s p).can
      let past := ∃ t, x.lastRefPs = some t ∧ 2 * t + 3 * max (val s (pk p 0xA 3)) 1 * 1000000 ≤ 2 * nowPs s
      let u := logEvent (16 + p) clsPartner 2 (pk p 0xA 4) [] { s with port := vmod s.port p fun y => { y with can := { y.can with refState := 2 } } }
      (canOnBus s p = true → past → x.refState ∈ [1, 3] → exec (.referenceTimeout p) s = .next { if canReference s p then loseReference u else u with pending := s.pending }) ∧
      (canOnBus s p = false ∨ ¬ past ∨ x.refState ∉ [1, 3] → exec (.referenceTimeout p) s = .next s)) ∧
  (∀ s : State,
      (s.comb.tickState = 1 ∨ s.comb.tickState = 2 ∧ s.comb.refBack = true → loseReference s = logEvent 1 clsState 2 (odKey 0x3903 1) [] { s with comb := { s.comb with tickState := 2, refBack := false } }) ∧
      (s.comb.tickState ≠ 1 → s.comb.tickState ≠ 2 ∨ s.comb.refBack = false → loseReference s = { s with comb := { s.comb with refBack := false } })) ∧
  (∀ (s : State) (p : Fin 24) (half : Nat),
      let armed := p.val < 4 ∧ portFitted s p = true ∧ s.pwr.vao = true ∧ val s (pk p 9 1) = 1 ∧ s.pwr.votePort[p.val]? = some false
      (armed → val s (pk p 9 2) ≤ half → exec (.canWakeEdge p half) s = .next { latchWake (5 + p) (count (pk p 9 9) s) with pending := s.pending }) ∧
      (¬ armed ∨ half < val s (pk p 9 2) → exec (.canWakeEdge p half) s = .next s)) ∧
  (∀ (s : State) (p : Fin 24) (x : CanFrame),
      let armed := p.val < 4 ∧ portFitted s p = true ∧ s.pwr.vao = true ∧ val s (pk p 9 1) = 2 ∧ s.pwr.votePort[p.val]? = some false
      let u := setVal (pk p 9 0xA) (val s (pk p 9 0xA) - 1) s
      let wakes := fmtCode x.fmt = val s (pk p 9 5) ∧ (x.id.toNat ^^^ val s (pk p 9 3)) &&& val s (pk p 9 4) = 0 ∧ x.data.length = val s (pk p 9 6) ∧
        ofBe (subPad x.data 0 8) &&& val s (pk p 9 7) ≠ 0
      (armed → fmtCode x.fmt ≤ 1 → wakes → exec (.canWakeFrame p x) s = .next { latchWake (5 + p) (count (pk p 9 9) (setVal (pk p 9 0xB) x.id.toNat u)) with pending := s.pending }) ∧
      (armed → fmtCode x.fmt ≤ 1 → ¬ wakes → exec (.canWakeFrame p x) s = .next { u with pending := s.pending }) ∧
      (¬ armed ∨ 1 < fmtCode x.fmt → exec (.canWakeFrame p x) s = .next s)) ∧
  (∀ (s : State) (p : Fin 24),
      let armed := p.val < 4 ∧ portFitted s p = true ∧ s.pwr.vao = true ∧ val s (pk p 9 1) = 2 ∧ s.pwr.votePort[p.val]? = some false
      (armed → val s (pk p 9 0xA) < 31 → exec (.wakeDecoderError p) s = .next { setVal (pk p 9 0xA) (val s (pk p 9 0xA) + 1) s with pending := s.pending }) ∧
      (armed → 31 ≤ val s (pk p 9 0xA) → exec (.wakeDecoderError p) s = .next { latchWake (5 + p) (count (pk p 9 9) (setVal (pk p 9 0xA) 0 s)) with pending := s.pending }) ∧
      (¬ armed → exec (.wakeDecoderError p) s = .next s)) ∧
  (∀ (s : State) (code : Nat),
      let takes := wakeEnabled s code = true ∧ s.pwr.vao = true ∧ (s.pwr.dev = .sleep ∨ s.pwr.entry ≠ none)
      (takes → (latchWake code s).pwr.wake = some (match s.pwr.wake with | none => code | some c => min c code) ∧ latchWake code s = { s with pwr := { s.pwr with wake := (latchWake code s).pwr.wake } }) ∧
      (¬ takes → latchWake code s = s))

/-- LIN ports: schedule slots, headers and responses, errors, bus sleep and wake-up.
* A slot the tick in progress holds, at a port on its bus: a responder ignores it, counted in base + 0x08/07. A commander in its wake-up blackout, or still within the T_max of the frame before, sends no header, counted in base + 0x08/05 and in the second case logged at most once per 100 ms. Otherwise it sends the header and a buffered response, counted; or, for a subscribed identifier on an accepting port, the header, and waits for the response; else the slot is skipped. A slot of no occurrence, or a port off its bus, changes nothing.
* A header that begins is held with its time and rate, the T_max of 8 data bytes until its response's length is known. A buffered response is sent with a checksum of its kind, leaves its buffer and the device, counts as sent, and its own T_max runs.
* On the bus, the first complete frame in the order of service that can go moves into its identifier's free buffer; one no LIN bus can carry is discarded as flushed and logged. With no such frame, or off the bus, nothing changes.
* A header on the bus of a responder ends bus sleep. One whose measured rate is more than 15 % off the port's is counted as an error; a buffered response is sent in answer; for a subscribed identifier on an accepting port a reception at the measured rate begins; any other is let pass. A generating port test answers identifier 0x30. At any other port nothing changes.
* The response of a header in progress is good with 1 to 8 data bytes, good framing, an end within the T_max of its own length and a checksum of either kind, 0x3C and 0x3D always classic. A good one counts as received and, with a copy, meets the policer and its receive queue, its checksum kind in LINCK; any other is a response error. Without a header in progress, or off the bus, nothing changes.
* No complete response in time ends the header in progress: where one had begun it is a response error, else it is counted in base + 0x08/03 alone. Without a header nothing changes.
* A response error is counted in base + 0x08/04, its header is over, and each copy the frame would have had is discarded under cause 3.
* A read-back error of a commander is counted in base + 0x08/06 and gives the header up; the eighth header in a row with one puts the port down with cause 3. A responder, or a port off its bus, does not change.
* The blackout ends, and nothing else changes.
* A running responder without bus activity reports BUS-SLEEP, and a wake-up signal makes it RUNNING again; each change of state votes and is logged as any. In another state, role, or off the bus, nothing changes.
* A change of what a port's State reads withdraws or gives its domain's vote, takes an Ethernet port that does not run out of the time-aware system, sets the keeper's line 7 and is logged with the down cause; the same state again changes nothing. -/
def Obligations.LinPorts : Prop :=
  (∀ (s : State) (ch : Fin 4) (ident : BitVec 6),
      let n := 10 + ch.val
      let id := ident.toNat
      let slot := (s.comb.now.any fun a => actType a == 6 && actLin a == ch.val && actIdent a == id) = true ∧ linOnBus s n = true
      let act (t : State) : Prop := exec (.linScheduleSlot ch ident) s = .next { t with pending := s.pending }
      let header : State := { beginHeader n id true (val s (pk n 1 2)) s with out := .linHeader n id :: s.out }
      (¬ slot → act s) ∧
      (slot → linResponder s n = true → act (count (pk n 8 7) s)) ∧
      (slot → linResponder s n = false →
        ((portAt s n).lin.blackout = true → act (count (pk n 8 5) s)) ∧
        ((portAt s n).lin.blackout = false → tooClose s n = true → act (skipSlot n true s) ∧
          Completes (.linScheduleSlot ch ident) s fun t => t = { s with od := t.od, evt := t.evt, port := t.port } ∧ val t (pk n 8 5) = min (val s (pk n 8 5) + 1) 0xFFFFFFFF ∧
            (portAt t n).lin = { (portAt s n).lin with skipLoggedPs := (portAt t n).lin.skipLoggedPs }) ∧
        ((portAt s n).lin.blackout = false → tooClose s n = false →
          (∀ f, linResponse? s n id = some f → act (sendResponse n id f header)) ∧
          (linResponse? s n id = none → linAccepts s n = true → linSubscribed s n id = true → act header) ∧
          (linResponse? s n id = none → linAccepts s n = false ∨ linSubscribed s n id = false → act (count (pk n 8 5) s)))) ) ∧
  (∀ (s : State) (n id rate : Nat) (own : Bool) (f : Frame),
      beginHeader n id own rate s = { s with port := vmod s.port n fun p => { p with lin := { p.lin with
        header := some (id, own), lastHeaderPs := some (nowPs s), lastTmaxPs := linTmax rate 8, rate := rate
        readback := if own = true ∧ p.lin.headerBad = false then 0 else p.lin.readback, headerBad := if own then false else p.lin.headerBad } } } ∧
      (let x := canOf f.bytes
       let u := { s with port := vmod s.port n fun p => { p with lin := { p.lin with resp := p.lin.resp.filter (·.1 ≠ id), header := none, lastTmaxPs := linTmax p.lin.rate x.data.length } } }
       sendResponse n id f s = frameOut f.id (unlockSent f 0 { count (pk n 8 2) u with out := .linResponse n id x.data (linChecksum id x.data ((ofLe (sub f.bytes 4 1)).testBit 4)) :: s.out })) ∧
      linTmax rate 8 = 14 * (34 + 10 * 9) * (1000000000000 / max rate 1) / 10) ∧
  (∀ (s : State) (p : Fin 24),
      let ident (f : Frame) : Nat := bitsOf (ofLe (sub f.bytes 0 4)) 5 0
      let bad (f : Frame) : Bool := bitsOf (ofLe (sub f.bytes 0 4)) 31 29 ≠ 5 || 8 < bitsOf (ofLe (sub f.bytes 6 2)) 11 0
      let goes (id : Nat) : Bool := (frameAt s id).any fun f => bad f || !(portAt s p).lin.resp.any fun e => e.1 == ident f
      (linOnBus s p = false ∨ readyHead s p goes = none → exec (.linResponseBufferLoad p) s = .next s) ∧
      (∀ id f, linOnBus s p = true → readyHead s p goes = some id → frameAt s id = some f →
        (bad f = true → exec (.linResponseBufferLoad p) s = .next { logEvent (16 + p) clsRefusal 0 (flushedKey p) [] (frameFlushed id s) with pending := s.pending }) ∧
        (bad f = false → exec (.linResponseBufferLoad p) s =
          .next { modLin p (fun l => { l with resp := l.resp ++ [(ident f, id)] }) (takeFrame id s) with pending := s.pending }))) ∧
  (∀ (s : State) (p : Fin 24) (ident : BitVec 6) (rate : Nat),
      let act (t : State) : Prop := exec (.linHeaderReceived p ident rate) s = .next { t with pending := s.pending }
      let test := testGenerates s p = true ∧ ident.toNat = 0x30
      let hears := linOnBus s p = true ∧ linResponder s p = true
      let u := if (portAt s p).st = .busSleep then setPortState p .running s else s
      let rateGood := 85 * val u (pk p 1 2) ≤ rate * 100 ∧ rate * 100 ≤ 115 * val u (pk p 1 2)
      (test → act (testFrameSent p s)) ∧ (¬ test → ¬ hears → act s) ∧
      (¬ test → hears → ¬ rateGood → act (count (pk p 8 4) u)) ∧
      (¬ test → hears → rateGood →
        (∀ f, linResponse? u p ident.toNat = some f → act (sendResponse p ident.toNat f (beginHeader p ident.toNat false rate u))) ∧
        (linResponse? u p ident.toNat = none → linAccepts u p = true → linSubscribed u p ident.toNat = true → act (beginHeader p ident.toNat false rate u)) ∧
        (linResponse? u p ident.toNat = none → linAccepts u p = false ∨ linSubscribed u p ident.toNat = false → act u))) ∧
  (∀ (s : State) (p : Fin 24) (data : Blob) (framing : Bool) (sum : Byte),
      let act (t : State) : Prop := exec (.linResponseComplete p data framing sum) s = .next { t with pending := s.pending }
      let l := (portAt s p).lin
      (l.header = none ∨ linOnBus s p = false → act s) ∧
      ∀ id own, l.header = some (id, own) → linOnBus s p = true →
        let enhanced := decide (sum.toNat = linChecksum id data true ∧ id ≠ 0x3C ∧ id ≠ 0x3D)
        let inTime := ∀ t, l.lastHeaderPs = some t → nowPs s ≤ t + linTmax l.rate data.length
        let good := framing = true ∧ inTime ∧ 1 ≤ data.length ∧ data.length ≤ 8 ∧ (enhanced = true ∨ sum.toNat = linChecksum id data false)
        let u := count (pk p 8 1) { s with port := vmod s.port p fun x => { x with lin := { x.lin with header := none, lastTmaxPs := linTmax l.rate data.length } } }
        let (q1, tc, copies, bucket) := canClassify u p (linFrame id data)
        (¬ good → act (responseError p id data s)) ∧ (good → copies = [] → act u) ∧
        (good → copies ≠ [] → act (receiveItem p q1 { bytes := canFabric (linFrame id data) enhanced, copies := copies, hash := bucket, tc := tc, ts := (l.lastHeaderPs.getD 0) / 1000 } u))) ∧
  (∀ (s : State) (p : Fin 24) (started : Bool),
      let act (t : State) : Prop := exec (.linResponseTimeout p started) s = .next { t with pending := s.pending }
      ((portAt s p).lin.header = none → act s) ∧
      ∀ id own, (portAt s p).lin.header = some (id, own) →
        (started = true → act (responseError p id [] s)) ∧
        (started = false → act (count (pk p 8 3) { s with port := vmod s.port p fun x => { x with lin := { x.lin with header := none } } }))) ∧
  (∀ (s : State) (n id : Nat) (data : Blob),
      let u := count (pk n 8 4) { s with port := vmod s.port n fun x => { x with lin := { x.lin with header := none } } }
      let copies := (canClassify s n (linFrame id data)).2.2.1
      responseError n id data s = (List.range copies.length).foldl (fun t _ => count (odKey 0x3803 0x23) (count64 (policedKey n) t))
        ((List.range copies.length).foldl (fun t _ => count64 (framesInKey n) t) u)) ∧
  (∀ (s : State) (p : Fin 24),
      let n := if (portAt s p).lin.headerBad then (portAt s p).lin.readback else (portAt s p).lin.readback + 1
      let u := count (pk p 8 6) { s with port := vmod s.port p fun x => { x with lin := { x.lin with header := none, headerBad := true, readback := n } } }
      let acts := linOnBus s p = true ∧ linResponder s p = false
      (¬ acts → exec (.linReadbackError p) s = .next s) ∧
      (acts → n < 8 → exec (.linReadbackError p) s = .next { u with pending := s.pending }) ∧
      (acts → 8 ≤ n → exec (.linReadbackError p) s = .next { portDown p 3 u with pending := s.pending } ∧
        ((portAt s p).st = .running → Completes (.linReadbackError p) s fun t => (portAt t p).st = .down ∧ (portAt t p).flushing = true ∧ (portAt t p).lin.header = none ∧
          val t (pk p 8 6) = min (val s (pk p 8 6) + 1) 0xFFFFFFFF ∧ t.comb = s.comb ∧ t.kpr = s.kpr))) ∧
  (∀ (s : State) (p : Fin 24), exec (.linWakeupBlackoutEnd p) s = .next { s with port := vmod s.port p fun x => { x with lin := { x.lin with blackout := false } } }) ∧
  (∀ (s : State) (p : Fin 24),
      let resp := linOnBus s p = true ∧ linResponder s p = true
      (resp → (portAt s p).st = .running → exec (.linBusSleepTimeout p) s = .next { setPortState p .busSleep s with pending := s.pending } ∧
        Completes (.linBusSleepTimeout p) s fun t => (portAt t p).st = .busSleep ∧ t = { s with port := t.port, pwr := t.pwr, evt := t.evt, keeper := t.keeper }) ∧
      (resp → (portAt s p).st = .busSleep → exec (.linWakeupReceived p) s = .next { setPortState p .running s with pending := s.pending } ∧
        Completes (.linWakeupReceived p) s fun t => (portAt t p).st = .running ∧ t = { s with port := t.port, pwr := t.pwr, evt := t.evt, keeper := t.keeper }) ∧
      (¬ resp ∨ (portAt s p).st ≠ .running → exec (.linBusSleepTimeout p) s = .next s) ∧
      (¬ resp ∨ (portAt s p).st ≠ .busSleep → exec (.linWakeupReceived p) s = .next s)) ∧
  (∀ (s : State) (n : Nat) (st : FnState), n < 24 →
      ((portAt s n).st = st → setPortState n st s = s) ∧
      ((portAt s n).st ≠ st → isEth n = false ∨ st = .running →
        let on : Bool := st != .stopped && st != .down
        let u := { s with
          port := vmod s.port n fun p => { p with st := st }
          pwr := { s.pwr with votePort := vmod s.pwr.votePort n fun _ => on, ports := vmod s.pwr.ports n fun x => x && on } }
        setPortState n st s = keeperLine 7 (logEvent (16 + n) clsState (st.portCode + 256 * (portAt s n).downCause) (pk n 0 2) [] u)) ∧
      ((portAt s n).st ≠ st → (portAt (setPortState n st s) n).st = st))

/-- Ethernet and TSA ports: Enable, link, PHY, PLCA, wake, time and MACsec exhaustion.
* A write of a port's Enable is kept. A 0 begins the stop of a RUNNING, BUS-SLEEP or RECOVERING port, takes a PENDING one back to STOPPING, and ends a DOWN one, in STOPPING while its flush, its port test or a BIST lasts. Another value starts a STOPPED or DOWN port, PENDING while one of these lasts, makes a STOPPING one PENDING, restarts one in FAULT, and leaves a down port in its holdoff, or one that runs, as it is. A port test is told to stop first.
* A port that starts, its pads not held, flushes what came for it while it stood, and has empty queues and buffers, no pause, error counters at 0 and no down cause; a CAN or LIN port integrates to its bus; a GE or XG port is RECOVERING until its link is up, any other RUNNING, and a CAN port then differs in nothing else. With its pads held it is PENDING.
* A stop makes the port STOPPING from the present instant, its holdoff and its recovery ended; a LIN commander that is set to sends the go-to-sleep command first. A shut-down that has ended closes the sessions of the port, turns its link off, and leaves it STOPPED, its pads held where it stopped with its domain's vote; one that was PENDING starts.
* A link that is up and has held at the set rate and duplex of a fitted GE or XG port is noted, and a recovering port runs, its first frame started. At another rate or duplex the port is held down with cause 6, one that is down already too. At a STOPPED, unfitted or other port nothing changes.
* A GE or XG link that was up and fails takes its port down with cause 5; a running one is DOWN with its flush begun. Without such a link nothing changes.
* A cause of a down on a RUNNING, RECOVERING or BUS-SLEEP port declares it down: the cause stands, or 4 where the port has reached its downs in 60 s, the down is counted, the reception in progress ends, and the flush begins. On a STOPPING or PENDING port the down is counted and logged and the flush runs, the port's state as it is; one that flushes already, and any other port, does not change.
* On a TSA port on its line with PLCA enabled: a BEACON makes a follower take part; a follower that takes part and misses the BEACON reports PLCA inactive, counted in base + 0x0B/08; the coordinator sends a BEACON at every cycle and takes part. At another port, and for the other role, nothing changes.
* A fault of its PHY, or a transmitter that jabbers, takes a fitted TSA port that is not STOPPED down with cause 7, its holdoff ended; the fault stands. At another port nothing changes.
* A fault that clears is gone; a down port that has flushed and may recover begins its holdoff. Without a fault nothing changes.
* Activity of at least 8 times the filter setting in microseconds at a fitted, switched-off TSA0 or TSA1 whose wake is enabled is counted and latched as wake code 9 or 10; shorter activity, or any at another port, changes nothing.
* The wake burst ends and the port's first frame may start; nothing else changes, and with no frame to send nothing but the burst.
* At a running port with time services, the keeper running, a Sync makes the port asCapable exactly with a measured mean link delay. A well-formed one at an asCapable port makes it the slave port, with the offset it showed; at the reference port of the active Comb it gives the Comb's phase (log 117). A malformed one, or one without asCapable, is only logged. At another port nothing changes.
* A port whose transmit packet numbers stayed exhausted for its stall limit goes down with cause 8, and its frames that wait at F29 are flushed with it. Without exhaustion nothing changes. -/
def Obligations.EthernetLinks : Prop :=
  (∀ (slot : Fin 16) (p : Fin 24) (v : Nat), Writes (.portEnableWrite slot p v) slot (0x3000 + 0x20 * p) 1 (numFor (0x3000 + 0x20 * p) 1 v) (fun _ => true) fun s n _ =>
      let x := portAt s p
      let busy := x.flushing = true ∨ x.test.st = 1 ∨ s.test.bist = some (0x30 + p.val)
      let u := keepVal (portEnableKey p) n s
      let u := { u with port := vmod u.port p fun y => if y.test.st = 1 then { y with test := { y.test with stopping := true } } else y }
      .ok fun t =>
        (n = 0 → (x.st ∈ [.running, .busSleep, .recovering] → t = stopPort p u) ∧ (x.st = .pending → t = setPortState p .stopping u) ∧
          (x.st = .down → busy → t = setPortState p .stopping u) ∧ (x.st = .down → ¬ busy → t = finishStop p u) ∧
          (x.st ∉ [.running, .busSleep, .recovering, .pending, .down] → t = u)) ∧
        (n ≠ 0 → (x.st = .stopped → busy → t = setPortState p .pending u) ∧ (x.st = .stopped → ¬ busy → t = startPort p u) ∧
          (x.st = .stopping → t = setPortState p .pending u) ∧ (x.st = .down → busy → t = setPortState p .pending u) ∧
          (x.st = .down → ¬ busy → x.holdoff = true → t = u) ∧ (x.st = .down → ¬ busy → x.holdoff = false → t = startPort p u) ∧
          (x.st = .fault → t = startPort p u) ∧ (x.st ∉ [.stopped, .stopping, .down, .fault] → t = u))) ∧
  (∀ (s : State) (n : Nat), n < 24 →
      (s.pwr.held.getLsbD n = true → startPort n s = setPortState n .pending s) ∧
      (s.pwr.held.getLsbD n = false →
        let t := startPort n s
        let x := portAt t n
        x.st = (if portKind n = .ge ∨ portKind n = .xg then .recovering else .running) ∧ x.integrating = decide (n < 14) ∧ x.downCause = 0 ∧ x.holdoff = false ∧ x.recoverySeq = false ∧
        x.can.bufs = [] ∧ x.can.refBuf = none ∧ x.can.rq0 = [] ∧ x.can.rq1 = [] ∧ x.can.tec = 0 ∧ x.can.recv = 0 ∧ x.lin.rq0 = [] ∧ x.lin.rq1 = [] ∧ x.lin.resp = [] ∧ x.lin.header = none ∧
        x.eth.tx = none ∧ x.eth.control = [] ∧ x.eth.linkUp = false ∧ t.comb = s.comb ∧ t.kpr = s.kpr)) ∧
  (∀ (s : State) (n : Nat), n < 24 →
      (let u := if portKind n = .lin ∧ val s (pk n 1 1) = 0 ∧ flag s (pk n 0xB 1) = true ∧ (portAt s n).st = .running
         then { s with out := .linResponse n 0x3C ([0x00] ++ List.replicate 7 0xFF) 0x00 :: .linHeader n 0x3C :: s.out } else s
       stopPort n s = setPortState n .stopping { u with port := vmod s.port n fun x => { x with holdoff := false, recoverySeq := false, stopPs := nowPs s } }) ∧
      ((portAt s n).st ≠ .pending → (portAt (finishStop n s) n).st = .stopped ∧ (portAt (finishStop n s) n).eth.linkUp = false ∧ (portAt (finishStop n s) n).can.bufs = [] ∧
        (portAt (finishStop n s) n).voteOff = false ∧ (∀ i : Fin 15, ∀ x, s.sess.slots[i.val]? = some (some x) → x.endpoint = n → (finishStop n s).sess.slots[i.val]? = some none) ∧
        (finishStop n s).pwr.held = if (portAt s n).voteOff then s.pwr.held ||| BitVec.twoPow 26 n else s.pwr.held)) ∧
  (∀ (s : State) (p : Fin 24) (rate : Nat) (half : Bool),
      let act (t : State) : Prop := exec (.linkUp p rate half) s = .next { t with pending := s.pending }
      let has := 18 ≤ p.val ∧ portFitted s p = true ∧ (portAt s p).st ≠ .stopped
      let up (b : Bool) (r : Nat) : State := { s with port := vmod s.port p fun x => { x with eth := { x.eth with linkUp := b, rate := r } } }
      let fits := rate = val s (pk p 1 1) ∧ half = flag s (pk p 1 3)
      (¬ has → act s) ∧
      (has → fits → ((portAt s p).st = .recovering → act (startTx p (recovered p (up true rate)))) ∧ ((portAt s p).st ≠ .recovering → act (up true rate))) ∧
      (has → ¬ fits →
        let u := up false (portAt s p).eth.rate
        ((portAt s p).st ≠ .down → act (portDown p 6 u)) ∧ ((portAt s p).st = .down → (portAt s p).downCause = 6 → act u) ∧
        ((portAt s p).st = .down → (portAt s p).downCause ≠ 6 →
          act (logEvent (16 + p) clsState (4 + 256 * 6) (pk p 0 2) [] { u with port := vmod u.port p fun x => { x with downCause := 6, holdoff := false } })))) ∧
  (∀ (s : State) (p : Fin 24),
      let fails := 18 ≤ p.val ∧ (portAt s p).eth.linkUp = true
      let u : State := { s with port := vmod s.port p fun x => { x with eth := { x.eth with linkUp := false } } }
      (fails → exec (.linkFailure p) s = .next { portDown p 5 u with pending := s.pending } ∧
        ((portAt s p).st = .running → Completes (.linkFailure p) s fun t => (portAt t p).st = .down ∧ (portAt t p).eth.linkUp = false ∧ (portAt t p).flushing = true ∧ t.comb.active = s.comb.active ∧ t.kpr = s.kpr)) ∧
      (¬ fails → exec (.linkFailure p) s = .next s)) ∧
  (∀ (s : State) (n cause : Nat), n < 24 → 0 < cause → cause < 9 → cause ≠ 4 →
      ((portAt s n).st ∈ [.running, .recovering, .busSleep] →
        let t := portDown n cause s
        (portAt t n).st = .down ∧ (portAt t n).flushing = true ∧ (portAt t n).holdoff = false ∧ (portAt t n).recoverySeq = false ∧ (portAt t n).can.bufs = [] ∧ (portAt t n).lin.header = none ∧ (portAt t n).eth.tx = none ∧
        (portAt t n).downTimes = (portAt s n).downTimes.filter (fun d => decide (nowPs s ≤ d + 60 * secPs)) ++ [nowPs s] ∧
        (portAt t n).downCause = (if val s (pk n 4 3) ≤ (portAt t n).downTimes.length then 4 else cause) ∧ val t (pk n 4 4) = min (val s (pk n 4 4) + 1) 0xFFFFFFFF ∧
        t.fab.ingress[n]? = some none) ∧
      ((portAt s n).st ∈ [.stopping, .pending] → (portAt s n).flushing = false →
        let t := portDown n cause s
        (portAt t n).st = (portAt s n).st ∧ (portAt t n).flushing = true ∧ val t (pk n 4 4) = min (val s (pk n 4 4) + 1) 0xFFFFFFFF) ∧
      ((portAt s n).st ∉ [.running, .recovering, .busSleep, .stopping, .pending] ∨ (portAt s n).st ∈ [.stopping, .pending] ∧ (portAt s n).flushing = true → portDown n cause s = s)) ∧
  (∀ (s : State) (p : Fin 24),
      let on := ethOnLine s p = true ∧ portKind p = .tsa ∧ flag s (pk p 0xB 1) = true
      let follower := val s (pk p 0xB 2) ≠ 0
      let set (n : Nat) : State := { s with port := vmod s.port p fun x => { x with eth := { x.eth with plca := n } } }
      (on → follower → exec (.plcaBeacon p) s = .next (set 1)) ∧ (¬ on ∨ ¬ follower → exec (.plcaBeacon p) s = .next s) ∧
      (on → follower → (portAt s p).eth.plca = 1 → exec (.plcaBeaconTimeout p) s = .next { count (pk p 0xB 8) (set 2) with pending := s.pending }) ∧
      (¬ on ∨ ¬ follower ∨ (portAt s p).eth.plca ≠ 1 → exec (.plcaBeaconTimeout p) s = .next s) ∧
      (on → ¬ follower → exec (.plcaCycleStart p) s = .next { set 1 with out := .plcaBeacon p :: s.out }) ∧ (¬ on ∨ follower → exec (.plcaCycleStart p) s = .next s)) ∧
  (∀ (s : State) (p : Fin 24),
      let has := portKind p = .tsa ∧ portFitted s p = true ∧ (portAt s p).st ≠ .stopped
      let u : State := { s with port := vmod s.port p fun x => { x with holdoff := false, eth := { x.eth with phyFault := true } } }
      (has → exec (.tsaPhyFault p) s = .next { portDown p 7 u with pending := s.pending } ∧ exec (.tsaJabberTimeout p) s = .next { portDown p 7 u with pending := s.pending }) ∧
      (¬ has → exec (.tsaPhyFault p) s = .next s ∧ exec (.tsaJabberTimeout p) s = .next s)) ∧
  (∀ (s : State) (p : Fin 24),
      let u (h : Bool) : State := { s with port := vmod s.port p fun x => { x with holdoff := x.holdoff || h, eth := { x.eth with phyFault := false } } }
      let may := (portAt s p).st = .down ∧ (portAt s p).flushing = false ∧ val s (pk p 4 1) = 1 ∧ (portAt s p).downCause ∉ [4, 6]
      ((portAt s p).eth.phyFault = false → exec (.tsaFaultClear p) s = .next s) ∧
      ((portAt s p).eth.phyFault = true → may → exec (.tsaFaultClear p) s = .next (u true)) ∧
      ((portAt s p).eth.phyFault = true → ¬ may → exec (.tsaFaultClear p) s = .next (u false))) ∧
  (∀ (s : State) (p : Fin 24) (micros : Nat),
      let wakes := (p.val = 14 ∨ p.val = 15) ∧ portFitted s p = true ∧ s.pwr.vao = true ∧ val s (pk p 9 1) = 1 ∧ s.pwr.votePort[p.val]? = some false ∧ 8 * val s (pk p 9 2) ≤ micros
      (wakes → exec (.tsaWakeActivity p micros) s = .next { latchWake (p - 5) (count (pk p 9 9) s) with pending := s.pending }) ∧
      (¬ wakes → exec (.tsaWakeActivity p micros) s = .next s)) ∧
  (∀ (s : State) (p : Fin 24),
      let u : State := { s with port := vmod s.port p fun x => { x with eth := { x.eth with wakeBurst := false } } }
      exec (.tsaWakeBurstEnd p) s = .next { startTx p u with pending := s.pending } ∧ (nextFrame u p = none → exec (.tsaWakeBurstEnd p) s = .next u)) ∧
  (∀ (s : State) (p : Fin 24) (offset : Int) (good : Bool) (delay : Option Nat),
      let hears := ethAccepts s p = true ∧ flag s (pk p 0xA 4) = true ∧ s.kpr.running = true
      let u : State := { s with port := vmod s.port p fun x => { x with eth := { x.eth with asCapable := delay.isSome, meanDelay := delay.getD 0 % 2 ^ 32 } } }
      let v := setVal (odKey 0x1040 0xB) (unsignedOf 64 offset) (setVal (odKey 0x1040 0xA) p (setVal (odKey 0x1040 9) 1 u))
      let act (t : State) : Prop := exec (.gptpSyncReceived p offset good delay) s = .next { t with pending := s.pending }
      (¬ hears → act s) ∧ (hears → good = false ∨ delay = none → act (logEvent 0 clsPartner 0 (odKey 0x1040 9) [p.val] u)) ∧
      (hears → good = true → delay ≠ none → act (setGptpPhase p offset v) ∧
        Completes (.gptpSyncReceived p offset good delay) s fun t => t = { s with port := t.port, od := t.od, comb := { s.comb with phasePs := t.comb.phasePs } } ∧ (portAt t p).eth.asCapable = true ∧
          (∀ k, val t k = if k = odKey 0x1040 9 then 1 else if k = odKey 0x1040 0xA then p.val else if k = odKey 0x1040 0xB then unsignedOf 64 offset else val s k) ∧
          ((∀ c, s.comb.active = some c → c.tsrc ≠ 1 ∨ c.tref ≠ p.val) → t.comb = s.comb))) ∧
  (∀ (s : State) (p : Fin 24),
      ((portAt s p).eth.pnExhausted = true → exec (.pnExhaustionTimeout p) s = .next { flushFrames p (waitingAtF29 s p) (portDown p 8 s) with pending := s.pending } ∧
        ((portAt s p).st = .running → Completes (.pnExhaustionTimeout p) s fun t => (portAt t p).st = .down ∧ (portAt t p).eth.pnExhausted = false ∧ (portAt t p).flushing = true ∧
          (∀ f ∈ t.fab.frames, f.outPort = 29 → f.next = some p.val → f.taken = true) ∧ t.comb.active = s.comb.active ∧ t.kpr = s.kpr)) ∧
      ((portAt s p).eth.pnExhausted = false → exec (.pnExhaustionTimeout p) s = .next s))

/-- Ethernet reception, transmission and flow control.
* Every decision is made on the first 64 bytes: a MAC control frame, a head while another frame is in reception, one of fewer bytes, or one at a port that accepts nothing changes nothing. A frame with no copy is counted in base + 0x08/05. Any other gets its timestamp, counts a cell against a pause grace, and begins: one the policer refuses is discarded under cause 2 or 1; each copy of an admitted one begins, but for a copy that an unpausable source cannot place, discarded under cause 5.
* A copy that begins is a frame of its own, counted as in and matched to its flow, with the head as its bytes so far, cut through where the decision says so and nothing is stripped; its first cell enters its input unless its tag is being stripped.
* The end of a frame at a port on its line: a fragment of fewer than 64 bytes is counted in base + 0x08/04. A longer one counts as received in base + 0x08/01 and, errored, in base + 0x08/03; its reception is over, the cells that came while its class was paused count against the grace, and unless the policer discarded it its class's bucket is charged. Then each copy of an errored frame is rejected, unless the port delivers errored frames, counted in base + 0x08/08; each copy of any other gets the rest of its cells. Off the line nothing changes.
* A frame is errored with a wrong FCS, a code error, more bytes than its port takes, or, on a MACsec port, a bad SecTAG or any frame that is not MACsec, EAPOL, MAC control or steered gPTP. A rejected copy that was not cut through is discarded under cause 3 and gone; an ended copy has all its bytes and its error flag.
* The frame in the MAC, all its cells sent, leaves with its egress handling and FCS: it counts in base + 0x08/02 and as out, its transmit timestamp is held, its output is free, the control frames that waited follow, and the next frame starts. Under a generating port test the frame is the test's. With no frame, a back-off, cells missing or off its line nothing changes.
* A collision of the frame in the MAC of a port under CSMA/CD is counted in base + 0x08/06 and the frame waits for its back-off, its attempts one more. At the end of the back-off the next attempt begins, one beyond the 16th counted in base + 0x08/07. Without such a frame, or such a back-off, nothing changes.
* A received pause or PFC frame is counted in base + 0x03/07. In mode 1 a pause names every class; in mode 2 a PFC frame names the classes in the PFC mask whose priority it enables, each with that priority's time. A named class with quanta 0 is released, an override ended; with others it is stopped for that time, unless an override lasts. Other classes stay; then the next frame may start. In the other modes, or at half duplex, only the count changes; off the line nothing.
* A pause time that runs out releases its class, and the next frame may start; nothing else changes.
* A class stopped by a pause for the watchdog limit is overridden, counted in base + 0x03/06 and logged, and the next frame may start. A class that is not stopped does not change.
* An override ends after one limit without a pause, and its class with it; a class without one, and everything else, stays.
* A flow-control mode of 0, or half duplex, is refused with 0x08000022 where a Comb that can run counts the port as pausable; half duplex above 100 Mbit/s is out of range. Any other value is kept. -/
def Obligations.EthernetFrames : Prop :=
  (∀ (s : State) (p : Fin 24) (head : Blob) (ago : Nat),
      let h := head.take 64
      let takes := ethAccepts s p = true ∧ s.fab.ingress[p.val]? = some none ∧ 64 ≤ head.length ∧ (ethHead h).etype ≠ 0x8808
      let (tc, copies, bucket) := ethClassify s p h
      let strip := flag s (pk p 2 3) && (ethHead h).tci.isSome
      let ts := (8 * nowPs s - 15625 * ago) / 8000 - val s (pk p 0xA 1)
      let u := graceCount p tc 1 { s with port := vmod s.port p fun x => { x with eth := { x.eth with rxTs := ts } } }
      let began := copies.foldl (fun acc c => if sourceFull acc.1 p c.1 tc then (policed p 5 1 acc.1, acc.2) else beginCopy p tc bucket (ts % 2 ^ 32) h strip c acc) (u, [])
      let done (v : State) (g : Ingress) : Prop := exec (.ethFrameHead p head ago) s = .next { v with fab := { v.fab with ingress := vmod v.fab.ingress p fun _ => some g }, pending := s.pending }
      (¬ takes → exec (.ethFrameHead p head ago) s = .next s) ∧
      (takes → copies = [] → exec (.ethFrameHead p head ago) s = .next { count (pk p 8 5) s with pending := s.pending }) ∧
      (takes → copies ≠ [] →
        (∀ cause, policeCause s p tc = some cause → done (policed p cause copies.length u) { copies := [], tc := tc, cause := some cause, cells := if strip then 0 else 1, head := h, ts := nowPs u }) ∧
        (policeCause s p tc = none → done began.1 { copies := began.2, tc := tc, cause := none, cells := if strip then 0 else 1, head := h, ts := nowPs began.1 }))) ∧
  (∀ (s : State) (n tc bucket ts : Nat) (head : Blob) (strip : Bool) (c : Nat × Option Nat × Option Nat) (ids : List Nat),
      let f : Frame := { id := 0, bytes := head, inPort := n, outPort := c.1, tc := tc, hash := bucket, ts := ts, rxPort := n, whole := false,
                         ct := !strip && cutThrough s n c.1 tc, ciph := c.1 == 29, next := c.2.1, pdu := c.2.2 }
      (beginCopy n tc bucket ts head strip c (s, ids)).2 = ids ++ [s.fab.nextFrame] ∧
      (strip = true → (beginCopy n tc bucket ts head strip c (s, ids)).1 = (addFrame f s).1) ∧
      (strip = false → (beginCopy n tc bucket ts head strip c (s, ids)).1 = sendCells s.fab.nextFrame 0 1 (addFrame f s).1) ∧
      (addFrame f s).2 = s.fab.nextFrame ∧ (addFrame f s).1.fab.nextFrame = s.fab.nextFrame + 1 ∧
      ∃ g, (addFrame f s).1.fab.frames = s.fab.frames ++ [g] ∧ g = { f with id := s.fab.nextFrame, flow := s.comb.active.bind fun c => c.flowOf f.inPort f.outPort f.tc, win := g.win }) ∧
  (∀ (s : State) (p : Fin 24) (frame : Blob) (code : Bool),
      let act (t : State) : Prop := exec (.ethFrameEnd p frame code) s = .next { t with pending := s.pending }
      let err := ethErrored s p frame code
      let u := count (pk p 8 1) (if err then count (pk p 8 3) s else s)
      (ethOnLine s p = false → act s) ∧ (ethOnLine s p = true → frame.length < 64 → act (count (pk p 8 4) s)) ∧
      (ethOnLine s p = true → 64 ≤ frame.length →
        (s.fab.ingress[p.val]? = some none → act u) ∧
        ∀ g, s.fab.ingress[p.val]? = some (some g) →
          let v : State := { u with fab := { u.fab with ingress := vmod u.fab.ingress p fun _ => none } }
          let bytes := stripTag v p (frame.take (val v (pk p 1 2)))
          let w := graceCount p g.tc (pausedCells v p g.tc g.ts (ceilDiv bytes.length 64)) v
          let x := bucketCharge p g.tc bytes.length w
          (g.cause ≠ none → act w) ∧
          (g.cause = none → err = true → flag x (pk p 1 4) = false → act (g.copies.foldl (fun s id => rejectCopy p bytes g.cells id s) x)) ∧
          (g.cause = none → err = true → flag x (pk p 1 4) = true → act (g.copies.foldl (fun s id => endCopy bytes true g.cells id s) (count (pk p 8 8) x))) ∧
          (g.cause = none → err = false → act (g.copies.foldl (fun s id => endCopy bytes false g.cells id s) x)))) ∧
  (∀ (s : State) (n : Nat) (b : Blob) (code : Bool) (first id : Nat) (f : Frame),
      (ethErrored s n b code = true ↔ b.drop (b.length - 4) ≠ leBytes 4 (crc32 (b.take (b.length - 4))) ∨ code = true ∨ val s (pk n 1 2) < b.length ∨
        macsecOn s n = true ∧ (if (ethHead b).etype = 0x88E5 then secTagBad s n b = true else (ethHead b).etype ∉ [0x888E, 0x8808] ∧ gptpSteered s n (ethHead b) = false)) ∧
      (frameAt s id = some f → f.ct = false → rejectCopy n b first id s = countPoliced n 3 1 (removeFrame id s)) ∧
      (frameAt s id = none → rejectCopy n b first id s = s) ∧
      (countPoliced n 3 1 s = count (odKey 0x3803 0x23) (count64 (policedKey n) s))) ∧
  (∀ (s : State) (p : Fin 24) (ago : Nat),
      let act (t : State) : Prop := exec (.ethFrameTransmitted p ago) s = .next { t with pending := s.pending }
      (testGenerates s p = true → act (testFrameSent p s)) ∧
      (testGenerates s p = false → (portAt s p).eth.tx.bind (frameAt s) = none → act s) ∧
      ∀ f, testGenerates s p = false → (portAt s p).eth.tx.bind (frameAt s) = some f →
        let leaves := ethOnLine s p = true ∧ (portAt s p).eth.backoff = false ∧ frameReady s f.id = true
        let u := { count (pk p 8 2) s with out := .eth p (egressBytes (count (pk p 8 2) s) p f) f.err :: s.out }
        let v := frameOut f.id (unlockSent f (15625 * ago / 8) u)
        (¬ leaves → act s) ∧
        (leaves → act (startTx p (sendControls p { v with port := vmod v.port p fun x => { x with eth := { x.eth with tx := none, attempts := 0, txTs := txStamp v p ago } } })) ∧
          Completes (.ethFrameTransmitted p ago) s fun t => (∃ o, t.out = o ++ .eth p (egressBytes s p f) f.err :: s.out) ∧
            val t (pk p 8 2) = min (val s (pk p 8 2) + 1) 0xFFFFFFFF ∧ (portAt t p).eth.control = [] ∧ (portAt t p).eth.attempts = 0 ∧ t.comb = s.comb ∧ t.kpr = s.kpr)) ∧
  (∀ (s : State) (p : Fin 24),
      let x := (portAt s p).eth
      let collides := ethOnLine s p = true ∧ (portKind p = .tsa ∨ portKind p = .ge ∧ flag s (pk p 1 3) = true) ∧ x.tx ≠ none ∧ x.backoff = false
      let u (e : EthSt → EthSt) : State := { s with port := vmod s.port p fun y => { y with eth := e y.eth } }
      (collides → exec (.collision p) s = .next { s with port := (u fun e => { e with attempts := e.attempts + 1, backoff := true }).port, od := (count (pk p 8 6) s).od }) ∧
      (¬ collides → exec (.collision p) s = .next s) ∧
      (x.backoff = true → x.attempts < 16 → exec (.backoffExpiry p) s = .next (u fun e => { e with backoff := false })) ∧
      (x.backoff = true → 16 ≤ x.attempts → exec (.backoffExpiry p) s = .next { count (pk p 8 7) (u fun e => { e with backoff := false }) with pending := s.pending }) ∧
      (x.backoff = false → exec (.backoffExpiry p) s = .next s)) ∧
  (∀ (s : State) (p : Fin 24) (q : BitVec 16) (e : BitVec 8) (times : List (BitVec 16)),
      let u := count (pk p 3 7) s
      let mode (m : Nat) : Prop := 18 ≤ p.val ∧ flag u (pk p 1 3) = false ∧ val u (pk p 3 3) = m
      let named (x : PauseSt) (quanta : Nat) : PauseSt := if quanta = 0 then {} else if x.override then x else { x with stopped := true, quanta := quanta }
      let start (f : Nat → PauseSt → PauseSt) : State := startTx p ((List.range 8).foldl (fun v tc => modPort p (fun x => { x with eth := { x.eth with pauses := vmod x.eth.pauses tc (f tc) } }) v) u)
      (ethOnLine s p = false → exec (.pauseFrameReceived p q) s = .next s ∧ exec (.pfcFrameReceived p e times) s = .next s) ∧
      (ethOnLine s p = true → (¬ mode 1 → exec (.pauseFrameReceived p q) s = .next { u with pending := s.pending }) ∧ (¬ mode 2 → exec (.pfcFrameReceived p e times) s = .next { u with pending := s.pending })) ∧
      (ethOnLine s p = true → mode 1 → exec (.pauseFrameReceived p q) s = .next { start (fun _ x => named x q.toNat) with pending := s.pending }) ∧
      (ethOnLine s p = true → mode 2 → exec (.pfcFrameReceived p e times) s = .next { start (fun tc x =>
        if e.toNat.testBit (prioOf u p tc) = true ∧ (val u (pk p 3 4)).testBit tc = true then named x ((times.map (·.toNat)).getD (prioOf u p tc) 0) else x) with pending := s.pending })) ∧
  (∀ (s : State) (p : Fin 24) (tc : Fin 8),
      let u : State := { s with port := vmod s.port p fun x => { x with eth := { x.eth with pauses := vmod x.eth.pauses tc fun y => { y with stopped := false, quanta := 0 } } } }
      exec (.pauseExpiry p tc) s = .next { startTx p u with pending := s.pending } ∧
      Completes (.pauseExpiry p tc) s fun t => (portAt t p).eth.pauses = (portAt u p).eth.pauses ∧ t = { s with port := t.port, fab := t.fab }) ∧
  (∀ (s : State) (p : Fin 24) (tc : Fin 8),
      let u := logEvent (16 + p) clsPartner 0 (pk p 3 6) [BitVec.ofNat 8 tc] (count (pk p 3 6)
        { s with port := vmod s.port p fun x => { x with eth := { x.eth with pauses := vmod x.eth.pauses tc fun y => { y with override := true } } } })
      (classPaused s p tc = true → exec (.pauseWatchdogExpiry p tc) s = .next { startTx p u with pending := s.pending }) ∧
      (classPaused s p tc = false → exec (.pauseWatchdogExpiry p tc) s = .next s)) ∧
  (∀ (s : State) (p : Fin 24) (tc : Fin 8), exec (.watchdogOverrideTimeout p tc) s = .next { s with port := vmod s.port p fun x =>
      { x with eth := { x.eth with pauses := vmod x.eth.pauses tc fun y => if y.override then { stopped := false, quanta := 0, override := false } else y } } }) ∧
  (∀ (slot : Fin 16) (p : Fin 24) (half : Bool) (v : Nat),
      let idx := 0x3000 + 0x20 * p.val + (if half then 1 else 3)
      Writes (.flowControlModeWrite slot p half v) slot idx 3 (numFor idx 3 v) (fun s => flowModeOpen s p half v) (fun s n _ =>
        if half = true ∧ n ≠ 0 ∧ 100 < val s (pk p 1 1) then .error 0x06090030 else .ok (· = keepVal (if half then pk p 1 3 else pk p 3 3) n s)) ∧
      ∀ s : State, flowModeOpen s p half v = false ↔ combPausable s p = true ∧ (if half then v ≠ 0 else v = 0))

/-- Profold register instructions: result, flags, distance, pc, and everything left unchanged. Each is stated for a core that offers the instruction's word with nothing in flight, in both modes, and so are the traps of its operands.
* The ALU group's two-operand instructions give the result of their tagged operation one cycle later.
* The MUL group's products come two cycles later in exposed mode and one in load-delay mode.
* The FP group's results come three cycles later.
* NOT, MOV, NEG and ABS read ra; their rb field is 0.
* FABS and FNEG read ra.
* The instructions with an immediate give their result one cycle later.
* The shifts by an immediate take their amount from the rb field.
* LI gives a tag its immediate, LIH replaces the upper half of rd.
* CVT and RETAG to a legal target take three cycles where F32 is involved, TAGT gives the tag code whatever the tag.
* BFX, BFI and CRC give their result one cycle later. A field that runs past bit 31 gives BFX a free value.
* The divides give their result 12 cycles later and hold the one divide unit from their issue. Where it is busy, a core in load-delay mode waits for it and one in exposed mode traps with 0x08.
* FMA of three words gives their fused sum three cycles later; zero times infinity plus a quiet NaN leaves NV free. -/
def Obligations.ProfoldResults : Prop :=
  (∀ (c : CoreId) (rd ra rb : Fin 32) (s : State),
      let a := (coreOf c s).g[ra]
      let b := (coreOf c s).g[rb]
      let R (fn : Nat) (r : Except PfTrap PfVal) (i : Instr) : Prop := Gives c s (encR 0 rd ra rb fn) rd 1 1 r i
      R 0x001 (addOp false false a b) (.pfAdd c rd ra rb) ∧ R 0x002 (addOp true false a b) (.pfSub c rd ra rb) ∧
      R 0x003 (addOp false true a b) (.pfAdds c rd ra rb) ∧ R 0x004 (addOp true true a b) (.pfSubs c rd ra rb) ∧
      R 0x005 (logicOp (· &&& ·) a b) (.pfAnd c rd ra rb) ∧ R 0x006 (logicOp (· ||| ·) a b) (.pfOr c rd ra rb) ∧
      R 0x007 (logicOp (· ^^^ ·) a b) (.pfXor c rd ra rb) ∧ R 0x009 (shiftOp .left a b) (.pfShl c rd ra rb) ∧
      R 0x00A (shiftOp .right a b) (.pfShr c rd ra rb) ∧ R 0x00B (shiftOp .arith a b) (.pfSra c rd ra rb) ∧
      R 0x00F (compareOp .eq a b) (.pfCeq c rd ra rb) ∧ R 0x010 (compareOp .ne a b) (.pfCne c rd ra rb) ∧
      R 0x011 (compareOp .lt a b) (.pfClt c rd ra rb) ∧ R 0x012 (compareOp .le a b) (.pfCle c rd ra rb) ∧
      R 0x013 (minMaxOp false a b) (.pfMin c rd ra rb) ∧ R 0x014 (minMaxOp true a b) (.pfMax c rd ra rb)) ∧
  (∀ (c : CoreId) (rd ra rb : Fin 32) (s : State),
      let a := (coreOf c s).g[ra]
      let b := (coreOf c s).g[rb]
      let R (fn : Nat) (r : Except PfTrap PfVal) (i : Instr) : Prop := Gives c s (encR 1 rd ra rb fn) rd 2 1 r i
      R 0 (mulOp false a b) (.pfMul c rd ra rb) ∧ R 1 (mulOp true a b) (.pfMuls c rd ra rb) ∧ R 2 (mulhOp a b) (.pfMulh c rd ra rb) ∧
      R 3 (qmulOp a b) (.pfQmul c rd ra rb)) ∧
  (∀ (c : CoreId) (rd ra rb : Fin 32) (s : State),
      let a := (coreOf c s).g[ra]
      let b := (coreOf c s).g[rb]
      let R (fn : Nat) (r : Except PfTrap PfVal) (i : Instr) : Prop := Gives c s (encR 2 rd ra rb fn) rd 3 3 r i
      R 0 (fpOp f32Add a b) (.pfFadd c rd ra rb) ∧ R 1 (fpOp f32Sub a b) (.pfFsub c rd ra rb) ∧ R 2 (fpOp f32Mul a b) (.pfFmul c rd ra rb) ∧
      R 4 (fpOp (f32MinMax false) a b) (.pfFmin c rd ra rb) ∧ R 5 (fpOp (f32MinMax true) a b) (.pfFmax c rd ra rb)) ∧
  (∀ (c : CoreId) (rd ra : Fin 32) (s : State),
      let a := (coreOf c s).g[ra]
      let R (fn : Nat) (r : Except PfTrap PfVal) (i : Instr) : Prop := Gives c s (encR 0 rd ra 0 fn) rd 1 1 r i
      R 0x008 (notOp a) (.pfNot c rd ra 0) ∧ R 0x015 (movOp a) (.pfMov c rd ra 0) ∧ R 0x016 (negOp a) (.pfNeg c rd ra 0) ∧
      R 0x017 (absOp a) (.pfAbs c rd ra 0)) ∧
  (∀ (c : CoreId) (rd ra rb : Fin 32) (s : State),
      Gives c s (encR 2 rd ra rb 6) rd 3 3 (fpUnary f32Abs (coreOf c s).g[ra]) (.pfFabs c rd ra rb) ∧
      Gives c s (encR 2 rd ra rb 7) rd 3 3 (fpUnary f32Neg (coreOf c s).g[ra]) (.pfFneg c rd ra rb)) ∧
  (∀ (c : CoreId) (rd ra : Fin 32) (imm : BitVec 16) (s : State),
      let a := (coreOf c s).g[ra]
      let R (op : Nat) (r : Except PfTrap PfVal) (i : Instr) : Prop := Gives c s (encI op rd ra imm.toNat) rd 1 1 r i
      R 0x08 (addImm a imm) (.pfAddi c rd ra imm) ∧ R 0x09 (logicImm (· &&& ·) a imm) (.pfAndi c rd ra imm) ∧
      R 0x0A (logicImm (· ||| ·) a imm) (.pfOri c rd ra imm) ∧ R 0x0B (logicImm (· ^^^ ·) a imm) (.pfXori c rd ra imm) ∧
      R 0x0C (compareImm .lt a imm) (.pfClti c rd ra imm) ∧ R 0x0D (compareImm .eq a imm) (.pfCeqi c rd ra imm)) ∧
  (∀ (c : CoreId) (rd ra n : Fin 32) (s : State),
      let a := (coreOf c s).g[ra]
      let R (fn : Nat) (r : Except PfTrap PfVal) (i : Instr) : Prop := Gives c s (encR 0 rd ra n fn) rd 1 1 r i
      R 0x00C (shiftImm .left a n) (.pfShli c rd ra n) ∧ R 0x00D (shiftImm .right a n) (.pfShri c rd ra n) ∧
      R 0x00E (shiftImm .arith a n) (.pfSrai c rd ra n)) ∧
  (∀ (c : CoreId) (rd : Fin 32) (zext : Bool) (tag : BitVec 4) (imm : BitVec 16) (s : State),
      (isTarget tag = true → Gives c s (encI 0x0E rd (zext.toNat * 16 + tag.toNat) imm.toNat) rd 1 1 (liOp tag zext imm) (.pfLi c rd zext tag imm)) ∧
      Gives c s (encI 0x0F rd 0 imm.toNat) rd 1 1 (lihOp (coreOf c s).g[rd] imm) (.pfLih c rd 0 imm)) ∧
  (∀ (c : CoreId) (rd ra : Fin 32) (fn : BitVec 11) (f8 : BitVec 8) (s : State),
      (isTarget (fn.extractLsb' 0 4) = true → ∀ d, d = (if fn.extractLsb' 0 4 == tF32 || (coreOf c s).g[ra].tag == tF32 then 3 else 1) →
        Gives c s (encR 3 rd ra 0 fn.toNat) rd d d (cvtOp (fn.extractLsb' 0 4) (fn.getLsbD 4) (coreOf c s).g[ra]) (.pfCvt c rd ra 0 fn)) ∧
      Gives c s (encR 4 rd ra 0 f8.toNat) rd 1 1 (.ok { w := mkWord tU8 (coreOf c s).g[ra].tag.toNat }) (.pfTagt c rd ra 0 f8) ∧
      (isTarget (f8.extractLsb' 0 4) = true → ∀ d, d = (if f8.extractLsb' 0 4 == tF32 then 3 else 1) →
        Gives c s (encR 4 rd ra 0 (256 + f8.toNat)) rd d d (retagOp (f8.extractLsb' 0 4) (coreOf c s).g[ra]) (.pfRetag c rd ra 0 f8))) ∧
  (∀ (c : CoreId) (rd ra : Fin 32) (imm : BitVec 16) (s : State),
      let a := (coreOf c s).g[ra]
      (bfOpen imm = false → Gives c s (encI 0x22 rd ra imm.toNat) rd 1 1 (bfxOp imm 0 a) (.pfBfx c rd ra imm)) ∧
      (bfOpen imm = true → Quiet c s (encI 0x22 rd ra imm.toNat) →
        (∀ v, bfxOp imm (free (2 ^ 32) s).1 a = .ok v → exec (.pfBfx c rd ra imm) s = .next (modCore c (·.after rd v 1) (free (2 ^ 32) s).2)) ∧
        ∀ t, bfxOp imm (free (2 ^ 32) s).1 a = .error t → t.code ≠ 0x0B → Traps c s t (.pfBfx c rd ra imm)) ∧
      Gives c s (encI 0x23 rd ra imm.toNat) rd 1 1 (bfiOp imm (coreOf c s).g[rd] a) (.pfBfi c rd ra imm) ∧
      Gives c s (encR 0x24 rd ra 0 0) rd 1 1 (crcOp (coreOf c s).g[rd] a) (.pfCrc c rd ra)) ∧
  (∀ (c : CoreId) (rd ra rb : Fin 32) (s : State),
      let a := (coreOf c s).g[ra]
      let b := (coreOf c s).g[rb]
      let D (w : Word) (r : Except PfTrap PfVal) (i : Instr) : Prop := Quiet c s w →
        (∀ v, r = .ok v → exec i s = .next (modCore c (fun k => { k.after rd v 12 with lastDiv := some k.cyc }) s)) ∧
        (∀ t, r = .error t → t.code ≠ 0x0B → Traps c s t i) ∧
        ∀ d, (coreOf c s).cyc < d + 12 →
          let u := modCore c (fun k => { k with lastDiv := some d }) s
          ((coreOf c s).loadDelay = true → ∀ v, r = .ok v → exec i u = .next (modCore c (fun k =>
            { { k with cyc := d + 12 }.after rd v 12 with lastDiv := some (d + 12) }) s)) ∧
          ((coreOf c s).loadDelay = false → Traps c u ⟨0x08, 0⟩ i)
      D (encR 1 rd ra rb 4) (divOp false a b) (.pfDiv c rd ra rb) ∧ D (encR 1 rd ra rb 5) (divOp true a b) (.pfRem c rd ra rb) ∧
      D (encR 2 rd ra rb 3) (fpOp f32Div a b) (.pfFdiv c rd ra rb)) ∧
  (∀ (c : CoreId) (rd ra rb : Fin 32) (s : State), Quiet c s (encR 2 rd ra rb 8) →
      let k := coreOf c s
      let o : Bool := k.g[rd].tag == tF32 && k.g[ra].tag == tF32 && k.g[rb].tag == tF32 && fmaOpen k.g[rd].val k.g[ra].val k.g[rb].val
      (∀ v, fmaOp k.g[rd] k.g[ra] k.g[rb] = .ok v →
        (o = false → exec (.pfFma c rd ra rb) s = .next (modCore c (·.after rd v 3) s)) ∧
        (o = true → Completes (.pfFma c rd ra rb) s fun t => ∃ f, (f = v.flags ∨ f = v.flags ||| flagNV) ∧
          t = modCore c (·.after rd { v with flags := f } 3) { s with freeCtr := s.freeCtr + 1 })) ∧
      ∀ t, fmaOp k.g[rd] k.g[ra] k.g[rb] = .error t → t.code ≠ 0x0B → Traps c s t (.pfFma c rd ra rb))

/-- Profold loads, stores and reservations: what is read or written, that every other word stands, and the traps of their addresses.
* LD and LDP from a word of the core's own memory leave one load in flight, two cycles later in load-delay mode and three in exposed mode; nothing else changes. An sg field of LDP that is not 0 is stated under segment words.
* A load of the keeper past its own memory: the object dictionary window and the Comb banks read as they stand; DRAM holds payloads alone, which read RAW after a time that the manual does not state; anywhere else the word is VOID and the access is logged.
* LRW loads as LD does and places the core's one reservation on the word, in place of any other.
* ST, STP and, in supervisor state, STT write the word rd holds, tag included, at the address; every other word and every register stands, and a reservation on the word is lost. VOID goes only through STT.
* A store of the keeper past its own memory: into the window, into a standby bank that is LOADING, into DRAM without its tag; elsewhere it is discarded and logged.
* SCW stores only under a reservation of this core on the word that is not older than 63 cycles; the register gets BOOL 1 or 0 as a load would, and the reservation ends either way.
* MKP makes a SEG word of the segment number and of the offset modulo 2^28, and checks no limit.
* A checked address is the base plus the offset, in order: not valid 0x07, outside the limit 0x05, a missing right 0x06; none of them reads or writes.
* An address that fails its check traps with its code, and so does a store of VOID (0x01) but for STT; nothing is read or written. -/
def Obligations.ProfoldMemory : Prop :=
  (∀ (c : CoreId) (rd ra : Fin 32) (sg : Fin 16) (off : BitVec 12) (a : Nat) (s : State), OwnWord c a →
      (Quiet c s (encM 0x10 rd ra sg off.toNat) → address (coreOf c s) .load ra sg off = .ok a →
        exec (.pfLd c rd ra sg off) s = .next (modCore c (fun k => k.loading rd (k.word a) 0 true) s)) ∧
      (Quiet c s (encM 0x12 rd ra 0 off.toNat) → addressSeg (coreOf c s) .load ra off = .ok a →
        exec (.pfLdp c rd ra 0 off) s = .next (modCore c (fun k => k.loading rd (k.word a) 0 true) s))) ∧
  (∀ (rd ra : Fin 32) (sg : Fin 16) (off : BitVec 12) (a : Nat) (s : State), Quiet .keeper s (encM 0x10 rd ra sg off.toNat) →
      address s.keeper .load ra sg off = .ok a → 0x80000 ≤ a →
      let gives (w : PfWord) (u : State) : Prop :=
        exec (.pfLd .keeper rd ra sg off) s = conclude s (modCore .keeper (fun k => k.loading rd w 0 true) u)
      (0x01000000 ≤ a → a < 0x01100000 → gives (odWindowLoad s (a - 0x01000000)) s) ∧
      (0x02000000 ≤ a → a < 0x02200000 → gives (rawWord (bankWord (bankImage s ((a - 0x02000000) / 0x100000)) (a % 0x100000))) s) ∧
      (0x80000000 ≤ a → ∃ n, exec (.pfLd .keeper rd ra sg off) s =
        .next (modCore .keeper (fun k => k.loading rd (rawWord (k.word a).val) n true) { s with freeCtr := s.freeCtr + 1 })) ∧
      (a < 0x80000000 → ¬ (0x01000000 ≤ a ∧ a < 0x01100000) → ¬ (0x02000000 ≤ a ∧ a < 0x02200000) →
        gives {} (logEvent 0 clsRefusal 0 0 (leBytes 4 a) s))) ∧
  (∀ (c : CoreId) (rd ra : Fin 32) (sg : Fin 16) (off : BitVec 12) (a : Nat) (s : State), Quiet c s (encM 0x14 rd ra sg off.toNat) → OwnWord c a →
      address (coreOf c s) .atomic ra sg off = .ok a →
      exec (.pfLrw c rd ra sg off) s = .next (modCore c (fun k => { k.loading rd (k.word a) 0 true with resv := some (a, k.cyc) }) s)) ∧
  (∀ (c : CoreId) (rd ra : Fin 32) (sg : Fin 16) (off : BitVec 12) (a : Nat) (s : State), OwnWord c a →
      (Quiet c s (encM 0x11 rd ra sg off.toNat) → address (coreOf c s) .store ra sg off = .ok a → (coreOf c s).g[rd].tag ≠ tVoid →
        Completes (.pfSt c rd ra sg off) s fun t => Stored c a (coreOf c s).g[rd] s t) ∧
      (Quiet c s (encM 0x13 rd ra 0 off.toNat) → addressSeg (coreOf c s) .store ra off = .ok a → (coreOf c s).g[rd].tag ≠ tVoid →
        Completes (.pfStp c rd ra 0 off) s fun t => Stored c a (coreOf c s).g[rd] s t) ∧
      (Quiet c s (encM 0x17 rd ra sg off.toNat) → address (coreOf c s) .store ra sg off = .ok a → (coreOf c s).user = false →
        Completes (.pfStt c rd ra sg off) s fun t => Stored c a (coreOf c s).g[rd] s t)) ∧
  (∀ (rd ra : Fin 32) (sg : Fin 16) (off : BitVec 12) (a : Nat) (s : State), Quiet .keeper s (encM 0x11 rd ra sg off.toNat) →
      address s.keeper .store ra sg off = .ok a → s.keeper.g[rd].tag ≠ tVoid → 0x80000 ≤ a → s.keeper.resv = none →
      let w := s.keeper.g[rd]
      let gives (u : State) : Prop := exec (.pfSt .keeper rd ra sg off) s = conclude s (modCore .keeper (·.moved) u)
      (0x01000000 ≤ a → a < 0x01100000 → gives (odWindowStore (a - 0x01000000) w s)) ∧
      (0x02000000 ≤ a → a < 0x02200000 → s.comb.state = .loading → (a - 0x02000000) / 0x100000 ≠ s.comb.bank →
        gives { s with comb := { s.comb with image := putBankWord s.comb.image (a % 0x100000) w.val } }) ∧
      (0x80000000 ≤ a → Completes (.pfSt .keeper rd ra sg off) s fun t => (∀ b, (t.keeper.word b).val = if b = a then w.val else (s.keeper.word b).val) ∧
        t = { s with keeper := { s.keeper.moved with mem := t.keeper.mem } }) ∧
      (a < 0x80000000 → ¬ (0x01000000 ≤ a ∧ a < 0x01100000) →
        ¬ (0x02000000 ≤ a ∧ a < 0x02200000 ∧ s.comb.state = .loading ∧ (a - 0x02000000) / 0x100000 ≠ s.comb.bank) →
        gives (logEvent 0 clsRefusal 0 0 (leBytes 4 a) s))) ∧
  (∀ (c : CoreId) (rd ra : Fin 32) (sg : Fin 16) (off : BitVec 12) (a : Nat) (s : State), Quiet c s (encM 0x15 rd ra sg off.toNat) → OwnWord c a →
      address (coreOf c s) .atomic ra sg off = .ok a → (coreOf c s).g[rd].tag ≠ tVoid →
      Completes (.pfScw c rd ra sg off) s fun t =>
        ∃ v, (v = true ↔ ∃ n, (coreOf c s).resv = some (a, n) ∧ (coreOf c s).cyc ≤ n + 63) ∧
          (∀ b, (coreOf c t).word b = if v = true ∧ b = a then (coreOf c s).g[rd] else (coreOf c s).word b) ∧
          coreOf c t = { (coreOf c s).loading rd (boolWord v) 0 false with mem := (coreOf c t).mem, resv := none } ∧
          t = { modCore c (fun _ => coreOf c t) s with pairs := t.pairs } ∧ ((∀ p, c ≠ .wp p) → t.pairs = s.pairs)) ∧
  (∀ (c : CoreId) (rd ra : Fin 32) (sg : Fin 16) (off : BitVec 12) (s : State), Quiet c s (encM 0x16 rd ra sg off.toNat) → isInteger (coreOf c s).g[ra].tag = true →
      exec (.pfMkp c rd ra sg off) s =
        .next (modCore c (·.after rd { w := segWord sg (unsignedOf 28 ((coreOf c s).g[ra].num + off.toInt)) } 1) s)) ∧
  (∀ (k : PfCore) (need : Need) (ra : Fin 32) (sg : Fin 16) (off : BitVec 12), isInteger k.g[ra].tag = true →
      let d := k.sg[sg]
      let o : Int := k.g[ra].num + off.toInt
      let right := match need with | .load => d.getLsbD 1 | .store => d.getLsbD 2 | .atomic => d.getLsbD 4
      address k need ra sg off =
        if d.getLsbD 0 = false then .error ⟨0x07, BitVec.ofInt 32 o⟩
        else if o < 0 ∨ (bitsOf d.toNat 31 8 : Int) < o then .error ⟨0x05, BitVec.ofInt 32 o⟩
        else if right = false ∨ (k.user = true ∧ d.getLsbD 3 = false) then .error ⟨0x06, BitVec.ofInt 32 o⟩
        else .ok ((bitsOf d.toNat 63 32 + o.toNat) % 2 ^ 32)) ∧
  (∀ (c : CoreId) (rd ra : Fin 32) (sg : Fin 16) (off : BitVec 12) (t : PfTrap) (s : State),
      let k := coreOf c s
      let w (op : Nat) : Word := encM op rd ra sg off.toNat
      (address k .load ra sg off = .error t → Quiet c s (w 0x10) → Traps c s t (.pfLd c rd ra sg off)) ∧
      (address k .atomic ra sg off = .error t → Quiet c s (w 0x14) → Traps c s t (.pfLrw c rd ra sg off)) ∧
      (address k .store ra sg off = .error t → Quiet c s (w 0x11) → Traps c s t (.pfSt c rd ra sg off)) ∧
      (address k .atomic ra sg off = .error t → Quiet c s (w 0x15) → Traps c s t (.pfScw c rd ra sg off)) ∧
      (address k .store ra sg off = .error t → Quiet c s (w 0x17) → k.user = false → Traps c s t (.pfStt c rd ra sg off)) ∧
      (∀ a, k.g[rd].tag = tVoid → t = ⟨0x01, 0⟩ →
        (address k .store ra sg off = .ok a → Quiet c s (w 0x11) → Traps c s t (.pfSt c rd ra sg off)) ∧
        (address k .atomic ra sg off = .ok a → Quiet c s (w 0x15) → Traps c s t (.pfScw c rd ra sg off))))

/-- Profold branches, jumps and REP: a taken branch leads to its target, after one slot in exposed mode, at once in load-delay mode; and the traps of their operands.
* A branch leads to its address + 1 + displacement where its condition holds, and otherwise on; its flags go to STATUS and nothing else changes. Operands it cannot compare trap: BT and BF on VOID with 0x01, on another tag than BOOL with 0x03.
* The compare branches of two integers of one tag compare their values; F32 words that are unordered take only BNE.
* JAL and JALR write their link, address + 2 in exposed mode and + 1 in load-delay mode, and jump; JALR on VOID traps with 0x01, on another tag than U32 with 0x03.
* REP with a U32 count repeats the next instruction that often; a count of 0 skips it; VOID traps with 0x01, another tag with 0x03.
* An instruction after REP runs one iteration in each cycle it takes: g29 is one lower after it, and the pc stays at it until the last, which moves on. -/
def Obligations.ProfoldBranches : Prop :=
  (∀ (c : CoreId) (ra rb : Fin 32) (disp : BitVec 16) (differs : Bool) (tag : BitVec 4) (s : State),
      let k := coreOf c s
      let B (w : Word) (r : Except PfTrap (Bool × Word)) (i : Instr) : Prop := Quiet c s w →
        (∀ taken f, r = .ok (taken, f) → exec i s =
          .next (modCore c (·.jumped (if taken then some (unsignedOf 32 (k.pc + 1 + disp.toInt)) else none) f) s)) ∧
        (∀ t, r = .error t → t.code ≠ 0x0B → Traps c s t i)
      let bool (want : Bool) : Except PfTrap (Bool × Word) :=
        if k.g[ra].tag = tVoid then .error ⟨0x01, 0⟩ else if k.g[ra].tag = tBool then .ok ((k.g[ra].val == 1) == want, 0) else .error ⟨0x03, 0⟩
      let w (op : Nat) : Word := encI op ra rb disp.toNat
      B (w 0x18) (branchOn .eq false k.g[ra] k.g[rb]) (.pfBeq c ra rb disp) ∧ B (w 0x19) (branchOn .ne false k.g[ra] k.g[rb]) (.pfBne c ra rb disp) ∧
      B (w 0x1A) (branchOn .lt false k.g[ra] k.g[rb]) (.pfBlt c ra rb disp) ∧ B (w 0x1B) (branchOn .lt true k.g[ra] k.g[rb]) (.pfBge c ra rb disp) ∧
      B (encI 0x1C ra 0 disp.toNat) (bool true) (.pfBt c ra 0 disp) ∧ B (encI 0x1D ra 0 disp.toNat) (bool false) (.pfBf c ra 0 disp) ∧
      B (encI 0x1E ra (differs.toNat * 16 + tag.toNat) disp.toNat) (.ok ((k.g[ra].tag == tag) != differs, 0)) (.pfBtag c ra differs tag disp)) ∧
  ((∀ (a b : PfWord), a.tag = b.tag → isInteger a.tag = true →
      branchOn .eq false a b = .ok (decide (a.num = b.num), 0) ∧ branchOn .ne false a b = .ok (decide (a.num ≠ b.num), 0) ∧
      branchOn .lt false a b = .ok (decide (a.num < b.num), 0) ∧ branchOn .lt true a b = .ok (decide (b.num ≤ a.num), 0)) ∧
    (∀ (a b : PfWord), a.tag = tF32 → b.tag = tF32 → f32Cmp a.val b.val = none →
      (∃ f, branchOn .eq false a b = .ok (false, f)) ∧ (∃ f, branchOn .ne false a b = .ok (true, f)) ∧
      branchOn .lt false a b = .ok (false, flagNV) ∧ branchOn .lt true a b = .ok (false, flagNV))) ∧
  (∀ (c : CoreId) (rd ra : Fin 32) (imm : BitVec 16) (s : State),
      let k := coreOf c s
      let link : PfWord := u32Word (k.pc + (if k.loadDelay then 1 else 2))
      (Quiet c s (encI 0x20 rd 0 imm.toNat) → exec (.pfJal c rd 0 imm) s =
        .next (modCore c (fun k => { k.jumped (some (unsignedOf 32 (k.pc + 1 + imm.toInt))) 0 with pend := [⟨k.cyc, .reg rd link⟩] }) s)) ∧
      (Quiet c s (encI 0x21 rd ra imm.toNat) →
        (k.g[ra].tag = tU32 → exec (.pfJalr c rd ra imm) s =
          .next (modCore c (fun k => { k.jumped (some (unsignedOf 32 (k.g[ra].val.toNat + imm.toInt))) 0 with pend := [⟨k.cyc, .reg rd link⟩] }) s)) ∧
        (k.g[ra].tag ≠ tU32 → Traps c s ⟨if k.g[ra].tag = tVoid then 0x01 else 0x03, 0⟩ (.pfJalr c rd ra imm)))) ∧
  (∀ (c : CoreId) (s : State), Quiet c s (BitVec.ofNat 32 (7 * 2 ^ 26)) →
      let k := coreOf c s
      (k.g[29].tag = tU32 → k.g[29].val = 0 → exec (.pfRep c 0) s = .next (modCore c (fun k => { k.moved with pc := (k.pc + 2) % 2 ^ 32 }) s)) ∧
      (k.g[29].tag = tU32 → k.g[29].val ≠ 0 → exec (.pfRep c 0) s = .next (modCore c (fun k => { k.moved with rep := some k.g[29].val.toNat }) s)) ∧
      (k.g[29].tag ≠ tU32 → Traps c s ⟨if k.g[29].tag = tVoid then 0x01 else 0x03, 0⟩ (.pfRep c 0))) ∧
  (∀ (c : CoreId) (rd ra rb : Fin 32) (n : Nat) (v : PfVal) (s : State), Quiet c s (encR 0 rd ra rb 1) →
      addOp false false (coreOf c s).g[ra] (coreOf c s).g[rb] = .ok v → 1 ≤ n →
      exec (.pfAdd c rd ra rb) (modCore c (fun k => { k with rep := some n }) s) =
        .next (modCore c (fun k => { k.after rd v 1 with
          pend := [⟨k.cyc, .reg rd v.w⟩, ⟨k.cyc, .reg 29 (u32Word (n - 1))⟩], pc := if n = 1 then (k.pc + 1) % 2 ^ 32 else k.pc
          rep := if n = 1 then none else some (n - 1), repWord := if n = 1 then none else some (encR 0 rd ra rb 1) }) s))

/-- Profold system instructions: control registers, descriptors, WAIT, WEND, FENCE, NOP and the return from a trap, with their privileges.
* NOP and FENCE only move on.
* MFC gives a control register as RAW; a read of CYCLO latches CYCHI; user state may read STATUS, CYCLO, CYCHI, ISALVL and COREID only.
* In supervisor state MTC writes a RAW word to a control register: of STATUS all but LD and the reserved bits, of the read-only registers nothing. A VOID word traps with 0x01 and another tag with 0x03; in user state MTC traps with 0x0A.
* In supervisor state MTSG writes a descriptor from two RAW words, its reserved bits 0, and no other; MFSG reads one into two registers. Words that are not RAW trap, rd before ra; in user state both trap with 0x0A.
* WAIT in supervisor state and load-delay mode stops issue unless an enabled interrupt is pending; in user state it traps with 0x0A, in exposed mode it is illegal.
* WEND in exposed mode on a worker ends the run that is there, within its WCET; on another core it only moves on, and in load-delay mode it is illegal.
* RTE in supervisor state goes to TPC with the status TSTATUS holds; in user state it traps with 0x0A. -/
def Obligations.ProfoldSystem : Prop :=
  (∀ (c : CoreId) (s : State),
      (Quiet c s 0 → exec (.pfNop c) s = .next (modCore c (·.moved) s)) ∧
      (Quiet c s (encR 6 0 0 0 7) → exec (.pfFence c) s = .next (modCore c (·.moved) s))) ∧
  (∀ (c : CoreId) (rd cr : Fin 32) (s : State), Quiet c s (encR 6 rd cr 0 3) → cr.val ≤ 11 →
      let k := coreOf c s
      let v : Word := match cr.val with
        | 0 => k.status | 1 => k.tpc | 2 => k.tcode | 3 => k.tinfo | 4 => k.tvec | 5 => k.tstatus | 6 => BitVec.ofNat 32 k.cyc
        | 7 => k.cycHi | 8 => k.isalvl | 9 => k.coreid | 10 => k.ipend | _ => k.imask
      (k.user = false ∨ cr.val ∈ [0, 6, 7, 8, 9] → exec (.pfMfc c rd cr) s = .next (modCore c (fun k =>
        { k.after rd { w := ⟨tRaw, v⟩ } 1 with cycHi := if cr.val = 6 then BitVec.ofNat 32 (k.cyc / 2 ^ 32) else k.cycHi }) s)) ∧
      (k.user = true → cr.val ∉ [0, 6, 7, 8, 9] → Traps c s ⟨0x0A, 0⟩ (.pfMfc c rd cr))) ∧
  (∀ (c : CoreId) (rd cr : Fin 32) (s : State), Quiet c s (encR 6 rd cr 0 4) → cr.val ≤ 11 →
      let k := coreOf c s
      let v := k.g[rd].val
      (k.user = false → k.g[rd].tag = tRaw → exec (.pfMtc c rd cr) s = .next (modCore c (fun k => match cr.val with
        | 0 => { k.moved with status := (v &&& 0x7F7) ||| (k.status &&& ~~~0x7F7) }
        | 1 => { k.moved with tpc := v }
        | 2 => { k.moved with tcode := v }
        | 3 => { k.moved with tinfo := v }
        | 4 => { k.moved with tvec := v }
        | 5 => { k.moved with tstatus := v }
        | 11 => { k.moved with imask := v }
        | _ => k.moved) s)) ∧
      (k.user = false → k.g[rd].tag ≠ tRaw → Traps c s ⟨if k.g[rd].tag = tVoid then 0x01 else 0x03, 0⟩ (.pfMtc c rd cr)) ∧
      (k.user = true → Traps c s ⟨0x0A, 0⟩ (.pfMtc c rd cr))) ∧
  (∀ (c : CoreId) (rd ra : Fin 32) (n : Fin 16) (sg : Fin 32) (s : State), sg.val = n.val →
      let k := coreOf c s
      let not : PfWord → Nat := fun w => if w.tag = tVoid then 0x01 else 0x03
      (Quiet c s (encR 6 rd ra sg 5) →
        (k.user = false → k.g[rd].tag = tRaw → k.g[ra].tag = tRaw → exec (.pfMtsg c rd ra sg) s =
          .next (modCore c (fun k => { k.moved with sg := k.sg.set n (k.g[ra].val ++ (k.g[rd].val &&& 0xFFFFFF1F)) }) s)) ∧
        (k.user = false → k.g[rd].tag ≠ tRaw → Traps c s ⟨not k.g[rd], 0⟩ (.pfMtsg c rd ra sg)) ∧
        (k.user = false → k.g[rd].tag = tRaw → k.g[ra].tag ≠ tRaw → Traps c s ⟨not k.g[ra], 0⟩ (.pfMtsg c rd ra sg)) ∧
        (k.user = true → Traps c s ⟨0x0A, 0⟩ (.pfMtsg c rd ra sg))) ∧
      (Quiet c s (encR 6 rd ra sg 6) →
        (k.user = false → exec (.pfMfsg c rd ra sg) s = .next (modCore c (fun k => { k.moved with
          pend := [⟨k.cyc, .reg rd ⟨tRaw, k.sg[n].extractLsb' 0 32⟩⟩, ⟨k.cyc, .reg ra ⟨tRaw, k.sg[n].extractLsb' 32 32⟩⟩] }) s)) ∧
        (k.user = true → Traps c s ⟨0x0A, 0⟩ (.pfMfsg c rd ra sg)))) ∧
  (∀ (c : CoreId) (s : State), Quiet c s (encR 6 0 0 0 8) →
      let k := coreOf c s
      (k.loadDelay = true → k.user = false →
        exec (.pfWait c) s = .next (modCore c (fun k => { k.moved with waiting := decide (k.ipend &&& k.imask = 0) }) s)) ∧
      (k.loadDelay = true → k.user = true → Traps c s ⟨0x0A, 0⟩ (.pfWait c)) ∧
      (k.loadDelay = false → Traps c s ⟨0x0B, k.codeAt.getD (encR 6 0 0 0 8)⟩ (.pfWait c))) ∧
  (∀ (c : CoreId) (s : State), Quiet c s (encR 6 0 0 0 9) →
      ((coreOf c s).loadDelay = false → (∀ p, c ≠ .wp p) → exec (.pfWend c) s = .next (modCore c (·.moved) s)) ∧
      (∀ p r, c = .wp p → (coreOf c s).loadDelay = false → (pairAt s p).run = some r →
        exec (.pfWend c) s = .next (modPair p (fun x => { x with run := some { r with ended := some .wend } }) (modCore c (·.moved) s))) ∧
      ((coreOf c s).loadDelay = true → Traps c s ⟨0x0B, (coreOf c s).codeAt.getD (encR 6 0 0 0 9)⟩ (.pfWend c))) ∧
  (∀ (c : CoreId) (s : State), Quiet c s (encR 6 0 0 0 2) →
      ((coreOf c s).user = false → exec (.pfRte c) s = .next (modCore c (fun k =>
        { k.moved with pc := k.tpc.toNat, status := (k.tstatus &&& 0x7F7) ||| (k.status &&& ~~~0x7F7) }) s)) ∧
      ((coreOf c s).user = true → Traps c s ⟨0x0A, 0⟩ (.pfRte c)))

/-- Profold instruction words, traps and interrupts: what words spell, what entry saves, double traps, traps in exposed mode, and the checks before an instruction.
* Each instruction's word, in its format and with every operand at every value, spells that instruction; a reserved major opcode spells none.
* TRAP and BREAK trap with codes 0x0E and 0x0F, TRAP with its rb field in TINFO. In load-delay mode outside an exception that is the entry into the handler: TPC, TCODE, TINFO and TSTATUS are written, SUP and EXL set, IE cleared, the pc at TVEC, the reservation gone; nothing else changes.
* A trap on a worker in exposed mode records TCODE, TPC and TINFO, and the window's column holds no window afterwards, and no pair a run of it; nothing is committed.
* A trap of the keeper with EXL set stops its core and resets the keeper.
* An encoding with a field that must be 0 set, a number past its range or a reserved selector traps with 0x0B, and TINFO holds the instruction word that was fetched.
* On a core of level PF1 a PF1.1 instruction is illegal: FMA, BFX, BFI, CRC and MACD of F32 words trap with 0x0B.
* Whatever instruction a word spells: an uncorrectable error of the fetch traps with 0x10, a program counter past instruction memory with 0x11 and the instruction word in TINFO, before anything else.
* In a delay slot a branch, a jump, a REP, an RTE and a WEND trap with 0x09.
* An interrupt is taken in load-delay mode with IE set and EXL clear: the lowest pending enabled line gives the code 0x20 + line and is pending no longer; TPC holds the next instruction, between the iterations of a REP the REP's address.
* With IE clear or EXL set, in exposed mode, with no line pending and enabled, or with a load's result outstanding no interrupt is taken, and nothing changes. -/
def Obligations.ProfoldTraps : Prop :=
  (∀ (c : CoreId) (rd ra rb : Fin 32) (sg sgB : Fin 16) (off : BitVec 12) (imm : BitVec 16) (z : BitVec 26) (fn : BitVec 11) (f10 : BitVec 10)
        (f8 : BitVec 8) (sub : BitVec 7) (zext : Bool) (tag : BitVec 4),
      let e (w : Word) (i : Instr) : Prop := decodeProfold c w = some i
      e (encR 0 rd ra rb 0x001) (.pfAdd c rd ra rb) ∧ e (encR 0 rd ra rb 0x002) (.pfSub c rd ra rb) ∧ e (encR 0 rd ra rb 0x003) (.pfAdds c rd ra rb) ∧
      e (encR 0 rd ra rb 0x004) (.pfSubs c rd ra rb) ∧ e (encR 0 rd ra rb 0x005) (.pfAnd c rd ra rb) ∧ e (encR 0 rd ra rb 0x006) (.pfOr c rd ra rb) ∧
      e (encR 0 rd ra rb 0x007) (.pfXor c rd ra rb) ∧ e (encR 0 rd ra rb 0x008) (.pfNot c rd ra rb) ∧ e (encR 0 rd ra rb 0x009) (.pfShl c rd ra rb) ∧
      e (encR 0 rd ra rb 0x00A) (.pfShr c rd ra rb) ∧ e (encR 0 rd ra rb 0x00B) (.pfSra c rd ra rb) ∧ e (encR 0 rd ra rb 0x00C) (.pfShli c rd ra rb) ∧
      e (encR 0 rd ra rb 0x00D) (.pfShri c rd ra rb) ∧ e (encR 0 rd ra rb 0x00E) (.pfSrai c rd ra rb) ∧ e (encR 0 rd ra rb 0x00F) (.pfCeq c rd ra rb) ∧
      e (encR 0 rd ra rb 0x010) (.pfCne c rd ra rb) ∧ e (encR 0 rd ra rb 0x011) (.pfClt c rd ra rb) ∧ e (encR 0 rd ra rb 0x012) (.pfCle c rd ra rb) ∧
      e (encR 0 rd ra rb 0x013) (.pfMin c rd ra rb) ∧ e (encR 0 rd ra rb 0x014) (.pfMax c rd ra rb) ∧ e (encR 0 rd ra rb 0x015) (.pfMov c rd ra rb) ∧
      e (encR 0 rd ra rb 0x016) (.pfNeg c rd ra rb) ∧ e (encR 0 rd ra rb 0x017) (.pfAbs c rd ra rb) ∧ e (encR 1 rd ra rb 0) (.pfMul c rd ra rb) ∧
      e (encR 1 rd ra rb 1) (.pfMuls c rd ra rb) ∧ e (encR 1 rd ra rb 2) (.pfMulh c rd ra rb) ∧ e (encR 1 rd ra rb 3) (.pfQmul c rd ra rb) ∧
      e (encR 1 rd ra rb 4) (.pfDiv c rd ra rb) ∧ e (encR 1 rd ra rb 5) (.pfRem c rd ra rb) ∧ e (encR 2 rd ra rb 0) (.pfFadd c rd ra rb) ∧
      e (encR 2 rd ra rb 1) (.pfFsub c rd ra rb) ∧ e (encR 2 rd ra rb 2) (.pfFmul c rd ra rb) ∧ e (encR 2 rd ra rb 3) (.pfFdiv c rd ra rb) ∧
      e (encR 2 rd ra rb 4) (.pfFmin c rd ra rb) ∧ e (encR 2 rd ra rb 5) (.pfFmax c rd ra rb) ∧ e (encR 2 rd ra rb 6) (.pfFabs c rd ra rb) ∧
      e (encR 2 rd ra rb 7) (.pfFneg c rd ra rb) ∧ e (encR 2 rd ra rb 8) (.pfFma c rd ra rb) ∧ e (encR 3 rd ra rb fn.toNat) (.pfCvt c rd ra rb fn) ∧
      e (encR 4 rd ra rb f8.toNat) (.pfTagt c rd ra rb f8) ∧ e (encR 4 rd ra rb (0x100 + f8.toNat)) (.pfRetag c rd ra rb f8) ∧
      e (encR 5 rd ra rb f10.toNat) (.pfAccr c rd ra rb f10) ∧ e (encR 5 rd ra rb (0x400 + f10.toNat)) (.pfAccClear c rd ra rb f10) ∧
      e (encR 6 0 0 rb 0) (.pfTrap c rb) ∧ e (encR 6 0 0 0 1) (.pfBreak c) ∧ e (encR 6 0 0 0 2) (.pfRte c) ∧ e (encR 6 rd ra 0 3) (.pfMfc c rd ra) ∧
      e (encR 6 rd ra 0 4) (.pfMtc c rd ra) ∧ e (encR 6 rd ra rb 5) (.pfMtsg c rd ra rb) ∧ e (encR 6 rd ra rb 6) (.pfMfsg c rd ra rb) ∧
      e (encR 6 0 0 0 7) (.pfFence c) ∧ e (encR 6 0 0 0 8) (.pfWait c) ∧ e (encR 6 0 0 0 9) (.pfWend c) ∧
      e (BitVec.ofNat 32 (7 * 2 ^ 26 + z.toNat)) (.pfRep c z) ∧ e (encI 0x08 rd ra imm.toNat) (.pfAddi c rd ra imm) ∧
      e (encI 0x09 rd ra imm.toNat) (.pfAndi c rd ra imm) ∧ e (encI 0x0A rd ra imm.toNat) (.pfOri c rd ra imm) ∧
      e (encI 0x0B rd ra imm.toNat) (.pfXori c rd ra imm) ∧ e (encI 0x0C rd ra imm.toNat) (.pfClti c rd ra imm) ∧
      e (encI 0x0D rd ra imm.toNat) (.pfCeqi c rd ra imm) ∧ e (encI 0x0E rd (zext.toNat * 16 + tag.toNat) imm.toNat) (.pfLi c rd zext tag imm) ∧
      e (encI 0x0F rd ra imm.toNat) (.pfLih c rd ra imm) ∧ e (encM 0x10 rd ra sg off.toNat) (.pfLd c rd ra sg off) ∧
      e (encM 0x11 rd ra sg off.toNat) (.pfSt c rd ra sg off) ∧ e (encM 0x12 rd ra sg off.toNat) (.pfLdp c rd ra sg off) ∧
      e (encM 0x13 rd ra sg off.toNat) (.pfStp c rd ra sg off) ∧ e (encM 0x14 rd ra sg off.toNat) (.pfLrw c rd ra sg off) ∧
      e (encM 0x15 rd ra sg off.toNat) (.pfScw c rd ra sg off) ∧ e (encM 0x16 rd ra sg off.toNat) (.pfMkp c rd ra sg off) ∧
      e (encM 0x17 rd ra sg off.toNat) (.pfStt c rd ra sg off) ∧ e (encI 0x18 rd ra imm.toNat) (.pfBeq c rd ra imm) ∧
      e (encI 0x19 rd ra imm.toNat) (.pfBne c rd ra imm) ∧ e (encI 0x1A rd ra imm.toNat) (.pfBlt c rd ra imm) ∧
      e (encI 0x1B rd ra imm.toNat) (.pfBge c rd ra imm) ∧ e (encI 0x1C rd ra imm.toNat) (.pfBt c rd ra imm) ∧
      e (encI 0x1D rd ra imm.toNat) (.pfBf c rd ra imm) ∧ e (encI 0x1E rd (zext.toNat * 16 + tag.toNat) imm.toNat) (.pfBtag c rd zext tag imm) ∧
      e (encI 0x20 rd ra imm.toNat) (.pfJal c rd ra imm) ∧ e (encI 0x21 rd ra imm.toNat) (.pfJalr c rd ra imm) ∧
      e (encI 0x22 rd ra imm.toNat) (.pfBfx c rd ra imm) ∧ e (encI 0x23 rd ra imm.toNat) (.pfBfi c rd ra imm) ∧
      e (encR 0x24 rd ra 0 0) (.pfCrc c rd ra) ∧ e (encD 0x30 zext.toNat sg ra sgB rb 0) (.pfMovs c zext sg sgB ra rb none) ∧
      e (encD 0x30 zext.toNat sg ra sgB rb 1) (.pfCmps c zext sg sgB ra rb none) ∧
      e (encD 0x30 zext.toNat sg ra sgB rb 2) (.pfFils c zext sg sgB ra rb none) ∧
      e (encD 0x30 zext.toNat sg ra sgB rb 3) (.pfScns c zext sg sgB ra rb none) ∧
      e (encD 0x31 zext.toNat sg ra sgB rb sub.toNat) (.pfMacd c zext sg sgB ra rb sub) ∧ e 0 (.pfNop c) ∧
      (z.toNat < 2 ^ 26 → ∀ op, op ∈ [0x1F, 0x25, 0x2F, 0x32, 0x3F] → decodeProfold c (BitVec.ofNat 32 (op * 2 ^ 26 + z.toNat)) = none)) ∧
  (∀ (c : CoreId) (rb : Fin 32) (s : State),
      let entry (code : Nat) (info : Word) (k : PfCore) : PfCore := { k with
        tpc := BitVec.ofNat 32 k.pc, tcode := BitVec.ofNat 32 code, tinfo := info, tstatus := k.status,
        status := (k.status ||| 0x5) &&& ~~~0x2, pc := k.tvec.toNat, resv := none, prevLoad := none, waiting := false,
        debugStep := false, cyc := k.cyc + 1 }
      (Quiet c s (encR 6 0 0 rb 0) → Traps c s ⟨0x0E, BitVec.ofNat 32 rb⟩ (.pfTrap c rb) ∧
        ((coreOf c s).loadDelay = true → (coreOf c s).status.getLsbD 2 = false →
          exec (.pfTrap c rb) s = .next (modCore c (entry 0x0E (BitVec.ofNat 32 rb)) s))) ∧
      (Quiet c s (encR 6 0 0 0 1) → Traps c s ⟨0x0F, 0⟩ (.pfBreak c) ∧
        ((coreOf c s).loadDelay = true → (coreOf c s).status.getLsbD 2 = false → exec (.pfBreak c) s = .next (modCore c (entry 0x0F 0) s)))) ∧
  (∀ (p : Fin 16) (rb : Fin 32) (r : WinRun) (s : State), Quiet (.wp p) s (encR 6 0 0 rb 0) → (coreOf (.wp p) s).loadDelay = false →
      (pairAt s p).run = some r → r.col < 16 →
      Completes (.pfTrap (.wp p) rb) s fun t => (coreOf (.wp p) t).tcode = 0x0E ∧ (coreOf (.wp p) t).tinfo = BitVec.ofNat 32 rb ∧
        (coreOf (.wp p) t).tpc = BitVec.ofNat 32 (coreOf (.wp p) s).pc ∧ (colAt t r.col).win = none ∧ (pairAt t p).run = none ∧
        t.comb = s.comb ∧ t.sig = s.sig) ∧
  (∀ (s : State), Quiet .keeper s (encR 6 0 0 0 1) → (coreOf .keeper s).loadDelay = true → (coreOf .keeper s).status.getLsbD 2 = true →
      exec (.pfBreak .keeper) s = conclude s (keeperReset 2 (modCore .keeper (fun k =>
        { k with halted := true, resv := none, waiting := false, debugStep := false }) s))) ∧
  (∀ (c : CoreId) (rd ra rb cr : Fin 32) (sgA sgB : Fin 16) (off : BitVec 12) (imm : BitVec 16) (z : BitVec 26) (fn : BitVec 11) (f10 : BitVec 10)
        (f8 : BitVec 8) (sub : BitVec 7) (zext x : Bool) (tag : BitVec 4) (n : Option Nat) (s : State),
      let illegal (w : Word) (i : Instr) : Prop := Quiet c s w → Traps c s ⟨0x0B, (coreOf c s).codeAt.getD w⟩ i
      (rb ≠ 0 → illegal (encR 0 rd ra rb 0x008) (.pfNot c rd ra rb) ∧ illegal (encR 0 rd ra rb 0x015) (.pfMov c rd ra rb) ∧
        illegal (encR 0 rd ra rb 0x016) (.pfNeg c rd ra rb) ∧ illegal (encR 0 rd ra rb 0x017) (.pfAbs c rd ra rb) ∧
        illegal (encI 0x1C ra rb imm.toNat) (.pfBt c ra rb imm) ∧ illegal (encI 0x1D ra rb imm.toNat) (.pfBf c ra rb imm) ∧
        illegal (encR 3 rd ra rb fn.toNat) (.pfCvt c rd ra rb fn) ∧ illegal (encR 4 rd ra rb f8.toNat) (.pfTagt c rd ra rb f8) ∧
        illegal (encR 4 rd ra rb (256 + f8.toNat)) (.pfRetag c rd ra rb f8)) ∧
      (ra ≠ 0 → illegal (encI 0x0F rd ra imm.toNat) (.pfLih c rd ra imm) ∧ illegal (encI 0x20 rd ra imm.toNat) (.pfJal c rd ra imm) ∧
        illegal (encD 0x30 x.toNat sgA ra sgB rb 0) (.pfMovs c x sgA sgB ra rb n) ∧ illegal (encD 0x30 x.toNat sgA ra sgB rb 1) (.pfCmps c x sgA sgB ra rb n)) ∧
      (sgA ≠ 0 → illegal (encM 0x12 rd ra sgA off.toNat) (.pfLdp c rd ra sgA off) ∧ illegal (encM 0x13 rd ra sgA off.toNat) (.pfStp c rd ra sgA off)) ∧
      (isTarget tag = false → illegal (encI 0x0E rd (zext.toNat * 16 + tag.toNat) imm.toNat) (.pfLi c rd zext tag imm)) ∧
      (isTarget (fn.extractLsb' 0 4) = false → illegal (encR 3 rd ra 0 fn.toNat) (.pfCvt c rd ra 0 fn)) ∧
      (isTarget (f8.extractLsb' 0 4) = false → illegal (encR 4 rd ra 0 (256 + f8.toNat)) (.pfRetag c rd ra 0 f8)) ∧
      (f10.extractLsb' 0 4 ∉ [tQ15, tQ31, tS16, tS32, tF32] → illegal (encR 5 rd ra rb f10.toNat) (.pfAccr c rd ra rb f10)) ∧
      (11 < cr.val → illegal (encR 6 rd cr 0 3) (.pfMfc c rd cr) ∧ illegal (encR 6 rd cr 0 4) (.pfMtc c rd cr)) ∧
      (15 < rb.val → illegal (encR 6 rd ra rb 5) (.pfMtsg c rd ra rb) ∧ illegal (encR 6 rd ra rb 6) (.pfMfsg c rd ra rb)) ∧
      (z ≠ 0 → illegal (BitVec.ofNat 32 (7 * 2 ^ 26 + z.toNat)) (.pfRep c z)) ∧
      (4 < bitsOf sub.toNat 6 4 → illegal (encD 0x31 x.toNat sgA ra sgB rb sub.toNat) (.pfMacd c x sgA sgB ra rb sub))) ∧
  (∀ (c : CoreId) (rd ra rb : Fin 32) (sgA sgB : Fin 16) (imm : BitVec 16) (x : Bool) (sub : BitVec 7) (s : State), bitsOf sub.toNat 6 4 = 4 →
      let u := modCore c (fun k => { k with isalvl := 0x10 }) s
      let illegal (w : Word) (i : Instr) : Prop := Quiet c s w → Traps c u ⟨0x0B, (coreOf c s).codeAt.getD w⟩ i
      illegal (encR 2 rd ra rb 8) (.pfFma c rd ra rb) ∧ illegal (encI 0x22 rd ra imm.toNat) (.pfBfx c rd ra imm) ∧
      illegal (encI 0x23 rd ra imm.toNat) (.pfBfi c rd ra imm) ∧ illegal (encR 0x24 rd ra 0 0) (.pfCrc c rd ra) ∧
      illegal (encD 0x31 x.toNat sgA ra sgB rb sub.toNat) (.pfMacd c x sgA sgB ra rb sub)) ∧
  (∀ (c : CoreId) (v : Word) (i : Instr) (s : State), decodeProfold c v = some i → Quiet c s v →
      let bad := modCore c (fun k => { k with badCode := [k.pc] }) s
      let past := modCore c (fun k => { k with code := [], imem := k.pc }) s
      Traps c bad ⟨0x10, 0⟩ i ∧ ((coreOf c s).pc ≠ 0 → ∃ w, decodeProfold c w = some i ∧ Traps c past ⟨0x11, w⟩ i)) ∧
  (∀ (c : CoreId) (ra rb rd : Fin 32) (disp : BitVec 16) (differs : Bool) (tag : BitVec 4) (target : Nat) (s : State), (coreOf c s).loadDelay = false →
      let u := modCore c (fun k => { k with slotTarget := some target }) s
      let slot (w : Word) (i : Instr) : Prop := Quiet c s w → Traps c u ⟨0x09, 0⟩ i
      slot (encI 0x18 ra rb disp.toNat) (.pfBeq c ra rb disp) ∧ slot (encI 0x19 ra rb disp.toNat) (.pfBne c ra rb disp) ∧
      slot (encI 0x1A ra rb disp.toNat) (.pfBlt c ra rb disp) ∧ slot (encI 0x1B ra rb disp.toNat) (.pfBge c ra rb disp) ∧
      slot (encI 0x1C ra rb disp.toNat) (.pfBt c ra rb disp) ∧ slot (encI 0x1D ra rb disp.toNat) (.pfBf c ra rb disp) ∧
      slot (encI 0x1E ra (differs.toNat * 16 + tag.toNat) disp.toNat) (.pfBtag c ra differs tag disp) ∧
      slot (encI 0x20 rd ra disp.toNat) (.pfJal c rd ra disp) ∧ slot (encI 0x21 rd ra disp.toNat) (.pfJalr c rd ra disp) ∧
      slot (BitVec.ofNat 32 (7 * 2 ^ 26)) (.pfRep c 0) ∧ slot (encR 6 0 0 0 2) (.pfRte c) ∧ slot (encR 6 0 0 0 9) (.pfWend c)) ∧
  (∀ (c : CoreId) (w : Word) (n : Option Nat) (line : Nat) (s : State), Quiet c s w → (coreOf c s).debugHalt = false → (coreOf c s).loadDelay = true →
      (coreOf c s).status.getLsbD 1 = true → (coreOf c s).status.getLsbD 2 = false → line < 32 →
      ((coreOf c s).ipend &&& (coreOf c s).imask).getLsbD line = true →
      (∀ i, i < line → ((coreOf c s).ipend &&& (coreOf c s).imask).getLsbD i = false) →
      exec (.interruptTaken c) (modCore c (fun k => { k with rep := n }) s) = .next (modCore c (fun k => { k with
        tpc := BitVec.ofNat 32 (if n.isSome then k.pc - 1 else k.pc), tcode := BitVec.ofNat 32 (0x20 + line), tinfo := 0, tstatus := k.status,
        status := (k.status ||| 0x5) &&& ~~~0x2, pc := k.tvec.toNat, prevLoad := none, resv := none, waiting := false,
        ipend := k.ipend &&& ~~~(BitVec.twoPow 32 line) }) s)) ∧
  (∀ (c : CoreId) (w : Word) (s : State), Quiet c s w →
      ((coreOf c s).loadDelay = false ∨ (coreOf c s).status.getLsbD 1 = false ∨ (coreOf c s).status.getLsbD 2 = true ∨ (coreOf c s).ipend &&& (coreOf c s).imask = 0 →
        exec (.interruptTaken c) s = .next s) ∧
      ∀ d r x, (coreOf c s).cyc ≤ d → let u := modCore c (fun k => { k with pend := [⟨d, .load r x⟩] }) s
        exec (.interruptTaken c) u = .next u)

/-- Profold string instructions and accumulators: every word, both directions, stops between words and at a word, traps, MACD, ACCR and the clear of an accumulator.
* FILS writes ra to each of its n words, MOVS copies word after word, later words seeing what earlier ones wrote; of a run stopped between words the first m are done. Offsets and count move by the words done. A whole run writes g26, g27 and g29 with the cycle after the last word; a stopped one leaves them and the pc at the instruction.
* CMPS goes on while both words are equal in tag and payload, SCNS while the word is not ra. At the word that ends it the offsets and the count stay, and rb tells: CMPS all equal, SCNS found. Memory stands; of a run stopped between words the first m are done.
* Traps of the string instructions: g26, g27 and g29 must be U32 and FILS and SCNS need a word that is not VOID. A segment trap at a word leaves the state as after the words before it, and in load-delay mode takes the trap from there; in exposed mode, shown at the first word, the window ends.
* MACD adds or subtracts the exact product of two words to the accumulator, or to 0 where it clears it first, in 80 bits with saturation and its flag; FAULT before STALE poisons it; of F32 words it is the fused product, whose NV the model leaves free where IEEE 754 does (log 57). The operand registers step by the increment. Words of another tag trap.
* MACD's base registers trap when VOID (0x01) or no integer (0x03), ra before rb, and its segments as for a load, sgA before sgB.
* ACCR gives the accumulator, rounded half up at its shift and saturated to the target, an F32 one as it is; STALE and FAULT come through to every target; a valid accumulator and a target of the other kind trap with 0x0B. The clear bit leaves 0, valid, in the accumulator, whose read in the same cycle is of the value before.
* The clear of an accumulator leaves 0, valid, in it, for MACD at once and for a reader in the next cycle; nothing else changes but the cycle and the pc. -/
def Obligations.ProfoldStrings : Prop :=
  (∀ (c : CoreId) (desc : Bool) (sgA sgB : Fin 16) (ra rb : Fin 32) (a b n : Nat) (upTo : Option Nat) (src dst : Nat → Nat) (s : State),
      a < 2 ^ 32 → b < 2 ^ 32 → n < 2 ^ 32 →
      let k := coreOf c s
      let m := if k.loadDelay then min n (upTo.getD n) else n
      let off (o i : Nat) : Nat := (if desc then o + 2 ^ 32 - i else o + i) % 2 ^ 32
      k.g[26] = u32Word a → k.g[27] = u32Word b → k.g[29] = u32Word n →
      (∀ i, i < m → segCheck k sgB .store (off b i) = .ok (dst i) ∧ OwnWord c (dst i)) →
      let leaves (fill : Bool) (words : Nat → PfWord) (t : State) : Prop :=
        (∀ w, (coreOf c t).word w = words w) ∧ t = { modCore c (fun _ => coreOf c t) s with pairs := t.pairs } ∧
        ((∀ p, c ≠ .wp p) → t.pairs = s.pairs) ∧
        coreOf c t = { (if m < n then { k with
              g := let g := if fill then k.g else k.g.set 26 (u32Word (off a m))
                (g.set 27 (u32Word (off b m))).set 29 (u32Word (n - m))
              cyc := k.cyc + m, waiting := false, debugStep := false }
            else { k.moved with
              cyc := k.cyc + n + 2
              pend := (if fill then [] else [⟨k.cyc + n + 1, .reg 26 (u32Word (off a n))⟩]) ++
                [⟨k.cyc + n + 1, .reg 27 (u32Word (off b n))⟩, ⟨k.cyc + n + 1, .reg 29 (u32Word 0)⟩] }) with
          mem := (coreOf c t).mem
          resv := if (List.range m).any (fun i => k.resv.map (·.1) == some (dst i)) then none else k.resv }
      (Quiet c s (encD 0x30 desc.toNat sgA ra sgB rb 2) → k.g[ra].tag ≠ tVoid →
        Completes (.pfFils c desc sgA sgB ra rb upTo) s (leaves true fun w => if ∃ i, i < m ∧ dst i = w then k.g[ra] else k.word w)) ∧
      (Quiet c s (encD 0x30 desc.toNat sgA 0 sgB rb 0) →
        (∀ i, i < m → segCheck k sgA .load (off a i) = .ok (src i) ∧ OwnWord c (src i)) →
        Completes (.pfMovs c desc sgA sgB 0 rb upTo) s (leaves false
          ((List.range m).foldl (fun f i w => if w = dst i then f (src i) else f w) k.word)))) ∧
  (∀ (c : CoreId) (desc : Bool) (sgA sgB : Fin 16) (ra rb : Fin 32) (a b n m : Nat) (upTo : Option Nat) (src dst : Nat → Nat) (s : State),
      a < 2 ^ 32 → b < 2 ^ 32 → n < 2 ^ 32 →
      let k := coreOf c s
      let most := if k.loadDelay then min n (upTo.getD n) else n
      let off (o i : Nat) : Nat := (if desc then o + 2 ^ 32 - i else o + i) % 2 ^ 32
      k.g[26] = u32Word a → k.g[27] = u32Word b → k.g[29] = u32Word n → m ≤ most →
      (∀ i, i ≤ m → i < most → segCheck k sgA .load (off a i) = .ok (src i) ∧ OwnWord c (src i)) →
      let leaves (compare : Bool) : Host.Outcome State Fault Refusal := .next (modCore c (fun k =>
        if m = most ∧ most < n then { k with
          g := let g := k.g.set 26 (u32Word (off a m))
            (if compare then g.set 27 (u32Word (off b m)) else g).set 29 (u32Word (n - m))
          cyc := k.cyc + m, waiting := false, debugStep := false }
        else
          let last := k.cyc + min (m + 1) n + 1
          { k.moved with
            cyc := last + 1
            pend := [⟨last, .reg 26 (u32Word (off a m))⟩] ++ (if compare then [⟨last, .reg 27 (u32Word (off b m))⟩] else []) ++
              [⟨last, .reg 29 (u32Word (n - m))⟩, ⟨last, .reg rb (boolWord (if compare then m == n else m != n))⟩] }) s)
      (Quiet c s (encD 0x30 desc.toNat sgA 0 sgB rb 1) →
        (∀ i, i ≤ m → i < most → segCheck k sgB .load (off b i) = .ok (dst i) ∧ OwnWord c (dst i)) →
        (∀ i, i < m → k.word (src i) = k.word (dst i)) → (m < most → k.word (src m) ≠ k.word (dst m)) →
        exec (.pfCmps c desc sgA sgB 0 rb upTo) s = leaves true) ∧
      (Quiet c s (encD 0x30 desc.toNat sgA ra sgB rb 3) → k.g[ra].tag ≠ tVoid →
        (∀ i, i < m → k.word (src i) ≠ k.g[ra]) → (m < most → k.word (src m) = k.g[ra]) →
        exec (.pfScns c desc sgA sgB ra rb upTo) s = leaves false)) ∧
  (∀ (c : CoreId) (desc : Bool) (sgA sgB : Fin 16) (ra rb : Fin 32) (upTo : Option Nat) (s : State),
      let k := coreOf c s
      let all (f : Instr → Prop) : Prop :=
        (Quiet c s (encD 0x30 desc.toNat sgA 0 sgB rb 0) → f (.pfMovs c desc sgA sgB 0 rb upTo)) ∧
        (Quiet c s (encD 0x30 desc.toNat sgA 0 sgB rb 1) → f (.pfCmps c desc sgA sgB 0 rb upTo)) ∧
        (Quiet c s (encD 0x30 desc.toNat sgA ra sgB rb 2) → f (.pfFils c desc sgA sgB ra rb upTo)) ∧
        (Quiet c s (encD 0x30 desc.toNat sgA ra sgB rb 3) → f (.pfScns c desc sgA sgB ra rb upTo))
      (∀ t, (strOperand k.g[26] = .error t ∨ (strOperand k.g[26]).isOk ∧ strOperand k.g[27] = .error t ∨
          (strOperand k.g[26]).isOk ∧ (strOperand k.g[27]).isOk ∧ strOperand k.g[29] = .error t) → all fun i => Traps c s t i) ∧
      ((strOperand k.g[26]).isOk → (strOperand k.g[27]).isOk → (strOperand k.g[29]).isOk → k.g[ra].tag = tVoid →
        (Quiet c s (encD 0x30 desc.toNat sgA ra sgB rb 2) → Traps c s ⟨0x01, 0⟩ (.pfFils c desc sgA sgB ra rb upTo)) ∧
        (Quiet c s (encD 0x30 desc.toNat sgA ra sgB rb 3) → Traps c s ⟨0x01, 0⟩ (.pfScns c desc sgA sgB ra rb upTo))) ∧
      (∀ a b n, a < 2 ^ 32 → b < 2 ^ 32 → n < 2 ^ 32 → k.g[26] = u32Word a → k.g[27] = u32Word b → k.g[29] = u32Word n → k.g[ra].tag ≠ tVoid →
        let off (o i : Nat) : Nat := (if desc then o + 2 ^ 32 - i else o + i) % 2 ^ 32
        let fails (k : PfCore) (src dst : Option Need) (i : Nat) (t : PfTrap) : Prop := match src, dst with
          | some x, some y => segCheck k sgA x (off a i) = .error t ∨ (segCheck k sgA x (off a i)).isOk ∧ segCheck k sgB y (off b i) = .error t
          | some x, none => segCheck k sgA x (off a i) = .error t
          | none, some y => segCheck k sgB y (off b i) = .error t
          | none, none => False
        let at_ (w : Word) (src dst : Option Need) (ins : Option Nat → Instr) : Prop := Quiet c s w →
          (∀ i t u, i < n → fails k src dst i t → k.loadDelay = true → k.status.getLsbD 2 = false →
            exec (ins (some i)) s = .next u → (coreOf c u).pc = k.pc →
            exec (ins none) s = .next (modCore c (fun q => { q.trapped t with cyc := q.cyc + 2 }) u)) ∧
          (∀ t, 0 < n → fails k src dst 0 t → k.loadDelay = false →
            exec (ins none) s = conclude s (let u := modCore c (fun q => { q.stopped t with cyc := q.cyc + 2 }) s
              match c with | .wp p => runTrapped p u | _ => u))
        at_ (encD 0x30 desc.toNat sgA 0 sgB rb 0) (some .load) (some .store) (.pfMovs c desc sgA sgB 0 rb) ∧
        at_ (encD 0x30 desc.toNat sgA 0 sgB rb 1) (some .load) (some .load) (.pfCmps c desc sgA sgB 0 rb) ∧
        at_ (encD 0x30 desc.toNat sgA ra sgB rb 2) none (some .store) (.pfFils c desc sgA sgB ra rb) ∧
        at_ (encD 0x30 desc.toNat sgA ra sgB rb 3) (some .load) none (.pfScns c desc sgA sgB ra rb))) ∧
  (∀ (c : CoreId) (x : Bool) (sgA sgB : Fin 16) (ra rb : Fin 32) (sub : BitVec 7) (a b : Nat) (oa ob : Int) (s : State),
      Quiet c s (encD 0x31 x.toNat sgA ra sgB rb sub.toNat) → OwnWord c a → OwnWord c b →
      let k := coreOf c s
      let mode := bitsOf sub.toNat 6 4
      let i : Fin 2 := if x then 1 else 0
      let wa := k.word a
      let wb := k.word b
      let fits (w : PfWord) : Prop := w.tag = macTag mode ∨ w.tag = tStale ∨ w.tag = tFault
      let old : PfAcc := if sub.getLsbD 0 then { st := .valid, val := 0, f32 := mode = 4 } else k.accFull[i]
      let inc : Int := match bitsOf sub.toNat 2 1 with | 0 => 0 | 1 => 1 | 2 => 2 | _ => -1
      let step (r : Fin 32) : List PfPending := if inc = 0 then [] else [⟨k.cyc, .reg r (wrapWord k.g[r].tag (k.g[r].num + inc))⟩]
      let leaves (v : PfAcc) (flags : Word) (u : State) : Host.Outcome State Fault Refusal := .next (modCore c (fun k => { k.moved with
        pend := step ra ++ step rb ++ [⟨k.cyc + 2, .acc i v⟩], accFull := k.accFull.set i v, status := k.status ||| flags }) u)
      mode ≤ 4 → baseOffset k.g[ra] = .ok oa → baseOffset k.g[rb] = .ok ob → segCheck k sgA .load oa = .ok a → segCheck k sgB .load ob = .ok b →
      let ins : Instr := .pfMacd c x sgA sgB ra rb sub
      (fits wa → fits wb →
        (old.st = .fault ∨ wa.tag = tFault ∨ wb.tag = tFault → exec ins s = leaves { st := .fault, val := 0, f32 := mode = 4 } 0 s) ∧
        (old.st ≠ .fault → wa.tag ≠ tFault → wb.tag ≠ tFault → old.st = .stale ∨ wa.tag = tStale ∨ wb.tag = tStale →
          exec ins s = leaves { st := .stale, val := 0, f32 := mode = 4 } 0 s) ∧
        (old.st = .valid → wa.tag = macTag mode → wb.tag = macTag mode →
          (mode < 4 → let sum := if sub.getLsbD 3 then old.val - wa.num * wb.num else old.val + wa.num * wb.num
            exec ins s = leaves { st := .valid, val := max (-(2 ^ 79 : Int)) (min (2 ^ 79 - 1) sum), f32 := false }
              (if sum < -(2 ^ 79 : Int) ∨ (2 ^ 79 - 1 : Int) < sum then (if x then 0x400 else 0x200) else 0) s) ∧
          (mode = 4 → let r := f32Fma (BitVec.ofInt 32 old.val) (if sub.getLsbD 3 then wa.val ^^^ 0x80000000 else wa.val) wb.val
            let v : PfAcc := { st := .valid, val := r.1.toNat, f32 := true }
            (fmaOpen (BitVec.ofInt 32 old.val) wa.val wb.val = false → exec ins s = leaves v r.2 s) ∧
            (fmaOpen (BitVec.ofInt 32 old.val) wa.val wb.val = true → ∃ nv : Bool,
              exec ins s = leaves v (if nv then r.2 ||| 0x10 else r.2) { s with freeCtr := s.freeCtr + 1 })))) ∧
      (wa.tag = tVoid ∨ wb.tag = tVoid → Traps c s ⟨0x01, 0⟩ ins) ∧
      (wa.tag ≠ tVoid → wb.tag ≠ tVoid → ¬ (fits wa ∧ fits wb) → Traps c s ⟨0x02, 0⟩ ins)) ∧
  (∀ (c : CoreId) (x : Bool) (sgA sgB : Fin 16) (ra rb : Fin 32) (sub : BitVec 7) (t : PfTrap) (s : State),
      Quiet c s (encD 0x31 x.toNat sgA ra sgB rb sub.toNat) → bitsOf sub.toNat 6 4 ≤ 4 →
      let k := coreOf c s
      let at_ (r : Fin 32) (sg : Fin 16) : Except PfTrap Nat := match baseOffset k.g[r] with
        | .error t => .error t
        | .ok o => segCheck k sg .load o
      at_ ra sgA = .error t ∨ (at_ ra sgA).isOk ∧ at_ rb sgB = .error t → Traps c s t (.pfMacd c x sgA sgB ra rb sub)) ∧
  (∀ (c : CoreId) (rd ra rb : Fin 32) (fn : BitVec 10) (s : State), Quiet c s (encR 5 rd ra rb fn.toNat) →
      let k := coreOf c s
      let i := accOf ra
      let a := k.acc[i]
      let t := fn.extractLsb' 0 4
      let sh := bitsOf fn.toNat 8 4
      let zero : PfAcc := { st := .valid, val := 0, f32 := k.accFull[i].f32 }
      t ∈ [tQ15, tQ31, tS16, tS32, tF32] →
      let result (w : PfWord) : Prop :=
        (fn.getLsbD 9 = false → exec (.pfAccr c rd ra rb fn) s = .next (modCore c (·.after rd { w := w } 1) s)) ∧
        (fn.getLsbD 9 = true → exec (.pfAccr c rd ra rb fn) s = .next (modCore c (fun k => { k.moved with
          pend := [⟨k.cyc, .reg rd w⟩, ⟨k.cyc, .acc i zero⟩], accFull := k.accFull.set i zero }) s))
      (a.st = .fault → result ⟨tFault, 0⟩) ∧ (a.st = .stale → result ⟨tStale, 0⟩) ∧
      (a.st = .valid → a.f32 = true → t = tF32 → result ⟨tF32, BitVec.ofInt 32 a.val⟩) ∧
      (a.st = .valid → a.f32 = false → t ≠ tF32 → result (satWord t (if sh = 0 then a.val else (a.val + (2 ^ (sh - 1) : Nat)) / (2 ^ sh : Nat)))) ∧
      (a.st = .valid → a.f32 ≠ (t == tF32) → Traps c s ⟨0x0B, k.codeAt.getD (encR 5 rd ra rb fn.toNat)⟩ (.pfAccr c rd ra rb fn))) ∧
  (∀ (c : CoreId) (rd ra rb : Fin 32) (fn : BitVec 10) (s : State), Quiet c s (encR 5 rd ra rb (1024 + fn.toNat)) →
      let zero : PfAcc := { st := .valid, val := 0, f32 := (coreOf c s).accFull[accOf ra].f32 }
      exec (.pfAccClear c rd ra rb fn) s = .next (modCore c (fun k => { k.moved with
        pend := [⟨k.cyc, .acc (accOf ra) zero⟩], accFull := k.accFull.set (accOf ra) zero }) s))

/-- Profold's pipeline: results are written in the cycle their distance states, a window's input words land eight a cycle, and a reservation ends after 63 cycles.
* In exposed mode the results of earlier cycles are written, in their order, and no other; in load-delay mode the core first waits for the earliest result. Nothing else changes.
* In a window, input word k has been written at the end of cycle k / 8 after the first issue, but for a word the core itself stored in that cycle before the memory's pointer let the engine on; a reservation on a word written is lost.
* An instruction sees what its distance lets it see: in exposed mode a result due at the end of this cycle or later is not read.
* A core that may stall loses its reservation at the end of cycle t + 63; an exposed one only when that cycle has passed; a core that holds none is unchanged. -/
def Obligations.ProfoldPipeline : Prop :=
  (∀ (c : CoreId) (s : State), (∀ p, c = .wp p → (pairAt s p).run = none) → (coreOf c s).prevLoad = none →
      let land (k : PfCore) (p : PfPending) : PfCore := match p.what with
        | .reg r w => { k with g := k.g.set r w }
        | .load r w => { k with g := k.g.set r w }
        | .acc a v => { k with acc := k.acc.set a v }
      let settled (cyc : Nat) (k : PfCore) : PfCore :=
        { ((k.pend.filter fun p => p.due < cyc).foldl land k) with cyc := cyc, pend := k.pend.filter fun p => cyc ≤ p.due }
      ((coreOf c s).loadDelay = false → exec (.pipelineWriteback c) s = .next (modCore c (fun k => settled k.cyc k) s)) ∧
      ((coreOf c s).loadDelay = true →
        exec (.pipelineWriteback c) s = .next (modCore c (fun k => settled (match k.pend.head? with | some p => max k.cyc (p.due + 1) | none => k.cyc) k) s))) ∧
  (∀ (p : Fin 16) (r : WinRun) (s : State), (pairAt s p).run = some r → (coreOf (.wp p) s).pend = [] → (coreOf (.wp p) s).loadDelay = false →
      r.landed ≤ 8 * ((coreOf (.wp p) s).cyc - r.base) →
      let snap := (colAt s r.col).snap
      let n := min (8 * ((coreOf (.wp p) s).cyc - r.base)) snap.length
      let fresh := ((snap.zipIdx.drop r.landed).take (n - r.landed)).filter fun e => !r.skip.contains e.2
      Completes (.pipelineWriteback (.wp p)) s fun t =>
        (pairAt t p).run = some { r with landed := n } ∧
        (∀ a, (coreOf (.wp p) t).word a = match fresh.reverse.find? (fun e => e.1.1 == a) with | some e => e.1.2.1 | none => (coreOf (.wp p) s).word a) ∧
        coreOf (.wp p) t = { coreOf (.wp p) s with
          mem := (coreOf (.wp p) t).mem
          resv := match (coreOf (.wp p) s).resv with | some (a, x) => if fresh.any (fun e => e.1.1 == a) then none else some (a, x) | none => none } ∧
        t = { modCore (.wp p) (fun _ => coreOf (.wp p) t) s with pairs := t.pairs } ∧ ∀ q, q ≠ p → pairAt t q = pairAt s q) ∧
  (∀ (p : Fin 16) (rd ra rb : Fin 32) (d : Nat) (w : PfWord) (v : PfVal) (s : State), Quiet (.wp p) s (encR 0 rd ra rb 1) →
      (coreOf (.wp p) s).loadDelay = false → (coreOf (.wp p) s).cyc ≤ d →
      addOp false false (coreOf (.wp p) s).g[ra] (coreOf (.wp p) s).g[rb] = .ok v →
      exec (.pfAdd (.wp p) rd ra rb) (modCore (.wp p) (fun k => { k with pend := [⟨d, .reg ra w⟩] }) s) =
        .next (modCore (.wp p) (fun k => { k.after rd v 1 with
          pend := if k.cyc < d then [⟨k.cyc, .reg rd v.w⟩, ⟨d, .reg ra w⟩] else [⟨d, .reg ra w⟩, ⟨k.cyc, .reg rd v.w⟩] }) s)) ∧
  (∀ (c : CoreId) (s : State),
      (∀ a t, (coreOf c s).resv = some (a, t) →
        ((coreOf c s).loadDelay = true →
          exec (.reservationExpiry c) s = .next (modCore c (fun k => { k with resv := none, cyc := max k.cyc (t + 64) }) s)) ∧
        ((coreOf c s).loadDelay = false →
          exec (.reservationExpiry c) s = .next (modCore c (fun k => if t + 63 < k.cyc then { k with resv := none } else k) s))) ∧
      ((coreOf c s).resv = none → exec (.reservationExpiry c) s = .next s))

/-- Profold's tagged arithmetic on numbers: wrapping, saturation, division, what VOID, STALE and FAULT do, and that results lie in their tag's range.
* A VOID operand traps with 0x01; otherwise FAULT wins over STALE, and either is the result with payload 0.
* On two words of one integer tag ADD, SUB and MUL wrap to the tag's width, ADDS, SUBS and MULS clamp to its range, and DIV truncates, with FAULT for a divisor of 0.
* Words of different tags that form no pair of the matrix trap with 0x02; an operation that is not for a tag traps with 0x03.
* TIME and SEG words take an integer added, TIME modulo 2^32 and SEG in its offset modulo 2^28; two TIME words differ by an S32, and TIME compares by the sign of that difference.
* Every result of a two-operand integer, Q or logic operation on words in range lies in the range of its tag.
* SHL and SHR by the tag's width or more give 0 and SRA the sign; the F32 results of infinities and zeros set their flags. -/
def Obligations.ProfoldArithmetic : Prop :=
  (∀ (a b : PfWord) (f : PfWord → PfWord → Except PfTrap PfVal),
      (f ∈ [addOp false false, addOp true false, addOp false true, addOp true true, mulOp false, mulOp true, mulhOp, qmulOp, divOp false,
        divOp true, compareOp .eq, compareOp .ne, compareOp .lt, compareOp .le, minMaxOp false, minMaxOp true, logicOp (· &&& ·),
        logicOp (· ||| ·), logicOp (· ^^^ ·), shiftOp .left, shiftOp .right, shiftOp .arith, fpOp f32Add, fpOp f32Div]) →
      (a.tag = tVoid ∨ b.tag = tVoid → f a b = .error ⟨0x01, 0⟩) ∧
      (a.tag ≠ tVoid → b.tag ≠ tVoid → a.tag = tFault ∨ b.tag = tFault → f a b = .ok { w := ⟨tFault, 0⟩ }) ∧
      (a.tag ≠ tVoid → b.tag ≠ tVoid → a.tag ≠ tFault → b.tag ≠ tFault → a.tag = tStale ∨ b.tag = tStale → f a b = .ok { w := ⟨tStale, 0⟩ })) ∧
  (∀ (a b : PfWord), a.tag = b.tag → isInteger a.tag = true →
      let wraps (r : Except PfTrap PfVal) (n : Int) : Prop := ∃ w, r = .ok { w := w } ∧ w.tag = a.tag ∧ tagLo a.tag ≤ w.num ∧ w.num ≤ tagHi a.tag ∧
        ((2 ^ tagWidth a.tag : Nat) : Int) ∣ (w.num - n)
      let clamps (r : Except PfTrap PfVal) (n : Int) : Prop := ∃ w, r = .ok { w := w } ∧ w.tag = a.tag ∧ w.num = max (tagLo a.tag) (min (tagHi a.tag) n)
      wraps (addOp false false a b) (a.num + b.num) ∧ wraps (addOp true false a b) (a.num - b.num) ∧ wraps (mulOp false a b) (a.num * b.num) ∧
      clamps (addOp false true a b) (a.num + b.num) ∧ clamps (addOp true true a b) (a.num - b.num) ∧ clamps (mulOp true a b) (a.num * b.num) ∧
      (b.num ≠ 0 → clamps (divOp false a b) (a.num.tdiv b.num)) ∧ (b.num = 0 → divOp false a b = .ok { w := ⟨tFault, 0⟩ }) ∧
      compareOp .lt a b = .ok { w := boolWord (decide (a.num < b.num)) } ∧ compareOp .le a b = .ok { w := boolWord (decide (a.num ≤ b.num)) }) ∧
  ((∀ (a b : PfWord), isInteger a.tag = true → isInteger b.tag = true → a.tag ≠ b.tag →
      addOp false false a b = .error ⟨0x02, 0⟩ ∧ mulOp false a b = .error ⟨0x02, 0⟩ ∧ divOp false a b = .error ⟨0x02, 0⟩ ∧
      compareOp .lt a b = .error ⟨0x02, 0⟩ ∧ logicOp (· &&& ·) a b = .error ⟨0x02, 0⟩) ∧
    (∀ (x y : Word), addOp false false ⟨tRaw, x⟩ ⟨tRaw, y⟩ = .error ⟨0x03, 0⟩ ∧ addOp false false ⟨tBool, x⟩ ⟨tBool, y⟩ = .error ⟨0x03, 0⟩ ∧
      addOp false false ⟨tF32, x⟩ ⟨tF32, y⟩ = .error ⟨0x03, 0⟩ ∧ mulOp false ⟨tQ15, x⟩ ⟨tQ15, y⟩ = .error ⟨0x03, 0⟩ ∧
      compareOp .lt ⟨tRaw, x⟩ ⟨tRaw, y⟩ = .error ⟨0x03, 0⟩ ∧ minMaxOp true ⟨tF32, x⟩ ⟨tF32, y⟩ = .error ⟨0x03, 0⟩ ∧
      addOp false true ⟨tTime, x⟩ ⟨tTime, y⟩ = .error ⟨0x03, 0⟩ ∧ negOp ⟨tU32, x⟩ = .error ⟨0x03, 0⟩)) ∧
  (∀ (x y : Word) (b : PfWord), isInteger b.tag = true →
      addOp false false ⟨tTime, x⟩ b = .ok { w := ⟨tTime, BitVec.ofInt 32 (x.toNat + b.num)⟩ } ∧
      addOp false false ⟨tSeg, x⟩ b = .ok { w := segWord (x.toNat / 2 ^ 28) (unsignedOf 28 (x.toNat % 2 ^ 28 + b.num)) } ∧
      addOp true false ⟨tTime, x⟩ ⟨tTime, y⟩ = .ok { w := ⟨tS32, x - y⟩ } ∧
      compareOp .lt ⟨tTime, x⟩ ⟨tTime, y⟩ = .ok { w := boolWord (decide ((x - y).toInt < 0)) }) ∧
  (∀ (a b : PfWord) (v : PfVal) (f : PfWord → PfWord → Except PfTrap PfVal), a.inRange = true → b.inRange = true →
      f ∈ [addOp false false, addOp true false, addOp false true, addOp true true, mulOp false, mulOp true, mulhOp, qmulOp, divOp false,
        divOp true, minMaxOp false, minMaxOp true, shiftOp .left, shiftOp .right, shiftOp .arith] →
      f a b = .ok v → v.w.inRange = true) ∧
  ((∀ (a b : PfWord), isUnsigned b.tag = true → isInteger a.tag = true → a.inRange = true → tagWidth a.tag ≤ b.val.toNat →
      shiftOp .left a b = .ok { w := mkWord a.tag 0 } ∧ shiftOp .right a b = .ok { w := mkWord a.tag 0 } ∧
      (isSigned a.tag = true → shiftOp .arith a b = .ok { w := mkWord a.tag (if a.num < 0 then -1 else 0) })) ∧
    (∀ x y : Word, f32View x = .nan false → (f32Add x y).1 = 0x7FC00000 ∧ (f32Mul x y).1 = 0x7FC00000 ∧ (f32Div x y).1 = 0x7FC00000) ∧
    f32Div 0x3F800000 0 = (0x7F800000, 0x20) ∧ f32Div 0 0 = (0x7FC00000, 0x10) ∧ f32Mul 0x7F800000 0 = (0x7FC00000, 0x10) ∧
    f32Mul 0x7F7FFFFF 0x40000000 = (0x7F800000, 0x140))

/-- Windows on the worker pairs: start, miscompare, load of a spare, commit, overrun and deadline.
* A start that is due on a column with no window in progress takes the snapshot held since the tick's beginning, else one taken now, and finds the column's pair: a spare that has loaded the column for a drain, the powered holder, or the first free spare, which then holds the column and still loads. The window begins on it; with no such pair it is MISSED. A start that is not due, or on a column whose window is in progress, changes nothing.
* A due start of a column whose powered holder loads nothing runs there on the pair's fresh core: user state, the window's first word, registers and data memory VOID, accumulators valid and 0, sg0 alone, its cycles counting on from now. Only the column, the pair and its core change, and no other pair or core.
* A fresh window core: user state at the window's first word, registers and data VOID, accumulators valid and 0, sg0 over the 32,768 words of data memory with every permission and no other segment; the cycle counter and the code loaded stand.
* A lockstep difference of a pair that runs a window, not ended and loaded, is counted in 0x3B10 + p/06. The first of a window begins its rerun on the pair, from the start, and a shadow run, still to be loaded, on the first free spare. One of a shadow run ends that run. The second retires the pair: the shadow run goes on on its spare, which holds the column and loads its code, counted in 0x3B01/03 with an event; without one the window is MISSED. No signal is written. Without such a run nothing changes.
* After the second one the pair is retired and holds and runs nothing, and no signal has changed: with no shadow run the window of its column is over, MISSED, counted in 0x3B01/06; with one the spare's run stands, the spare holds the column, and the takeover counts in 0x3B01/03.
* A pair that is retired holds and runs nothing; the mask of retired pairs is recorded, the change of its state logged, and a standby bank that is armed goes back to VERIFIED with code 0x0D where its columns now lack pairs. One that is retired already does not change. A missed window is counted in 0x3B01/06 and logged with its ID, column and pair, and every run of its column ends.
* A load that completes: a run that waits for it is ready, its window's code in the pair's instruction memory and its cycles counting from now. Otherwise a pair that holds a column and loads has all the column's code and loads no more, and a spare that loads for a drain has it from now on, for a later start. Another pair does not change.
* A pair's instruction memory then holds the code of those windows of the active Comb at its addresses in the code section, without an error; without an active Comb nothing is loaded.
* The clean end of a window on a pair of its column commits: its outputs are written, the window is counted in 0x3B01/01, and every run of the column ends with its snapshot; a rerun that commits masks the first miscompare, counted in 0x3B01/02 with an event. A column with no run that has reached WEND does not change.
* Where one pair alone runs the column's window and has ended, nothing but the signals, PDUs, counters, events, the pairs' runs and the column differs afterwards: the cores, the keeper, the store of configuration and the vault stand.
* A STORE route writes the window's word to its signal with the route's age, or FAULT, counted in 0x3A01/01, where the word's tag is neither the route's nor STALE nor FAULT. The VALUE stored with FAULT, 0, is the model's (log 120).
* The first run of the column that is loaded, has not ended and has used its WCET cycles since its start ends the window: nothing is committed or rerun, 0x3B01/05 counts it with an event, and every run of the column ends. Without such a run nothing changes.
* At its deadline a window that has not committed is MISSED, and the pair that ran it for its column is retired. Before the deadline, or on a column without a window, nothing changes. -/
def Obligations.WindowRuns : Prop :=
  (∀ (s : State) (col : Fin 16) (w : Nat),
      let starts := (s.comb.now.any fun a => actType a == 2 && actWin a == w && actCol a == col) = true ∧ (colAt s col).win = none
      let u : State := { s with cols := vmod s.cols col fun x => { win := some w, startTick := s.clk.ticks, snap := match x.next with | some (v, l) => if v = w then l else takeSnapshot s w | none => takeSnapshot s w } }
      (¬ starts → exec (.windowStart col w) s = .next s) ∧
      (starts → (startPair u col).1 = none → exec (.windowStart col w) s = .next { windowMissed col w 0xFF (startPair u col).2 with pending := s.pending }) ∧
      (∀ p load, starts → (startPair u col).1 = some (p, load) →
        exec (.windowStart col w) s = .next { beginRun p { win := w, col := col, kind := .first, ready := !load } (startPair u col).2 with pending := s.pending })) ∧
  (∀ (s : State) (col : Fin 16) (w : Nat) (p : Fin 16) (c : Comb) (e : BitVec 256), s.comb.active = some c → c.win? w = some e →
      (s.comb.now.any fun a => actType a == 2 && actWin a == w && actCol a == col) = true → (colAt s col).win = none →
      (∀ q, (pairAt s q).loading = none) → holderOf s col = some p.val → s.pwr.pairs[p] = true →
      Completes (.windowStart col w) s fun t => t = { s with cols := t.cols, pairs := t.pairs, wp := t.wp } ∧
        (colAt t col).win = some w ∧ (colAt t col).startTick = s.clk.ticks ∧ ((colAt s col).next = none → (colAt t col).snap = takeSnapshot s w) ∧
        (pairAt t p).run = some { win := w, col := col, kind := .first, base := (coreOf (.wp p) s).cyc } ∧
        coreOf (.wp p) t = windowCore p (winCodeOfs e) (coreOf (.wp p) s) ∧
        (∀ q : Fin 16, q ≠ p → coreOf (.wp q) t = coreOf (.wp q) s ∧ pairAt t q = pairAt s q) ∧ ∀ k : Fin 16, k ≠ col → colAt t k = colAt s k) ∧
  (∀ (p pc : Nat) (k : PfCore),
      let x := windowCore p pc k
      x.pc = pc ∧ x.status = 0 ∧ x.mem = [] ∧ x.g = Vector.replicate 32 ⟨tVoid, 0⟩ ∧ x.imem = 32768 ∧ x.cyc = k.cyc ∧ x.code = k.code ∧ x.pend = [] ∧ x.slotTarget = none ∧ x.rep = none ∧ x.resv = none ∧
      x.sg[0] = 0x00000000007FFF0F ∧ (∀ i : Fin 16, i ≠ 0 → x.sg[i] = 0) ∧ x.loadDelay = false ∧ x.acc = Vector.replicate 2 {} ∧ x.accFull = Vector.replicate 2 {}) ∧
  (∀ (s : State) (p : Fin 16),
      let u := count (odKey (0x3B10 + p) 6) s
      let act (t : State) : Prop := exec (.miscompare p) s = .next { t with pending := s.pending }
      ((pairAt s p).run = none → act s) ∧
      ∀ r, (pairAt s p).run = some r →
        let last := r.kind = .rerun ∨ r.kind = .shadow ∧ (pairAt u p).column = some r.col
        (r.ended ≠ none ∨ r.ready = false → act s) ∧
        (r.ended = none → r.ready = true →
          (r.kind = .first → ∀ q, freeSpare (beginRun p { win := r.win, col := r.col, kind := .rerun } u) r.col = some q →
            act (beginRun q { win := r.win, col := r.col, kind := .shadow, ready := false } (beginRun p { win := r.win, col := r.col, kind := .rerun } u))) ∧
          (r.kind = .first → freeSpare (beginRun p { win := r.win, col := r.col, kind := .rerun } u) r.col = none → act (beginRun p { win := r.win, col := r.col, kind := .rerun } u)) ∧
          (r.kind = .shadow → ¬ last → act { u with pairs := vmod u.pairs p fun x => { x with run := none } }) ∧
          (last → ∀ q l, runners (retirePair p u) r.col = q :: l →
            act (keeperLine 6 (logEvent (clusterSource p) clsMasked 0x0002 (odKey 0x3B01 3) (winData r p ++ leBytes 1 q)
              (count (odKey 0x3B01 3) (modPair q (fun x => { x with column := some r.col, loading := some r.col }) (retirePair p u)))))) ∧
          (last → runners (retirePair p u) r.col = [] → act (windowMissed r.col r.win p (retirePair p u))))) ∧
  (∀ (s : State) (p : Fin 16) (r : WinRun), (pairAt s p).run = some r → r.ended = none → r.ready = true → r.kind = .rerun →
      (pairAt s p).retired = false → r.col < 16 →
      (runners s r.col = [p.val] → Completes (.miscompare p) s fun t => (pairAt t p).retired = true ∧ (pairAt t p).column = none ∧
        (pairAt t p).run = none ∧ (colAt t r.col).win = none ∧ t.sig = s.sig ∧
        val t (odKey 0x3B01 6) = min (val s (odKey 0x3B01 6) + 1) 0xFFFFFFFF) ∧
      (∀ q : Fin 16, q ≠ p → (runners s r.col).filter (· ≠ p.val) = [q.val] →
        Completes (.miscompare p) s fun t => (pairAt t p).retired = true ∧ (pairAt t q).column = some r.col ∧
          (pairAt t q).run = (pairAt s q).run ∧ t.sig = s.sig ∧ val t (odKey 0x3B01 3) = min (val s (odKey 0x3B01 3) + 1) 0xFFFFFFFF)) ∧
  (∀ (s : State) (p : Fin 16) (col w q : Nat),
      ((pairAt s p).retired = true → retirePair p s = s) ∧
      ((pairAt s p).retired = false →
        let t := retirePair p s
        pairAt t p = { pairAt s p with st := .retired, retired := true, column := none, run := none, loading := none, loadedAt := none } ∧ (∀ k : Fin 16, k ≠ p → pairAt t k = pairAt s k) ∧
        t.sig = s.sig ∧ t.wp = s.wp ∧ t.cols = s.cols ∧ (s.comb.state ≠ .armed → t.comb = s.comb) ∧
        (∀ c d, s.comb.state = .armed → s.comb.standby = some c → spareCheck (setPairState p .retired (recordRetired (modPair p (fun x => { x with retired := true, column := none, run := none, loading := none, loadedAt := none }) s))) c = some d →
          t.comb.state = .verified ∧ t.comb.refusal = 0x0D ∧ t.comb.detail = d.2)) ∧
      windowMissed col w q s = finishWindow col (logEvent (4 + col / 4) clsUnmasked 0x0021 (odKey 0x3B01 6) (leBytes 2 w ++ leBytes 1 col ++ leBytes 1 q) (count (odKey 0x3B01 6) s)) ∧
      (col < 16 → (colAt (finishWindow col s) col).win = none ∧ (colAt (finishWindow col s) col).snap = [] ∧ ∀ k : Fin 16, (pairAt (finishWindow col s) k).run = if (pairAt s k).run.any (·.col == col) then none else (pairAt s k).run)) ∧
  (∀ (s : State) (p : Fin 16),
      let x := pairAt s p
      let set (f : PairSt → PairSt) (t : State) : State := { t with pairs := vmod t.pairs p f }
      (∀ r, x.run = some r → r.ready = false → exec (.spareLoadComplete p) s = .next (set (fun y => { y with run := some { r with ready := true, base := (coreOf (.wp p) (loadCode p [r.win] s)).cyc } }) { loadCode p [r.win] s with pending := s.pending })) ∧
      ((∀ r, x.run = some r → r.ready = true) →
        (∀ k col, x.column = some k → x.loading = some col → exec (.spareLoadComplete p) s = .next (set (fun y => { y with loading := none }) { loadColumn p col s with pending := s.pending })) ∧
        (x.column = none ∨ x.loading = none → exec (.spareLoadComplete p) s = .next s)) ∧
      (∀ k col, x.column = some k → x.loading = some col → exec (.drainLoadComplete p) s = .next (set (fun y => { y with loading := none }) { loadColumn p col s with pending := s.pending })) ∧
      (∀ col, x.column = none → x.loading = some col → exec (.drainLoadComplete p) s = .next (set (fun y => { y with loadedAt := some s.clk.ticks }) { loadColumn p col s with pending := s.pending })) ∧
      (x.loading = none → exec (.drainLoadComplete p) s = .next s)) ∧
  (∀ (s : State) (p : Fin 16) (ws : List Nat),
      (s.comb.active = none → loadCode p ws s = s) ∧
      (∀ c, s.comb.active = some c → loadCode p ws s = { s with wp := vmod s.wp p fun k => { k with code := codeWords c ws, badCode := [] } } ∧
        ∀ a x, (a, x) ∈ codeWords c ws ↔ c.code[a]? = some x ∧ ∃ w ∈ ws, ∃ e, c.win? w = some e ∧ winCodeOfs e ≤ a ∧ a < winCodeOfs e + winCodeLen e) ∧
      (∀ c col, s.comb.active = some c → loadColumn p col s = loadCode p (c.winsOf col) s)) ∧
  (∀ (s : State) (col : Fin 16),
      let done := (runners s col).filterMap fun p => ((pairAt s p).run).bind fun r => if r.ended = some .wend then some (p, r) else none
      (done = [] → exec (.windowCommit col) s = .next s) ∧
      (∀ p r l, done = (p, r) :: l →
        let u := count (odKey 0x3B01 1) (commitRun p r s)
        (r.kind ≠ .rerun → exec (.windowCommit col) s = .next { finishWindow col u with pending := s.pending }) ∧
        (r.kind = .rerun → exec (.windowCommit col) s = .next { finishWindow col (logEvent (clusterSource p) clsMasked 0x0001 (odKey 0x3B01 2) (winData r p) (count (odKey 0x3B01 2) u)) with pending := s.pending }))) ∧
  (∀ (s : State) (col p : Fin 16) (r : WinRun), runners s col = [p.val] → (pairAt s p).run = some r → r.ended = some .wend →
      Completes (.windowCommit col) s fun t => (colAt t col).win = none ∧ (pairAt t p).run = none ∧ t.sig = (commitRun p r s).sig ∧
        val t (odKey 0x3B01 1) = min (val (commitRun p r s) (odKey 0x3B01 1) + 1) 0xFFFFFFFF ∧ t.wp = (commitRun p r s).wp ∧
        (∀ k : Fin 16, k ≠ p → pairAt t k = pairAt (commitRun p r s) k) ∧ ∀ k : Fin 16, k ≠ col → colAt t k = colAt (commitRun p r s) k) ∧
  (∀ (s : State) (r : BitVec 256) (w : PfWord) (sealv : Bool),
      (w.tag = rtTag r ∨ w.tag = tStale ∨ w.tag = tFault → storeRoute r w sealv s = sigWrite (rtSig r) w.tag w.val sealv (rtAge r) s) ∧
      (w.tag ≠ rtTag r → w.tag ≠ tStale → w.tag ≠ tFault →
        storeRoute r w sealv s = sigWrite (rtSig r) tFault 0 sealv (rtAge r) (count (odKey 0x3A01 1) s))) ∧
  (∀ (s : State) (col : Fin 16),
      let used (p : Nat) : Bool := (pairAt s p).run.any fun r => r.ready && r.ended.isNone && decide (wcetOf s r + r.base ≤ (wpAt s p).cyc)
      ((runners s col).find? used = none → exec (.windowOverrun col) s = .next s) ∧
      (∀ p r, (runners s col).find? used = some p → (pairAt s p).run = some r →
        exec (.windowOverrun col) s = .next { finishWindow r.col (logEvent (clusterSource p) clsRefusal 0 (odKey 0x3B01 5) (winData r p) (count (odKey 0x3B01 5) s)) with pending := s.pending } ∧
        Completes (.windowOverrun col) s fun t => t = { s with od := t.od, evt := t.evt, keeper := t.keeper, pairs := t.pairs, cols := t.cols } ∧ (colAt t col).win = none ∧
          val t (odKey 0x3B01 5) = min (val s (odKey 0x3B01 5) + 1) 0xFFFFFFFF)) ∧
  (∀ (s : State) (col : Fin 16),
      let act (t : State) : Prop := exec (.windowDeadline col) s = .next { t with pending := s.pending }
      ((colAt s col).win = none ∨ s.comb.active = none → act s) ∧
      ∀ w c, (colAt s col).win = some w → s.comb.active = some c →
        (c.win? w = none → act s) ∧
        ∀ e, c.win? w = some e →
          (s.clk.ticks < (colAt s col).startTick + winDeadline e → act s) ∧
          ((colAt s col).startTick + winDeadline e ≤ s.clk.ticks →
            let ran := (runners s col).find? fun p => (pairAt s p).column = some col.val
            (ran = none → act (windowMissed col w 0xFF s)) ∧ ∀ p, ran = some p → act (windowMissed col w p (retirePair p s))))

/-- Drain, requalification, and the end of a shut-down.
* A write of a pair's Enable. A retired pair is refused. A 0 stops a RUNNING pair, whose column the first free spare then loads, unless its cluster would lose its last free spare, which is refused; it takes a PENDING one back to STOPPING. A 1 starts a STOPPED pair as a spare, PENDING during a BIST, and makes a STOPPING one PENDING. In every other state the value is kept alone.
* A write of 1 to Requalify starts the tests of a pair that holds no column, which votes for its own domain while they run; with a column it is refused, and another value is out of range.
* The end of the tests withdraws the vote for them. Passed, the pair is STOPPED and no longer retired, and the mask of retired pairs is recorded; failed, it is retired, with an event. Without tests in progress nothing changes.
* The end of a shut-down. A port with nothing left to send, no reception, flush, port test or BIST, is STOPPED, or starts where a write of 1 has come since. A pair without a run, a column of the active Comb or a BIST is STOPPED, or starts. A mirror session drops what waits and is STOPPED, or starts anew. A port test told to stop is idle, and its port's own stop goes on. One whose shut-down has not begun, or not reached its end, does not change.
* A lane, an LF channel, the UWB unit or the NFC unit: its stop ends as the clauses on those units state; none of these touches a port, a pair or a mirror session. -/
def Obligations.PairsAndStops : Prop :=
  (∀ (slot p : Fin 16) (v : Nat), Writes (.pairEnableWrite slot p v) slot (0x3B10 + p) 1 (numFor (0x3B10 + p) 1 v) (fun _ => true) fun s n _ =>
      let x := pairAt s p
      let u := setVal (odKey (0x3B10 + p) 1) (if n = 0 then 0 else 1) s
      let fresh (t : State) : State := setPairState p .running { t with pairs := vmod t.pairs p fun y => { y with column := none, run := none, loading := none, loadedAt := none } }
      if x.retired = true then .error 0x08000022
      else if n = 0 ∧ x.st = .running ∧ drainLeavesNone s p = true then .error 0x08000022
      else .ok fun t =>
        (n = 0 → x.st = .running →
          (x.column = none → t = setPairState p .stopping u) ∧
          (∀ col q, x.column = some col → freeSpare (setPairState p .stopping u) col = some q →
            t = modPair q (fun y => { y with loading := some col, loadedAt := none }) (setPairState p .stopping u)) ∧
          (∀ col, x.column = some col → freeSpare (setPairState p .stopping u) col = none → t = setPairState p .stopping u)) ∧
        (n = 0 → x.st = .pending → t = setPairState p .stopping u) ∧ (n = 0 → x.st ∉ [.running, .pending] → t = u) ∧
        (n ≠ 0 → x.st = .stopped → s.test.bist = some (0x10 + p.val) → t = setPairState p .pending u) ∧
        (n ≠ 0 → x.st = .stopped → s.test.bist ≠ some (0x10 + p.val) → t = fresh u) ∧
        (n ≠ 0 → x.st = .stopping → t = setPairState p .pending u) ∧ (n ≠ 0 → x.st ∉ [.stopped, .stopping] → t = u)) ∧
  (∀ (slot p : Fin 16) (v : Nat), Writes (.requalify slot p v) slot (0x3B10 + p) 7 (numFor (0x3B10 + p) 7 v) (fun _ => true) fun s n _ =>
      if n ≠ 1 then .error 0x06090030
      else if (pairAt s p).column.isSome then .error 0x08000022
      else .ok (· = setVote (8 + p) (.pair p) true { s with pairs := vmod s.pairs p fun x => { x with requal := 1 } })) ∧
  (∀ (s : State) (p : Fin 16),
      let u := setVote (8 + p) (.pair p) false s
      ((pairAt s p).requal ≠ 1 → ∀ pass, exec (.requalifyComplete p pass) s = .next s) ∧
      ((pairAt s p).requal = 1 →
        exec (.requalifyComplete p true) s = .next { setPairState p .stopped (recordRetired (modPair p (fun x => { x with requal := 2, retired := false }) u)) with pending := s.pending } ∧
        exec (.requalifyComplete p false) s = .next { logEvent (clusterSource p) clsRefusal 3 (odKey (0x3B10 + p) 7) [] (retirePair p (modPair p (fun x => { x with requal := 3 }) u)) with pending := s.pending } ∧
        (Completes (.requalifyComplete p true) s fun t => (pairAt t p).retired = false ∧ (pairAt t p).requal = 2 ∧ (pairAt t p).st = .stopped ∧ t.sig = s.sig) ∧
        (Completes (.requalifyComplete p false) s fun t => (pairAt t p).retired = true ∧ (pairAt t p).requal = 3 ∧ t.sig = s.sig))) ∧
  (∀ s : State,
      (∀ p : Fin 24,
        let x := portAt s p
        let ends := (x.st = .stopping ∨ x.st = .pending ∧ s.pwr.held.getLsbD p = false) ∧ x.flushing = false ∧ outputEmpty s p = true ∧ (s.fab.ingress[p.val]?).join = none ∧ x.test.st ≠ 1 ∧ s.test.bist ≠ some (0x30 + p.val)
        let test := x.test.st = 1 ∧ x.test.stopping = true
        (ends → exec (.shutdownComplete (.port p)) s = .next { finishStop p s with pending := s.pending }) ∧ (¬ ends → exec (.shutdownComplete (.port p)) s = .next s) ∧
        (test → exec (.shutdownComplete (.portTest p)) s = .next { portStopped p (endPortTest p 0 s) with pending := s.pending }) ∧ (¬ test → exec (.shutdownComplete (.portTest p)) s = .next s)) ∧
      (∀ p : Fin 16,
        let x := pairAt s p
        let rest := x.run = none ∧ (x.column = none ∨ s.comb.active = none) ∧ s.test.bist ≠ some (0x10 + p.val)
        (rest → x.st = .stopping → exec (.shutdownComplete (.pair p)) s = .next { setPairState p .stopped (modPair p (fun y => { y with column := none, loading := none, loadedAt := none }) s) with pending := s.pending }) ∧
        (rest → x.st = .pending → exec (.shutdownComplete (.pair p)) s = .next { startPairUnit p s with pending := s.pending }) ∧
        (¬ rest ∨ x.st ∉ [.stopping, .pending] → exec (.shutdownComplete (.pair p)) s = .next s)) ∧
      (∀ m : Fin 8,
        let set (f : MirrorSt → MirrorSt) : State := { s with fab := { s.fab with mirrors := vmod s.fab.mirrors m f } }
        ((mirrorAt s m).st = .stopping → exec (.shutdownComplete (.mirror m)) s = .next (set fun x => { x with st := .stopped, waiting := [] })) ∧
        ((mirrorAt s m).st = .pending → exec (.shutdownComplete (.mirror m)) s = .next (set fun x => { x with st := .running, seq := 0, write := 0, waiting := [], ring := [] })) ∧
        ((mirrorAt s m).st ∉ [.stopping, .pending] → exec (.shutdownComplete (.mirror m)) s = .next s))) ∧
  (∀ s : State,
      (∀ l : Fin 12, exec (.shutdownComplete (.lane l)) s = .next { laneStopped l s with pending := s.pending }) ∧
      (∀ c : Fin 8, ((chanAt s c = .stopping → exec (.shutdownComplete (.lfChannel c)) s = .next { setChan c .stopped (bridgeOff c s) with pending := s.pending }) ∧
        (chanAt s c = .pending → exec (.shutdownComplete (.lfChannel c)) s = .next { setChan c .running (bridgeOff c s) with pending := s.pending }) ∧
        (chanAt s c ∉ [.stopping, .pending] → exec (.shutdownComplete (.lfChannel c)) s = .next s))) ∧
      exec (.shutdownComplete .uwb) s = .next { uwbStopped s with pending := s.pending } ∧ exec (.shutdownComplete .nfc) s = .next { nfcStopped s with pending := s.pending })

/-- The LF engine: periodic starts, grants, pattern runs, Comb polls, shorts, touch inputs, and the writes of the pattern table, the wake ID and Enable.
* The period of an enabled pattern with its periodic trigger triggers it while access power is on; without one of these nothing happens.
* A triggered start that is pending or running already is merged and counted in 0x4000/07; any other is pending behind those that are. A start request's last pattern that ends or is skipped triggers a transponder transaction, where the path has a channel and no START session is open.
* The free engine serves the pending start at or next above the pointer, which moves one past it: a pattern that is enabled runs with its own zone, one that is not is passed over, a transponder transaction charges its field, and the loopback drives its one channel without a frame. A busy engine, one without access power or in a loopback, and one with nothing to serve change nothing.
* A served pattern that is no CHALLENGE, with VLF of 6,000 mV or more, a channel that can drive and the crystal: its frame goes out on the channels driven, and the run is counted; otherwise the start is skipped and counted in 0x4000/05. The channels driven are those enabled whose peak reaches half the current set.
* A run keeps the VLF read. Skipped below 6,000 mV, without a channel that can drive or without the crystal, it is counted in 0x4000/05; otherwise it is counted in 0x4000/03, each channel is checked, an open one drives no further, a tail is asked for on the channels driven, and the frame goes out: a CHALLENGE's with a drawn nonce and its slot byte, which opens a round.
* A channel's drive is read: below half its current it is open and counted in 0x4010 + c/05, at nine tenths of it or less it has not reached it and is counted in 0x4010 + c/07. A change of a channel's State is logged.
* The run of a pattern ends: the engine is free and the pattern done; without a run nothing changes.
* A Comb poll that is due, with access power on, runs its pattern at once with the action's zone; a pattern that is not enabled for polls is skipped and counted in 0x4000/06. Another user of the engine gives way, and for a CHALLENGE the round before it; a CHALLENGE before the generator is seeded is skipped and counted in 0x4000/05. A poll that is not due does nothing.
* The user that gives way to a poll: a pattern is pending again and counted in 0x4000/04, a transponder transaction's field goes off and it is pending again, and so is a loopback.
* A channel above 2.4 A while a pattern or the transponder drives it: its bridge goes off and its State is FAULT, counted in 0x4010 + c/06; one that nothing drives does not change.
* With AO power every input that the scan gives is scanned, in order; without it nothing is. A second scan in a row at or above the threshold over the baseline registers a touch of the first input, counted in 0x4003/06, which triggers the input's patterns and changes no session; one such scan only notes that.
* One input in one scan. While a touch lasts the baseline stands. Otherwise it follows the capacitance by one unit at every 16th scan, and a touch is registered at the second scan in a row above; the registered touch is counted, triggers the patterns of its input or, without access power, leaves them for after the wake, and raises a wake.
* A write of the pattern table takes 512 bytes; an entry with drive currents above 6 A together, a carrier code above 400, reserved bits, or a periodic trigger with a period outside 50 to 60,000 ms or on a channel of the transponder path is refused with 0x06090030; otherwise the table is kept.
* A write of a wake ID below 0xFFFFFF is kept; 0xFFFFFF is refused.
* A write of a channel's Enable is kept; 0 makes a running or pending channel STOPPING and a faulty one STOPPED, 1 makes a stopped or faulty one RUNNING and a stopping one PENDING. -/
def Obligations.LfPatterns : Prop :=
  (∀ (s : State) (i : Fin 32),
      let due := s.pwr.access = true ∧ patEn (patternAt s i) = true ∧ patTrig (patternAt s i) 4 = true
      (¬ due → exec (.periodicTimer i) s = .next s) ∧
      (due → exec (.periodicTimer i) s = .next { trigger i s with pending := s.pending })) ∧
  (∀ (s : State) (r : Nat),
      let busy := r ∈ s.lf.pending ∨ (∃ z b m, s.lf.user = .pattern r z b m) ∨ (s.lf.user = .transponder ∧ r = 32)
      let left := s.lf.startSet.filter (· ≠ r)
      let u : State := { s with lf := { s.lf with startSet := left } }
      (busy → trigger r s = count (odKey 0x4000 7) s) ∧
      (¬ busy → trigger r s = { s with lf := { s.lf with pending := s.lf.pending ++ [r] } }) ∧
      (r ∉ s.lf.startSet → patternDone r s = s) ∧
      (r ∈ s.lf.startSet → left ≠ [] → patternDone r s = u) ∧
      (r ∈ s.lf.startSet → left = [] → patternDone r s =
        if val s (odKey 0x4321 4) % 4 ≠ 0 ∧ ¬ (∃ x, s.lf.session = some x ∧ x.start = true) then trigger 32 u else u)) ∧
  (∀ (s : State) (vlf : Nat) (peaks : List Nat),
      let free := s.lf.user = .none ∧ s.pwr.access = true ∧ s.lf.loopback = false
      let u (r : Nat) : State := { s with lf := { s.lf with pending := s.lf.pending.filter (· ≠ r), pointer := (r + 1) % 34 } }
      let act (t : State) : Prop := exec (.lfEngineGrant vlf peaks) s = .next { t with pending := s.pending }
      (¬ free → act s) ∧ (rrPick 34 s.lf.pointer (startable s) = none → act s) ∧
      ∀ r, free → rrPick 34 s.lf.pointer (startable s) = some r →
        (r < 32 → patEn (patternAt s r) = true → act (runPattern r (patZone (patternAt s r)) false vlf peaks (u r))) ∧
        (r < 32 → patEn (patternAt s r) = false → act (patternDone r (u r))) ∧
        (r = 32 → act (chargeField (u r))) ∧
        (r = 33 → act (emit (.lf (2 ^ val s (odKey 0x5040 1)) 200 []) { u r with lf := { (u r).lf with loopback := true } }))) ∧
  (∀ (s : State) (vlf : Nat) (peaks : List Nat) (r : Nat), s.lf.user = .none → s.pwr.access = true → s.lf.loopback = false →
      rrPick 34 s.lf.pointer (startable s) = some r → r < 32 → patEn (patternAt s r) = true → patCmd (patternAt s r) ≠ 2 → r ∉ s.lf.startSet →
      let e := patternAt s r
      let able := if patIcur e = 0 then [] else (channelsOf (patAnt e)).filter fun c => chanAt s c == .running
      let driven := able.filter fun c => decide (patIcur e * 7812500 ≤ peaks.getD c 0 * 4000000)
      let mask := (driven.map (2 ^ ·)).sum
      (6000 ≤ vlf → able ≠ [] → s.pwr.crystal = true →
        Completes (.lfEngineGrant vlf peaks) s fun t => t = { s with lf := t.lf, od := t.od, out := t.out } ∧
          t.lf = { s.lf with pending := s.lf.pending.filter (· ≠ r), pointer := (r + 1) % 34, user := .pattern r (patZone e) false mask } ∧
          t.out = .lf mask (patFcode e) (lfFrame s (patCmd e) []) :: (if patTail e = true ∧ driven ≠ [] then [.lfTail driven] else []) ++ s.out ∧
          val t (odKey 0x4000 1) = vlf ∧ val t (odKey 0x4000 3) = min (val s (odKey 0x4000 3) + 1) 0xFFFFFFFF ∧
          (∀ c ∈ able, val t (odKey (0x4010 + c) 4) = peaks.getD c 0) ∧ ∀ k, k ≠ odKey 0x4000 1 → k ≠ odKey 0x4000 3 → (∀ c : Fin 8, k ≠ odKey (0x4010 + c) 4 ∧ k ≠ odKey (0x4010 + c) 5 ∧ k ≠ odKey (0x4010 + c) 7) → val t k = val s k) ∧
      (vlf < 6000 ∨ able = [] ∨ s.pwr.crystal = false →
        Completes (.lfEngineGrant vlf peaks) s fun t => t = { s with lf := t.lf, od := t.od } ∧
          t.lf = { s.lf with pending := s.lf.pending.filter (· ≠ r), pointer := (r + 1) % 34 } ∧
          val t (odKey 0x4000 1) = vlf ∧ val t (odKey 0x4000 5) = min (val s (odKey 0x4000 5) + 1) 0xFFFFFFFF ∧ ∀ k, k ≠ odKey 0x4000 1 → k ≠ odKey 0x4000 5 → val t k = val s k)) ∧
  (∀ (s : State) (i z : Nat) (b : Bool) (vlf : Nat) (peaks : List Nat),
      let e := patternAt s i
      let u := setVal (odKey 0x4000 1) vlf s
      let able := if patIcur e = 0 then [] else (channelsOf (patAnt e)).filter fun c => chanAt s c == .running
      let driven := able.filter fun c => decide (patIcur e * 7812500 ≤ peaks.getD c 0 * 4000000)
      let mask := (driven.map (2 ^ ·)).sum
      let tail := if patTail e then driven else []
      let v := modLf (fun l => { l with user := .pattern i z b mask }) (able.foldl (fun s c => driveCheck (patIcur e) c (peaks.getD c 0) s) (count (odKey 0x4000 3) u))
      let w := if tail = [] then v else emit (.lfTail tail) v
      let runs := 6000 ≤ vlf ∧ able ≠ [] ∧ s.pwr.crystal = true
      (¬ runs → runPattern i z b vlf peaks s = patternDone i (count (odKey 0x4000 5) u)) ∧
      (runs → patCmd e ≠ 2 → runPattern i z b vlf peaks s = emit (.lf mask (patFcode e) (lfFrame s (patCmd e) [])) w) ∧
      (runs → patCmd e = 2 → runPattern i z b vlf peaks s = openRound i z tail (patSlot e) (draw 8 w).1
        (emit (.lf mask (patFcode e) (lfFrame s 2 ((draw 8 w).1 ++ leBytes 1 (patSlot e)))) (draw 8 w).2))) ∧
  (∀ (s : State) (c icur peak : Nat) (st : FnState), c < 8 →
      let u := setVal (odKey (0x4010 + c) 4) peak s
      (peak * 4000000 < icur * 7812500 → driveCheck icur c peak s = count (odKey (0x4010 + c) 5) u) ∧
      (icur * 7812500 ≤ peak * 4000000 → peak * 10000000 ≤ icur * 7812500 * 9 → driveCheck icur c peak s = count (odKey (0x4010 + c) 7) u) ∧
      (icur * 7812500 ≤ peak * 4000000 → icur * 7812500 * 9 < peak * 10000000 → driveCheck icur c peak s = u) ∧
      (chanAt s c = st → setChan c st s = s) ∧
      (chanAt s c ≠ st → setChan c st s = logEvent 12 clsState st.portCode (odKey (0x4010 + c) 2) [] { s with lf := { s.lf with chan := vmod s.lf.chan c fun _ => st } })) ∧
  (∀ s : State,
      (∀ i z b m, s.lf.user = .pattern i z b m →
        exec .patternEnd s = .next { patternDone i { s with lf := { s.lf with user := .none } } with pending := s.pending }) ∧
      ((∀ i z b m, s.lf.user ≠ .pattern i z b m) → exec .patternEnd s = .next s)) ∧
  (∀ (s : State) (i : Fin 32) (z : Fin 8),
      let due := (s.comb.now.any fun a => actType a == 4 && actPattern a == i && actZone a == z) = true ∧ s.pwr.access = true
      let polled := patEn (patternAt s i) = true ∧ patTrig (patternAt s i) 5 = true
      let u := if patCmd (patternAt s i) = 2 then preemptRound (preemptUser s) else preemptUser s
      let act (t : State) : Prop := exec (.combPoll i z) s = .next { t with pending := s.pending }
      (¬ due → act s) ∧
      (due → ¬ polled → act (count (odKey 0x4000 6) s)) ∧
      (due → polled → patCmd (patternAt s i) = 2 → u.lf.seeded = false → act (count (odKey 0x4000 5) u)) ∧
      (due → polled → ¬ (patCmd (patternAt s i) = 2 ∧ u.lf.seeded = false) → act (runPattern i z true (vlfNow u) (peaksNow u) u))) ∧
  (∀ s : State,
      let again (r : Nat) : List Nat := if s.lf.pending.contains r then s.lf.pending else s.lf.pending ++ [r]
      (∀ i z b m, s.lf.user = .pattern i z b m →
        preemptUser s = { count (odKey 0x4000 4) s with lf := { s.lf with user := .none, pending := again i } }) ∧
      (s.lf.user = .transponder → preemptUser s = emit (.lfField false) { s with lf := { s.lf with user := .none, pending := again 32, tp := {} } }) ∧
      (s.lf.user = .none → s.lf.loopback = true → preemptUser s = { s with lf := { s.lf with loopback := false, pending := s.lf.pending ++ [33] } }) ∧
      (s.lf.user = .none → s.lf.loopback = false → preemptUser s = s)) ∧
  (∀ (s : State) (c : Fin 8),
      let u (user : LfUser) : State := { s with lf := { s.lf with user := user, tp := { s.lf.tp with channels := if s.lf.tp.channels.testBit c then s.lf.tp.channels - 2 ^ c.val else s.lf.tp.channels } } }
      let act (t : State) : Prop := exec (.lfShort c) s = .next { t with pending := s.pending }
      (s.lf.user = .none → act s) ∧
      (s.lf.user = .transponder → s.lf.tp.channels.testBit c = false → act s) ∧
      (s.lf.user = .transponder → s.lf.tp.channels.testBit c = true → act (setChan c .fault (count (odKey (0x4010 + c) 6) (u .transponder)))) ∧
      ∀ i z b m, s.lf.user = .pattern i z b m → (m.testBit c = false → act s) ∧
        (m.testBit c = true → act (setChan c .fault (count (odKey (0x4010 + c) 6) (u (.pattern i z b (m - 2 ^ c.val))))))) ∧
  (∀ (s : State) (caps : List Nat),
      (s.pwr.vao = false → exec (.touchScan caps) s = .next s) ∧
      (s.pwr.vao = true → exec (.touchScan caps) s = .next { (List.range 4).foldl (fun s i => match caps[i]? with | some c => scanInput i c s | none => s) s with pending := s.pending }) ∧
      ∀ cap, s.pwr.vao = true → s.pwr.access = true → s.lf.touch[0].touched = false → s.lf.touch[0].baseline + val s (odKey 0x4003 1) ≤ cap →
        (s.lf.touch[0].above = true → Completes (.touchScan [cap]) s fun t => t.lf.touch[0].touched = true ∧
          val t (odKey 0x4003 6) = min (val s (odKey 0x4003 6) + 1) 0xFFFFFFFF ∧
          (∀ i ∈ patternsWith s 0, i ∈ t.lf.pending ∨ ∃ z b m, t.lf.user = .pattern i z b m) ∧ t.lf.session = s.lf.session ∧
          t = { s with lf := t.lf, od := t.od, pwr := { s.pwr with wake := t.pwr.wake } }) ∧
        (s.lf.touch[0].above = false → Completes (.touchScan [cap]) s fun t => t.lf.touch[0].above = true ∧ t.lf.touch[0].touched = false ∧
          t = { s with lf := { s.lf with touch := t.lf.touch } })) ∧
  (∀ (s : State) (i : Fin 4) (cap : Nat),
      let x := s.lf.touch[i]
      let above := decide (x.baseline + val s (odKey 0x4003 (i + 1)) ≤ cap)
      let put (y : TouchSt) : State := { s with lf := { s.lf with touch := s.lf.touch.set i y } }
      let base := if x.drift < 15 then x.baseline else if x.baseline < cap then x.baseline + 1 else if cap < x.baseline then x.baseline - 1 else x.baseline
      let y : TouchSt := { baseline := base, drift := (x.drift + 1) % 16, above := above, touched := above && x.above }
      let c := count (odKey 0x4003 6) s
      let ps := patternsWith s i
      (above = true → x.touched = true → scanInput i cap s = put { x with above := true }) ∧
      (¬ (above = true ∧ x.touched = true) → y.touched = false → scanInput i cap s = put y) ∧
      (¬ (above = true ∧ x.touched = true) → y.touched = true → scanInput i cap s = touched i (put y)) ∧
      (s.pwr.access = true → touched i s = latchWake (11 + i) (ps.foldl (fun s p => trigger p s) c)) ∧
      (s.pwr.access = false → touched i s = latchWake (11 + i) { c with lf := { s.lf with afterWake := s.lf.afterWake ++ ps.filter (!s.lf.afterWake.contains ·) } })) ∧
  (∀ (slot : Fin 16) (d : Blob), Writes (.patternTableWrite slot d) slot 0x4002 1 (.bytes d) (fun _ => true) fun s _ b =>
      let bad (e : Nat) : Bool := decide (6000 * 10000 < (channelsOf (patAnt e)).length * patIcur e * 78125) || decide (400 < patFcode e) || bitsOf e 62 0 ≠ 0 ||
        bitsOf (patSlot e) 7 5 ≠ 0 || (patTrig e 4 && (decide (patPeriod e < 50) || decide (60000 < patPeriod e) || (patAnt e / 64) &&& (val s (odKey 0x4321 4) % 4) ≠ 0))
      if b.length ≠ 512 then .error 0x06070010
      else if (List.range 32).any fun i => bad (ofLe (sub b (16 * i) 16)) then .error 0x06090030
      else .ok (· = keepBlob (odKey 0x4002 1) b s)) ∧
  (∀ (slot : Fin 16) (v : Nat), Writes (.wakeIdWrite slot v) slot 0x4001 1 (numFor 0x4001 1 v) (fun _ => true) fun s n _ =>
      if n < 0xFFFFFF then .ok (· = keepVal (odKey 0x4001 1) n s) else .error 0x06090030) ∧
  (∀ (slot : Fin 16) (c : Fin 8) (v : Nat), Writes (.lfChannelEnableWrite slot c v) slot (0x4010 + c) 1 (numFor (0x4010 + c) 1 v) (fun _ => true) fun s n _ =>
      .ok (· = setChan c (match n, chanAt s c with
          | 0, .running => .stopping | 0, .pending => .stopping | 0, .fault => .stopped
          | 0, x => x
          | _, .stopped => .running | _, .fault => .running | _, .stopping => .pending
          | _, x => x) (keepVal (odKey (0x4010 + c) 1) n s)))

/-- Transponder transactions: the field and its charge, the inventory walk, authentication and confirmation, bad and missing answers.
* A pending transaction that the free engine can start, with access power on and outside a loopback, is taken off the pending starts and charges its field; otherwise nothing happens.
* The field goes on on the enabled transponder channels that run, and the transaction charges; without one it does not start.
* The charged field sends the first INVENTORY, with the empty prefix, and a CRC-8 of polynomial 0x1D; without a charge under way nothing happens.
* An answer outside its window or with a Manchester violation is a bad one. One to an INVENTORY with a collision at bit j below the bits asked for splits the walk: the prefix with 0 is asked next, the one with 1 behind it; a later collision, a wrong length or CRC is bad; an answer to a whole ID lists it, any other intact one asks for the ID it gave. Outside a command it changes nothing.
* An intact answer to AUTH with the ID asked, whose pK verifies under the key, is confirmed with pB over both nonces; one that does not verify is a failure and the next transponder follows. The acknowledge 0xA5 of a confirmation is a success: a session with START and without UNLOCK, and the field goes off; another is a failure.
* The acknowledge with no session open opens one for the key, until the session time has passed, clears the transponder record's failures and level, and leaves fuses and vault alone.
* The next prefix is asked for with INVENTORY, until none is left or eight transponders are listed. Then the list is kept at 0x4321/02, with eight the prefixes left over are counted in 0x4321/05, and those enrolled as cards or transponders are authenticated in order, each with a drawn nonce; at the end, and while the record is locked, the field goes off.
* A missing answer to INVENTORY is asked for once more; missing again, its prefix leaves the walk. A missing answer to AUTH or CONFIRM is a bad answer.
* A bad answer has the command repeated once. A second one ends the transaction; to AUTH and CONFIRM it is a failure too: logged with the ID, and counted by the transponder record. Nothing is repeated, and no answer bad, outside a command. -/
def Obligations.TransponderWalk : Prop :=
  (∀ s : State,
      let starts := s.lf.user = .none ∧ s.pwr.access = true ∧ s.lf.loopback = false ∧ startable s 32 = true
      (¬ starts → exec .transponderTransaction s = .next s) ∧
      (starts → exec .transponderTransaction s = .next { chargeField { s with lf := { s.lf with pending := s.lf.pending.filter (· ≠ 32), pointer := 33 } } with pending := s.pending })) ∧
  (∀ s : State,
      let mask := (((channelsOf (val s (odKey 0x4321 4) % 4 * 64)).filter fun c => chanAt s c == .running).map (2 ^ ·)).sum
      (mask = 0 → chargeField s = s) ∧
      (mask ≠ 0 → chargeField s = { s with lf := { s.lf with user := .transponder, tp := { step := .charging, channels := mask } }, out := .lfField true :: s.out })) ∧
  (∀ s : State,
      (s.lf.tp.step = .charging → exec .fieldChargeComplete s = .next { s with
        lf := { s.lf with tp := { s.lf.tp with step := .inventory [], stack := [], found := [], repeated := false } }
        out := .lf s.lf.tp.channels 200 (bitsMsb 4 1 ++ bitsMsb 6 0 ++ bitsMsb 8 (crc8 0x1D (bitsMsb 4 1 ++ bitsMsb 6 0))) :: s.out }) ∧
      (s.lf.tp.step ≠ .charging → exec .fieldChargeComplete s = .next s)) ∧
  (∀ (s : State) (a : TransponderAnswer),
      let act (t : State) : Prop := exec (.transponderAnswer a) s = .next { t with pending := s.pending }
      let heard := a.inWindow = true ∧ a.violation = false
      (¬ heard → act (tpBadAnswer s)) ∧
      (heard → s.lf.tp.step = .idle ∨ s.lf.tp.step = .charging → act s) ∧
      ∀ p, heard → s.lf.tp.step = .inventory p →
        let n := 32 - p.length
        let id := p ++ a.bits.take n
        (∀ j rest, a.collisions = j :: rest → j < n →
          act (tpWalk { s with lf := { s.lf with tp := { s.lf.tp with stack := (p ++ a.bits.take j ++ [false]) :: (p ++ a.bits.take j ++ [true]) :: s.lf.tp.stack } } })) ∧
        (∀ j rest, a.collisions = j :: rest → n ≤ j → act (tpBadAnswer s)) ∧
        (a.collisions = [] → (a.bits.length ≠ n + 8 ∨ ofBits (a.bits.drop n) ≠ crc8 0x1D id) → act (tpBadAnswer s)) ∧
        (a.collisions = [] → a.bits.length = n + 8 → ofBits (a.bits.drop n) = crc8 0x1D id →
          (n = 0 → act (tpWalk { s with lf := { s.lf with tp := { s.lf.tp with found := s.lf.tp.found ++ [ofBits p] } } })) ∧
          (n ≠ 0 → act (tpWalk { s with lf := { s.lf with tp := { s.lf.tp with stack := id :: s.lf.tp.stack } } })))) ∧
  (∀ (s : State) (id : Nat) (a : TransponderAnswer), a.inWindow = true → a.violation = false →
      let act (t : State) : Prop := exec (.transponderAnswer a) s = .next { t with pending := s.pending }
      let k := ((s.lf.keys.find? (·.id == id)).bind (·.key)).getD []
      let body := a.bits.take 160
      let nk := beBytes 8 (ofBits ((body.drop 32).take 64))
      let whole := a.collisions = [] ∧ a.bits.length = 168 ∧ ofBits (a.bits.drop 160) = crc8 0x1D body
      let good := ofBits (body.take 32) = id ∧ k ≠ [] ∧ pkOf k s.lf.tp.nb nk id = beBytes 8 (ofBits (body.drop 96))
      let short := a.collisions = [] ∧ a.bits.length = 16 ∧ ofBits (a.bits.drop 8) = crc8 0x1D (a.bits.take 8)
      (s.lf.tp.step = .auth id →
        (¬ whole → act (tpBadAnswer s)) ∧
        (whole → good → act { s with
          lf := { s.lf with tp := { s.lf.tp with step := .confirm id, nk := nk, repeated := false } }
          out := .lf s.lf.tp.channels 200 (let b := bitsMsb 4 3 ++ blobBits (pbOf k s.lf.tp.nb nk); b ++ bitsMsb 8 (crc8 0x1D b)) :: s.out }) ∧
        (whole → ¬ good → act (tpNext (tpFailure id s)))) ∧
      (s.lf.tp.step = .confirm id →
        (¬ short → act (tpBadAnswer s)) ∧
        (short → ofBits (a.bits.take 8) = 0xA5 → act (tpEnd (openSession id false true (sessionMacKey k s.lf.tp.nb s.lf.tp.nk) (lockSuccess 8 s)))) ∧
        (short → ofBits (a.bits.take 8) ≠ 0xA5 → act (tpNext (tpFailure id s))))) ∧
  (∀ (s : State) (id : Nat), s.lf.tp.step = .confirm id → s.lf.session = none →
      Completes (.transponderAnswer { inWindow := true, bits := bitsMsb 8 0xA5 ++ bitsMsb 8 (crc8 0x1D (bitsMsb 8 0xA5)), collisions := [], violation := false }) s fun t =>
        (∃ x, t.lf.session = some x ∧ x.key = id ∧ x.unlock = false ∧ x.start = true ∧ x.endAo = s.clk.ao + val s (odKey 0x4300 3) * 32768) ∧ t.lf.user = .none ∧ t.lf.tp = {} ∧
        lockAt t 8 = { lockAt s 8 with times := [], level := 0 } ∧ t.fuse = s.fuse ∧ t.vault = s.vault) ∧
  (∀ s : State,
      let send (b : List Bool) (t : State) : State := { t with out := .lf s.lf.tp.channels 200 (b ++ bitsMsb 8 (crc8 0x1D b)) :: t.out }
      let tp (f : TpSt → TpSt) (t : State) : State := { t with lf := { t.lf with tp := f t.lf.tp } }
      (∀ p rest, s.lf.tp.stack = p :: rest → s.lf.tp.found.length < 8 →
        tpWalk s = send (bitsMsb 4 1 ++ bitsMsb 6 p.length ++ p) (tp (fun t => { t with step := .inventory p, stack := rest, repeated := false }) s)) ∧
      (s.lf.tp.stack = [] ∨ 8 ≤ s.lf.tp.found.length → tpWalk s = tpNext (tp (fun t => { t with stack := [], todo := s.lf.tp.found.filter fun id => s.lf.keys.any fun e => e.id == id && e.kind ≠ 0 })
        (countN (odKey 0x4321 5) (if 8 ≤ s.lf.tp.found.length then s.lf.tp.stack.length else 0) (setBlob (odKey 0x4321 2) (s.lf.tp.found.flatMap (leBytes 4)) s)))) ∧
      (s.lf.tp.todo = [] → tpNext s = tpEnd s) ∧
      (zoneLocked s 8 = true → tpNext s = tpEnd s) ∧
      (∀ id rest, s.lf.tp.todo = id :: rest → zoneLocked s 8 = false → tpNext s =
        send (bitsMsb 4 2 ++ bitsMsb 32 id ++ blobBits (draw 8 s).1) (tp (fun t => { t with step := .auth id, todo := rest, repeated := false, nb := (draw 8 s).1, nk := [] }) (draw 8 s).2)) ∧
      tpEnd s = { s with lf := { s.lf with user := .none, tp := {} }, out := .lfField false :: s.out }) ∧
  (∀ s : State,
      let act (t : State) : Prop := exec .transponderAnswerTimeout s = .next { t with pending := s.pending }
      ((∀ p, s.lf.tp.step ≠ .inventory p) → act (tpBadAnswer s)) ∧
      ∀ p, s.lf.tp.step = .inventory p → (s.lf.tp.repeated = true → act (tpWalk s)) ∧ (s.lf.tp.repeated = false → act (tpRepeat s))) ∧
  (∀ (s : State) (id : Nat) (p : List Bool),
      let k := ((s.lf.keys.find? (·.id == id)).bind (·.key)).getD []
      let again (b : List Bool) : State := { s with lf := { s.lf with tp := { s.lf.tp with repeated := true } }, out := .lf s.lf.tp.channels 200 (b ++ bitsMsb 8 (crc8 0x1D b)) :: s.out }
      (s.lf.tp.step = .inventory p → tpRepeat s = again (bitsMsb 4 1 ++ bitsMsb 6 p.length ++ p)) ∧
      (s.lf.tp.step = .auth id → tpRepeat s = again (bitsMsb 4 2 ++ bitsMsb 32 id ++ blobBits s.lf.tp.nb)) ∧
      (s.lf.tp.step = .confirm id → tpRepeat s = again (bitsMsb 4 3 ++ blobBits (pbOf k s.lf.tp.nb s.lf.tp.nk))) ∧
      (s.lf.tp.step = .inventory p ∨ s.lf.tp.step = .auth id ∨ s.lf.tp.step = .confirm id → s.lf.tp.repeated = false → tpBadAnswer s = tpRepeat s) ∧
      (s.lf.tp.step = .inventory p → s.lf.tp.repeated = true → tpBadAnswer s = tpEnd s) ∧
      (s.lf.tp.step = .auth id ∨ s.lf.tp.step = .confirm id → s.lf.tp.repeated = true → tpBadAnswer s = tpEnd (tpFailure id s)) ∧
      (s.lf.tp.step = .idle ∨ s.lf.tp.step = .charging → tpBadAnswer s = s) ∧
      tpFailure id s = lockFailure 8 (logEvent 12 clsSecurity 0 (odKey 0x4318 3) (leBytes 4 id) s))

/-- Lock-out records, start-lock sessions, the door and start signals, the release outputs and the access signals.
* At or behind its end a lock clears LOCKED, keeps the level, and the record is committed; an unlocked record, and a lock that has not ended, do not change.
* The fifth failure within 60 s locks a zone for 240 s times two to its new level less one, counted once more in the record store; earlier failures are only kept. A success clears them and the level. A power-up moves every failure to now, and starts a lock again with its whole time.
* At or behind its end the session ends: line 8 of the keeper is set and nothing is released any more; without a session, and before its end, nothing happens.
* A success opens a session with the flags of its zone, until 0x4300/03 seconds from now, withdraws a fault of the release outputs, counts counter 1, votes for ACCESS and HIVE-CORE and tells the keeper; for the key of the open session it adds the flags and restarts the time; for another key it is only logged. The end of a session tells the keeper and, with no round under way, gives up the ACCESS vote.
* The start lock is released while a session with START is open, the device is in DEVELOPMENT or PRODUCTION, no tamper latch stands, the outputs have no fault, and it is neither service-only nor held with ACCESS off; nothing else releases it.
* The first sealed transition of the door signal from 0 to 1 ends the session; any other sealed reading is only remembered, and an unsealed or foreign one changes nothing.
* A transition of the start signal from 0 to 1 with no START session open and access power on is a start request: every enabled pattern with its start trigger is triggered, or, with no such pattern, a transponder transaction where the path has a channel. Any other reading is remembered, a foreign one is not.
* With access power, a half-period first compares the pads with what was driven: a difference withdraws the release, counted in 0x4300/06 and logged with both pads. Then, while released, both outputs turn over, the first time to SLR_A high; where the release has ended both go low, and else nothing moves. Without access power nothing happens.
* With the Hive die and ACCESS on and the latter not handed over, the five access signals are written, sealed and with their age bound, from the session: state, key, counter 1, unlock and release; without a session the HIVE-CORE vote of the access engine ends with them. Otherwise nothing is written. -/
def Obligations.StartLock : Prop :=
  (∀ (s : State) (z : Fin 9),
      let past := zoneLocked s z = true ∧ (lockAt s z).lockEnd ≤ aoSec s
      (past → exec (.lockEnd z) s = .next { putLock z { lockAt s z with locked := false } s with pending := s.pending } ∧
        Completes (.lockEnd z) s fun t => lockAt t z = { lockAt s z with locked := false } ∧
          (∀ y : Fin 9, y ≠ z → lockAt t y = lockAt s y) ∧ t = { s with lf := { s.lf with lock := t.lf.lock }, store := t.store, od := t.od }) ∧
      (¬ past → exec (.lockEnd z) s = .next s)) ∧
  (∀ (s : State) (z : Fin 9),
      let r := lockAt s z
      let kept := (r.times.filter fun t => aoSec s ≤ t + 60) ++ [aoSec s]
      (kept.length < 5 → lockAt (lockFailure z s) z = { r with times := kept }) ∧
      (5 ≤ kept.length → lockAt (lockFailure z s) z =
        { times := [], level := min (r.level + 1) 5, locked := true, lockEnd := aoSec s + 240 * 2 ^ (min (r.level + 1) 5 - 1) }) ∧
      lockAt (lockSuccess z s) z = { r with times := [], level := 0 } ∧
      lockAt (lockPowerUp s) z = { r with times := r.times.map fun _ => aoSec s, lockEnd := if r.locked then aoSec s + 240 * 2 ^ (r.level - 1) else r.lockEnd }) ∧
  (∀ s : State,
      ((∀ x, s.lf.session = some x → s.clk.ao < x.endAo) → exec .sessionTimeout s = .next s) ∧
      ∀ x, s.lf.session = some x → x.endAo ≤ s.clk.ao →
        exec .sessionTimeout s = .next { endSession s with pending := s.pending } ∧
        Completes .sessionTimeout s fun t => t.lf.session = none ∧ released t = false ∧ t.keeper.ipend.getLsbD 8 = true ∧ t.od = s.od ∧ t.store.counters = s.store.counters) ∧
  (∀ (s : State) (key : Nat) (un st : Bool) (ks : Blob),
      (∀ x, s.lf.session = some x → x.key = key → openSession key un st ks s = { s with lf := { s.lf with session := some { x with unlock := x.unlock || un, start := x.start || st, ks := ks, endAo := s.clk.ao + val s (odKey 0x4300 3) * 32768 } } }) ∧
      (∀ x, s.lf.session = some x → x.key ≠ key → openSession key un st ks s = logEvent 12 clsSecurity 0 (odKey 0x4300 2) (leBytes 4 key) s) ∧
      (s.lf.session = none →
        let t := openSession key un st ks s
        t.lf = { s.lf with session := some ⟨key, un, st, ks, s.clk.ao + val s (odKey 0x4300 3) * 32768⟩, slrFault := false } ∧
        t.pwr.voteAccess.getLsbD 2 = true ∧ t.pwr.voteHive.getLsbD 2 = true ∧ t.keeper.ipend.getLsbD 8 = true ∧ t.store = (counterAdd 1 1 s).store ∧ t.fuse = s.fuse ∧ t.vault = s.vault) ∧
      (s.lf.session = none → endSession s = s) ∧
      (s.lf.session.isSome = true →
        let u : State := { s with lf := { s.lf with session := none } }
        endSession s = keeperLine 8 (logEvent 12 clsState 0 (odKey 0x4300 1) [] (if s.uwb.round = none then setVote 2 .access false u else u)))) ∧
  (∀ s : State, released s = true ↔ (∃ x, s.lf.session = some x ∧ x.start = true) ∧ serviceOnly s = false ∧ (s.lc.state = 1 ∨ s.lc.state = 2) ∧
      latchRead s = 0 ∧ s.lf.slrFault = false ∧ s.pwr.access = true ∧ s.pwr.held.getLsbD 25 = false) ∧
  (∀ (s : State) (v : Bool),
      let u : State := { s with lf := { s.lf with prevDoor := some v } }
      (namedBool s (odKey 0x4301 1) = some (v, true) → (v = true ∧ s.lf.prevDoor = some false) →
        exec .driverDoorOpen s = .next { endSession u with pending := s.pending } ∧ Completes .driverDoorOpen s fun t => t.lf.session = none ∧ t.lf.prevDoor = some true) ∧
      (namedBool s (odKey 0x4301 1) = some (v, true) → ¬ (v = true ∧ s.lf.prevDoor = some false) → exec .driverDoorOpen s = .next u) ∧
      (namedBool s (odKey 0x4301 1) = some (v, false) ∨ namedBool s (odKey 0x4301 1) = none → exec .driverDoorOpen s = .next s)) ∧
  (∀ (s : State) (v b : Bool),
      let u : State := { s with lf := { s.lf with prevStart := some v } }
      let started := ∃ x, s.lf.session = some x ∧ x.start = true
      let rose := v = true ∧ s.lf.prevStart = some false
      let act (t : State) : Prop := exec .startRequest s = .next { t with pending := s.pending }
      (namedBool s (odKey 0x4301 2) = none → act s) ∧
      (namedBool s (odKey 0x4301 2) = some (v, b) →
        (¬ rose ∨ started ∨ s.pwr.access = false → act u) ∧
        (rose → ¬ started → s.pwr.access = true → patternsWith s 6 ≠ [] →
          act ((patternsWith s 6).foldl (fun s p => trigger p s) { u with lf := { u.lf with startSet := patternsWith s 6 } })) ∧
        (rose → ¬ started → s.pwr.access = true → patternsWith s 6 = [] →
          let w : State := { u with lf := { u.lf with startSet := [] } }
          act (if val s (odKey 0x4321 4) % 4 ≠ 0 then trigger 32 w else w)))) ∧
  (∀ (s : State) (padA padB : Bool),
      let agree : Prop := padA = (s.lf.releasing && s.lf.slrA) ∧ padB = (s.lf.releasing && !s.lf.slrA)
      let next := if s.lf.releasing = true then !s.lf.slrA else true
      let bad := logEvent 12 clsUnmasked 0 (odKey 0x4300 6) (leBytes 1 padA.toNat ++ leBytes 1 padB.toNat) (count (odKey 0x4300 6) { s with lf := { s.lf with slrFault := true } })
      let low (t : State) : State := { t with lf := { t.lf with releasing := false, slrA := false }, out := .pin "SLR_B" false :: .pin "SLR_A" false :: t.out }
      let act (t : State) : Prop := exec (.slrHalfPeriod padA padB) s = .next { t with pending := s.pending }
      (s.pwr.access = false → act s) ∧
      (s.pwr.access = true →
        (agree → released s = true → act { s with lf := { s.lf with releasing := true, slrA := next }, out := .pin "SLR_B" (!next) :: .pin "SLR_A" next :: s.out }) ∧
        (agree → released s = false → s.lf.releasing = true → act (low s)) ∧
        (agree → released s = false → s.lf.releasing = false → act s) ∧
        (¬ agree → s.lf.releasing = true → act (low bad)) ∧
        (¬ agree → s.lf.releasing = false → act bad))) ∧
  (∀ s : State,
      let on := s.pwr.hive = true ∧ s.pwr.access = true ∧ s.pwr.handed = false
      let b (v : Bool) : Word := if v then 1 else 0
      let t := sigWrite 131068 1 (b (released s)) true 3125 (sigWrite 131067 1 (b ((s.lf.session.map (·.unlock)).getD false)) true 3125 (sigWrite 131066 4 (BitVec.ofNat 32 (counterVal s 1)) true 3125
        (sigWrite 131065 4 (BitVec.ofNat 32 ((s.lf.session.map (·.key)).getD 0)) true 3125 (sigWrite 131064 2 (BitVec.ofNat 32 (sessionState s)) true 3125 s))))
      (¬ on → exec .accessSignalRefresh s = .next s) ∧
      (on → exec .accessSignalRefresh s = .next { (if s.lf.session = none then setVote 2 .hiveCore false t else t) with pending := s.pending }) ∧
      (on → s.lf.session.isSome = true → Completes .accessSignalRefresh s fun t => t = { s with sig := t.sig } ∧
        sigRead t 131064 = ⟨tU8, BitVec.ofNat 32 (sessionState s)⟩ ∧
        sigRead t 131065 = ⟨tU32, BitVec.ofNat 32 ((s.lf.session.map (·.key)).getD 0)⟩ ∧
        sigRead t 131066 = ⟨tU32, BitVec.ofNat 32 (counterVal s 1)⟩ ∧
        sigRead t 131067 = ⟨tBool, if (s.lf.session.map (·.unlock)).getD false then 1 else 0⟩ ∧
        sigRead t 131068 = ⟨tBool, if released s then 1 else 0⟩))

/-- UWB poll rounds: their opening, the answer period and its slots, re-polls, the exchanges' start and the end of the round.
* The answer period of a round opens once its pattern's run has ended, while UWB runs; an open or past period, and no round, do not change.
* A CHALLENGE's run opens a round while UWB runs, with the first answer slot and the channel of its slot byte, counted in 0x4100/09 and with the vote for ACCESS; otherwise it opens none.
* An ANSWER frame that does not parse, or begins outside the first 100 us of an answer slot, or outside 240 to 260 us of the REPOLL or UCHAL that asked for it, counts as no answer; so does one without a round. In an answer slot it answers the round; behind a REPOLL or a UCHAL that frame.
* Each of the three: in a locked zone the answer is counted in the zone's record and ignored. In an answer slot an answer that is valid for a key that the slot belongs to puts its exchange into the round's work, in slot order before the re-polls; an invalid one, or one in another slot, is a failure of the round. Behind a REPOLL another key's answer is none; a valid one has its exchange next, an invalid one is a failure. Behind a UCHAL another key's answer is none; a valid one has its exchange at once; an invalid one frees the slot and is a failure in the zone at once.
* An answer is valid for an enrolled fob or card that the zone admits, with its key, when pK is the first 64 bits of the AES-CMAC over 0x01, both nonces and the ID; failures are logged with the ID and the zone. An ANSWER frame is 0x11, the ID, nK, pK, a length and as many tail values.
* At the end of an answer slot a collision that any port saw is counted in 0x4100/0B and its slot noted; after slot 15 the exchange phase follows, with a re-poll for each key of each collided slot behind the exchanges. Outside an answer period nothing happens. A port saw one where two first-path peaks lay more than 3 ns apart with the weaker above 25 %, or a preamble of 6 dB or more whose PHR or FCS failed.
* The next re-poll of a free exchange phase is sent, with the key's ID, and counted in 0x4100/0C; beyond 8 in a round it is dropped and counted in 0x4100/13. Without a re-poll due nothing happens.
* The RPOLL of the round's next exchange is sent on the round's channel: the exchange is in progress and off the work list, its STS key derived from the key and both nonces; beyond 8 in a round it is dropped and counted in 0x4100/13. A ranging slot's exchange that is ready sends its own, on the device's channel. With another exchange under way, or none due, nothing happens.
* A round of a free exchange phase without work left ends and its results are applied; another, and no round, do not.
* The results of a round with one key admitted and no failures, with no session open: the zone's record is cleared and a session opens for the key with the zone's flags and the session key, until its time.
* The results of a round: each success clears the zone's record, then the admitted keys restart the open session or, with none open, the nearest of them opens one, of two at one distance the one of the lower index; then each failure counts; at last, without a session, the vote for ACCESS ends. With at most four failures and one success in one round the zone's lock does not change. -/
def Obligations.UwbRounds : Prop :=
  (∀ s : State,
      (s.uwb.round = none → exec .answerPeriodOpen s = .next s) ∧
      ∀ r, s.uwb.round = some r →
        let opens := r.answering = false ∧ r.answersDone = false ∧ (∀ z b m, s.lf.user ≠ .pattern r.pattern z b m) ∧ s.uwb.st = .running
        (opens → exec .answerPeriodOpen s = .next { s with uwb := { s.uwb with round := some { r with answering := true } } }) ∧
        (¬ opens → exec .answerPeriodOpen s = .next s)) ∧
  (∀ (s : State) (i z : Nat) (tail : List Nat) (b : Nat) (nb : Blob),
      (s.uwb.st ≠ .running → openRound i z tail b nb s = s) ∧
      (s.uwb.st = .running → openRound i z tail b nb s = setVote 2 .access true (count (odKey 0x4100 9) { s with uwb := { s.uwb with exchange := none, round := some { pattern := i, zone := z, tailAnts := tail, slotBase := b % 16, channel := if b.testBit 4 then 9 else 5, nb := nb } } }))) ∧
  (∀ (s : State) (slot : Fin 16) (atPs : Nat) (f : Blob),
      let act (t : State) : Prop := exec (.uwbAnswerReceived slot atPs f) s = .next { t with pending := s.pending }
      let timely := 240000000 ≤ atPs ∧ atPs ≤ 260000000
      let alone := ∀ i z nb, s.uwb.rslot ≠ some (i, z, nb, false)
      (parseAnswer f = none → act s) ∧
      ∀ id nk pk tails, parseAnswer f = some (id, nk, pk, tails) →
        (∀ i z nb, s.uwb.rslot = some (i, z, nb, false) → (timely → act (answerToUchal i z nb id nk pk s)) ∧ (¬ timely → act s)) ∧
        (alone → s.uwb.round = none → act s) ∧
        (∀ r, alone → s.uwb.round = some r →
          (∀ i sl, r.waitingFor = some (i, sl) → (timely → act (answerToRepoll r i sl id nk pk tails s)) ∧ (¬ timely → act s)) ∧
          (r.waitingFor = none → r.answering = true ∧ atPs ≤ 100000000 → act (answerInSlot r slot id nk pk tails s)) ∧
          (r.waitingFor = none → ¬ (r.answering = true ∧ atPs ≤ 100000000) → act s))) ∧
  ((∀ (s : State) (r : UwbRound) (slot i id : Nat) (nk pk : Blob) (tails : List Nat), s.uwb.round = some r →
      let round (x : UwbRound) : State := { s with uwb := { s.uwb with round := some x } }
      (zoneLocked s r.zone = true → answerInSlot r slot id nk pk tails s = count (odKey (0x4310 + r.zone) 6) s) ∧
      (zoneLocked s r.zone = false →
        (∀ j, validAnswer s r.zone r.nb id nk pk = some j → (r.slotBase + aslotOf s j) % 16 = slot →
          answerInSlot r slot id nk pk tails s = round { r with work := addAnswer ⟨slot, j, nk, tails⟩ r.work }) ∧
        (∀ j, validAnswer s r.zone r.nb id nk pk = some j → (r.slotBase + aslotOf s j) % 16 ≠ slot →
          answerInSlot r slot id nk pk tails s = failureEvent r.zone id (round { r with failures := r.failures ++ [id] })) ∧
        (validAnswer s r.zone r.nb id nk pk = none → answerInSlot r slot id nk pk tails s = failureEvent r.zone id (round { r with failures := r.failures ++ [id] }))) ∧
      (id ≠ keyIdAt s i → answerToRepoll r i slot id nk pk tails s = s) ∧
      (id = keyIdAt s i →
        (zoneLocked s r.zone = true → answerToRepoll r i slot id nk pk tails s = count (odKey (0x4310 + r.zone) 6) (round { r with waitingFor := none })) ∧
        (zoneLocked s r.zone = false →
          (∀ j, validAnswer s r.zone r.nb id nk pk = some j → answerToRepoll r i slot id nk pk tails s = round { r with waitingFor := none, work := .exchange ⟨slot, j, nk, tails⟩ :: r.work }) ∧
          (validAnswer s r.zone r.nb id nk pk = none → answerToRepoll r i slot id nk pk tails s = failureEvent r.zone id (round { r with waitingFor := none, failures := r.failures ++ [id] }))))) ∧
    (∀ (s : State) (i z id : Nat) (nb nk pk : Blob),
      let rslot (x : Option (Nat × Nat × Blob × Bool)) (t : State) : State := { t with uwb := { t.uwb with rslot := x } }
      (id ≠ keyIdAt s i → answerToUchal i z nb id nk pk s = s) ∧
      (id = keyIdAt s i →
        (zoneLocked s z = true → answerToUchal i z nb id nk pk s = rslot none (count (odKey (0x4310 + z) 6) s)) ∧
        (zoneLocked s z = false →
          (∀ j, validAnswer s z nb id nk pk = some j → answerToUchal i z nb id nk pk s = { s with uwb := { s.uwb with rslot := some (i, z, nb, true), exchange := some { index := j, nk := nk, tails := [], zone := z, step := .ready } } }) ∧
          (validAnswer s z nb id nk pk = none → answerToUchal i z nb id nk pk s = rslot none (lockFailure z (failureEvent z id s))))))) ∧
  (∀ (s : State) (z id : Nat) (nb nk pk f : Blob) (j : Nat),
      (validAnswer s z nb id nk pk = some j ↔ ∃ e k, keyById s id = some e ∧ e.index = j ∧ e.key = some k ∧ e.kind ≠ 1 ∧ e.zones.testBit z = true ∧
        pk = (aesCmac k ([0x01] ++ nb ++ nk ++ beBytes 4 id)).take 8) ∧
      (∀ tails, parseAnswer f = some (id, nk, pk, tails) ↔ f.take 1 = [0x11] ∧ f.length = 22 + ofBe (sub f 21 1) ∧ id = ofBe (sub f 1 4) ∧ nk = sub f 5 8 ∧ pk = sub f 13 8 ∧ tails = (f.drop 22).map (·.toNat)) ∧
      failureEvent z id s = logEvent 12 clsSecurity 0 (odKey (0x4310 + z) 3) (leBytes 4 id ++ leBytes 1 z) s) ∧
  (∀ (s : State) (slot : Fin 16) (ports : List SlotReport),
      let act (t : State) : Prop := exec (.answerSlotEnd slot ports) s = .next { t with pending := s.pending }
      (s.uwb.round = none → act s) ∧
      (∀ r, s.uwb.round = some r →
        let hit := ports.any slotCollided
        let last (x : UwbRound) : UwbRound := if slot.val = 15 then { x with
          answering := false, answersDone := true,
          work := r.work ++ ((List.range 16).filter x.collided.contains).flatMap fun c => (slotKeys s r c).map fun i => .repoll i c } else x
        let set (x : UwbRound) : State := { s with uwb := { s.uwb with round := some (last x) } }
        (r.answering = false → act s) ∧
        (r.answering = true → hit = true → act (count (odKey 0x4100 0xB) (set { r with collided := r.collided ++ [slot.val] }))) ∧
        (r.answering = true → hit = false → act (set r))) ∧
      ∀ p : SlotReport, slotCollided p = true ↔ (∃ ps pc, p.second = some (ps, pc) ∧ 3000 < ps ∧ 25 < pc) ∨ (∃ snr, p.preamble = some snr ∧ 60 ≤ snr ∧ p.failed = true)) ∧
  (∀ s : State,
      (s.uwb.round = none → exec .repoll s = .next s) ∧
      ∀ r, s.uwb.round = some r →
        let set (x : UwbRound) : State := { s with uwb := { s.uwb with round := some x } }
        (phaseFree s r = false ∨ (∀ i sl rest, r.work ≠ .repoll i sl :: rest) → exec .repoll s = .next s) ∧
        ∀ i sl rest, phaseFree s r = true → r.work = .repoll i sl :: rest →
          (r.repolls < 8 → exec .repoll s = .next { emit (.uwb r.channel ([0x12] ++ beBytes 4 (keyIdAt s i))) (count (odKey 0x4100 0xC)
            (set { r with work := rest, repolls := r.repolls + 1, waitingFor := some (i, sl) })) with pending := s.pending }) ∧
          (8 ≤ r.repolls → exec .repoll s = .next { count (odKey 0x4100 0x13) (set { r with work := rest }) with pending := s.pending })) ∧
  (∀ (s : State) (sent : BitVec 40),
      let act (t : State) : Prop := exec (.exchangeStart sent) s = .next { t with pending := s.pending }
      let rpoll (ch : Nat) (nb : Blob) (e : Exchange) (t : State) : State := { t with
        uwb := { t.uwb with counter := sent, exchange := some { e with step := .rpoll, sts := aesCmac (keyBytes s e.index) ([0x04] ++ nb ++ e.nk), stsCounter := 1, sent := sent } }
        out := .uwb ch [] :: t.out }
      (∀ e, s.uwb.exchange = some e → (e.step = .ready → act (rpoll (val s (odKey 0x4100 3)) (match s.uwb.rslot with | some (_, _, nb, _) => nb | none => []) e s)) ∧ (e.step ≠ .ready → act s)) ∧
      (s.uwb.exchange = none → s.uwb.round = none → act s) ∧
      (∀ r, s.uwb.exchange = none → s.uwb.round = some r →
        let set (x : UwbRound) : State := { s with uwb := { s.uwb with round := some x } }
        (phaseFree s r = false ∨ (∀ a rest, r.work ≠ .exchange a :: rest) → act s) ∧
        ∀ a rest, phaseFree s r = true → r.work = .exchange a :: rest →
          (r.exchanges < 8 → act (rpoll r.channel r.nb { index := a.index, nk := a.nk, tails := a.tails, zone := r.zone } (set { r with work := rest, exchanges := r.exchanges + 1 }))) ∧
          (8 ≤ r.exchanges → act (count (odKey 0x4100 0x13) (set { r with work := rest }))))) ∧
  (∀ s : State,
      (s.uwb.round = none → exec .roundEnd s = .next s) ∧
      ∀ r, s.uwb.round = some r →
        (phaseFree s r = true ∧ r.work = [] → exec .roundEnd s = .next { applyRound s with pending := s.pending }) ∧
        (¬ (phaseFree s r = true ∧ r.work = []) → exec .roundEnd s = .next s)) ∧
  (∀ (s : State) (r : UwbRound) (a : Admitted), s.uwb.round = some r → phaseFree s r = true → r.work = [] → r.admitted = [a] → r.failures = [] →
      s.lf.session = none →
      Completes .roundEnd s fun t => t.uwb.round = none ∧
        t.lf.session = some ⟨keyIdAt s a.index, (zoneFlags s r.zone).1, (zoneFlags s r.zone).2, a.ks, s.clk.ao + val s (odKey 0x4300 3) * 32768⟩ ∧
        lockAt t r.zone = (if r.zone < 9 then { lockAt s r.zone with times := [], level := 0 } else {})) ∧
  ((∀ (s : State) (r : UwbRound), s.uwb.round = some r →
      let u : State := { s with uwb := { s.uwb with round := none, exchange := none } }
      let v := r.admitted.foldl (fun s _ => lockSuccess r.zone s) u
      let openFor (a : Admitted) (t : State) : State := openSession (keyIdAt t a.index) (zoneFlags t r.zone).1 (zoneFlags t r.zone).2 a.ks t
      let w := if v.lf.session.isSome then r.admitted.foldl (fun t a => openFor a t) v else match nearest r.admitted with | some a => openFor a v | none => v
      let x := r.failures.foldl (fun s _ => lockFailure r.zone s) w
      applyRound s = if x.lf.session.isNone then setVote 2 .access false x else x) ∧
    (∀ (l : List Admitted) (a : Admitted), nearest l = some a → a ∈ l ∧ ∀ b ∈ l, a.dbMm < b.dbMm ∨ (a.dbMm = b.dbMm ∧ a.index ≤ b.index)) ∧
    (∀ (s : State) (r : UwbRound) (a : Admitted), s.uwb.round = some r → r.zone < 8 → r.admitted = [a] → r.failures.length ≤ 4 →
      zoneLocked (applyRound s) r.zone = zoneLocked s r.zone))

/-- UWB exchanges, the range decision, ranging slots, faults and the write of Enable.
* An RRESP before 240 us of the RPOLL, or without an exchange that waits for it, is passed over. One within 260 us whose STS has the exchange's key and counter, its first path within 1 ns of the preamble's, begins the Forager part: RFINAL, a drawn challenge of 32 pulses, the angle of arrival, the round trip and the reply time of the 500 us schedule. A later one, and one with another STS, aborts the exchange.
* An abort ends the exchange, keeps its outcome 1 and is counted in 0x4100/12; the key of a round's exchange is re-polled first, once in the round. The angle of arrival is the arcsine of the phase difference times the wavelength over the antenna distance, to the nearest degree and with its sign; beyond the arcsine's domain it is a free value.
* The first answer to each of the 32 challenges is kept, with its round trip from the two timestamps and its polarity; a second one, and one outside the Forager part, is passed over.
* A frame that is no RREPORT, outside the Forager part or before 990 us of the RPOLL is passed over; one behind 1,010 us aborts the exchange. Within the window a report whose MAC does not verify, and one whose Forager answers do not pass, fail the authentication with outcomes 2 and 3, the latter counted in 0x4100/0D. One that passes goes to the range decision with the time of flight of the two-way exchange and the mean of the Forager round trips.
* The Forager answers pass when all 32 came, the first round trip is at least the turnaround less 1 ns and at most it plus 1 ns and twice the zone's limit, every other is within 1 ns of the first, and every polarity is its challenge bit against the mask's. The mean over 32 has the turnaround taken off.
* The decision: a round trip more than 1.5 ns from twice the flight, or a field value outside the zone's bounds, fails with outcome 4, counted in 0x4100/0E or 0F; a missing field value is counted in 0x4100/10 and passes. A distance above the zone's limit or an angle outside its sector refuses without failure, outcome 5, counted in 0x4100/11. Otherwise the ACK is asked for with pB on the exchange's channel. A failed authentication ends the exchange and is a failure of its round; of a ranging slot, one in its zone at once.
* A frame that is no ACK, out of its turn or before 1,490 us of the RPOLL is passed over; one behind 1,510 us, and one that does not verify, fails with outcome 6. One that verifies admits the key, outcome 7, counted in 0x4100/0A: in a round with its distance for the round's end, in a ranging slot as a success of its zone at once, which restarts the session.
* A missing RRESP or report aborts the exchange, a missing ACK fails it with outcome 6, and one that has ended or is not begun is left alone; a missing answer to a UCHAL frees the ranging slot, one to a re-poll is passed over.
* The end of its 2 ms frees the exchange, and a ranging slot with it; an exchange that has not ended first has its frame missing. Without an exchange nothing happens.
* A ranging slot that is due, with access power on and UWB running, for the key of the open session and a seeded generator: an exchange under way gives way, and its UCHAL goes out with a drawn nonce. Without the key's session or the seed it is skipped and counted in 0x4100/14. One that is not due does nothing.
* An exchange that gives way to a ranging slot is off; one that had not ended is counted in 0x4100/15, and in a round its key is re-polled first.
* A radio fault, unless UWB is stopped or without power, abandons the round, its exchange and a ranging slot, gives up the ACCESS vote where no session is open, and leaves UWB in FAULT; no lock-out record changes.
* A write of UWB's Enable is kept; 0 makes it STOPPING from RUNNING, its exchange under way counted as an abort and its round applied, STOPPING from PENDING and STOPPED from FAULT; 1 makes it RUNNING from STOPPED or FAULT and PENDING from STOPPING. A change of its State is logged. -/
def Obligations.UwbExchanges : Prop :=
  (∀ (s : State) (rx : BitVec 40) (sts : Sts) (ph : Int),
      let act (t : State) : Prop := exec (.uwbRrespReceived rx sts ph) s = .next { t with pending := s.pending }
      (s.uwb.exchange = none → act s) ∧
      ∀ e, s.uwb.exchange = some e →
        let t := (rx - e.sent).toNat
        let good := sts.key = e.sts ∧ sts.counter = e.stsCounter ∧ sts.offsetPs.natAbs ≤ 1000 ∧ t ≤ 16613376
        let ch := exchangeChannel s
        (e.step ≠ .rpoll ∨ t < 15335424 → act s) ∧
        (e.step = .rpoll → 15335424 ≤ t → ¬ good → act (abortExchange e s)) ∧
        (e.step = .rpoll → 15335424 ≤ t → good →
          let d := draw 4 { s with uwb := { s.uwb with counter := rx } }
          let c := BitVec.ofNat 32 (ofLe d.1)
          act { d.2 with
            uwb := { d.2.uwb with exchange := some { e with step := .forager, angle := arrivalAngle s ch ph, challenge := c, stsCounter := e.stsCounter + 2, tround1 := t, treply2 := 31948800 - t } }
            out := .pulses c :: .uwb ch [] :: s.out })) ∧
  (∀ (s : State) (e : Exchange) (ch : Nat) (ph : Int),
      let u := count (odKey 0x4100 0x12) (storeResult e 0 1 { s with uwb := { s.uwb with exchange := s.uwb.exchange.map fun e => { e with step := .ended } } })
      let num := (if ch = 9 then 375 else 462) * ph.natAbs
      let den := 65536 * val s (odKey 0x4100 8)
      let deg : Int := (degreeBounds.filter fun b => decide (b * den ≤ num * 1000000000)).length
      (s.uwb.rslot.isSome = true ∨ s.uwb.round = none → abortExchange e s = u) ∧
      (∀ r, s.uwb.rslot = none → s.uwb.round = some r → abortExchange e s = { u with uwb := { u.uwb with round := some { r with
        work := if r.aborted.contains e.index then r.work else .repoll e.index 0 :: r.work, aborted := r.aborted ++ [e.index] } } }) ∧
      (den < num → arrivalAngle s ch ph = Config.angleBeyond ch (val s (odKey 0x4100 8)) ph) ∧
      (num ≤ den → arrivalAngle s ch ph = if ph < 0 then -deg else deg)) ∧
  (∀ (s : State) (i : Fin 32) (sent rx : BitVec 40) (pol : Bool),
      (s.uwb.exchange = none → exec (.foragerAnswer i sent rx pol) s = .next s) ∧
      ∀ e, s.uwb.exchange = some e →
        let first := e.step = .forager ∧ e.answers.any (·.1 == i.val) = false
        (first → exec (.foragerAnswer i sent rx pol) s = .next { s with uwb := { s.uwb with counter := rx, exchange := some { e with answers := e.answers ++ [(i.val, ((rx - sent).toNat : Int), pol)] } } }) ∧
        (¬ first → exec (.foragerAnswer i sent rx pol) s = .next s)) ∧
  (∀ (s : State) (f : Blob) (rx : BitVec 40),
      let act (t : State) : Prop := exec (.uwbRreportReceived f rx) s = .next { t with pending := s.pending }
      (s.uwb.exchange = none → act s) ∧
      ∀ e, s.uwb.exchange = some e →
        let t := (rx - e.sent).toNat
        let heard := e.step = .forager ∧ f.length = 17 ∧ f.take 1 = [0x13] ∧ 63258624 ≤ t
        let u : State := { s with uwb := { s.uwb with counter := rx } }
        let ks := sessionMacKey (keyBytes s e.index) (exchangeNb s) e.nk
        let macGood : Prop := sub f 9 8 = mac64 ks ([0x06] ++ exchangeNb s ++ sub f 1 8)
        let tr1 : Int := e.tround1 - val s (odKey 0x4100 6)
        let trep1 : Int := ofBe (sub f 1 4)
        let tr2 : Int := ofBe (sub f 5 4)
        let x : Exchange := { e with tofNum := tr1 * tr2 - trep1 * e.treply2, tofDen := max (tr1 + tr2 + trep1 + e.treply2) 1, rtt32 := rtt32Of s e }
        (¬ heard → act s) ∧
        (heard → 64536576 < t → act (abortExchange e s)) ∧
        (heard → t ≤ 64536576 → ¬ macGood → act (exchangeFails e 0 2 u)) ∧
        (heard → t ≤ 64536576 → macGood → foragerPasses s e = false → act (exchangeFails e 0 3 (count (odKey 0x4100 0xD) u))) ∧
        (heard → t ≤ 64536576 → macGood → foragerPasses s e = true → act (rangeDecision x { u with uwb := { u.uwb with exchange := some x } }))) ∧
  (∀ (s : State) (e : Exchange),
      let l := foragerTrips s e
      let turn : Int := tturnOf s e.index
      let a0 : Int := ((l.find? (·.1 == 0)).map (·.2.1)).getD 0
      let q := ofBe ((aesCmac (keyBytes s e.index) ([0x05] ++ exchangeNb s ++ e.nk)).take 4)
      (foragerPasses s e = true ↔ turn ≠ 0 ∧ l.length = 32 ∧ turn * 10000 - 638976 ≤ a0 * 10000 ∧
        ((a0 - turn) * 10000 - 638976) * 29979245800 ≤ 2 * val s (odKey (0x4110 + e.zone) 1) * 63897600000 * 10000 ∧
        ∀ a ∈ l, (a.2.1 - a0).natAbs * 10000 ≤ 638976 ∧ a.2.2 = (e.challenge.getLsbD a.1 != q.testBit a.1)) ∧
      l = e.answers.map (fun a => (a.1, a.2.1 - (val s (odKey 0x4100 6) : Int), a.2.2)) ∧
      rtt32Of s e = (l.map (·.2.1)).foldl (· + ·) 0 - 32 * turn) ∧
  ((∀ (s : State) (e : Exchange) (db oc : Nat),
      let u := storeResult e db oc s
      let v : State := { u with uwb := { u.uwb with exchange := s.uwb.exchange.map fun e => { e with step := .ended } } }
      (s.uwb.rslot.isSome = true → exchangeFails e db oc s = lockFailure e.zone (failureEvent e.zone (keyIdAt s e.index) v)) ∧
      (s.uwb.rslot = none → s.uwb.round = none → exchangeFails e db oc s = v) ∧
      (∀ r, s.uwb.rslot = none → s.uwb.round = some r → exchangeFails e db oc s = failureEvent r.zone (keyIdAt s e.index) { v with uwb := { v.uwb with round := some { r with failures := r.failures ++ [keyIdAt s e.index] } } })) ∧
    (∀ (s : State) (e : Exchange),
      let z := odKey (0x4110 + e.zone)
      let d := distanceMm e
      let u := if fieldValue s e = none then count (odKey 0x4100 0x10) s else s
      let plausible := ∀ v, fieldValue s e = some v → val s (z 6) ≤ v ∧ v ≤ val s (z 7)
      let set (st : ExStep) (t : State) : State := { t with uwb := { t.uwb with exchange := t.uwb.exchange.map fun e => { e with step := st } } }
      (relayPasses e = false → rangeDecision e s = exchangeFails e d 4 (count (odKey 0x4100 0xE) s)) ∧
      (relayPasses e = true → ¬ plausible → rangeDecision e s = exchangeFails e d 4 (count (odKey 0x4100 0xF) u)) ∧
      (relayPasses e = true → plausible → withinLimit s e = false ∨ inSector s e = false → rangeDecision e s = count (odKey 0x4100 0x11) (storeResult e d 5 (set .ended u))) ∧
      (relayPasses e = true → plausible → withinLimit s e = true → inSector s e = true →
        rangeDecision e s = emit (.uwb (exchangeChannel s) ([0x14] ++ pbOf (keyBytes s e.index) (exchangeNb s) e.nk)) (set .ack u)))) ∧
  (∀ (s : State) (f : Blob) (rx : BitVec 40),
      let act (t : State) : Prop := exec (.uwbAckReceived f rx) s = .next { t with pending := s.pending }
      (s.uwb.exchange = none → act s) ∧
      ∀ e, s.uwb.exchange = some e →
        let t := (rx - e.sent).toNat
        let d := distanceMm e
        let heard := e.step = .ack ∧ f.length = 10 ∧ f.take 1 = [0x15] ∧ 95207424 ≤ t
        let ks := sessionMacKey (keyBytes s e.index) (exchangeNb s) e.nk
        let good : Prop := sub f 1 1 = [0xA5] ∧ sub f 2 8 = mac64 ks ([0x07] ++ exchangeNb s)
        let u : State := { s with uwb := { s.uwb with counter := rx } }
        let v := count (odKey 0x4100 0xA) (storeResult e d 7 { u with uwb := { u.uwb with exchange := some { e with step := .ended } } })
        (¬ heard → act s) ∧
        (heard → 96485376 < t → act (exchangeFails e d 6 s)) ∧
        (heard → t ≤ 96485376 → ¬ good → act (exchangeFails e d 6 u)) ∧
        (heard → t ≤ 96485376 → good → s.uwb.rslot.isSome = true →
          let w := lockSuccess e.zone v
          act (openSession (keyIdAt w e.index) (zoneFlags w e.zone).1 (zoneFlags w e.zone).2 ks w)) ∧
        (∀ r, heard → t ≤ 96485376 → good → s.uwb.rslot = none → s.uwb.round = some r →
          act { v with uwb := { v.uwb with round := some { r with admitted := r.admitted ++ [⟨e.index, d, ks⟩] } } })) ∧
  (∀ s : State,
      let act (t : State) : Prop := exec .uwbFrameTimeout s = .next { t with pending := s.pending }
      (∀ e, s.uwb.exchange = some e → (e.step = .rpoll ∨ e.step = .forager → act (abortExchange e s)) ∧ (e.step = .ack → act (exchangeFails e (distanceMm e) 6 s)) ∧
        (e.step = .ready ∨ e.step = .ended → act s)) ∧
      (s.uwb.exchange = none → s.uwb.rslot.isSome = true → act { s with uwb := { s.uwb with rslot := none } }) ∧
      (s.uwb.exchange = none → s.uwb.rslot = none → act { s with uwb := { s.uwb with round := s.uwb.round.map fun r => { r with waitingFor := none } } })) ∧
  (∀ s : State,
      let act (t : State) : Prop := exec .exchangeSlotEnd s = .next { t with pending := s.pending }
      let free (t : State) : State := { t with uwb := { t.uwb with exchange := none, rslot := none } }
      (s.uwb.exchange = none → act s) ∧
      ∀ e, s.uwb.exchange = some e →
        (e.step = .ended ∨ e.step = .ready → act (free s)) ∧
        (e.step = .rpoll ∨ e.step = .forager → act (free (abortExchange e s))) ∧
        (e.step = .ack → act (free (exchangeFails e (distanceMm e) 6 s)))) ∧
  (∀ (s : State) (i : Fin 32) (z : Fin 8),
      let act (t : State) : Prop := exec (.uwbRangingSlot i z) s = .next { t with pending := s.pending }
      let due := (s.comb.now.any fun a => actType a == 5 && actPattern a == i && actZone a == z) = true ∧ s.pwr.access = true ∧ s.uwb.st = .running
      let mine := (∃ x e, s.lf.session = some x ∧ keyAt s i = some e ∧ x.key = e.id) ∧ s.lf.seeded = true
      (¬ due → act s) ∧
      (due → ¬ mine → act (count (odKey 0x4100 0x14) s)) ∧
      (due → mine →
        let d := draw 8 (yieldToSlot s)
        act { d.2 with uwb := { d.2.uwb with rslot := some (i.val, z.val, d.1, false) }, out := .uwb (val s (odKey 0x4100 3)) ([0x16] ++ beBytes 4 (keyIdAt s i) ++ d.1) :: s.out })) ∧
  (∀ s : State,
      let off : State := { s with uwb := { s.uwb with exchange := none } }
      (s.uwb.exchange = none → yieldToSlot s = s) ∧
      ∀ e, s.uwb.exchange = some e →
        (e.step = .ended → yieldToSlot s = off) ∧
        (e.step ≠ .ended → s.uwb.round = none → yieldToSlot s = count (odKey 0x4100 0x15) off) ∧
        ∀ r, e.step ≠ .ended → s.uwb.round = some r → yieldToSlot s = count (odKey 0x4100 0x15) { off with uwb := { off.uwb with round := some { r with work := .repoll e.index 0 :: r.work } } }) ∧
  (∀ s : State,
      let live := s.uwb.st ≠ .stopped ∧ s.pwr.access = true
      let u : State := { s with uwb := { s.uwb with round := none, exchange := none, rslot := none } }
      (¬ live → exec .uwbFault s = .next s) ∧
      (live → exec .uwbFault s = .next { setUwbState .fault (if s.lf.session = none then setVote 2 .access false u else u) with pending := s.pending } ∧
        Completes .uwbFault s fun t => t.uwb.st = .fault ∧ t.uwb.round = none ∧ t.uwb.exchange = none ∧ t.uwb.rslot = none ∧ t.lf.lock = s.lf.lock ∧ t.od = s.od)) ∧
  ((∀ (slot : Fin 16) (v : Nat), Writes (.uwbEnableWrite slot v) slot 0x4100 1 (numFor 0x4100 1 v) (fun _ => true) fun s n _ =>
      let t := keepVal (odKey 0x4100 1) n s
      .ok (· = match n, s.uwb.st with
        | 0, .running => setUwbState .stopping (uwbStops t)
        | 0, .pending => setUwbState .stopping t
        | 0, .fault => setUwbState .stopped t
        | 0, _ => t
        | _, .stopped => setUwbState .running t
        | _, .fault => setUwbState .running t
        | _, .stopping => setUwbState .pending t
        | _, _ => t)) ∧
    (∀ (s : State) (st : FnState), (s.uwb.st = st → setUwbState st s = s) ∧
      (s.uwb.st ≠ st → setUwbState st s = logEvent 12 clsState st.portCode (odKey 0x4100 2) [] { s with uwb := { s.uwb with st := st } })) ∧
    (∀ s : State, let off (t : State) : State := { t with uwb := { t.uwb with exchange := none, rslot := none } }
      uwbStops s = applyRound (off (if ∃ e, s.uwb.exchange = some e ∧ e.step ≠ .ended then count (odKey 0x4100 0x12) s else s))))

/-- NFC0: the field detector, the reader role with polls, cards, phone keys and the keeper's exchanges, and the write of Enable.
* With power on the Field die, an external field not present before is noted: the reader's own field, if on, goes off with its poll, counted in 0x4200/13; FIELD_DET_N goes low, the detection is counted in 0x4200/07, and a wake is raised where it is enabled. Otherwise nothing happens.
* The reader off: no step, no card, no count, no answer kept, its own field off and the NFC PLL with it. A card list is served from its first card with the SELECT of the Faloell application; an empty one has the reader off. A card that is done with, deselected or lost leaves the list and the next is served; a lost one is counted in 0x4200/0D.
* The loss of the field ends the tag role: selection, role, random UID, challenge and whatever it held back. With the AO supply a write goes on; in FIELD without it the Field die loses its power: the write stays where it was, FIELD_DET_N is released and the device is off. Without a field nothing happens.
* FIELD_DET_N is released where no field is present and it is low, and otherwise stays.
* A poll, with the Hive die on, NFC0 running with its reader enabled, free and in no loopback: in an external field it is abandoned and counted in 0x4200/13; one that finds cards lists them in anticollision order, up to 8, the excess counted in 0x4200/0C, turns the own field on and serves the first; without cards nothing happens.
* Anticollision lists each UID of 4, 7 or 10 bytes once, in the order of the bits on air, of which the first that differs is 0 in the earlier.
* An intact block answers what was sent: to the SELECT of the application one that ends with 9000 begins the phone key's authentication, another offers the card to the keeper on line 8; to the keeper's command it is kept for the keeper, which is told; to a phone key's two commands, within their bound, it is checked, and later than that it is a failure of the transponder record. Otherwise it changes nothing. A corrupted block is a missing answer.
* A phone key's authentication: it begins with a drawn nonce, or, with the transponder record locked or the access island without power or seed, the card is deselected. An answer of 22 bytes with an enrolled card's or transponder's ID whose pK verifies is answered with pB; the acknowledge 9000 opens a session with START and without UNLOCK and clears the record; anything else is a failure of the transponder record. At its end the card is deselected.
* S(WTX) of a card that has a command: within a phone key's authentication it is a failure and the card is deselected; a multiplier outside 1 to 59 is a bad answer; otherwise it is granted, and the waits granted to the command add up, until they exceed 5 s: then the card is deselected and lost. A wait is FWT times the multiplier and the tolerance, FWI 15 taken as 4.
* A missing answer is asked for with R(NAK) twice; then the card is lost, and within a phone key's authentication that is a failure of the transponder record. With no command out nothing happens.
* The keeper's APDU goes to the card it has been offered or has; an empty one deselects it; with no such card it is refused with 0x08000022.
* A card offered and not taken is deselected and the next is served; with none left the reader is off. Without an offer nothing happens.
* A write of NFC0's Enable is kept; 0 makes it STOPPING from RUNNING, its reader's card deselected and the reader off, and from PENDING; 1 makes it RUNNING from STOPPED and PENDING from STOPPING. A change of its State is logged. -/
def Obligations.NfcReader : Prop :=
  (∀ s : State,
      let new := fieldDiePowered s = true ∧ s.nfc.field = false
      let u := if s.nfc.own then count (odKey 0x4200 0x13) (readerOff s) else s
      let v := count (odKey 0x4200 7) (setFieldDet true { u with nfc := { u.nfc with field := true } })
      (¬ new → exec .nfcFieldDetect s = .next s) ∧
      (new → exec .nfcFieldDetect s = .next { (if val s (odKey 0x4200 6) ≠ 0 then latchWake 15 v else v) with pending := s.pending }) ∧
      (new → s.nfc.detLow = false → Completes .nfcFieldDetect s fun t => t.nfc.field = true ∧ t.nfc.detLow = true ∧ t.nfc.own = false ∧
        t.out = .pin "FIELD_DET_N" false :: s.out ∧ val t (odKey 0x4200 7) = min (val s (odKey 0x4200 7) + 1) 0xFFFFFFFF ∧
        (s.nfc.own = true → t.nfc.step = .off ∧ t.nfc.cards = [] ∧ val t (odKey 0x4200 0x13) = min (val s (odKey 0x4200 0x13) + 1) 0xFFFFFFFF))) ∧
  (∀ s : State,
      let fresh (st : ReaderStep) (n : NfcSt) : NfcSt := { n with step := st, naks := 0, wtx := 0, lastAnswer := [] }
      readerOff s = { s with nfc := { fresh .off s.nfc with cards := [], own := false }, pwr := { s.pwr with pll := s.pwr.pll &&& ~~~0x20#13 } } ∧
      (s.nfc.cards = [] → serveCard s = readerOff s) ∧
      (s.nfc.cards ≠ [] → serveCard s = { s with nfc := fresh .select s.nfc, out := .nfc [0x00, 0xA4, 0x04, 0x00, 0x08, 0xF0, 0x46, 0x41, 0x4C, 0x4F, 0x45, 0x4C, 0x4C] :: s.out }) ∧
      nextCard s = serveCard { s with nfc := { s.nfc with cards := s.nfc.cards.tail } } ∧
      deselectCard s = nextCard { s with out := .nfc [0xC2] :: s.out } ∧ loseCard s = nextCard (count (odKey 0x4200 0x0D) s)) ∧
  (∀ s : State,
      let gone : NfcSt := { s.nfc with field := false, active := false, app := false, file := none, role := .inspect, uid := [], heldRead := none, heldVerify := none, attesting := none, challenge := [] }
      (s.nfc.field = false → exec .nfcFieldLoss s = .next s) ∧
      (s.nfc.field = true → (s.pwr.dev ≠ .field ∨ s.pwr.vao = true) → exec .nfcFieldLoss s = .next { s with nfc := gone }) ∧
      (s.nfc.field = true → s.pwr.dev = .field → s.pwr.vao = false → exec .nfcFieldLoss s = .next { s with
        nfc := { gone with write := none, detLow := false }, pwr := { s.pwr with dev := .off }, store := { s.store with scanning := false } })) ∧
  (∀ s : State, (s.nfc.field = false → s.nfc.detLow = true →
        exec .fieldDetRelease s = .next { s with nfc := { s.nfc with detLow := false }, out := .pin "FIELD_DET_N" true :: s.out }) ∧
      (s.nfc.field = true ∨ s.nfc.detLow = false → exec .fieldDetRelease s = .next s)) ∧
  (∀ (s : State) (cards : List Blob),
      let may := s.pwr.hive = true ∧ s.nfc.st = .running ∧ val s (odKey 0x4200 3) ≠ 0 ∧ s.nfc.step = .off ∧ s.test.nfc = false
      let l := anticollision cards
      (¬ may → exec (.nfcPoll cards) s = .next s) ∧
      (may → s.nfc.field = true → exec (.nfcPoll cards) s = .next { count (odKey 0x4200 0x13) s with pending := s.pending }) ∧
      (may → s.nfc.field = false → l = [] → exec (.nfcPoll cards) s = .next s) ∧
      (may → s.nfc.field = false → l ≠ [] → Completes (.nfcPoll cards) s fun t => t.nfc = { s.nfc with cards := l.take 8, own := true, step := .select, naks := 0, wtx := 0, lastAnswer := [] } ∧
        t.out = .nfc faloellSelect :: s.out ∧ t.pwr = { s.pwr with pll := s.pwr.pll ||| 0x20#13 } ∧
        val t (odKey 0x4200 0xC) = min (val s (odKey 0x4200 0xC) + (l.length - 8)) 0xFFFFFFFF ∧
        blob t (odKey 0x4200 0x0B) = (l.take 8).flatMap (fun u => leBytes 1 u.length ++ u) ∧
        t = { s with nfc := t.nfc, od := t.od, blobs := t.blobs, pwr := t.pwr, out := t.out })) ∧
  (∀ cards : List Blob, (∀ u, u ∈ anticollision cards ↔ u ∈ cards ∧ (u.length = 4 ∨ u.length = 7 ∨ u.length = 10)) ∧
      (anticollision cards).Nodup ∧ (anticollision cards).Pairwise fun u v => pathBefore (uidPath u) (uidPath v) = true) ∧
  (∀ (s : State) (d : Blob) (b : Bool),
      let act (t : State) : Prop := exec (.nfcCardResponse (.block d b)) s = .next { t with pending := s.pending }
      let good := 2 ≤ d.length ∧ d.drop (d.length - 2) = [0x90, 0x00]
      (s.nfc.step = .select → good → act (phoneStart s)) ∧
      (s.nfc.step = .select → ¬ good → act (keeperLine 8 { s with nfc := { s.nfc with step := .offered } })) ∧
      (s.nfc.step = .keeper true → act (keeperLine 8 { s with nfc := { s.nfc with step := .keeper false, lastAnswer := d, naks := 0, wtx := 0 } })) ∧
      (∀ nb, s.nfc.step = .auth1 nb → act (if b then phoneAnswer1 nb d s else deselectCard (phoneFails 0 s))) ∧
      (∀ nb nk i, s.nfc.step = .auth2 nb nk i → act (if b then phoneAnswer2 nb nk i d s else deselectCard (phoneFails (keyIdAt s i) s))) ∧
      (s.nfc.step = .off ∨ s.nfc.step = .offered ∨ s.nfc.step = .keeper false → act s) ∧
      exec (.nfcCardResponse .corrupted) s = .next { cardBad s with pending := s.pending }) ∧
  (∀ (s : State) (nb nk d : Blob) (i : Nat),
      let id := ofBe (sub d 0 4)
      let fails (x : Nat) : State := deselectCard (tpFailure x s)
      let send (st : ReaderStep) (m : Blob) (t : State) : State := { t with nfc := { t.nfc with step := st, naks := 0, wtx := 0 }, out := .nfc m :: t.out }
      (zoneLocked s 8 = true ∨ s.pwr.access = false ∨ s.lf.seeded = false → phoneStart s = deselectCard s) ∧
      (zoneLocked s 8 = false → s.pwr.access = true → s.lf.seeded = true → phoneStart s = send (.auth1 (draw 8 s).1) ([0x80] ++ Config.phoneHeader 1 ++ (draw 8 s).1) (draw 8 s).2) ∧
      (keyById s id = none → phoneAnswer1 nb d s = fails id) ∧
      (∀ e, keyById s id = some e →
        let good := e.kind ≠ 0 ∧ d.length = 22 ∧ d.drop 20 = [0x90, 0x00] ∧ ∃ k, e.key = some k ∧ pkOf k nb (sub d 4 8) id = sub d 12 8
        (good → phoneAnswer1 nb d s = send (.auth2 nb (sub d 4 8) e.index) ([0x80] ++ Config.phoneHeader 2 ++ pbOf (e.key.getD []) nb (sub d 4 8)) s) ∧
        (¬ good → phoneAnswer1 nb d s = fails id)) ∧
      (d = [0x90, 0x00] → phoneAnswer2 nb nk i d s = deselectCard (openSession (keyIdAt s i) false true (sessionMacKey (keyBytes s i) nb nk) (lockSuccess 8 s))) ∧
      (d ≠ [0x90, 0x00] → phoneAnswer2 nb nk i d s = fails (keyIdAt s i)) ∧ phoneFails i s = tpFailure i s) ∧
  (∀ (s : State) (m : Nat),
      let act (t : State) : Prop := exec (.nfcCardResponse (.wtx m)) s = .next { t with pending := s.pending }
      let fwi := Config.cardFwi (s.nfc.cards.headD []) % 16
      let w := s.nfc.wtx + (4096 * 2 ^ (if fwi = 15 then 4 else fwi) * m + 49152)
      let plain := s.nfc.step = .select ∨ s.nfc.step = .keeper true
      (s.nfc.step = .off ∨ s.nfc.step = .offered ∨ s.nfc.step = .keeper false → act s) ∧
      (∀ nb, s.nfc.step = .auth1 nb → act (deselectCard (phoneFails 0 s))) ∧
      (∀ nb nk i, s.nfc.step = .auth2 nb nk i → act (deselectCard (phoneFails (keyIdAt s i) s))) ∧
      (plain → m < 1 ∨ 59 < m → act (cardBad s)) ∧
      (plain → 1 ≤ m → m ≤ 59 → w ≤ 5 * 13560000 → act { s with nfc := { s.nfc with wtx := w, naks := 0 }, out := .nfc [0xF2, BitVec.ofNat 8 m] :: s.out }) ∧
      (plain → 1 ≤ m → m ≤ 59 → 5 * 13560000 < w → act (loseCard { s with out := .nfc [0xC2] :: s.out }))) ∧
  (∀ s : State,
      let act (t : State) : Prop := exec .nfcFwtTimeout s = .next { t with pending := s.pending }
      let out := s.nfc.step = .select ∨ s.nfc.step = .keeper true
      let auth := (∃ nb, s.nfc.step = .auth1 nb) ∨ ∃ nb nk i, s.nfc.step = .auth2 nb nk i
      (s.nfc.step = .off ∨ s.nfc.step = .offered ∨ s.nfc.step = .keeper false → act s) ∧
      (out ∨ auth → s.nfc.naks < 2 → act { s with nfc := { s.nfc with naks := s.nfc.naks + 1 }, out := .nfc [0xB2] :: s.out }) ∧
      (out → 2 ≤ s.nfc.naks → act (loseCard s)) ∧
      (∀ nb, s.nfc.step = .auth1 nb → 2 ≤ s.nfc.naks → act (loseCard (phoneFails 0 s))) ∧
      (∀ nb nk i, s.nfc.step = .auth2 nb nk i → 2 ≤ s.nfc.naks → act (loseCard (phoneFails (keyIdAt s i) s))) ∧
      exec .nfcFwtTimeout s = .next { cardBad s with pending := s.pending }) ∧
  (∀ apdu : Blob, Writes (.readerExchange apdu) 15 0x4200 0x0A (.bytes apdu) (fun _ => true) fun s _ b =>
      if s.nfc.step = .offered ∨ s.nfc.step = .keeper false then
        .ok (· = if b = [] then deselectCard s else { s with nfc := { s.nfc with step := .keeper true, naks := 0, wtx := 0, lastAnswer := [] }, out := .nfc b :: s.out })
      else .error 0x08000022) ∧
  (∀ s : State,
      (s.nfc.step = .offered → exec .readerOfferTimeout s = .next { deselectCard s with pending := s.pending }) ∧
      (s.nfc.step ≠ .offered → exec .readerOfferTimeout s = .next s) ∧
      (s.nfc.step = .offered → s.nfc.cards.tail = [] →
        Completes .readerOfferTimeout s fun t => t.nfc.step = .off ∧ t.nfc.own = false ∧ t.nfc.cards = [] ∧ t.out = .nfc [0xC2] :: s.out ∧ t.od = s.od)) ∧
  ((∀ (slot : Fin 16) (v : Nat), Writes (.nfcEnableWrite slot v) slot 0x4200 1 (numFor 0x4200 1 v) (fun _ => true) fun s n _ =>
      let t := keepVal (odKey 0x4200 1) n s
      .ok (· = match n, s.nfc.st with
        | 0, .running => setNfcState .stopping (if s.nfc.step = .off then t else readerOff { t with out := .nfc [0xC2] :: t.out })
        | 0, .pending => setNfcState .stopping t
        | 0, _ => t
        | _, .stopped => setNfcState .running t
        | _, .stopping => setNfcState .pending t
        | _, _ => t)) ∧
    (∀ (s : State) (st : FnState), (s.nfc.st = st → setNfcState st s = s) ∧
      (s.nfc.st ≠ st → setNfcState st s = logEvent 13 clsState st.portCode (odKey 0x4200 2) [] { s with nfc := { s.nfc with st := st } })))

/-- NFC0 as a tag: activation, selection, reads, writes with their intent and commit, passwords, MAKER authentication, attestation, snapshots and extensions.
* A tag that is present answers the activation with its random UID, drawn anew when the field has come up, and begins as INSPECT with nothing selected and no challenge. It is present in a field on a powered Field die, while running and not reader-only with the Hive die on; otherwise nothing happens.
* PPS is refused without an answer: nothing changes.
* A tag that does not listen takes no command: it is not present or not activated, or an earlier command has no response yet.
* SELECT of the NDEF application begins with INSPECT and no file; within it a file of the tag is selected; another application, another file, and a file without the application are answered 6A82.
* READ BINARY without a file is answered 6A82; of 0xA102 by INSPECT 6982; from at or past the file's end 6B00; of more than 246 bytes 6700. Otherwise it gives the file's bytes from the offset and 9000, and while the index scan runs it is held under S(WTX) with a multiplier of 1 to 59.
* UPDATE BINARY is refused, in this order: without a file 6A82; in FIELD with a tamper latch 6985; to INSPECT 6982; of a file that is not writable 6982, in FIELD 6985; in FIELD to another role than WORKSHOP 6985; of more than 246 bytes 6700; past the file's end 6B00; in FIELD without the energy 6400. Otherwise the write is under way under S(WTX) with multiplier 4, and its intent is opened unless the index scan runs or the slot is taken; no byte of a file changes before the commit.
* A write under way on a powered Field die, with no index scan running, is committed: its own intent, or, where it has none open, one opened behind the commit of another's. Then it is over, and answered 9000 where the tag is still active. Without a write, without power or during the scan nothing happens.
* Its bytes are then in both copies of the file, with the write-log entry, and the intent is freed.
* VERIFY of a blocked password is answered 6983. The write password, or any while none is set, gives the WORKSHOP role and clears the failures; a wrong one counts a failure, committed before the answer with the tries left, and the eighth blocks for 600 s, logged with the AO supply. While the index scan runs it is held under S(WTX).
* At the end of a block's time, with the AO supply, the password's failures and its block are cleared and committed; a block that has time left, or none, does not change.
* AUTH needs the Hive die: else 6985. An empty one draws a challenge and sends it; one with a key or a signature gives the MAKER role where key hash and signature check against that challenge, and ends the challenge either way; 6982 where they do not.
* ATTEST needs the Hive die: else 6985. A nonce of another length than 32 is answered 6700. With 32 bytes the reader is asked for time, and the vault for the attestation, which it begins where it makes no other.
* S(DESELECT) ends the role and the selection; the random UID stands until the field ends.
* In RUN with the Hive die on, the vault's attestation, where it makes one, replaces the snapshot 0xA101 in both copies, a tag write's open intent committed first; otherwise nothing happens. With no open intent no other file of the tag area changes.
* An extension of an active tag that ends with its command still at work is asked for again: for an attestation with multiplier 59, which the vault begins where it can, and which without the Hive die ends with 6985; for a held read or VERIFY with one of 1 to 59; for a write with 4. With nothing at work nothing happens. -/
def Obligations.NfcTag : Prop :=
  (∀ s : State,
      let begun (u : Blob) (t : State) : State := { t with nfc := { t.nfc with uid := u, active := true, app := false, file := none, role := .inspect, challenge := [] }, out := .nfc u :: t.out }
      (tagPresent s = false → exec .tagActivation s = .next s) ∧
      (tagPresent s = true → s.nfc.uid = [] → exec .tagActivation s = .next (begun (0x08 :: (draw 3 s).1) (draw 3 s).2)) ∧
      (tagPresent s = true → s.nfc.uid ≠ [] → exec .tagActivation s = .next (begun s.nfc.uid s)) ∧
      (tagPresent s = true ↔ (s.pwr.vao = true ∨ s.pwr.dev = .field) ∧ s.nfc.field = true ∧ s.nfc.st = .running ∧ ¬ (s.pwr.hive = true ∧ val s (odKey 0x4200 3) = 1))) ∧
  (∀ s : State, exec .pps s = .next s) ∧
  (∀ (s : State) (a : TagSelect) (off len : Nat) (d x : Blob) (e : Bool), tagListens s = false →
      exec (.tagSelect a) s = .next s ∧ exec (.readBinary off len) s = .next s ∧ exec (.updateBinary off d e) s = .next s ∧ exec (.verify d) s = .next s ∧
      exec (.makerAuth d x) s = .next s ∧ exec (.attestApdu d) s = .next s ∧ exec .deselect s = .next s) ∧
  (∀ (s : State) (aid : Blob) (id : BitVec 16), tagListens s = true →
      let file := id.toNat ∈ [0xE103, 0xE104, 0xA101, 0xA102, 0xA103]
      (aid = [0xD2, 0x76, 0x00, 0x00, 0x85, 0x01, 0x01] → exec (.tagSelect (.application aid)) s =
        .next { s with nfc := { s.nfc with app := true, file := none, role := .inspect }, out := .nfc [0x90, 0x00] :: s.out }) ∧
      (aid ≠ [0xD2, 0x76, 0x00, 0x00, 0x85, 0x01, 0x01] → exec (.tagSelect (.application aid)) s = .next { s with out := .nfc [0x6A, 0x82] :: s.out }) ∧
      (s.nfc.app = true → file → exec (.tagSelect (.file id)) s =
        .next { s with nfc := { s.nfc with file := some id.toNat }, out := .nfc [0x90, 0x00] :: s.out }) ∧
      (¬ (s.nfc.app = true ∧ file) → exec (.tagSelect (.file id)) s = .next { s with out := .nfc [0x6A, 0x82] :: s.out })) ∧
  (∀ (s : State) (off len : Nat), tagListens s = true →
      let say (b : Blob) : Prop := exec (.readBinary off len) s = .next { s with out := .nfc b :: s.out }
      (s.nfc.file = none → say [0x6A, 0x82]) ∧
      ∀ f, s.nfc.file = some f →
        let secret := f = 0xA102 ∧ s.nfc.role = .inspect
        (secret → say [0x69, 0x82]) ∧
        (¬ secret → tagFileLen f ≤ off → say [0x6B, 0x00]) ∧
        (¬ secret → off < tagFileLen f → 246 < len → say [0x67, 0x00]) ∧
        (¬ secret → off < tagFileLen f → len ≤ 246 → s.store.scanning = false → say (sub (tagFile s f) off len ++ [0x90, 0x00])) ∧
        (¬ secret → off < tagFileLen f → len ≤ 246 → s.store.scanning = true → exec (.readBinary off len) s = .next { (free 59 s).2 with
          nfc := { s.nfc with heldRead := some (f, off, len) }, out := .nfc [0xF2, BitVec.ofNat 8 ((free 59 s).1 + 1)] :: s.out } ∧ (free 59 s).1 < 59)) ∧
  (∀ (s : State) (off : Nat) (d : Blob) (e : Bool), tagListens s = true →
      let say (b : Blob) : Prop := exec (.updateBinary off d e) s = .next { s with out := .nfc b :: s.out }
      (s.nfc.file = none → say [0x6A, 0x82]) ∧
      ∀ f, s.nfc.file = some f →
        let fld := s.pwr.dev = .field
        let ok1 := ¬ (fld ∧ latchRead s ≠ 0)
        let ok2 := ok1 ∧ s.nfc.role ≠ .inspect
        let ok3 := ok2 ∧ (f = 0xE104 ∨ f = 0xA102)
        let ok4 := ok3 ∧ ¬ (fld ∧ s.nfc.role ≠ .workshop)
        let ok5 := ok4 ∧ d.length ≤ 246
        let ok6 := ok5 ∧ off + d.length ≤ tagFileLen f
        let ok7 := ok6 ∧ ¬ (fld ∧ e = false)
        let u : State := { s with nfc := { s.nfc with write := some ⟨f, off, d, s.nfc.role, inField s⟩ }, out := .nfc [0xF2, 4] :: s.out }
        (¬ ok1 → say [0x69, 0x85]) ∧ (ok1 → ¬ ok2 → say [0x69, 0x82]) ∧
        (ok2 → ¬ ok3 → (fld → say [0x69, 0x85]) ∧ (¬ fld → say [0x69, 0x82])) ∧
        (ok3 → ¬ ok4 → say [0x69, 0x85]) ∧ (ok4 → ¬ ok5 → say [0x67, 0x00]) ∧ (ok5 → ¬ ok6 → say [0x6B, 0x00]) ∧ (ok6 → ¬ ok7 → say [0x64, 0x00]) ∧
        (ok7 → s.store.scanning = true ∨ s.store.tag.intent.isSome = true → exec (.updateBinary off d e) s = .next u) ∧
        (ok7 → s.store.scanning = false → s.store.tag.intent = none → exec (.updateBinary off d e) s = .next { openIntent f off s.nfc.role.code (inField s) d u with pending := s.pending } ∧
          Completes (.updateBinary off d e) s fun t => t.store.tag.intent.isSome = true ∧ t.store.tag.copyA = s.store.tag.copyA ∧ t.store.tag.copyB = s.store.tag.copyB ∧
            t = { u with store := { s.store with tag := { s.store.tag with intent := t.store.tag.intent } } })) ∧
  (∀ s : State,
      let act (t : State) : Prop := exec .tagWriteComplete s = .next { t with pending := s.pending }
      (s.nfc.write = none → act s) ∧
      ∀ w, s.nfc.write = some w →
        let goes := s.store.scanning = false ∧ fieldDiePowered s = true
        let mine := ∃ i, s.store.tag.intent = some i ∧ i.file = w.file ∧ i.offset = w.offset ∧ i.newData = w.data
        let past (t : State) : State := { t with nfc := { t.nfc with write := none }, out := (if s.nfc.active then [.nfc [0x90, 0x00]] else []) ++ t.out }
        (¬ goes → act s) ∧
        (goes → mine → act (past (commitIntent s))) ∧
        (goes → ¬ mine → act (past (commitIntent (openIntent w.file w.offset w.role.code w.field w.data (commitIntent s)))))) ∧
  (∀ (s : State) (w : TagWrite) (i : TagIntent), s.nfc.write = some w → s.store.scanning = false → fieldDiePowered s = true → s.nfc.active = true →
      s.store.tag.intent = some i → i.file = w.file → i.offset = w.offset → i.newData = w.data → (w.file = 0xE104 ∨ w.file = 0xA102) →
      w.offset + w.data.length ≤ 1024 →
      Completes .tagWriteComplete s fun t => t.nfc.write = none ∧ t.store.tag.intent = none ∧ t.store.tag.logSeq = i.journal ∧ t.store.tag.commit = i.journal ∧
        sub (tagFile t w.file) w.offset w.data.length = w.data ∧ sub (tagFileGet w.file t.store.tag.copyB) w.offset w.data.length = w.data ∧
        (∀ f, f ≠ w.file → f ≠ 0xA103 → tagFileGet f t.store.tag.copyA = tagFileGet f s.store.tag.copyA ∧ tagFileGet f t.store.tag.copyB = tagFileGet f s.store.tag.copyB) ∧
        t.out = .nfc [0x90, 0x00] :: s.out ∧ t.od = s.od) ∧
  (∀ (s : State) (pw : Blob), tagListens s = true →
      let good := pw = (passwords s).2 ∨ (passwords s).2 = zeros 16
      let q := s.store.verifyPw.fail
      let put (p : PwState) : State := commitPw { s with store := { s.store with verifyPw := p }, out := .nfc [0xF2, 4] :: s.out }
      let act (t : State) : Prop := exec (.verify pw) s = .next { t with pending := s.pending }
      (s.store.scanning = true → act { (free 59 s).2 with nfc := { s.nfc with heldVerify := some pw }, out := .nfc [0xF2, BitVec.ofNat 8 ((free 59 s).1 + 1)] :: s.out }) ∧
      (s.store.scanning = false → s.store.verifyPw.blocked = true → act { s with out := .nfc [0x69, 0x83] :: s.out }) ∧
      (s.store.scanning = false → s.store.verifyPw.blocked = false → good → act (emit (.nfc [0x90, 0x00]) { put { s.store.verifyPw with failures := 0 } with nfc := { s.nfc with role := .workshop } })) ∧
      (s.store.scanning = false → s.store.verifyPw.blocked = false → ¬ good →
        act (emit (.nfc (beBytes 2 (0x63C0 + (8 - q.failures)))) (if q.blocked = true ∧ s.pwr.vao = true then logEvent 13 clsSecurity 0 (odKey 0x4200 0x10) [] (put q) else put q))) ∧
      q = (if 8 ≤ s.store.verifyPw.failures + 1 then { failures := 8, blocked := true, remaining := 600 } else { s.store.verifyPw with failures := s.store.verifyPw.failures + 1 })) ∧
  (∀ (s : State) (rd : Bool),
      let p := if rd then s.store.readPw else s.store.verifyPw
      let past := s.pwr.vao = true ∧ p.blocked = true ∧ p.remaining = 0
      (¬ past → exec (.verifyBlockEnd rd) s = .next s) ∧
      (past → exec (.verifyBlockEnd rd) s = .next { commitPw { s with store := if rd then { s.store with readPw := {} } else { s.store with verifyPw := {} } } with pending := s.pending } ∧
        Completes (.verifyBlockEnd rd) s fun t => t.store.readPw = (if rd then {} else s.store.readPw) ∧ t.store.verifyPw = if rd then s.store.verifyPw else {})) ∧
  (∀ (s : State) (pk sig : Blob), tagListens s = true →
      (s.pwr.hive = false → exec (.makerAuth pk sig) s = .next { s with out := .nfc [0x69, 0x85] :: s.out }) ∧
      (s.pwr.hive = true → exec (.makerAuth [] []) s = .next { (draw 32 s).2 with
        nfc := { s.nfc with challenge := (draw 32 s).1 }, out := .nfc ((draw 32 s).1 ++ [0x90, 0x00]) :: s.out }) ∧
      (s.pwr.hive = true → ¬ (pk = [] ∧ sig = []) →
        let good := s.nfc.challenge ≠ [] ∧ s.fuse.makerKh ≠ [] ∧ keyHash pk = s.fuse.makerKh ∧ Config.nfcMakerAuth s.nfc.challenge pk sig = true
        (good → exec (.makerAuth pk sig) s = .next { s with nfc := { s.nfc with challenge := [], role := .maker }, out := .nfc [0x90, 0x00] :: s.out }) ∧
        (¬ good → exec (.makerAuth pk sig) s = .next { s with nfc := { s.nfc with challenge := [] }, out := .nfc [0x69, 0x82] :: s.out }))) ∧
  (∀ (s : State) (n : Blob), tagListens s = true →
      let u : State := { s with nfc := { s.nfc with attesting := some n }, out := .nfc [0xF2, 59] :: s.out }
      (s.pwr.hive = false → exec (.attestApdu n) s = .next { s with out := .nfc [0x69, 0x85] :: s.out }) ∧
      (s.pwr.hive = true → n.length ≠ 32 → exec (.attestApdu n) s = .next { s with out := .nfc [0x67, 0x00] :: s.out }) ∧
      (s.pwr.hive = true → n.length = 32 → s.vault.attesting = none → exec (.attestApdu n) s = .next { u with vault := { s.vault with attesting := some (n, val s (odKey 0x2340 3), .nfc) } }) ∧
      (s.pwr.hive = true → n.length = 32 → s.vault.attesting.isSome = true → exec (.attestApdu n) s = .next u)) ∧
  (∀ s : State, tagListens s = true → exec .deselect s = .next { s with
      nfc := { s.nfc with active := false, app := false, file := none, role := .inspect, heldRead := none, heldVerify := none, attesting := none, challenge := [] }
      out := .nfc [0xC2] :: s.out }) ∧
  (∀ s : State,
      let run := s.pwr.hive = true ∧ s.pwr.dev = .on ∧ runOrDoze s = 0
      let a := attestation [] (val s (odKey 0x2340 3)) 1 s
      (¬ run → exec .snapshotTimer s = .next s) ∧
      (run → a.1 = none → exec .snapshotTimer s = .next { a.2 with pending := s.pending }) ∧
      (∀ r, run → a.1 = some r → exec .snapshotTimer s = .next { snapshotPut r a.2 with pending := s.pending } ∧
        (s.store.tag.intent = none → Completes .snapshotTimer s fun t => tagFile t 0xA101 = subPad (beBytes 2 r.length ++ r) 0 4608 ∧ tagFile t 0xA101 = tagFileGet 0xA101 t.store.tag.copyB ∧
          (∀ f, f ≠ 0xA101 → tagFile t f = tagFile s f) ∧ t.nfc = s.nfc))) ∧
  (∀ s : State,
      let act (t : State) : Prop := exec .wtxExtensionEnd s = .next { t with pending := s.pending }
      let say (b : Blob) (t : State) : State := { t with out := .nfc b :: t.out }
      let held := s.nfc.heldRead.isSome = true ∨ s.nfc.heldVerify.isSome = true
      (s.nfc.active = false → act s) ∧
      (s.nfc.active = true →
        (∀ n, s.nfc.attesting = some n → s.pwr.hive = true → act (say [0xF2, 59] (startNfcAttest n s))) ∧
        (∀ n, s.nfc.attesting = some n → s.pwr.hive = false → act (say [0x69, 0x85] { s with nfc := { s.nfc with attesting := none } })) ∧
        (s.nfc.attesting = none → held → act (say [0xF2, BitVec.ofNat 8 ((free 59 s).1 + 1)] (free 59 s).2)) ∧
        (s.nfc.attesting = none → ¬ held → s.nfc.write.isSome = true → act (say [0xF2, 4] s)) ∧
        (s.nfc.attesting = none → ¬ held → s.nfc.write = none → act s)))

/-- Vault requests that place, remove, wrap or check keys: who can ask, the lockstep compare, the answers, and each request on every slot, blob and state.
* An answer to keeper firmware joins the answers it reads and raises its interrupt line; any other leaves at once under its tag. The keeper asks while it runs outside recovery, the access island while powered, the boot ROM during boot, all with the Hive die on. Places taken: the replacements under way and, for the keeper, the answers not read yet.
* The lockstep compare of a request's operation: without an upset it passes. The first miscompare is event 0x0008 of the masked class with the opcode, counted in 0x2350/05, and the rerun goes on; a second one of the same request is event 0x0024 of the unmasked class, counted in 0x2350/06, and the request fails.
* LOAD: a requester other than the keeper and the boot ROM answers 0x07, a slot from 56 on 0x06. A blob that opens puts its key into the slot, is counted in 0x2350/01 and answers the KCV; one that does not answers its status and is counted in 0x2350/02.
* CLEAR: in every state of the life cycle the keeper and the boot ROM empty a slot below 56, and every lane copy of the slot's key is dropped; no other slot changes.
* GENERATE: refused with 0x07, 0x06 (a slot that is neither below 56 nor 0xFF), the status of a missing share, 0x12 for the length, 0x04 for a missing measurement. Otherwise a key of the asked length is wrapped with the asked attributes under the current epoch, and put into the slot unless the slot is 0xFF; the answer is the blob and the KCV. The key is the TRNG's, and its generation, which the spec does not state, is a free value.
* IMPORT, from any requester that can ask: a bad header answers 0x01, a missing share its status, a missing measurement 0x04. Otherwise the answer is a device blob of the key that the KWP output holds under the KEK of the ECDH result, with the header's fields and the current epoch, or status 0x02. No slot changes.
* REWRAP, from any requester that can ask: a blob that does not open answers its status. A measured one is wrapped again for the measurement of the verified or armed Comb of the standby bank and the keeper asked for, the running or the staged one; where one of these is missing, or the blob is not measured, the answer is 0x08. No slot changes.
* DERIVE: refused with 0x07, 0x06, the status of a missing share, 0x12 for the key length, a label that is not 8 bytes or a context above 32, 0x04 for a missing measurement. Otherwise the USER key of the label and the context goes into the slot with the asked attributes, and its KCV is the answer. Its KEY_ID and generation, which the spec does not state, are free values.
* KCV: refused with 0x07, 0x06 and the status of a missing share; otherwise the answer is the check value of the slot's key, and nothing else changes. An empty slot answers 0x06, which is the model's choice (log entry 79).
* A read of 0x2310/02 by keeper firmware gives the oldest answer behind its tag and status and frees its place; with none ready it gives an empty DOMAIN. Without a keeper session nothing happens.
* The checks of a blob, in order: header and length (0x01), share (its status), epoch (0x03), measurement (0x04), the committed generation of its KEY_ID (0x0F), and the unwrapping with the binder behind the key (0x02). One that passes gives the key with its header's attributes, SRC 3 where flag bit 2 says so and else 0. -/
def Obligations.VaultKeys : Prop :=
  (∀ (s : State) (rq : Nat) (tag : Byte) (st : Nat) (d : Blob),
      vaultAnswer 0 tag st d s = keeperLine 1 { s with vault := { s.vault with answers := s.vault.answers ++ [(tag, st, d)] } } ∧
      (rq ≠ 0 → vaultAnswer rq tag st d s = { s with out := .vault rq tag.toNat st d :: s.out }) ∧
      (mayRequest s 0 = true ↔ s.pwr.hive = true ∧ s.kpr.running = true ∧ s.kpr.recovery = false) ∧
      (mayRequest s 1 = true ↔ s.pwr.hive = true ∧ s.pwr.access = true) ∧ (mayRequest s 4 = true ↔ s.pwr.hive = true ∧ s.pwr.boot ≠ none) ∧
      (rq = 2 ∨ rq = 3 → (mayRequest s rq = true ↔ s.pwr.hive = true)) ∧
      placesTaken s rq = (if rq = 0 then s.vault.answers.length else 0) + (s.vault.repl.filter fun r => r.enrol.isNone && r.requester == rq).length) ∧
  (∀ (s : State) (op : Nat),
      let first (n : Nat) : State := logEvent 8 clsMasked 0x0008 0 (leBytes 1 op) (count (odKey 0x2350 5) { s with vault := { s.vault with upset := n } })
      (s.vault.upset = 0 → lockstep op s = (false, s)) ∧
      (s.vault.upset = 1 → lockstep op s = (false, first 0)) ∧
      (∀ n, s.vault.upset = n + 2 → lockstep op s = (true, logEvent 8 clsUnmasked 0x0024 0 (leBytes 1 op) (count (odKey 0x2350 6) (first n))))) ∧
  (∀ (rq : Fin 5) (tag : Byte) (slot : Nat) (b : Blob), Serves (.vaultLoad rq tag slot b) 0x01 rq tag fun s =>
      if rq ≠ 0 ∧ rq ≠ 4 then (0x07, [], s)
      else if 56 ≤ slot then (0x06, [], s)
      else match openBlob s b with
        | .ok k => (0x00, kcvOf k.key, count (odKey 0x2350 1) (putSlot slot (some k) s))
        | .error c => (c, [], count (odKey 0x2350 2) s)) ∧
  (∀ (rq : Fin 5) (tag : Byte) (slot : Nat), Serves (.vaultClear rq tag slot) 0x02 rq tag (fun s =>
        if rq ≠ 0 ∧ rq ≠ 4 then (0x07, [], s) else if 56 ≤ slot then (0x06, [], s) else (0x00, [], putSlot slot none s)) ∧
      ∀ s : State, slot < 56 → slotAt (putSlot slot none s) slot = none ∧ (∀ j, j ≠ slot → slotAt (putSlot slot none s) j = slotAt s j) ∧
        (putSlot slot none s).lanes.lane.toList.all (fun l => !copiesSlot slot l.k0 && !copiesSlot slot l.k1) = true) ∧
  (∀ (rq : Fin 5) (tag : Byte) (klen : Nat) (usage : Byte) (owner : BitVec 4) (meas : Bool) (id : Word) (slot : Nat),
      Serves (.vaultGenerate rq tag klen usage owner meas id slot) 0x03 rq tag (fun s =>
        if rq ≠ 0 ∧ rq ≠ 4 then (0x07, [], s)
        else if 56 ≤ slot ∧ slot ≠ 0xFF then (0x06, [], s)
        else match shareStatus s, wrapKey s meas with
          | some c, _ => (c, [], s)
          | none, w => if klen ≠ 16 ∧ klen ≠ 24 ∧ klen ≠ 32 then (0x12, [], s) else match w with
            | none => (0x04, [], s)
            | some wk =>
              let r := draw klen s
              let g := free (2 ^ 32) r.2
              let k : KeySlot := ⟨r.1, 2, meas, usage, owner, id, BitVec.ofNat 32 g.1⟩
              (0x00, makeBlob wk meas.toNat s.fuse.epoch k ++ kcvOf k.key, if slot = 0xFF then g.2 else putSlot slot (some k) g.2)) ∧
      ∀ s : State, (draw klen s).1.length = klen ∧ (∃ d, (draw klen s).2 = { s with draws := d }) ∧ ∃ f, (free (2 ^ 32) s).2 = { s with freeCtr := f }) ∧
  (∀ (rq : Fin 5) (tag : Byte) (eph hdr kwp : Blob), Serves (.vaultImport rq tag eph hdr kwp) 0x04 rq tag fun s =>
      if headerGood hdr = false ∨ hdr.length ≠ 32 then (0x01, [], s)
      else match shareStatus s, s.vault.kd, wrapKey s (hdrMeas hdr) with
        | some c, _, _ => (c, [], s)
        | none, none, _ => (0x0E, [], s)
        | none, some _, none => (0x04, [], s)
        | none, some kd, some wk =>
          match (Config.ecdh (importKey s kd) eph).bind fun z => aesKwpInv (kdf z (label "IMKK") (fuseUid ++ binderOf hdr) 256) kwp with
          | none => (0x02, [], s)
          | some p =>
            if p.length = hdrKlen hdr + 16 ∧ p.drop (hdrKlen hdr) = binderOf hdr then
              (0x00, makeBlob wk (hdrFlags hdr) s.fuse.epoch
                ⟨p.take (hdrKlen hdr), 0, hdrMeas hdr, hdrUsage hdr, hdrOwner hdr, hdrKeyId hdr, hdrKgen hdr⟩, s)
            else (0x02, [], s)) ∧
  (∀ (rq : Fin 5) (tag : Byte) (b : Blob) (staged : Bool), Serves (.vaultRewrap rq tag b staged) 0x05 rq tag fun s =>
      match openBlob s b with
      | .error c => (c, [], s)
      | .ok k =>
        match s.comb.standby, (if staged then s.kpr.staged.map (·.2) else some s.kpr.hash), s.vault.kd with
        | some c, some h, some kd =>
          if (s.comb.state = .verified ∨ s.comb.state = .armed) ∧ k.meas = true then
            (0x00, makeBlob (wrpmOf s kd (mrOf h c)) (hdrFlags b) s.fuse.epoch k, s)
          else (0x08, [], s)
        | _, _, _ => (0x08, [], s)) ∧
  (∀ (rq : Fin 5) (tag : Byte) (lbl ctx : Blob) (klen : Nat) (usage : Byte) (owner : BitVec 4) (meas : Bool) (slot : Nat),
      Serves (.vaultDerive rq tag lbl ctx klen usage owner meas slot) 0x06 rq tag fun s =>
        if rq ≠ 0 ∧ rq ≠ 4 then (0x07, [], s)
        else if 56 ≤ slot then (0x06, [], s)
        else match shareStatus s, s.vault.kd with
          | some c, _ => (c, [], s)
          | none, none => (0x0E, [], s)
          | none, some kd =>
            if (klen ≠ 16 ∧ klen ≠ 24 ∧ klen ≠ 32) ∨ lbl.length ≠ 8 ∨ 32 < ctx.length then (0x12, [], s)
            else if meas = true ∧ s.vault.mr = none then (0x04, [], s)
            else
              let key := kdf kd (label "USER") ([BitVec.ofNat 8 s.fuse.epoch] ++ subPad lbl 0 8 ++ ctx ++ (if meas then s.vault.mr.getD [] else [])) (8 * klen)
              let i := free (2 ^ 32) s
              let g := free (2 ^ 32) i.2
              (0x00, kcvOf key, putSlot slot (some ⟨key, 1, meas, usage, owner, BitVec.ofNat 32 i.1, BitVec.ofNat 32 g.1⟩) g.2)) ∧
  (∀ (rq : Fin 5) (tag : Byte) (slot : Nat), Serves (.vaultKcv rq tag slot) 0x08 rq tag fun s =>
      if rq ≠ 0 ∧ rq ≠ 4 then (0x07, [], s)
      else if 56 ≤ slot then (0x06, [], s)
      else match shareStatus s, slotAt s slot with
        | some c, _ => (c, [], s)
        | none, some k => (0x00, kcvOf k.key, s)
        | none, none => (0x06, [], s)) ∧
  (∀ s : State,
      (sessionAt s 15 = none → exec .vaultAnswerRead s = .next s) ∧
      ((sessionAt s 15).isSome = true → s.vault.answers = [] → exec .vaultAnswerRead s = .next { s with out := .odDone 15 [] :: s.out }) ∧
      ((sessionAt s 15).isSome = true → ∀ tag st d rest, s.vault.answers = (tag, st, d) :: rest → exec .vaultAnswerRead s = .next { s with
        vault := { s.vault with answers := rest }, out := .odDone 15 (tag :: BitVec.ofNat 8 st :: d) :: s.out })) ∧
  (∀ (s : State) (b : Blob), openBlob s b =
      if headerGood b = false ∨ b.length ≠ 56 + hdrKlen b then .error 0x01
      else match shareStatus s with
        | some c => .error c
        | none =>
          if hdrEpoch b ≠ s.fuse.epoch then .error 0x03
          else match wrapKey s (hdrMeas b) with
            | none => .error 0x04
            | some wk =>
              if (hdrKgen b).toNat < committedGen s (hdrKeyId b) then .error 0x0F
              else match aesKwpInv wk (b.drop 32) with
                | none => .error 0x02
                | some p =>
                  if p.length = hdrKlen b + 16 ∧ p.drop (hdrKlen b) = (sha384 (b.take 32)).take 16 then
                    .ok ⟨p.take (hdrKlen b), if (hdrFlags b).testBit 2 then 3 else 0, hdrMeas b, hdrUsage b, hdrOwner b, hdrKeyId b, hdrKgen b⟩
                  else .error 0x02)

/-- Replacing a key, enrolling and revoking access keys, and a restart of the vault, on every request and state.
* Steps 1 to 4 of a replacement: with the 4 shadow registers taken it answers 0x0A. Otherwise its pending record is committed; a blob that does not open answers its status, and one with another KCV than the one given 0x09: the pending record is discarded and counted in 0x2350/04. A good one holds its shadow.
* REPLACE: refused with 0x13, 0x07, 0x06, 0x05 for a slot whose replacement is pending, and 0x0C after a second miscompare. One whose steps 1 to 4 fail is answered with their status; an accepted one waits for its commit, unanswered, and the old key stays in its slot.
* The oldest replacement commits; without one nothing happens. Its generation stands for its KEY_ID and 0x2350/03 counts. A REPLACE's shadow becomes the slot's key, the sealed streams of the slot start anew, the generation and their freshness records go into one commit with the pending record, and it is answered 0x00; an enrolment's key becomes the entry of its index, its record goes into the commit, and its write is answered as done.
* What the commit leaves: the slot holds the shadow, no other slot changes, the generation is the KEY_ID's, and the counter and the answers step; an enrolment changes no slot.
* A sealed stream in use whose SLOT names the slot starts anew: FRESH 0, RESV 65,536 where it transmits and else 0, STATE 1; every other stream stays, and nothing but the streams changes.
* A write to 0x2330/01. Without a session nothing happens; one that the dictionary's checks refuse is aborted with their code; any other is the session's last request and goes to the vault.
* The vault's checks of an enrolment: 0x13 with its places taken, 0x06 above index 31, 0x05 for an index whose enrolment is pending, 0x0C after a second miscompare; a blob that does not open answers its status, counted in 0x2350/02; a KEY_ID at another index 0x06, a taken index 0x10; then steps 1 to 4 of a replacement. An accepted one waits for its commit with its kind and zones. A refusal is logged with its status and aborts the write: 0x08000022, 0x06090030 or 0x08000000 by the status, else busy.
* With a place, a free index, a free shadow register and no upset, a blob that opens is accepted: the access keys and the slots stay as they are until the commit.
* A revocation takes the entry of its KEY_ID, its blob and its store position away in one commit and leaves every other entry; an identifier that no entry has is refused with 0x06090030.
* With the Hive die on the vault restarts from its ROM: what was running answers 0x0C and its pending record is discarded, KD is formed again from the AO share register in PROVISIONED, FIELD and DEBUG, the pointer is 0, 0x2350/06 counts once and 0x2350/04 once per replacement, and event 0x0025 is logged with core 0x11 and its trap code; the core restarts. The third restart within 60 s makes a cold boot due with cause 2. With it off nothing happens. -/
def Obligations.KeyReplacement : Prop :=
  (∀ (s : State) (j target : Nat) (b : Blob) (kcv : Option Word),
      let s1 := openJournal j (leBytes 4 target ++ sub b 12 8 ++ sha384 b ++ leBytes 4 (kcv.getD 0).toNat) s
      let gone (c : Nat) : Except (Nat × State) (KeySlot × State) := .error (c, count (odKey 0x2350 4) (discardJournal j s1))
      (4 ≤ s.vault.repl.length → beginReplace j target b kcv s = .error (0x0A, s)) ∧
      (s.vault.repl.length < 4 → ∀ c, openBlob s1 b = .error c → beginReplace j target b kcv s = gone c) ∧
      (s.vault.repl.length < 4 → ∀ k v, openBlob s1 b = .ok k → kcv = some v → v ≠ BitVec.ofNat 32 (ofLe (kcvOf k.key)) → beginReplace j target b kcv s = gone 0x09) ∧
      (s.vault.repl.length < 4 → ∀ k, openBlob s1 b = .ok k → (∀ v, kcv = some v → v = BitVec.ofNat 32 (ofLe (kcvOf k.key))) →
        beginReplace j target b kcv s = .ok (k, s1))) ∧
  (∀ (s : State) (rq : Fin 5) (tag : Byte) (slot : Nat) (b : Blob) (kcv : Word),
      let g := lockstep 0x07 { s with vault := { s.vault with pointer := (rq.val + 1) % 5 } }
      exec (.vaultReplace rq tag slot b kcv) s = .next { (
        if mayRequest s rq = false then s
        else if 4 ≤ placesTaken s rq then vaultAnswer rq tag 0x13 [] s
        else if rq ≠ 0 ∧ rq ≠ 4 then vaultAnswer rq tag 0x07 [] s
        else if 56 ≤ slot then vaultAnswer rq tag 0x06 [] s
        else if ∃ r ∈ s.vault.repl, r.enrol = none ∧ r.target = slot then vaultAnswer rq tag 0x05 [] s
        else if g.1 then vaultAnswer rq tag 0x0C [] g.2
        else match beginReplace slot slot b (some kcv) g.2 with
          | .error e => vaultAnswer rq tag e.1 [] e.2
          | .ok r => { r.2 with vault := { r.2.vault with repl := r.2.vault.repl ++ [⟨rq, tag, slot, none, r.1, b⟩] } }) with pending := s.pending }) ∧
  (∀ s : State, (s.vault.repl = [] → exec .replaceCommitted s = .next s) ∧
      ∀ r rest, s.vault.repl = r :: rest →
        let gen : LogRec := ⟨0x11, r.shadow.keyId.toNat, 0, false, false, false, leBytes 4 r.shadow.kgen.toNat⟩
        let u := count (odKey 0x2350 3) { s with vault := { s.vault with repl := rest, gens := s.vault.gens.filter (·.1 ≠ r.shadow.keyId) ++ [(r.shadow.keyId, r.shadow.kgen)] } }
        let act (t : State) : Prop := exec .replaceCommitted s = .next { t with pending := s.pending }
        (r.enrol = none → act (
          let v := resetStreams r.target u
          vaultAnswer r.requester r.tag 0x00 [] (putSlot r.target (some r.shadow)
            (commitJournal r.target (gen :: (resetGroups r.target u).map fun g => ⟨0x20, g, 0, false, false, false, groupBytes v g⟩) v)))) ∧
        (∀ kind zones slot, r.enrol = some (kind, zones, slot) → act (
          let e : KeyEntry := ⟨r.target, r.shadow.keyId.toNat, kind, zones, some r.shadow.key⟩
          let v := putKey e { u with vault := { u.vault with accessBlobs := u.vault.accessBlobs.filter (·.1 ≠ r.target) ++ [(r.target, r.blob)] } }
          let w := commitJournal (64 + r.target) [gen, ⟨0x12, r.target, 0, false, false, false, accessRecord e r.blob⟩] v
          { w with out := .odDone slot [] :: w.out }))) ∧
  ((∀ (s : State) (r : Replacement) (rest : List Replacement), s.vault.repl = r :: rest → r.enrol = none → r.target < 56 →
      Completes .replaceCommitted s fun t => slotAt t r.target = some r.shadow ∧ t.vault.repl = rest ∧ committedGen t r.shadow.keyId = r.shadow.kgen.toNat ∧
        (∀ j, j ≠ r.target → slotAt t j = slotAt s j) ∧ val t (odKey 0x2350 3) = min (val s (odKey 0x2350 3) + 1) 0xFFFFFFFF ∧
        (r.requester = 0 → t.vault.answers = s.vault.answers ++ [(r.tag, 0, [])])) ∧
    (∀ (s : State) (r : Replacement) (rest : List Replacement) (kind zones slot : Nat), s.vault.repl = r :: rest → r.enrol = some (kind, zones, slot) →
      Completes .replaceCommitted s fun t => t.vault.repl = rest ∧ committedGen t r.shadow.keyId = r.shadow.kgen.toNat ∧ t.vault.slots = s.vault.slots ∧
        (⟨r.target, r.shadow.keyId.toNat, kind, zones, some r.shadow.key⟩ : KeyEntry) ∈ t.lf.keys ∧ (r.target, r.blob) ∈ t.vault.accessBlobs ∧
        t.out = .odDone slot [] :: s.out)) ∧
  (∀ (s : State) (slot j : Nat), (s.sig.streams.map (·.1)).Pairwise (· < ·) →
      let x := streamAt s j
      let hit := (mapGet j s.sig.streams).isSome = true ∧ streamSlot s j = slot ∧ x.state ≠ 0
      let t := resetStreams slot s
      t = { s with sig := { s.sig with streams := t.sig.streams } } ∧
      (hit → streamAt t j = { x with fresh := 0, resv := if x.transmit then 65536 else 0, state := 1, accepts := 0, waiting := false }) ∧ (¬ hit → streamAt t j = x)) ∧
  (∀ (s : State) (slot : Fin 16) (index : Nat) (kind zones : Byte) (b : Blob),
      let v : OdValue := .bytes (b ++ [kind, zones, BitVec.ofNat 8 index])
      (sessionAt s slot = none → exec (.enrol slot index kind zones b) s = .next s) ∧
      (∀ x e, sessionAt s slot = some x → checkedWrite s x 0x2330 1 v true (fun _ _ => .ok s) = .error e →
        exec (.enrol slot index kind zones b) s = .next { touchSession slot s with out := .odAbort slot e :: s.out }) ∧
      (∀ n d, WriteReady s slot 0x2330 1 v n d →
        exec (.enrol slot index kind zones b) s = .next { enrolRequest slot index kind zones b (touchSession slot s) with pending := s.pending })) ∧
  (∀ (s : State) (slot : Fin 16) (index : Nat) (kind zones : Byte) (b : Blob),
      let g := lockstep 0x0D { s with vault := { s.vault with pointer := 1 } }
      let code (c : Nat) : Nat := if c ∈ [0x04, 0x05, 0x08, 0x0E] then abState else if c ∈ [0x06, 0x10] then abRange else if c ∈ [0x01, 0x02, 0x03, 0x0F] then abProof else abBusy
      let refuse (c : Nat) (t : State) : State := logEvent 8 clsRefusal c 0 (leBytes 4 (code c)) { t with out := .odAbort slot (code c) :: t.out }
      let bad (k : KeySlot) : Option Nat := match s.lf.keys.find? (·.id == k.keyId.toNat) with
        | some e => if e.index = index then none else some 0x06
        | none => if s.lf.keys.any (·.index == index) then some 0x10 else none
      enrolRequest slot index kind zones b s =
        if 4 ≤ placesTaken s 0 then refuse 0x13 s
        else if 31 < index then refuse 0x06 s
        else if ∃ r ∈ s.vault.repl, r.enrol.isSome ∧ r.target = index then refuse 0x05 s
        else if g.1 then refuse 0x0C g.2
        else match openBlob g.2 b with
          | .error c => refuse c (count (odKey 0x2350 2) g.2)
          | .ok k => match bad k with
            | some c => refuse c g.2
            | none => match beginReplace (64 + index) index b none g.2 with
              | .error e => refuse e.1 e.2
              | .ok r => { r.2 with vault := { r.2.vault with repl := r.2.vault.repl ++ [⟨0, 0, index, some (kind.toNat, zones.toNat, slot), r.1, b⟩] } }) ∧
  (∀ (s : State) (slot : Fin 16) (index : Nat) (kind zones : Byte) (b : Blob) (n : Nat) (v : Blob), WriteReady s slot 0x2330 1 (.bytes (b ++ [kind, zones, BitVec.ofNat 8 index])) n v →
      placesTaken s 0 < 4 → index < 32 → s.vault.upset = 0 → s.vault.repl.length < 4 → s.vault.repl.all (fun r => r.enrol.isNone || r.target ≠ index) = true →
      Completes (.enrol slot index kind zones b) s fun t => t.lf = s.lf ∧ t.vault.slots = s.vault.slots ∧
        (∀ k, openBlob s b = .ok k → enrolRefusal s k.keyId.toNat index = none → t.vault.repl = s.vault.repl ++ [⟨0, 0, index, some (kind.toNat, zones.toNat, slot), k, b⟩] ∧ t.out = s.out) ∧
        (∀ c, openBlob s b = .error c → t.vault = { s.vault with pointer := 1 } ∧ t.out = .odAbort slot (statusAbort c) :: s.out)) ∧
  (∀ (slot : Fin 16) (id : Word), Writes (.revokeKey slot id) slot 0x2330 2 (.num 4 id.toNat) (fun _ => true) fun s n _ =>
      match s.lf.keys.find? (·.id == n) with
      | none => .error abRange
      | some e => .ok fun t => t = deleteS 0x12 e.index { s with
          lf := { s.lf with keys := s.lf.keys.filter (·.id ≠ n) }
          vault := { s.vault with accessBlobs := s.vault.accessBlobs.filter (·.1 ≠ e.index) } }) ∧
  (∀ s : State,
      let fail (s : State) (r : Replacement) : State := match r.enrol with
        | none => vaultAnswer r.requester r.tag 0x0C [] (discardJournal r.journal s)
        | some (_, _, slot) => refuseAccess slot 0x0C (discardJournal r.journal s)
      let times := (s.kpr.vaultTimes.filter fun t => nowPs s < t + 60 * secPs) ++ [nowPs s]
      let u := countN (odKey 0x2350 4) s.vault.repl.length (s.vault.repl.foldl fail (count (odKey 0x2350 6) s))
      let kd := if s.lc.state ∈ [1, 2, 3] ∧ s.vault.aoShare ≠ zeros 32 then some (xorB fuseRoot s.vault.aoShare) else none
      let v := logEvent 8 clsUnmasked 0x0025 0 [0x11, BitVec.ofNat 8 s.vcore.tcode.toNat] { u with
        vault := { u.vault with repl := [], attesting := none, kd := kd, pointer := 0 }, kpr := { u.kpr with vaultTimes := times } }
      let w : State := { v with vcore := { coreid := 0x11, status := 9 } }
      (s.pwr.hive = false → exec .vaultRestart s = .next s) ∧
      (s.pwr.hive = true → exec .vaultRestart s = .next { (if 3 ≤ times.length then bootDue 2 w else w) with pending := s.pending }) ∧
      (s.pwr.hive = true → Completes .vaultRestart s fun t => t.vault.repl = [] ∧ t.vault.attesting = none ∧ t.vault.slots = s.vault.slots ∧ t.lanes = s.lanes ∧ t.lf = s.lf ∧
        t.vault.kd = kd ∧ val t (odKey 0x2350 6) = min (val s (odKey 0x2350 6) + 1) 0xFFFFFFFF ∧ t.vcore.pc = 0 ∧ t.pwr.bootDue = (if 3 ≤ times.length then some 2 else s.pwr.bootDue)))

/-- MACsec key agreement in the vault, on every request. A key made here has KEY_ID and generation free, and where MKA installs a SAK (port, AN, channel, SCI) is free too: the spec gives the keeper no interface that states them.
* A key that MKA makes goes into its slot with SRC 3, unmeasured, with the given usage and owner.
* A SAK becomes the next transmit SA of a port, with PN 1, and the next receive SA of one channel, with its first PN 0: the older transmit SA stays, no longer in use, a channel keeps its newest SA beside the new one, and the port's exhaustion ends. On a port that is not fitted nothing is installed.
* MKA_KEYS: refused with 0x07, 0x06 for a slot from 56 on, the status of a missing share, and 0x07 for a CAK that the keeper does not own or that may not derive. Otherwise the ICK (MAC usages) and the KEK (wrap and unwrap) of IEEE 802.1X go into their slots, owned by keeper requests, and the answer is their KCVs.
* MKA_ICV: refused with 0x06, the status of a missing share, and 0x07 for a requester without an OWNER bit and for an ICK it does not own or that may not generate MACs. Otherwise the answer is the CMAC of the MKPDU, and nothing else changes.
* MKA_UNWRAP: refused with 0x07, 0x06, the status of a missing share, 0x07 for a KEK that R333 refuses, and 0x02 where the SAK does not unwrap to an AES key. Otherwise the SAK goes into the slot with the encrypt and decrypt usages, owned by the data plane, is installed on its port, and the answer is its KCV.
* MKA_NEWSAK: refused with 0x07, 0x06, the status of a missing share, 0x07 for a KEK that R333 refuses, and 0x12 for the length. Otherwise a new SAK of the asked length goes into the slot and onto its port in the same way; the answer is the SAK wrapped under the KEK and its KCV. -/
def Obligations.MkaKeys : Prop :=
  (∀ (s : State) (slot : Nat) (key : Blob) (usage : Byte) (owner : BitVec 4), ∃ id g : Word,
      mkaSlot slot key usage owner s = putSlot slot (some ⟨key, 3, false, usage, owner, id, g⟩) { s with freeCtr := s.freeCtr + 2 }) ∧
  (∀ (s : State) (slot : Nat), ∃ p an ch sci : Nat, p < 6 ∧ an < 4 ∧ ch < 4 ∧
      let u : State := { s with freeCtr := s.freeCtr + 4 }
      let newest (l : List SaSt) : List SaSt := l.drop (l.length - 1)
      (portFitted s (18 + p) = false → installSa slot s = u) ∧
      (portFitted s (18 + p) = true → installSa slot s = modPort (18 + p) (fun x => { x with eth := { x.eth with
        pnExhausted := false, pnLogged := false
        sas := (newest (x.eth.sas.filter (·.transmit))).map (fun a => { a with active := false }) ++ [⟨true, 0, 0, an, slot, 1, true⟩] ++
          (x.eth.sas.filter fun a => !a.transmit && a.channel ≠ ch) ++ newest (x.eth.sas.filter fun a => !a.transmit && a.channel == ch) ++ [⟨false, ch, sci, an, slot, 0, true⟩] } }) u)) ∧
  (∀ (rq : Fin 5) (tag : Byte) (cak : Nat) (ckn : Blob) (ick kek : Nat), Serves (.mkaKeys rq tag cak ckn ick kek) 0x09 rq tag fun s =>
      if rq ≠ 0 ∧ rq ≠ 4 then (0x07, [], s)
      else if 56 ≤ cak ∨ 56 ≤ ick ∨ 56 ≤ kek then (0x06, [], s)
      else match shareStatus s, slotFor s cak 0 14 with
        | some c, _ => (c, [], s)
        | none, none => (0x07, [], s)
        | none, some k =>
          let a := mkaKdf k.key (label "IEEE8021 ICK") (subPad ckn 0 16) (8 * k.key.length)
          let b := mkaKdf k.key (label "IEEE8021 KEK") (subPad ckn 0 16) (8 * k.key.length)
          (0x00, kcvOf a ++ kcvOf b, mkaSlot kek b 0x30 1 (mkaSlot ick a 0x0C 1 s))) ∧
  (∀ (rq : Fin 5) (tag : Byte) (ick : Nat) (pdu : Blob), Serves (.mkaIcv rq tag ick pdu) 0x0A rq tag fun s =>
      if 56 ≤ ick then (0x06, [], s)
      else match shareStatus s with
        | some c => (c, [], s)
        | none => match (if rq = 0 then slotFor s ick 0 10 else if rq = 1 then slotFor s ick 2 10 else none) with
          | none => (0x07, [], s)
          | some k => (0x00, aesCmac k.key pdu, s)) ∧
  (∀ (rq : Fin 5) (tag : Byte) (kek : Nat) (w : Blob) (slot : Nat), Serves (.mkaUnwrap rq tag kek w slot) 0x0B rq tag fun s =>
      if rq ≠ 0 ∧ rq ≠ 4 then (0x07, [], s)
      else if 56 ≤ kek ∨ 56 ≤ slot then (0x06, [], s)
      else match shareStatus s, slotFor s kek 0 13 with
        | some c, _ => (c, [], s)
        | none, none => (0x07, [], s)
        | none, some k => match (aesKwInv k.key w).filter (fun p => aesKeyLen p.length) with
          | none => (0x02, [], s)
          | some p => (0x00, kcvOf p, installSa slot (mkaSlot slot p 0x03 2 s))) ∧
  (∀ (rq : Fin 5) (tag : Byte) (kek klen slot : Nat), Serves (.mkaNewsak rq tag kek klen slot) 0x0C rq tag fun s =>
      if rq ≠ 0 ∧ rq ≠ 4 then (0x07, [], s)
      else if 56 ≤ kek ∨ 56 ≤ slot then (0x06, [], s)
      else match shareStatus s, slotFor s kek 0 12 with
        | some c, _ => (c, [], s)
        | none, none => (0x07, [], s)
        | none, some k =>
          if klen ≠ 16 ∧ klen ≠ 24 ∧ klen ≠ 32 then (0x12, [], s)
          else
            let sak := (draw klen s).1
            (0x00, aesKw k.key sak ++ kcvOf sak, installSa slot (mkaSlot slot sak 0x03 2 { s with draws := s.draws + 1 })))

/-- Attestation: every one steps the attestation sequence, counter 2, whether or not its signature is abandoned.
* An attestation steps counter 2 and signs the payload under the algorithm set: ES256 with a drawn k for 1, ML-DSA-65 with a drawn 32 bytes for 2, both in an array for 3. Where the vault abandons an ML-DSA signature there is no result. Each COSE_Sign1 carries alg and kid in its protected header.
* ATTEST, from every requester that can ask and in every state of the life cycle, answers the result of the nonce and the algorithm set, or 0x0C where the signature was abandoned; a nonce above 64 bytes or an algorithm set outside 1-3 answers 0x11, which is the model's choice of a status (log entry 79).
* A nonce of at most 64 bytes written to 0x2340/01 starts an attestation with the algorithm set of 0x2340/03; its result reads empty until it is ready. A longer one is refused with 0x06070010.
* The attestation under way is signed: its result, empty where the signature was abandoned, stands in 0x2340/02, or answers the NFC reader that asked with 0x9000; the status words of an abandoned one, which the spec does not state, are free. With none under way nothing happens. -/
def Obligations.Attestation : Prop :=
  (∀ (s : State) (nonce : Blob) (kind : Nat),
      let u := counterAdd 2 1 s
      let p := attestPayload nonce kind u
      let h1 := cborMap [(1, cborNeg 7), (4, cborBytes ((keyHash (Config.ecPublic idEcKey)).take 8))]
      let h2 := cborMap [(1, cborNeg 49), (4, cborBytes ((keyHash (Config.mldsaPublic idMlSeed)).take 8))]
      let es (v : State) : Blob := coseSign1 h1 p (Config.ecdsaSign idEcKey (draw 32 v).1 (coseSigned h1 p))
      let ml (v : State) : Option Blob := (Config.mldsaSign idMlSeed (draw 32 v).1 (coseSigned h2 p)).map (coseSign1 h2 p)
      attestation nonce 1 kind s = (some (es u), (draw 32 u).2) ∧ attestation nonce 2 kind s = (ml u, (draw 32 u).2) ∧
      attestation nonce 3 kind s = ((ml (draw 32 u).2).map fun m => cborArray [es u, m], (draw 32 (draw 32 u).2).2)) ∧
  (∀ (rq : Fin 5) (tag : Byte) (nonce : Blob) (algs : Byte), Serves (.attest rq tag nonce algs) 0x0E rq tag fun s =>
      if 64 < nonce.length ∨ algs.toNat = 0 ∨ 3 < algs.toNat then (0x11, [], s)
      else
        let r := attestation nonce algs.toNat 0 s
        match r.1 with
        | some b => (0x00, b, r.2)
        | none => (0x0C, [], r.2)) ∧
  (∀ (slot : Fin 16) (nonce : Blob), Writes (.attestationNonceWrite slot nonce) slot 0x2340 1 (.bytes nonce) (fun _ => true) fun s _ b =>
      if 64 < b.length then .error abType
      else .ok fun t => t = { s with vault := { s.vault with attesting := some (b, val s (odKey 0x2340 3), .object), attestResult := [] } }) ∧
  (∀ s : State, (s.vault.attesting = none → exec .attestationReady s = .next s) ∧
      ∀ nonce algs who, s.vault.attesting = some (nonce, algs, who) →
        let r := attestation nonce algs 0 s
        let act (t : State) : Prop := exec .attestationReady s = .next { t with pending := s.pending }
        (who = .object → act { r.2 with vault := { r.2.vault with attesting := none, attestResult := r.1.getD [] } }) ∧
        (∀ b, who = .nfc → r.1 = some b → act { r.2 with vault := { r.2.vault with attesting := none }, nfc := { r.2.nfc with attesting := none }, out := .nfc (b ++ [0x90, 0x00]) :: r.2.out }) ∧
        (who = .nfc → r.1 = none → ∃ v < 2 ^ 16, act { r.2 with
          vault := { r.2.vault with attesting := none }, nfc := { r.2.nfc with attesting := none }, out := .nfc (beBytes 2 v) :: r.2.out, freeCtr := r.2.freeCtr + 1 }))

/-- Keeper requests to the cipher lanes on every operation, mode, key and lane, the direct keys and a lane's Enable.
* A request of keeper firmware while it runs: with 16 waiting it is answered 0x13, a lane of 12 to 14 is answered 0x06. A lane of 0xF is the lowest in service; without one in service, or with the lane named out of service, it waits in the queue. A lane in service answers what refuses it, and otherwise it joins the lane's dynamic requests. While the keeper does not run nothing happens.
* What refuses a request: a mode the operation does not have (0x12); a slot from 56 on (0x06) or one that R333 refuses (0x07); a key that is no AES key, XTS without KEY2 and KEY3 of one length of 16 or 32, another mode with both (0x12); AAD above 16,384 bytes, CBC data that is no multiple of 16, XTS data that is empty or no multiple of its unit, a tag below 8 bytes (for CCM a nonce outside 7-13), and GCM or CCM decryption above 16,384 bytes (0x11).
* A read of 0x2410/02 by the running keeper gives the oldest answer, or an empty DOMAIN where there is none; while it does not run nothing happens.
* A write of 16, 24 or 32 bytes, or of none, sets or clears KEY2 or KEY3 of a lane; another length is refused with 0x06070010.
* A direct write takes effect at once on a register that no operation uses, while one does it waits, the later of two standing, and takes effect when the operation has completed. An operation uses KEY2 where its KSEL is 0x80 or 0x81, KEY3 where it is 0x81.
* Enable 0 of a running lane that an active Comb needs as its last standby is refused with 0x08000022. Otherwise Enable is kept: with 0 a running lane stops and its waiting passes go to its standby lane, a pending one stops, one at fault is stopped; with anything else a stopped lane or one at fault is back in service, or pending while its test runs, and a stopping one is pending.
* Where the passes that had not begun on a lane go: with a standby lane they join its waiting passes and that lane takes its runs; without one they become dynamic requests of the lowest lane in service; without that they stay. A lane back in service has its own runs again, and the requests that waited for a lane are issued in order. -/
def Obligations.LaneRequests : Prop :=
  (∀ (c : LaneReq → Instr) (op : Nat), (c = .laneEncrypt ∧ op = 1) ∨ (c = .laneDecrypt ∧ op = 2) ∨ (c = .laneMacGenerate ∧ op = 3) ∨ (c = .laneMacVerify ∧ op = 4) →
      ∀ (s : State) (r : LaneReq),
        let answer (e : Nat) : State := { s with lanes := { s.lanes with answers := s.lanes.answers ++ [(r.tag, e, [])] } }
        let lane : Option Nat := if r.lane = 0xF then (List.range 12).find? (laneInService s) else if laneInService s r.lane.toNat then some r.lane.toNat else none
        exec (c r) s = .next { (
          if s.kpr.running = false then s
          else if 16 ≤ laneQueued s then answer 0x13
          else if 12 ≤ r.lane.toNat ∧ r.lane ≠ 0xF then answer 0x06
          else match lane with
            | none => { s with lanes := { s.lanes with queue := s.lanes.queue ++ [(op, r, false)] } }
            | some l => match laneRefuses s l op r with
              | some e => answer e
              | none => addDynamic l { kind := .keeper, requester := 5, frame := 0, left := (r.aad.length + r.data.length + 15) / 16 + 1, req := some r, op := op } s) with pending := s.pending }) ∧
  (∀ (s : State) (l op : Nat) (r : LaneReq),
      let m := r.mode.toNat
      let tlen := if r.tlen = 0 then 16 else r.tlen.toNat
      let fits := if op ≤ 2 then m ∈ [1, 2, 3, 6, 7] else m = 4 ∨ m = 5
      (¬ fits → laneRefuses s l op r = some 0x12) ∧
      (fits → ∀ e, laneKeys s l op r = .error e → laneRefuses s l op r = some e) ∧
      (fits → ∀ k1 k2, laneKeys s l op r = .ok (k1, k2) → laneRefuses s l op r =
        if k1.length ≠ 16 ∧ k1.length ≠ 24 ∧ k1.length ≠ 32 then some 0x12
        else if m = 7 ∧ (r.ksel ≠ 0x81 ∨ k1.length ≠ k2.length ∨ k1.length = 24) then some 0x12
        else if m ≠ 7 ∧ r.ksel = 0x81 then some 0x12
        else if 16384 < r.aad.length ∨ (m = 1 ∧ r.data.length % 16 ≠ 0) ∨ (m = 7 ∧ (r.data = [] ∨ r.data.length % (if r.unit4096 then 4096 else 512) ≠ 0)) ∨
          ((m = 3 ∨ m = 4 ∨ m = 5) ∧ tlen < 8) ∨ (m = 6 ∧ (tlen < 7 ∨ 13 < tlen)) ∨ (op = 2 ∧ (m = 3 ∨ m = 6) ∧ 16384 < r.data.length) then some 0x11
        else none) ∧
      laneKeys s l op r = (
        if r.ksel = 0x80 then .ok (((laneAt s l).k2.map (·.key)).getD [], [])
        else if r.ksel = 0x81 then .ok (((laneAt s l).k2.map (·.key)).getD [], ((laneAt s l).k3.map (·.key)).getD [])
        else if 56 ≤ r.ksel.toNat then .error 0x06
        else match slotFor s r.ksel.toNat 0 (7 + op) with
          | some k => .ok (k.key, [])
          | none => .error 0x07)) ∧
  (∀ s : State, (s.kpr.running = false → exec .laneAnswerRead s = .next s) ∧
      (s.kpr.running = true → s.lanes.answers = [] → exec .laneAnswerRead s = .next { s with out := .odDone 15 [] :: s.out }) ∧
      (s.kpr.running = true → ∀ t c d rest, s.lanes.answers = (t, c, d) :: rest → exec .laneAnswerRead s = .next { s with lanes := { s.lanes with answers := rest }, out := .lane t.toNat c d :: s.out })) ∧
  (∀ (l : Fin 12) (key3 : Bool) (key : Blob), Writes (.laneKeyWrite l key3 key) 15 (0x2480 + l) (1 + key3.toNat) (.bytes key) (fun _ => true) fun s _ b =>
      if b = [] ∨ b.length = 16 ∨ b.length = 24 ∨ b.length = 32 then .ok fun t => t = modLane l (fun x => x.writeKey key3 b) s else .error abType) ∧
  (∀ (x : Lane) (key3 : Bool) (b : Blob),
      let k : Option LaneKey := if b = [] then none else some ⟨b, none⟩
      (usesDirect x key3 = true ↔ ∃ p r, x.dynamic = some p ∧ p.req = some r ∧ (r.ksel = 0x81 ∨ (key3 = false ∧ r.ksel = 0x80))) ∧
      (usesDirect x key3 = false → x.writeKey key3 b = if key3 then { x with k3 := k } else { x with k2 := k }) ∧
      (usesDirect x key3 = true → x.writeKey key3 b = if key3 then { x with wait3 := some b } else { x with wait2 := some b }) ∧
      (x.wait2 = some b → x.applyWrites.k2 = k) ∧ (x.wait3 = some b → x.applyWrites.k3 = k) ∧ (x.wait2 = none → x.applyWrites.k2 = x.k2) ∧ (x.wait3 = none → x.applyWrites.k3 = x.k3) ∧
      x.applyWrites.wait2 = none ∧ x.applyWrites.wait3 = none) ∧
  (∀ (slot : Fin 16) (l : Fin 12) (v : Nat), Writes (.laneEnableWrite slot l v) slot (0x2480 + l) 3 (numFor (0x2480 + l) 3 v) (fun _ => true) fun s n _ =>
      let u := keepVal (odKey (0x2480 + l) 3) n s
      let set (st : FnState) : State := modLane l (fun x => { x with st := st }) u
      if n = 0 ∧ (laneAt s l).st = .running ∧ s.comb.active ≠ none ∧ standbyOther s l = none then .error abState
      else .ok fun t => t =
        if n = 0 then match (laneAt s l).st with
          | .running => moveWaiting l (standbyOther s l) (set .stopping)
          | .pending => set .stopping
          | .fault => set .stopped
          | _ => u
        else match (laneAt s l).st with
          | .stopped | .fault => if bistOn s (0x20 + l) then set .pending else laneBack l u
          | .stopping => set .pending
          | _ => u) ∧
  (∀ (s : State) (l d : Nat),
      let x := laneAt s l
      let clear (t : Option Nat) (u : State) : State := modLane l (fun y => { y with waitRes := [], waitDyn := [], takenBy := t }) u
      moveWaiting l (some d) s = startDynamic d (clear (some d) (modLane d (fun y => { y with waitRes := y.waitRes ++ x.waitRes, waitDyn := y.waitDyn ++ x.waitDyn }) s)) ∧
      ((List.range 12).find? (laneInService s) = some d → moveWaiting l none s = startDynamic d (clear none (modLane d (fun y => { y with waitDyn := y.waitDyn ++ x.waitRes ++ x.waitDyn }) s))) ∧
      ((List.range 12).find? (laneInService s) = none → moveWaiting l none s = modLane l (fun y => { y with takenBy := none }) s) ∧
      (let u := modLane l (fun x => { x with st := .running, returning := false, takenBy := none, hold := [] }) s
       laneBack l s = startDynamic l (s.lanes.queue.foldl (fun s q => issueLaneReq q.1 q.2.1 q.2.2 s) { u with lanes := { u.lanes with queue := [] } })))

/-- The passes of a cipher lane: how they are asked for, start, run and end, what they release, and how they survive a miscompare.
* A request for a frame that is not the whole frame at the head of its F29 queue, still untaken and of its requester's port, changes nothing. One that needs a MACsec SA whose PN space is spent or that is absent marks the port's exhaustion; a plaintext frame above 16,351 bytes to protect is dropped and counted in base + 0x07/05. Any other leaves the queue and joins the lane R361 gives it, as a reserved or as a dynamic pass, a MACsec transmission with the next PN; with every lane out of service it stays.
* What a frame at F29 needs. With no next port it is a MACsec frame received: its pass is asked for where its SA has a slot that R333 admits, and where it has no SA, so that it is counted. With one it is a sealed PDU, to verify for an internal port and to seal for another; or a plaintext frame to protect, where the port's SA has PNs left and a key of its suite.
* A dynamic request waits at its lane; the lane starts one where both contexts are free and it is in service: the requester at or next above the pointer, which moves past it, and of that requester the oldest pass. A reserved pass waits at its lane, and starts at once within a run of the lane whose reserved context is free.
* At the first slot of a run of a lane, or of the lane that took its runs over, the oldest waiting reserved pass starts; with the reserved context busy the wait is counted in 0x2420/07, and logged at most once per 100 ms. Without a run in this slot, without a lane for it or without a waiting pass nothing happens.
* A good block of the running context, the reserved one ahead of the dynamic, leaves one block fewer and counts one for the mask generator; a miscompare takes the lane out of service. With no context running nothing happens.
* A miscompare counts in 0x2420/02 and at the lane, and the lane leaves service for its tests with both contexts empty. With another lane in service free of reserved slots, event 0x0007 names both and is counted in 0x2420/03, the waiting passes move there, and the pass goes on there in the reserved context as it stood, at once or ahead of the waiting ones. Without one the pass is abandoned: 0x0023 is logged and counted in 0x2420/04, a keeper request answers 0x0C, a frame is dropped, and the waiting passes move on. A dynamic pass suspended beside it waits again first.
* The pass of a context ends: without one, while it is suspended, and while an earlier MACsec frame of its port and direction has not been released, nothing happens. Otherwise the context is free, its blocks count for the mask generator, 0x2420/01 and the lane's own count step, a keeper request is answered and the direct keys that waited take effect, a frame goes on, and the lane's next pass runs.
* A keeper's dynamic pass ends: its output goes to its destination, its status and tag bytes join the answers, and the context is free; a failed tag releases nothing and answers 0x02, counted in 0x2420/08 for a decryption.
* What a request computes: CBC, CTR and XTS in both directions; GCM and CCM with their tag, CCM's of 16 bytes; GMAC and CMAC over AAD and data with a tag of TLEN bytes. A tag that does not match gives 0x02 and no output.
* What a frame's pass releases: a sealed frame to verify goes to its internal port with its verdict; a sealed one to send goes on with its MAC, or, where R333 refuses its slot, is suppressed, logged and counted in 0x3A01/04; a protected frame received goes where its plaintext's filters say; a frame to protect goes to its port, counted in base + 0x07/04.
* A protected frame received: without an SA or a key that R333 admits for it, or with a bad ICV, it is counted in base + 0x07/02, the bad ICV in 0x2420/08 too; one below the replay window in base + 0x07/03. A good one is counted in base + 0x07/01, raises its SA's PN, and goes as a new frame where the filters of its port say, or is counted in base + 0x08/05.
* Tests that pass bring the lane back at the next hyperperiod boundary; tests that fail leave it at fault; a lane that is not under test does not change.
* After 4,096 blocks a healthy TRNG reseeds the mask generator. A failed health test is counted in 0x2420/06, its blocks begin again, and it is logged once until the next good one. Before 4,096 blocks nothing happens. -/
def Obligations.LanePasses : Prop :=
  (∀ (s : State) (q : PassReq),
      let act (t : State) : Prop := exec (.cipherPassRequest q) s = .next { t with pending := s.pending }
      (frameAt s q.frame = none → act s) ∧
      ∀ f, frameAt s q.frame = some f →
        let ready := f.outPort = 29 ∧ f.taken = false ∧ frameReady s f.id = true ∧ (queueAt s f.queue).frames.head? = some f.id ∧ (4 ≤ q.requester.val ∨ f.inPort = 24 + q.requester.val)
        let n := f.next.getD 0
        (¬ ready → act s) ∧
        (ready → passKind s f = none → act (match f.next with
          | some o => if o < 24 ∧ (∀ a, txSa s o = some a → lastPn s o < a.pn) then modEth o (fun e => { e with pnExhausted := true }) s else s
          | none => s)) ∧
        ∀ k, ready → passKind s f = some k →
          let mac := ∃ slot an pn, k = .macTx slot an pn
          let long := mac ∧ 16351 < f.bytes.length
          (long → act (logEvent (16 + n) clsPartner 0 (pk n 7 5) [] (count (pk n 7 5) (dropFrame f.id (consumeAtF29 f.id s))))) ∧
          (¬ long → (passLane s f k).1 = none → act (passLane s f k).2) ∧
          ∀ home l res, ¬ long → (passLane s f k).1 = some (home, l, res) →
            let p : LanePass := { kind := k, requester := q.requester, frame := f.id, left := (f.bytes.length + 15) / 16 + 1 }
            let add (u : State) : State := let v := consumeAtF29 f.id u; if res then addReserved home l p v else addDynamic l p v
            (mac → act (add (takePn n (passLane s f k).2))) ∧ (¬ mac → act (add (passLane s f k).2))) ∧
  (∀ (s : State) (f : Frame),
      let sealed := (f.pdu.bind fun i => pduAt s i).filter fun d => pduSeal d == 1
      (∀ a, f.next = none → rxSa s f.rxPort f.bytes = some a → passKind s f = if (slotFor s a.slot 1 9).isSome then some .macRx else none) ∧
      (f.next = none → rxSa s f.rxPort f.bytes = none → passKind s f = some .macRx) ∧
      (∀ o d, f.next = some o → sealed = some d → passKind s f = some (if 24 ≤ o then .sealRx (pduStream d) else .sealTx (pduStream d))) ∧
      (∀ o a, f.next = some o → sealed = none → txSa s o = some a →
        passKind s f = if a.pn ≤ lastPn s o ∧ (saKey s o a.slot 8).isSome = true then some (.macTx a.slot a.an a.pn) else none) ∧
      (∀ o, f.next = some o → sealed = none → txSa s o = none → passKind s f = none)) ∧
  (∀ (s : State) (l home : Nat) (p : LanePass),
      let x := laneAt s l
      let pick := rrPick 6 x.pointer fun r => x.waitDyn.any (·.requester == r)
      addDynamic l p s = startDynamic l (modLane l (fun x => { x with waitDyn := x.waitDyn ++ [p] }) s) ∧
      (x.reserved ≠ none ∨ x.dynamic ≠ none ∨ x.st ≠ .running ∨ pick = none → startDynamic l s = s) ∧
      (∀ r q, x.reserved = none → x.dynamic = none → x.st = .running → pick = some r → x.waitDyn.find? (·.requester == r) = some q →
        startDynamic l s = beginPass l false q (modLane l (fun x => { x with waitDyn := x.waitDyn.erase q, pointer := (r + 1) % 6 }) s)) ∧
      (let u := modLane l (fun x => { x with waitRes := x.waitRes ++ [p] }) s
       addReserved home l p s = if runNow s home = true ∧ (laneAt u l).reserved = none then startReserved l u else u) ∧
      (∀ res, beginPass l res p s =
        let u := match passSlot s p with | some i => copyKey l i s | none => s
        modLane l (fun x => if res then { x with reserved := some p, dynamic := x.dynamic.map fun d => { d with suspended := true } } else { x with dynamic := some p }) u)) ∧
  (∀ (s : State) (home : Fin 12),
      let run := (s.comb.now.any fun a => actType a == 7 && actLane a == home) = true
      let act (t : State) : Prop := exec (.cipherLaneSlot home) s = .next { t with pending := s.pending }
      (¬ run → act s) ∧ (laneFor s home = none → act s) ∧
      ∀ l, run → laneFor s home = some l →
        let u := count (odKey 0x2420 7) s
        ((laneAt s l).waitRes = [] → act s) ∧
        ((laneAt s l).waitRes ≠ [] → (laneAt s l).reserved = none → act (startReserved l s)) ∧
        ((laneAt s l).waitRes ≠ [] → (laneAt s l).reserved ≠ none → act (
          if ∃ b, (laneAt s l).busyLoggedPs = some b ∧ nowPs s < b + 100 * msPs then u
          else logEvent 9 clsUnmasked 0 (odKey 0x2420 7) (leBytes 1 l) (modLane l (fun x => { x with busyLoggedPs := some (nowPs s) }) u)))) ∧
  (∀ (s : State) (l : Fin 12),
      let x := laneAt s l
      (x.reserved = none → x.dynamic = none → ∀ m, exec (.cipherBlockComplete l m) s = .next s) ∧
      (∀ p, x.reserved = some p → exec (.cipherBlockComplete l false) s =
        .next (modLane l (fun x => { x with reserved := some { p with left := p.left - 1 }, maskBlocks := x.maskBlocks + 1 }) s)) ∧
      (∀ p, x.reserved = none → x.dynamic = some p → exec (.cipherBlockComplete l false) s =
        .next (modLane l (fun x => { x with dynamic := some { p with left := p.left - 1 }, maskBlocks := x.maskBlocks + 1 }) s)) ∧
      (∀ p, x.reserved = some p ∨ (x.reserved = none ∧ x.dynamic = some p) → exec (.cipherBlockComplete l true) s = .next { laneMiscompare l p s with pending := s.pending })) ∧
  (∀ (s : State) (l : Nat) (p : LanePass),
      let x := laneAt s l
      let rest := if x.reserved = none then [] else x.dynamic.toList
      let u := modLane l (fun y => { y with st := .testing, reserved := none, dynamic := none, returning := false }) (count (odKey (0x2480 + l) 7) (count (odKey 0x2420 2) s))
      let gone := logEvent 9 clsUnmasked 0x0023 (odKey 0x2420 4) (leBytes 1 l) (count (odKey 0x2420 4) u)
      (∀ r, standbyOther s l = none → p.req = some r → laneMiscompare l p s = moveWaiting l none (modLane l (fun y => { y with waitDyn := rest ++ y.waitDyn }) (laneAnswer p.discard r.tag 0x0C [] gone))) ∧
      (standbyOther s l = none → p.req = none → laneMiscompare l p s = moveWaiting l none (modLane l (fun y => { y with waitDyn := rest ++ y.waitDyn }) (dropFrame p.frame gone))) ∧
      (∀ d, standbyOther s l = some d → laneMiscompare l p s =
        let v := logEvent 9 clsMasked 0x0007 (odKey 0x2420 3) (leBytes 1 l ++ leBytes 1 d) (count (odKey 0x2420 3) u)
        let w := moveWaiting l (some d) (modLane l (fun y => { y with waitDyn := rest.map (fun d => { d with suspended := false }) ++ y.waitDyn }) v)
        let q : LanePass := { p with heldIn := some l, suspended := false }
        if (laneAt w d).reserved = none then beginPass d true q w else modLane d (fun y => { y with waitRes := q :: y.waitRes }) w)) ∧
  (∀ (s : State) (l : Fin 12) (res : Bool),
      let ctx := if res then (laneAt s l).reserved else (laneAt s l).dynamic
      let act (t : State) : Prop := exec (.cipherPassComplete l res) s = .next { t with pending := s.pending }
      (ctx = none → act s) ∧
      ∀ p, ctx = some p →
        let waits := ∃ f, frameAt s p.frame = some f ∧ p.req = none ∧ earlierWaits s p f = true
        let u := count (odKey (0x2480 + l) 6) (count (odKey 0x2420 1) (modLane l (fun x =>
          let y := { x with maskBlocks := x.maskBlocks + p.left, hold := [] }
          if res then { y with reserved := none } else { y with dynamic := none }) s))
        (p.suspended = true ∨ waits → act s) ∧
        (p.suspended = false → ¬ waits → act (nextPass l (match p.req with
          | some r => modLane l Lane.applyWrites (keeperPass l p r u)
          | none => match frameAt s p.frame with | some f => framePass p f u | none => u)))) ∧
  (∀ (s : State) (l : Fin 12) (p : LanePass) (r : LaneReq) (k1 k2 : Blob), (laneAt s l).reserved = none → (laneAt s l).dynamic = some p → p.suspended = false → p.req = some r → p.discard = false →
      (laneAt s l).waitRes = [] → (laneAt s l).waitDyn = [] → laneKeys s l p.op r = .ok (k1, k2) →
      Completes (.cipherPassComplete l false) s fun t => (laneAt t l).dynamic = none ∧ (laneAt t l).wait2 = none ∧
        val t (odKey 0x2420 1) = min (val s (odKey 0x2420 1) + 1) 0xFFFFFFFF ∧
        (∀ d tag, laneResult p.op k1 k2 r = .ok (some d, tag) → t.out = .dram r.dst d :: s.out ∧ t.lanes.answers = s.lanes.answers ++ [(r.tag, 0, tag)]) ∧
        (∀ tag, laneResult p.op k1 k2 r = .ok (none, tag) → t.out = s.out ∧ t.lanes.answers = s.lanes.answers ++ [(r.tag, 0, tag)]) ∧
        (∀ c, laneResult p.op k1 k2 r = .error c → t.out = s.out ∧ t.lanes.answers = s.lanes.answers ++ [(r.tag, c, [])] ∧
          (p.op = 2 → val t (odKey 0x2420 8) = min (val s (odKey 0x2420 8) + 1) 0xFFFFFFFF))) ∧
  (∀ (op : Nat) (k1 k2 : Blob) (r : LaneReq),
      let tlen := if r.tlen = 0 then 16 else r.tlen.toNat
      let given := r.tagv.take tlen
      let mac (t : Blob) : Except Nat (Option Blob × Blob) := if op = 3 then .ok (none, t) else if t = given then .ok (none, []) else .error 0x02
      let opened (p : Option Blob) : Except Nat (Option Blob × Blob) := match p with | some d => .ok (some d, []) | none => .error 0x02
      (r.mode = 1 → laneResult op k1 k2 r = .ok (some (if op = 1 then aesCbcEnc k1 r.iv r.data else aesCbcDec k1 r.iv r.data), [])) ∧
      (r.mode = 2 → laneResult op k1 k2 r = .ok (some (aesCtr k1 r.iv r.data), [])) ∧
      (r.mode = 3 → laneResult op k1 k2 r = if op = 1 then .ok (some (gcmEnc k1 (r.iv.take 12) r.aad r.data).1, (gcmEnc k1 (r.iv.take 12) r.aad r.data).2.take tlen)
        else opened (gcmDec k1 (r.iv.take 12) r.aad r.data given)) ∧
      (r.mode = 4 → laneResult op k1 k2 r = mac ((gcmTag k1 (r.iv.take 12) (r.aad ++ r.data) []).take tlen)) ∧
      (r.mode = 5 → laneResult op k1 k2 r = mac ((aesCmac k1 (r.aad ++ r.data)).take tlen)) ∧
      (r.mode = 6 → laneResult op k1 k2 r = if op = 1 then .ok (some (ccmEnc k1 (r.iv.take tlen) r.aad r.data 16).1, (ccmEnc k1 (r.iv.take tlen) r.aad r.data 16).2)
        else opened (ccmDec k1 (r.iv.take tlen) r.aad r.data r.tagv)) ∧
      (r.mode = 7 → laneResult op k1 k2 r = .ok (some (aesXts (op == 1) k1 k2 (ofLe r.iv) (if r.unit4096 then 4096 else 512) r.data), []))) ∧
  (∀ (s : State) (p : LanePass) (f : Frame),
      let u := dropFrame f.id s
      let d := (f.pdu.bind fun i => pduAt u i).getD 0
      let o := f.next.getD 0
      (∀ j, p.kind = .sealRx j → framePass p f s = releaseAtF29 f (f.next.getD 24) (sealVerdict u d false f.bytes) f.pdu none u) ∧
      (∀ j, p.kind = .sealTx j → slotFor u (streamSlot u (pduStream d)) 1 10 = none →
        framePass p f s = logEvent 3 clsUnmasked 0 (odKey 0x3A01 4) (leBytes 2 (pduStream d)) (count (odKey 0x3A01 4) u)) ∧
      (p.kind = .macRx → framePass p f s = macRxEnd f u) ∧
      (∀ slot an pn k, p.kind = .macTx slot an pn → slotAt u slot = some k → framePass p f s = count (pk o 7 4) (releaseAtF29 f o (macSeal u o slot an pn k.key f.bytes) none none u)) ∧
      (∀ slot an pn, p.kind = .macTx slot an pn → slotAt u slot = none → framePass p f s = u)) ∧
  (∀ (s : State) (f : Frame),
      let n := f.rxPort
      (rxSa s n f.bytes = none → macRxEnd f s = count (pk n 7 2) s) ∧
      ∀ a, rxSa s n f.bytes = some a →
        let pn := rxPn s n a f.bytes
        let old := pn + val s (pk n 6 5) < a.pn
        (old → macRxEnd f s = count (pk n 7 3) s) ∧
        (¬ old → saKey s n a.slot 9 = none → macRxEnd f s = count (pk n 7 2) s) ∧
        ∀ k, ¬ old → saKey s n a.slot 9 = some k →
          (macOpen s n a k.key f.bytes = none → macRxEnd f s = count (odKey 0x2420 8) (count (pk n 7 2) s)) ∧
          ∀ plain, macOpen s n a k.key f.bytes = some plain → macRxEnd f s =
            let u := count (pk n 7 1) (modEth n (fun e => { e with sas := e.sas.map fun x => if x = a then { x with pn := max a.pn (pn + 1) } else x }) s)
            let r := ethFiltered u n plain
            if r.2.1 = [] then count (pk n 8 5) u
            else r.2.1.foldl (fun s c => releaseAtF29 { f with tc := r.1, hash := r.2.2, plain := true } c.1 (stripTag u n plain) c.2.2 c.2.1 s) u) ∧
  (∀ (s : State) (l : Fin 12) (pass : Bool),
      ((laneAt s l).st ≠ .testing → exec (.laneTestComplete l pass) s = .next s) ∧
      ((laneAt s l).st = .testing → pass = true → exec (.laneTestComplete l pass) s = .next (modLane l (fun x => { x with returning := true, hold := [] }) s)) ∧
      ((laneAt s l).st = .testing → pass = false → exec (.laneTestComplete l pass) s = .next (modLane l (fun x => { x with st := .fault, returning := false }) s))) ∧
  (∀ (s : State) (l : Fin 12) (good : Bool),
      let due := 4096 ≤ (laneAt s l).maskBlocks
      let u := count (odKey 0x2420 6) (modLane l (fun x => { x with maskBlocks := 0 }) s)
      let act (t : State) : Prop := exec (.maskReseed l good) s = .next { t with pending := s.pending }
      (¬ due → act s) ∧
      (due → good = true → act (modLane l (fun x => { x with maskBlocks := 0, reseedLogged := false }) s)) ∧
      (due → good = false → (laneAt s l).reseedLogged = true → act u) ∧
      (due → good = false → (laneAt s l).reseedLogged = false → act (logEvent 9 clsUnmasked 0 (odKey 0x2420 6) (leBytes 1 l) (modLane l (fun x => { x with reseedLogged := true }) u))))

/-- The life cycle by request: every transition, its proofs, its refusals and what it destroys.
* The six signed transitions start from the states of their rows of the table, to their targets, with their causes and proofs, and erase, renew the share and advance the epoch as their rows say.
* A challenge is fresh for 60 s while unused. A proof is good where its key hashes to the fuse field of its kind, which is neither absent nor 0, and its signature over the message verifies; a request needs one such proof per entry of a list, in its order.
* A transition is carried out: record, erase, epoch and share; REFURBISH clears the latch; leaving RETURN ends the role VENDOR in every session; and a cold boot with cause 5 is due but after FIELD_LOCK. One that needs an advance at epoch 32 aborts the vault and goes to SCRAPPED, cause 0x08, with everything erased and SCRAP blown.
* The erase: KD, every slot, every replacement, every lane key register and its waiting writes, the key of every access key, the session's KS and the STS seed, and both copies and the register of the share; nothing else changes. A new share is drawn, 32 bytes, stands in both copies and in the register, and SHARE becomes 1.
* A read of 0x2010/04 answers 32 new bytes, which are the challenge from then on, unused and made now. Without a session nothing happens; without access it is aborted.
* PROVISION: in BLANK a session on a CAN service port stands for MAKER without proof. Aborted without access; 0x06010000 for another role; refused with 0x08000022 outside BLANK; 0x06090030 for another cause than 0x01. Otherwise the fuses are programmed, PROV is blown, record and share are new, the latch is cleared, and a cold boot with cause 5 is due. Without a session nothing happens.
* The fuses PROVISION programs: the hashes of the maker's, the debug and the four Comb keys, 32 bytes each, one that is all 0 being absent, and the two bits of the Comb policy; no other fuse changes.
* A write of a mask below 16 to 0x2300/06 revokes those Comb keys beside the ones revoked before; nothing brings one back. A larger mask is refused with 0x06090030. -/
def Obligations.LifeCycle : Prop :=
  (Transition.signed ⟨[1], 2, 0x02, [[.maker]], false, false, false⟩ .fieldLock ∧
    Transition.signed ⟨[1, 2], 3, 0x03, [[.debug]], true, true, true⟩ .openDebug ∧
    Transition.signed ⟨[3], 1, 0x04, [[.maker, .debug]], true, true, true⟩ .reprovision ∧
    Transition.signed ⟨[1, 2, 3, 5], 4, 0x05, [[.vendor, .maker]], true, false, true⟩ .vendorReturn ∧
    Transition.signed ⟨[4], 1, 0x06, [[.vendor, .maker]], true, true, true⟩ .refurbish ∧
    Transition.signed ⟨[0, 4, 5], 6, 0x07, [[.maker], [.vendor]], true, false, false⟩ .scrap) ∧
  (∀ (s : State) (ch : Challenge) (msg : Blob) (ks : List ProofKey) (ps : List (Blob × Blob)),
      let hash (k : ProofKey) : Blob := match k with | .maker => s.fuse.makerKh | .debug => s.fuse.debugKh | .vendor => fuseVendorKh
      (challengeFresh s ch = true ↔ ch.used = false ∧ nowPs s ≤ ch.madePs + 60 * secPs) ∧
      (proofsGood s msg ks ps = true ↔ ks.length = ps.length ∧ ∀ e ∈ ks.zip ps, hash e.1 ≠ [] ∧ hash e.1 ≠ zeros 32 ∧ keyHash e.2.1 = hash e.1 ∧ Config.ecdsaVerify e.2.1 msg e.2.2 = true)) ∧
  (∀ (tr : Transition) (s : State),
      let t := transition tr.target tr.cause tr.advance tr.erase tr.share s
      let u := if tr.cause = 0x06 ∧ t.lc.state = 1 then clearLatch t else t
      let v := if s.lc.state = 4 then endVendor u else u
      runTransition tr s = (if tr.cause = 0x02 then v else { v with pwr := { v.pwr with bootDue := some 5 } }) ∧
      (∀ i : Fin 16, (endVendor s).sess.slots[i] = s.sess.slots[i].map fun x => if x.role = .vendor then { x with role := .inspect } else x) ∧
      (tr.advance = true → s.fuse.epoch = 32 → t.lc.state = 6 ∧ t.lc.debugOpen = false ∧ (lcRecord t).map (·.cause) = some 0x08 ∧ (lcRecord t).map (·.share) = some 3 ∧ t.fuse.scrap = true ∧ t.fuse.epoch = 32 ∧
        t.vault.kd = none ∧ (∀ i, slotAt t i = none) ∧ t.vault.repl = [] ∧ rowShare t = none ∧ t.pwr.bootDue = some 5)) ∧
  (∀ s : State,
      let t := eraseAll s
      let n := newShare s
      t = { s with
        vault := { s.vault with kd := none, slots := Vector.replicate 64 none, repl := [], aoShare := zeros 32, row := { s.vault.row with shA := none, shB := none } }
        lanes := { s.lanes with lane := s.lanes.lane.map fun l => { l with k0 := none, k1 := none, k2 := none, k3 := none, wait2 := none, wait3 := none } }
        lf := { s.lf with keys := s.lf.keys.map fun k => { k with key := none }, session := s.lf.session.map fun x => { x with ks := [] } }
        uwb := { s.uwb with exchange := s.uwb.exchange.map fun e => { e with sts := [] } } } ∧
      n.vault.aoShare.length = 32 ∧ n.vault.row.shA = some n.vault.aoShare ∧ n.vault.row.shB = some n.vault.aoShare ∧ n.vault.slots = s.vault.slots ∧ n.draws = s.draws + 1 ∧
      n.vault.row.lcA = s.vault.row.lcA.map (fun x => { x with share := 1 }) ∧ n.vault.row.lcB = s.vault.row.lcB.map (fun x => { x with share := 1 }) ∧ n.vault.row.prevA = s.vault.row.prevA) ∧
  (∀ (s : State) (slot : Fin 16),
      (sessionAt s slot = none → exec (.lcChallengeRead slot) s = .next s) ∧
      ∀ x, sessionAt s slot = some x →
        (∀ e, allow s x false 0x2010 4 = .error e → exec (.lcChallengeRead slot) s = .next { touchSession slot s with out := .odAbort slot e :: s.out }) ∧
        (∀ r, allow s x false 0x2010 4 = .ok r → ∃ b : Blob, b.length = 32 ∧ exec (.lcChallengeRead slot) s = .next { touchSession slot s with
          draws := s.draws + 1, lc := { s.lc with challenge := some ⟨b, nowPs s, false⟩ }, out := .odDone slot b :: s.out })) ∧
  (∀ (s : State) (slot : Fin 16) (cause : Byte) (f : FuseValues),
      let act (t : State) : Prop := exec (.provision slot cause f) s = .next { t with pending := s.pending }
      let abort (e : Nat) : Prop := exec (.provision slot cause f) s = .next { touchSession slot s with out := .odAbort slot e :: s.out }
      (sessionAt s slot = none → act s) ∧
      ∀ x, sessionAt s slot = some x →
        let x' : Session := if s.lc.state = 0 ∧ (x.transport = .sdo ∨ (x.transport = .uds ∧ x.endpoint < 10)) then { x with role := .maker } else x
        (∀ e, allow s x' true 0x2010 3 = .error e → abort e) ∧
        ∀ r, allow s x' true 0x2010 3 = .ok r →
          (x'.role ≠ .maker → abort abRole) ∧
          (x'.role = .maker → s.lc.state ≠ 0 → act (logEvent 8 clsSecurity 0 (odKey 0x2010 3) (leBytes 4 abState) { touchSession slot s with out := .odAbort slot abState :: s.out })) ∧
          (x'.role = .maker → s.lc.state = 0 → cause ≠ 0x01 → abort abRange) ∧
          (x'.role = .maker → s.lc.state = 0 → cause = 0x01 →
            act (let t := clearLatch (transition 1 0x01 false false true (programFuses f s)); { touchSession slot { t with pwr := { t.pwr with bootDue := some 5 } } with out := .odDone slot [] :: t.out })) ∧
          (x'.role = .maker → s.lc.state = 0 → cause = 0x01 → s.tamper.now = 0 → Completes (.provision slot cause f) s fun t =>
            t.lc.state = 1 ∧ t.fuse.prov = true ∧ t.fuse.combPol = f.combPol.toNat % 4 ∧ t.fuse.epoch = s.fuse.epoch ∧ (lcRecord t).map (·.cause) = some 0x01 ∧ (lcRecord t).map (·.share) = some 1 ∧
            t.vault.row.shA = some t.vault.aoShare ∧ t.vault.row.shB = some t.vault.aoShare ∧ t.vault.aoShare.length = 32 ∧ t.vault.slots = s.vault.slots ∧
            t.pwr.bootDue = some 5 ∧ t.tamper.latch = 0 ∧ t.out = .odDone slot [] :: s.out)) ∧
  (∀ (f : FuseValues) (s : State),
      let hash (b : Blob) : Blob := if subPad b 0 32 = zeros 32 then [] else subPad b 0 32
      programFuses f s = { s with fuse := { s.fuse with
        makerKh := hash f.makerKh, debugKh := hash f.debugKh, combPol := f.combPol.toNat % 4
        combKh := [hash (f.combKh.getD 0 []), hash (f.combKh.getD 1 []), hash (f.combKh.getD 2 []), hash (f.combKh.getD 3 [])] } }) ∧
  (∀ (slot : Fin 16) (v : Nat), Writes (.combKeyRevoke slot v) slot 0x2300 6 (numFor 0x2300 6 v) (fun _ => true) fun s n _ =>
      if 16 ≤ n then .error abRange else .ok fun t => t = { s with fuse := { s.fuse with combRev := s.fuse.combRev ||| n } })

/-- Tamper inputs, the latch, its events and counts, its configuration, and the destruction.
* The inputs whose condition holds now, as far as they are active, stand in 0x2500/0A, are counted and set their bits of the latch; a newly set bit has its response. With the device off nothing happens. Active are the enabled inputs 0 to 16, 17 and 18 with the Hive die on, 19 on the SH2424 with the AO supply; enabled are inputs 0 and 13 to 19 always, the others by the configuration, and every one without a valid configuration.
* In BLANK, RETURN and SCRAPPED the life cycle and the vault stay as they are on the SH2424; in PROVISIONED, FIELD and DEBUG, with the device running and the epoch below 32, the keys and the share are destroyed, the state is TAMPERED with cause 0x10 and the epoch advances.
* A trip of an input is counted at most once in an AO second. Bits set on a clear latch note FIRST, STATE_AT, OPS_AT and the time. With the Hive die on each bit that was clear is logged with them; with it off it is noted as not logged and, with the AO supply, logged in the shared buffer.
* The response to a newly set bit: the access island abandons its round and a session ends. In PROVISIONED, FIELD and DEBUG the destruction follows, but a boot that has not read the latch yet leaves it to that, and on the SH2424 in FIELD below HOLD_OK it waits. In the other states the SH2412 erases and the SH2424 does nothing more.
* The destruction: with the Hive die on every vault request and lane pass aborts first, and with every epoch bit blown the device is SCRAPPED. Otherwise the SH2424 writes its record (cause 0x10, SHARE 2), erases and sets SHARE 3, and the SH2412 erases and then writes its record (cause 0x11, SHARE 3); the record's epoch is the next one. The device is TAMPERED, its debug port closed, the wake of tamper raised, and with the Hive die on the epoch bit is programmed.
* Tamper aborts every pass that has begun and zeroes the hold buffers: a keeper request answers 0x0B, a sealed frame to verify goes on with verdict 4, one to seal or protect is dropped and counted in 0x2420/05, a protected frame received is dropped and counted in base + 0x07/02. The vault's requests answer 0x0B, an enrolment's write is aborted as busy, their pending records are discarded and counted in 0x2350/04.
* On the SH2424 a destruction that waits for VHOLD in FIELD starts once the level is at least 2,950 mV; below it, or with none waiting, only the level changes. The SH2412, and a device that is off, does nothing.
* A write of a loop mask to 0x2500/0B checks loops that are not enabled and keeps those that matched in 0x2500/0B; a mask with an enabled loop is refused with 0x08000022.
* A write of 0x2500/05 to 07 sets the enable mask, the polarity or the debounce on both copies with the next sequence number; an enable mask without every one of inputs 0 and 13 to 19 is refused with 0x06090030. Without a valid configuration the one with every input enabled is written anew. -/
def Obligations.TamperLatch : Prop :=
  (∀ (s : State) (m : BitVec 32),
      let a := m &&& activeInputs s
      let u : State := { s with tamper := { s.tamper with now := a } }
      let v := countTrips a u
      (s.pwr.dev = .off → exec (.tamperTrip m) s = .next s) ∧
      (s.pwr.dev ≠ .off → a = 0 → exec (.tamperTrip m) s = .next u) ∧
      (s.pwr.dev ≠ .off → a ≠ 0 → a &&& ~~~latchRead s = 0 → exec (.tamperTrip m) s = .next { setLatch a v with pending := s.pending }) ∧
      (s.pwr.dev ≠ .off → a &&& ~~~latchRead s ≠ 0 → exec (.tamperTrip m) s = .next { tamperResponse (setLatch a v) with pending := s.pending }) ∧
      activeInputs s = (0x0001FFFF ||| (if s.pwr.hive then 0x00060000 else 0) ||| (if s.pwr.vao ∧ ¬ isSmall s then 0x00080000 else 0)) &&&
        (match tamperCfg s with | some c => (c.enable &&& 0x000FFFFF) ||| 0x000FE001 | none => 0x000FFFFF)) ∧
  ((∀ (s : State) (m : BitVec 32), s.pwr.dev = .on → isSmall s = false → s.lc.state = 0 ∨ s.lc.state = 4 ∨ s.lc.state = 6 →
      Completes (.tamperTrip m) s fun t => latchRead t = latchRead s ||| (m &&& activeInputs s) ∧ t.lc = s.lc ∧ t.vault = s.vault ∧ t.fuse = s.fuse) ∧
    (∀ (s : State) (m : BitVec 32), s.pwr.dev = .on → s.pwr.hive = true → s.pwr.boot = none → isSmall s = false → s.lc.state = 1 ∨ s.lc.state = 2 ∨ s.lc.state = 3 → s.fuse.epoch < 32 →
      m &&& activeInputs s &&& ~~~latchRead s ≠ 0 →
      Completes (.tamperTrip m) s fun t => latchRead t = latchRead s ||| (m &&& activeInputs s) ∧ t.lc.state = 5 ∧ t.lc.debugOpen = false ∧
        t.vault.kd = none ∧ (∀ i, slotAt t i = none) ∧ t.vault.aoShare = zeros 32 ∧ rowShare t = none ∧ (lcRecord t).map (·.state) = some 5 ∧ (lcRecord t).map (·.cause) = some 0x10 ∧
        t.fuse.epoch = s.fuse.epoch + 1 ∧ (∀ l ∈ t.lanes.lane.toList, l.reserved = none ∧ l.dynamic = none ∧ l.k2 = none ∧ l.k3 = none))) ∧
  (∀ (s : State) (m : BitVec 32) (i : Fin 20),
      let old := latchRead s
      let new := m &&& ~~~old
      let bits (x : BitVec 32) : List Nat := (List.range 20).filter x.getLsbD
      let u : State := { s with tamper := { s.tamper with latch := old ||| m, nlatch := ~~~(old ||| m) } }
      let v : State := if old = 0 then { u with tamper := { u.tamper with first := (bits m).headD 0xFF, stateAt := stateAtCode u, opsAt := opsAt u, time := aoSec u } } else u
      let w : State := { v with tamper := { v.tamper with unlogged := v.tamper.unlogged ||| new } }
      (s.pwr.hive = true → setLatch m s = (bits new).foldl (fun s i => logTrip i s) v) ∧
      (s.pwr.hive = false → s.pwr.vao = true → setLatch m s = (bits new).foldl (fun s i => logTrip i s) w) ∧
      (s.pwr.hive = false → s.pwr.vao = false → setLatch m s = w) ∧
      logTrip i s = logEvent 11 clsSecurity 0 (odKey 0x2500 1)
        ([BitVec.ofNat 8 i, BitVec.ofNat 8 s.tamper.first, BitVec.ofNat 8 s.tamper.stateAt, BitVec.ofNat 8 s.tamper.opsAt] ++ leBytes 4 s.tamper.time) s ∧
      (countTrips (BitVec.twoPow 32 i) s).tamper = (if (match s.tamper.lastCount[i] with | some t => decide (aoSec s < t + 1) | none => false) then s.tamper
        else { s.tamper with count := min (s.tamper.count + 1) 0xFFFFFFFF, lastCount := s.tamper.lastCount.set i (some (aoSec s)) })) ∧
  (∀ s : State,
      let u := endSession { s with uwb := { s.uwb with round := none, exchange := none, rslot := none } }
      let early := (∃ k, s.pwr.boot = some (true, k) ∧ k < 5) ∨ (∃ k, s.pwr.boot = some (false, k) ∧ k < 4)
      let live := s.lc.state = 1 ∨ s.lc.state = 2 ∨ s.lc.state = 3
      let wait := isSmall s = false ∧ s.pwr.dev = .field ∧ s.tamper.holdMv < 2950
      (live → early → tamperResponse s = u) ∧
      (live → ¬ early → wait → tamperResponse s = { u with tamper := { u.tamper with waiting := true } }) ∧
      (live → ¬ early → ¬ wait → tamperResponse s = destroyKeys u) ∧
      (¬ live → tamperResponse s = if isSmall s then eraseAll u else u)) ∧
  (∀ s : State,
      let u := if s.pwr.hive then tamperLanes (abortVault s) else s
      let e := max (((lcRecord u).map (·.epoch)).getD 0) (u.fuse.epoch + 1)
      let tampered (t : State) : State :=
        let v : State := { t with lc := { t.lc with state := 5, debugOpen := false, challenge := none } }
        latchWake 17 (if v.pwr.hive then { v with fuse := { v.fuse with epoch := min (v.fuse.epoch + 1) 32 } } else v)
      (u.pwr.hive = true → u.fuse.epoch = 32 → destroyKeys s = scrapAt32 u) ∧
      (¬ (u.pwr.hive = true ∧ u.fuse.epoch = 32) → isSmall u = true → destroyKeys s = tampered (writeLc 5 0x11 e 3 (eraseAll u))) ∧
      (¬ (u.pwr.hive = true ∧ u.fuse.epoch = 32) → isSmall u = false → destroyKeys s = tampered (setShareField 3 (eraseAll (writeLc 5 0x10 e 2 u))))) ∧
  (∀ (s : State) (p : LanePass) (f : Frame),
      let u := dropFrame f.id s
      let begun := s.lanes.lane.toList.flatMap fun x => x.reserved.toList ++ x.dynamic.toList
      let stop (s : State) (r : Replacement) : State := let t := discardJournal r.journal s; match r.enrol with
        | none => vaultAnswer r.requester r.tag 0x0B [] t
        | some (_, _, slot) => { t with out := .odAbort slot abBusy :: t.out }
      tamperLanes s = begun.foldl (fun s p => tamperPass p s) { s with lanes := { s.lanes with lane := s.lanes.lane.map fun x => { x with reserved := none, dynamic := none, hold := [] } } } ∧
      (∀ r, p.req = some r → tamperPass p s = laneAnswer p.discard r.tag 0x0B [] s) ∧
      (p.req = none → frameAt s p.frame = none → tamperPass p s = s) ∧
      (p.req = none → frameAt s p.frame = some f →
        (∀ j, p.kind = .sealRx j → tamperPass p s = releaseAtF29 f (f.next.getD 24) (sealVerdict u ((f.pdu.bind fun i => pduAt u i).getD 0) true f.bytes) f.pdu none u) ∧
        ((∃ j, p.kind = .sealTx j) ∨ (∃ a b c, p.kind = .macTx a b c) → tamperPass p s = count (odKey 0x2420 5) u) ∧
        (p.kind = .macRx → tamperPass p s = count (pk f.rxPort 7 2) u)) ∧
      abortVault s = (let t := s.vault.repl.foldl stop s; countN (odKey 0x2350 4) s.vault.repl.length { t with vault := { t.vault with repl := [], attesting := none } })) ∧
  (∀ (s : State) (mv : Nat),
      let u : State := { s with tamper := { s.tamper with holdMv := mv } }
      (isSmall s = true ∨ s.pwr.dev = .off → exec (.holdOkReached mv) s = .next s) ∧
      (isSmall s = false → s.pwr.dev ≠ .off → s.tamper.waiting = false ∨ mv < 2950 → exec (.holdOkReached mv) s = .next u) ∧
      (isSmall s = false → s.pwr.dev ≠ .off → s.tamper.waiting = true → 2950 ≤ mv →
        exec (.holdOkReached mv) s = .next { destroyKeys { u with tamper := { u.tamper with waiting := false } } with pending := s.pending }) ∧
      (isSmall s = false → s.pwr.dev ≠ .off → s.tamper.waiting = true → 2950 ≤ mv → s.pwr.hive = false → Completes (.holdOkReached mv) s fun t => t.tamper.waiting = false ∧ t.lc.state = 5 ∧
        t.vault.kd = none ∧ (∀ i, slotAt t i = none) ∧ t.vault.aoShare = zeros 32 ∧ (lcRecord t).map (·.state) = some 5 ∧ t.fuse = s.fuse)) ∧
  (∀ (slot : Fin 16) (mask : Nat) (bad : Byte), Writes (.loopCheck slot mask bad) slot 0x2500 0xB (numFor 0x2500 0xB mask) (fun _ => true) fun s n _ =>
      if ∃ i : Fin 8, n.testBit i = true ∧ (enabledInputs s).getLsbD (1 + i.val) = true then .error abState
      else .ok fun t => t = { s with tamper := { s.tamper with loopResult := (BitVec.ofNat 8 n &&& ~~~bad).toNat } }) ∧
  (∀ (slot : Fin 16) (sb : Fin 3) (v : Nat), Writes (.tamperConfigWrite slot sb v) slot 0x2500 (5 + sb) (numFor 0x2500 (5 + sb) v) (fun _ => true) fun s n _ =>
      let c : TamperCfg := (tamperCfg s).getD { enable := 0x000FFFFF }
      let d : TamperCfg := { seq := (c.seq + 1) % 2 ^ 32, enable := if sb = 0 then BitVec.ofNat 32 n &&& 0x000FFFFF else c.enable,
                             polarity := if sb = 1 then BitVec.ofNat 4 n else c.polarity, debounce := if sb = 2 then n else c.debounce }
      if sb = 0 ∧ BitVec.ofNat 32 n &&& 0x000FE001 ≠ 0x000FE001 then .error abRange
      else .ok fun t => t = { s with tamper := { s.tamper with cfgA := some d, cfgB := some d } })

/-- The record store: requests, grants, copies, compaction, the scan and what it restores, counters and the snapshot.
* A record its requester may write, that fits, with the store open to it, waits behind the others; any other is refused, logged with its requester and type, and changes nothing of the store.
* Who may write: area M is the keeper's pages, area W the keeper's pages and passwords and the VERIFY record of the AO sequencer and the tag role, area S the vault's records 0x10-0x14, 0x20, 0x22 and 0x23 and the access island's 0x21; a COMMIT its area's writers. A payload has at most 2,048 bytes, a page 256 and an ID below 256 in M and 32 in W. The store is open with the AO supply outside a brown-out, to the Hive die over a link that is up with its key.
* With no request in service, no scan running, the AO supply present and no brown-out, the requester at or next above the pointer is granted its oldest request, and the pointer goes past it. Otherwise, and with none waiting, nothing happens.
* Copy A of the granted record commits it at the end of its area's log, compacted first where it must be, and its copy B waits next; copy B answers the requester, as does the refusal of a record that cannot fit; the keeper's answer raises its line 9. Without a request in service nothing happens.
* A slice on the AO supply carries a compaction on for its 200 microseconds, or starts one that is due: no fresh pair is left beside the reserve and the last one began 328 AO periods ago or earlier. A compaction that ends is counted in 0x2200/07. Otherwise nothing happens.
* The start-up scan: the store serves nobody until it ends; the vault row and the tag area are recovered; in FIELD then only the password and VERIFY records of W. Outside it counters, area S, area W and area M follow in this order, and the items of S that were damaged are given to their owners again.
* The scan of an area: of a position with one valid copy the other is written again, counted in 0x2200/04, one with none goes; two valid copies that differ are counted in 0x2200/03 and logged as event 0x0029 with area, type, ID and SEQ. Transactions without their COMMIT are dropped and counted in 0x2200/05, pending replacements among them in 0x2350/04.
* The restart of a counter: the greatest of its good cells and its good intent stands in both cells, which are good; where no good cell had it the restart is counted in 0x2200/06, else in 0x2200/04. A counter whose good cells both have it is left alone.
* The recovery of the tag area: an open intent without its commit has the old data and log entry written back (a snapshot its old copy), and is counted as an interrupted write, on harvested energy in IMARK, which wraps at 2^32; one with its commit has the new data written again. With the AO supply FMARK, IMARK and the writes since FOLDSEQ are added to counters 5, 4 and 3 and start from 0.
* The scan ends: its time in microseconds stands in 0x2200/02 and the store serves again; a tag read that was held is answered with its bytes, else a VERIFY that was held is carried out.
* On the AO supply an increment of an assigned counter adds to it, up to its limit, in both copies and the intent, and no other counter moves; the store's pointer goes past its requester. An unassigned counter, an increment of 0 and one without the supply do nothing.
* With the AO supply present the attestation file holds its length and the new content in both copies, and an open tag write completes first; without it nothing happens. -/
def Obligations.StoreRecords : Prop :=
  (∀ (s : State) (who : Fin 5) (area : Fin 3) (type : Byte) (id : Nat) (txn commit delete : Bool) (d : Blob),
      let may := mayWriteRecord who area type.toNat commit = true ∧ recordFits area type.toNat id d = true ∧ storeOpen s who = true
      (may → exec (.recordWrite who area type id txn commit delete d) s = .next { s with store := { s.store with waiting := s.store.waiting ++ [⟨who, area, ⟨type.toNat, id, 0, txn, commit, delete, d⟩, false⟩] } }) ∧
      (¬ may → exec (.recordWrite who area type id txn commit delete d) s = .next { (logEvent 10 clsRefusal 0 0 (leBytes 1 who ++ leBytes 1 type.toNat) { s with
        out := .storeRefused who area type.toNat id :: s.out }) with pending := s.pending })) ∧
  (∀ (s : State) (who area type id : Nat) (d : Blob), area < 3 →
      (mayWriteRecord who area type false = true ↔
        (area = 0 ∧ who = 4 ∧ type = 0x01) ∨ (area = 1 ∧ who = 4 ∧ (type = 0x01 ∨ type = 0x02)) ∨ (area = 1 ∧ (who = 0 ∨ who = 3) ∧ type = 0x03) ∨
        (area = 2 ∧ who = 1 ∧ (type ∈ [0x10, 0x11, 0x12, 0x13, 0x14, 0x20, 0x22, 0x23])) ∨ (area = 2 ∧ who = 2 ∧ type = 0x21)) ∧
      (mayWriteRecord who area type true = true ↔ type = 0x7F ∧ ((area = 2 ∧ who ≤ 2) ∨ (area ≠ 2 ∧ who = 4) ∨ (area = 1 ∧ (who = 0 ∨ who = 3)))) ∧
      (recordFits area type id d = true ↔ d.length ≤ 2048 ∧ id < 2 ^ 32 ∧ (type = 0x01 → d.length = 256 ∧ id < if area = 0 then 256 else 32)) ∧
      (storeOpen s who = true ↔ s.pwr.vao = true ∧ s.pwr.brownout = false ∧ (who = 1 ∨ who = 2 ∨ who = 4 → s.link.up = true ∧ s.link.key ≠ none))) ∧
  (∀ s : State,
      let may := s.store.inService = none ∧ s.store.scanning = false ∧ s.pwr.vao = true ∧ s.pwr.brownout = false
      let pick := rrPick 5 s.store.pointer fun v => s.store.waiting.any (·.who == v)
      (¬ may → exec .storeGrant s = .next s) ∧ (pick = none → exec .storeGrant s = .next s) ∧ (s.store.waiting = [] → pick = none) ∧
      (∀ w r, may → pick = some w → s.store.waiting.find? (·.who == w) = some r →
        exec .storeGrant s = .next { s with store := { s.store with waiting := s.store.waiting.eraseP (·.who == w), pointer := (w + 1) % 5, inService := some r } })) ∧
  (∀ s : State, (s.store.inService = none → exec .recordCopyComplete s = .next s) ∧
      ∀ r, s.store.inService = some r →
        let t : StoreSt := { s.store with inService := none }
        let line (u : State) : State := if r.who = 4 then { u with keeper := { u.keeper with ipend := u.keeper.ipend ||| BitVec.twoPow 32 9 } } else u
        let answer (o : Out) (u : State) : State := { line u with out := o :: s.out }
        let act (u : State) : Prop := exec .recordCopyComplete s = .next { u with pending := s.pending }
        (r.copyB = true → act (answer (.stored r.who r.area r.record.type r.record.id) { s with store := t.setArea r.area ((t.area r.area).finishB r.record.seq) })) ∧
        (r.copyB = false → (t.area r.area).appendFit r.record false = none → act (answer (.storeRefused r.who r.area r.record.type r.record.id) { s with store := t })) ∧
        (∀ l c, r.copyB = false → (t.area r.area).appendFit r.record false = some (l, c) →
          act (countN (odKey 0x2200 7) c { s with store := { t.setArea r.area l with waiting := ⟨r.who, r.area, { r.record with seq := l.seq }, true⟩ :: s.store.waiting } }))) ∧
  (∀ (s : State) (a : Fin 3),
      let l := s.store.area a
      let due := l.nextFresh = none ∧ (l.pairs.getD l.cur {}).st ≠ .fresh ∧ ∀ t, l.compactedAo = some t → t + 328 ≤ s.clk.ao
      let r := (if l.copying = none then { l with compactedAo := some s.clk.ao } else l).startCompact.copyFor 4000 4000
      (s.pwr.vao = false ∨ (l.copying = none ∧ ¬ due) → exec (.compactionSlice a) s = .next s) ∧
      (s.pwr.vao = true → (l.copying ≠ none ∨ due) → exec (.compactionSlice a) s =
        .next { (countN (odKey 0x2200 7) r.2.toNat { s with store := s.store.setArea a r.1 }) with pending := s.pending })) ∧
  (∀ (s : State) (ds : List CopyDamage),
      let u := tagRecover (scanVaultRow { s with store := { s.store with scanning := true } })
      let counters := (List.range 128).foldl (fun s c => restartCounter c s) (ds.foldl damageCounter u)
      let act (t : State) : Prop := exec (.indexScan ds) s = .next { t with pending := s.pending }
      (u.pwr.dev = .field → act (scanRecords 1 (fun t => t == 0x02 || t == 0x03) ds u)) ∧
      (u.pwr.dev ≠ .field → act ((damagedItems 2 ds u).foldl reloadItem (scanArea 0 ds (scanArea 1 ds (scanArea 2 ds counters)))))) ∧
  (∀ (s : State) (a : Nat) (ds : List CopyDamage),
      let l := (s.store.area a).damage a ds
      let bad := l.positions.filter (·.differs)
      let log (s : State) (c : RecPos) : State := match c.a with
        | none => s
        | some r => logEvent 10 clsUnmasked 0x0029 (odKey 0x2200 3) (leBytes 1 (a + 1) ++ leBytes 1 r.type ++ leBytes 2 r.id ++ leBytes 4 r.seq) s
      let v := countN (odKey 0x2200 4) (l.positions.filter (·.single)).length (countN (odKey 0x2200 3) bad.length (bad.foldl log s))
      let mended := l.repair fun _ => true
      scanArea a ds s = countN (odKey 0x2200 5) mended.openTxns (
        let w := countN (odKey 0x2350 4) (if a = 2 then mended.pendingRecs.length else 0) { v with store := v.store.setArea a mended }
        { w with store := w.store.setArea a mended.abandon }) ∧
      ∀ c : RecPos, c.mend = { c with a := if c.a = none then c.b else c.a, b := if c.b = none then c.a else c.b }) ∧
  (∀ (s : State) (c : Fin 128),
      let x := s.store.counters[c]
      let good := (if x.aGood then [x.a] else []) ++ (if x.bGood then [x.b] else [])
      let v := (good ++ (if x.intentGood then [x.intent] else [])).foldl max 0
      let u : State := { s with store := { s.store with counters := s.store.counters.set c { x with a := v, aGood := true, b := v, bGood := true } } }
      let fine := x.aGood = true ∧ x.bGood = true ∧ x.a = v ∧ x.b = v
      (fine → restartCounter c s = s) ∧
      (¬ fine → restartCounter c s = count (if good.all (· < v) then odKey 0x2200 6 else odKey 0x2200 4) u)) ∧
  (∀ s : State,
      let t := s.store.tag
      let put (f o : Nat) (d : Blob) (i : Nat) (l : Blob) (c : List (Nat × Blob)) : List (Nat × Blob) := tagFilePut 0xA103 (32 * i) l (tagFilePut f o d c)
      let undone (i : TagIntent) : TagArea := if i.kind = 0 then
          { t with copyA := put i.file i.offset i.oldData i.index i.oldLog t.copyA, copyB := put i.file i.offset i.oldData i.index i.oldLog t.copyB, intent := none }
        else { t with copyA := mapPut 0xA101 (tagFileGet 0xA101 t.copyB) t.copyA, intent := none }
      let done (i : TagIntent) : TagArea := if i.kind = 0 then
          { t with copyA := put i.file i.offset i.newData i.index i.newLog t.copyA, copyB := put i.file i.offset i.newData i.index i.newLog t.copyB, intent := none }
        else { t with copyB := mapPut 0xA101 (tagFileGet 0xA101 t.copyA) t.copyB, intent := none }
      let u : State := match t.intent with
        | none => s
        | some i =>
          if t.commit = i.journal then { s with store := { s.store with tag := done i } }
          else if s.pwr.dev = .field then { s with store := { s.store with tag := { undone i with imark := (t.imark + 1) % 2 ^ 32 } } }
          else counterAdd 4 1 { s with store := { s.store with tag := undone i } }
      let add (c n : Nat) (s : State) : State := if n = 0 then s else counterAdd c n s
      (s.pwr.vao = false → tagRecover s = u) ∧
      (s.pwr.vao = true → tagRecover s =
        let g := u.store.tag
        let v := add 3 ((g.logSeq + 2 ^ 32 - g.foldseq) % 2 ^ 32) (add 4 g.imark (add 5 g.fmark u))
        { v with store := { v.store with tag := { v.store.tag with fmark := 0, imark := 0, foldseq := g.logSeq } } })) ∧
  (∀ (s : State) (us : Nat),
      let u := setVal (odKey 0x2200 2) (min us 0xFFFFFFFF) { s with store := { s.store with scanning := false } }
      let act (t : State) : Prop := exec (.scanComplete us) s = .next { t with pending := s.pending }
      (s.nfc.heldRead = none → s.nfc.heldVerify = none → act u) ∧
      (∀ f o n, s.nfc.heldRead = some (f, o, n) → act { u with nfc := { s.nfc with heldRead := none }, out := .nfc (sub (tagFile u f) o n ++ [0x90, 0x00]) :: s.out }) ∧
      (∀ pw, s.nfc.heldRead = none → s.nfc.heldVerify = some pw → act (verifyAnswer pw { u with nfc := { s.nfc with heldVerify := none } }))) ∧
  (∀ (s : State) (c : Fin 128) (n : Nat),
      let runs := s.pwr.vao = true ∧ (c.val ≤ 5 ∨ (8 ≤ c.val ∧ c.val ≤ 16)) ∧ 1 ≤ n
      let owner := if c.val = 0 then 0 else if c.val = 2 then 1 else if 3 ≤ c.val ∧ c.val ≤ 5 then 3 else 2
      (¬ runs → exec (.counterUpdate c n) s = .next s) ∧
      (runs → Completes (.counterUpdate c n) s fun t =>
        counterVal t c = min (counterVal s c + n) (if c.val = 0 then 2 ^ 64 - 1 else 0xFFFFFFFF) ∧ (∀ d, d ≠ c.val → counterVal t d = counterVal s d) ∧
        t = { s with store := { s.store with counters := t.store.counters, pointer := (owner + 1) % 5 } })) ∧
  (∀ (s : State) (d : Blob),
      let u := commitIntent s
      let c := subPad (beBytes 2 d.length ++ d) 0 4608
      (s.pwr.vao = false → exec (.snapshotReplace d) s = .next s) ∧
      (s.pwr.vao = true → exec (.snapshotReplace d) s = .next { u with pending := s.pending, store := { u.store with pointer := 2, tag := { u.store.tag with copyA := tagFilePut 0xA101 0 c u.store.tag.copyA, copyB := tagFilePut 0xA101 0 c u.store.tag.copyB } } }) ∧
      (s.pwr.vao = true → s.store.tag.intent = none → Completes (.snapshotReplace d) s fun t =>
        tagFileGet 0xA101 t.store.tag.copyA = c ∧ tagFileGet 0xA101 t.store.tag.copyB = c ∧
        (∀ f, f ≠ 0xA101 → tagFileGet f t.store.tag.copyA = tagFileGet f s.store.tag.copyA)))

/-- The data areas M and W, block protection and the passwords, on every session, value and state.
* A write of 1 to 4,096 bytes of area M at the session's offset; one inside the area that touches a protected page is refused as protected and changes nothing, and one that the area cannot take has its code.
* A write into area M or W: no byte, more than 4,096, or past the end of the area is refused with 0x06090030. Each page it touches is written whole, with its old bytes outside the write, one alone as one record and several as one transaction; where the area cannot take them it is refused and nothing is written. The requester is the keeper.
* A write of area W needs the write password opened in the session, an all-zero one, or MAKER; else it is refused as protected and changes nothing.
* A write of the block protection that does not lower it, or lowers it in PROVISIONED, DEBUG or RETURN, takes effect and is kept; lowered in any other state it is refused with 0x08000022.
* A password offered. Without a session nothing happens; one that the dictionary's checks refuse has their code. While it is blocked every offer is refused with 0x08000022. The right one, or any where an all-zero one is set, clears its failures and opens area W to the session, for reading or for writing; a wrong one counts a failure, the eighth blocking it for 600 seconds with an event, and is refused with 0x08000000. The count is committed to the store either way.
* A write of both passwords stands as the record of area W; where the area cannot take it it is refused and nothing changes. -/
def Obligations.StoreAreas : Prop :=
  (∀ (slot : Fin 16) (d : Blob), Writes (.mDataWrite slot d) slot 0x2201 2 (.bytes d) (fun _ => true) fun s _ b =>
      let off := ((sessionAt s slot).map (·.mOffset)).getD 0
      let bp := val s (odKey 0x2201 3)
      let limit := if bp = 0 then 65536 else if bp = 1 then 49152 else if bp = 2 then 32768 else 0
      if b ≠ [] ∧ limit < off + b.length ∧ off + b.length ≤ 65536 then .error abProtected
      else match areaWrite 0 off 65536 b s with
        | .error c => .error c
        | .ok u => .ok fun t => t = u) ∧
  (∀ (s : State) (a off size : Nat) (d : Blob),
      let bad := d = [] ∨ 4096 < d.length ∨ size < off + d.length
      let page (p : Nat) : Nat × Blob := (p, (List.range 256).map fun j =>
        if off ≤ 256 * p + j ∧ 256 * p + j < off + d.length then d.getD (256 * p + j - off) 0 else (pageAt s a p).getD j 0)
      let pages := (List.range ((off + d.length - 1) / 256 + 1 - off / 256)).map fun i => page (off / 256 + i)
      (bad → areaWrite a off size d s = .error abRange) ∧
      (¬ bad → appendPages (s.store.area a) pages = none → areaWrite a off size d s = .error abFull) ∧
      (∀ l c, ¬ bad → appendPages (s.store.area a) pages = some (l, c) → areaWrite a off size d s =
        .ok (let u := countN (odKey 0x2200 7) c { s with store := { s.store.setArea a l with pointer := 0 } }
          { u with keeper := { u.keeper with ipend := u.keeper.ipend ||| BitVec.twoPow 32 9 } })) ∧
      (∀ l : LogArea, ∀ p, appendPages l [p] = l.appendFit ⟨0x01, p.1, 0, false, false, false, p.2⟩ true) ∧
      (∀ l : LogArea, ∀ p q ps, appendPages l (p :: q :: ps) = l.appendTxn none ((p :: q :: ps).map fun p => ⟨0x01, p.1, 0, false, false, false, p.2⟩))) ∧
  (∀ (slot : Fin 16) (d : Blob), Writes (.wDataWrite slot d) slot 0x2202 2 (.bytes d) (fun _ => true) fun s _ b =>
      let x := (sessionAt s slot).getD { transport := .sdo, endpoint := 0 }
      let may := x.role = .maker ∨ (passwords s).2 = zeros 16 ∨ (∃ e, s.store.wRights.find? (·.1 == slot.val) = some e ∧ e.2 = true)
      if may then match areaWrite 1 x.wOffset 8192 b s with
        | .error c => .error c
        | .ok u => .ok fun t => t = u
      else .error abProtected) ∧
  (∀ (slot : Fin 16) (v : Nat), Writes (.blockProtectWrite slot v) slot 0x2201 3 (.num 1 v) (fun _ => true) fun s n _ =>
      if n < val s (odKey 0x2201 3) ∧ s.lc.state ∉ [1, 3, 4] then .error abState else .ok fun t => t = keepVal (odKey 0x2201 3) n s ∧ val t (odKey 0x2201 3) = n) ∧
  (∀ (s : State) (slot : Fin 16) (pw : Blob) (write : Bool),
      let c : Instr := if write then .writePasswordWrite slot pw else .readPasswordWrite slot pw
      let sb := if write then 4 else 3
      let p := if write then s.store.verifyPw else s.store.readPw
      let good := if write then (passwords s).2 else (passwords s).1
      let right := pw = good ∨ good = zeros 16
      let put (q : PwState) : State := commitPw { s with store := if write then { s.store with verifyPw := q } else { s.store with readPw := q } }
      let q : PwState := if 7 ≤ p.failures then ⟨8, true, 600⟩ else { p with failures := p.failures + 1 }
      let opened (t : State) : State := { t with store := { t.store with wRights := s.store.wRights.filter (·.1 ≠ slot.val) ++ [(slot.val, write || s.store.wRights.any fun e => e.1 == slot.val && e.2)] } }
      let logged (t : State) : State := if q.blocked then logEvent 10 clsSecurity 0 (if write then odKey 0x4200 0x10 else odKey 0x2202 5) [] t else t
      let abort (e : Nat) (t : State) : Prop := exec c s = .next { touchSession slot t with out := .odAbort slot e :: t.out, pending := s.pending }
      (sessionAt s slot = none → exec c s = .next s) ∧
      (∀ x e, sessionAt s slot = some x → checkedWrite s x 0x2202 sb (.bytes pw) true (fun _ _ => .ok s) = .error e → abort e s) ∧
      (∀ n b, WriteReady s slot 0x2202 sb (.bytes pw) n b →
        (p.blocked = true → abort abState s) ∧
        (p.blocked = false → right → exec c s = .next (let t := opened (put { p with failures := 0 }); { touchSession slot t with out := .odDone slot [] :: t.out, pending := s.pending })) ∧
        (p.blocked = false → ¬ right → abort abProof (logged (put q))))) ∧
  (∀ (slot : Fin 16) (d : Blob), Writes (.setPasswords slot d) slot 0x2202 6 (.bytes d) (fun _ => true) fun s _ b =>
      match storePut 1 0x02 0 false b s with
      | none => .error abFull
      | some u => .ok fun t => t = u)

/-- Sessions and roles of the object dictionary.
* A first request through a port that serves its transport opens a session as INSPECT in the lowest free slot of 0-14, a UDP session with the next session ID; with none free it is refused by its transport and no session changes. On a CAN port whose channel has its session, through a port that does not serve the transport, and while the keeper does not serve, nothing happens.
* The lowest free slot is one of 0-14 that no lower free one precedes. The keeper serves while it runs outside recovery with the Hive die on; SDO and UDS through the fitted CAN ports of 0x1030/01, OD-over-UDP and DoIP through the fitted Ethernet ports of 0x1033/01.
* A session without a request for the time of 0x1033/03 closes: its slot is free and its rights to area W and its download end; the keeper's own slot 15 stays, as does a session that had a request since. A TCP disconnect closes a DoIP session in the same way.
* A read of 0x1020/01 answers 32 new bytes, which are the session's role challenge from then on, unused and made now; a session that may not read it is answered with the code, and without a session nothing happens.
* Without a session nothing happens, and a session that access refuses is answered with the code. A role request of an endpoint that is blocked is refused with 0x08000022; INSPECT needs no proof; another role is given for a good proof over a fresh challenge; any other request leaves the role, is counted against its endpoint, logged and refused with 0x08000000. But for a blocked endpoint the challenge is used up.
* The roles' codes and proofs: HOST by AES-CMAC under the KEY slot of 0x1021/01 with its role-authentication usage, WORKSHOP by a signature of one of the keys of 0x1021/02, MAKER by one of MAKER_KH, VENDOR in RETURN alone by one of the vendor's key. The eighth failure within 10 minutes blocks the endpoint from then on.
* The block of an endpoint ends 10 minutes after it began, and not before; its count and everything else stay. -/
def Obligations.OdSessions : Prop :=
  (∀ (s : State) (tr : Transport) (n : Fin 24) (c : Instr), (c = .odSessionOpen tr n ∨ (c = .doipRoutingActivation n ∧ tr = .doip)) →
      let fresh : Session := { transport := tr, endpoint := n, lastPs := nowPs s }
      let has := n.val < 10 ∧ (channelSlot s tr n).isSome = true
      (odServes s = false ∨ transportOn s tr n = false ∨ has → exec c s = .next s) ∧
      (odServes s = true → transportOn s tr n = true → ¬ has →
        (∀ i, openSlot s = some i → tr ≠ .udp → exec c s = .next { s with sess := { s.sess with slots := vmod s.sess.slots i fun _ => some fresh } }) ∧
        (∀ i, openSlot s = some i → tr = .udp → exec c s = .next { s with sess := { s.sess with
          nextUdpId := (s.sess.nextUdpId + 1) % 2 ^ 32, slots := vmod s.sess.slots i fun _ => some { fresh with udpId := s.sess.nextUdpId } } }) ∧
        (openSlot s = none → exec c s = .next { s with out := (match tr with
          | .sdo => .sdo n (sdo8 ([0x80] ++ sdoMux 0 0 ++ leBytes 4 abFull))
          | .udp => .udp n 6 0 0 (beBytes 4 abFull)
          | _ => .uds 16 [0x7F, 0, 0x21]) :: s.out }))) ∧
  (∀ (s : State) (n : Nat),
      (∀ i, openSlot s = some i → i < 15 ∧ (s.sess.slots[i]?).join = none ∧ ∀ j, j < i → (s.sess.slots[j]?).join.isSome = true) ∧
      (openSlot s = none → ∀ i, i < 15 → (s.sess.slots[i]?).join.isSome = true) ∧
      (odServes s = true ↔ s.kpr.running = true ∧ s.kpr.recovery = false ∧ s.pwr.hive = true ∧ s.pwr.seqHalted = false) ∧
      (∀ tr, tr = .sdo ∨ tr = .uds → (transportOn s tr n = true ↔ n < 10 ∧ portFitted s n = true ∧ (setting s (odKey 0x1030 1)).testBit n = true)) ∧
      (∀ tr, tr = .udp ∨ tr = .doip → (transportOn s tr n = true ↔ isEth n = true ∧ portFitted s n = true ∧ (setting s (odKey 0x1033 1)).testBit n = true)) ∧
      transportOn s .keeperFirmware n = false) ∧
  (∀ (s : State) (slot : Fin 16),
      let closed : State := { s with
        sess := { s.sess with slots := vmod s.sess.slots slot fun _ => none, download := s.sess.download.filter (·.1 ≠ slot.val) }
        store := { s.store with wRights := s.store.wRights.filter (·.1 ≠ slot.val) } }
      let x := (s.sess.slots[slot.val]?).join
      let idle := slot.val < 15 ∧ odServes s = true ∧ ∃ y, x = some y ∧ y.lastPs + setting s (odKey 0x1033 3) * 1000000000000 ≤ nowPs s
      (idle → exec (.odSessionIdleTimeout slot) s = .next closed) ∧ (¬ idle → exec (.odSessionIdleTimeout slot) s = .next s) ∧
      (∀ y, sessionAt s slot = some y → y.transport = .doip → exec (.doipDisconnect slot) s = .next { closed with out := .doipClosed slot :: s.out }) ∧
      ((∀ y, sessionAt s slot = some y → y.transport ≠ .doip) → exec (.doipDisconnect slot) s = .next s)) ∧
  (∀ (s : State) (slot : Fin 16),
      (sessionAt s slot = none → exec (.roleChallengeRead slot) s = .next s) ∧
      ∀ x, sessionAt s slot = some x →
        (∀ e, allow s x false 0x1020 1 = .error e → exec (.roleChallengeRead slot) s = .next { touchSession slot s with out := .odAbort slot e :: s.out }) ∧
        (∀ r, allow s x false 0x1020 1 = .ok r → Completes (.roleChallengeRead slot) s fun t =>
          ∃ b : Blob, b.length = 32 ∧
            sessionAt t slot = some { x with
              challenge := some { bytes := b, madePs := nowPs s, used := false }, lastPs := nowPs s, snapshot := x.snapshot.filter fun p => p.1 = odKey 0x1020 1 } ∧
            (∀ i, i ≠ slot.val → sessionAt t i = sessionAt s i) ∧ t.sess = { s.sess with slots := t.sess.slots } ∧
            t = { s with draws := s.draws + 1, sess := t.sess, out := .odDone slot b :: s.out })) ∧
  (∀ (s : State) (slot : Fin 16) (role : Byte) (proof : Blob),
      let act (t : State) : Prop := exec (.roleRequest slot role proof) s = .next { t with pending := s.pending }
      let u := dropSnapshot slot (odKey 0x1020 2) s
      let abort (e : Nat) (t : State) : Prop := act { touchSession slot t with out := .odAbort slot e :: t.out }
      (sessionAt s slot = none → exec (.roleRequest slot role proof) s = .next s) ∧
      ∀ x, sessionAt s slot = some x →
        (∀ e, checkedWrite u x 0x1020 2 (.bytes (role :: proof)) true (fun _ _ => .ok u) = .error e → abort e u) ∧
        (checkedWrite u x 0x1020 2 (.bytes (role :: proof)) true (fun _ _ => .ok u) = .ok u →
          let f : RoleFail := (s.sess.fails[x.endpoint]?).getD {}
          let fresh : Bool := match x.challenge with | some c => !c.used && decide (nowPs s ≤ c.madePs + 60000000000000) | none => false
          let msg := fuseUid ++ (x.challenge.map (·.bytes)).getD [] ++ [role] ++ leBytes 1 x.endpoint
          let used (r : Option Role) (t : State) : State := modSession slot (fun y => { y with challenge := y.challenge.map fun c => { c with used := true }, role := r.getD y.role }) t
          let given (r : Role) : Prop := act (let t := used (some r) u; { touchSession slot t with out := .odDone slot [] :: s.out })
          let failed : Prop := abort abProof (logEvent 8 clsSecurity 0 (odKey 0x1020 4) (leBytes 1 x.endpoint) (used none { u with sess := { u.sess with fails := vmod s.sess.fails x.endpoint (·.fail (nowPs s)) } }))
          (f.blocked = true → abort abState u) ∧
          (f.blocked = false → role = 0 → given .inspect) ∧
          (∀ r, f.blocked = false → roleOf role.toNat = some r → r ≠ .inspect →
            (fresh = true ∧ proofAdmits s r msg proof = true → given r) ∧ (fresh = false ∨ proofAdmits s r msg proof = false → failed)) ∧
          (f.blocked = false → roleOf role.toNat = none → failed))) ∧
  (∀ (s : State) (msg proof : Blob) (f : RoleFail) (now : Nat),
      ((roleOf 0, roleOf 1, roleOf 2, roleOf 3, roleOf 4) = (some .inspect, some .host, some .maker, some .workshop, some .vendor) ∧ ∀ k, 4 < k → roleOf k = none) ∧
      (proofAdmits s .host msg proof = true ↔ val s (odKey 0x1021 1) ≤ 55 ∧ ∃ k, slotAt s (val s (odKey 0x1021 1)) = some k ∧ k.usage.getLsbD 3 = true ∧ aesCmac k.key msg = proof) ∧
      (let signed (hs : List Blob) : Prop := proof.length = 129 ∧ keyHash (proof.take 65) ∈ hs ∧ keyHash (proof.take 65) ∉ [[], zeros 32] ∧ Config.ecdsaVerify (proof.take 65) msg (proof.drop 65) = true;
        (proofAdmits s .workshop msg proof = true ↔ signed (chunks 32 (subPad (blob s (odKey 0x1021 2)) 0 256))) ∧
        (proofAdmits s .maker msg proof = true ↔ signed [s.fuse.makerKh]) ∧
        (proofAdmits s .vendor msg proof = true ↔ s.lc.state = 4 ∧ signed [fuseVendorKh])) ∧
      (let times := now :: f.times.filter fun t => now < t + 600000000000000;
        f.fail now = if 8 ≤ times.length then { count := min (f.count + 1) 0xFFFFFFFF, times := [], blocked := true, blockedPs := now }
          else { f with count := min (f.count + 1) 0xFFFFFFFF, times := times, blocked := false })) ∧
  (∀ (s : State) (e : Fin 33),
      exec (.roleBlockEnd e) s = .next { s with sess := { s.sess with fails := vmod s.sess.fails e fun f => { f with blocked := f.blocked && decide (nowPs s < f.blockedPs + 600000000000000) } } })

/-- Writes and reads of single entries, by command and through the keeper's window.
* Without a session nothing happens. A write is answered as it ends: done, with its abort code, or later by the function it was handed to; every form is a request of its session.
* How a write ends. It drops the session's snapshot of another entry. The checks come in order: the entry, its access and role, its type, the owner's state, the entry's own state, its range and the values its table refuses; the first that fails gives the code, and nothing else changes. Past them a write has its entry's effect, or the code the effect is refused with. The entries that take a request as bytes hand it to their function.
* The entries without an effect beside their value: a write that passes the checks sets the entry and commits its record, and changes nothing else.
* The entries whose effect is a command's have that command's effect.
* A ready write of "load" to 0x1011/01 marks the restore for the next Hive-die start; any other value is refused with 0x06090030. A write that a check refuses is answered with the code, and without a session nothing happens.
* While the keeper does not run nothing happens; a request that finds another one busy is ignored and logged. Any other is CMD's request, and the words that the hardware writes for it take a reservation of the keeper on them away. Without a session in SLOT the status is 0x08000022. A read that is refused leaves its code and VALUE VOID. A scalar stands in VALUE under its type's tag, its upper word in VALUE_HI; a string's bytes from OFFSET, at most LENGTH, stand in DATA, its full length in TOTAL.
* A write through the window has the same forms. In SLOT's session it writes VALUE under its tag for a scalar, with VALUE_HI for 8 bytes, and for a string LENGTH bytes of DATA at OFFSET; the outcome's code stands in STATUS and no answer leaves on a transport.
* A read of an entry, and of a part of one: access first, then the value. The answers of 0x2310/02 and 0x2410/02 are taken from their lists. A string that is not read to its end is kept as the session's snapshot, which later parts are served from until its last byte. -/
def Obligations.OdAccesses : Prop :=
  (∀ (s : State) (slot : Fin 16) (idx : BitVec 16) (sb : Byte) (v : OdValue),
      let act (t : State) : Prop := exec (.objectWrite slot idx sb v) s = .next { t with pending := s.pending }
      (sessionAt s slot = none → exec (.objectWrite slot idx sb v) s = .next s) ∧
      ∀ x, sessionAt s slot = some x → match odWrite slot x idx.toNat sb.toNat v s with
        | .done t => act { touchSession slot t with out := .odDone slot [] :: t.out }
        | .abort e t => act { touchSession slot t with out := .odAbort slot e :: t.out }
        | .later t => act (touchSession slot t)) ∧
  (∀ (s : State) (slot : Nat) (x : Session) (idx sb : Nat) (v : OdValue),
      let u := dropSnapshot slot (odKey idx sb) s
      let number := match v with | .num _ n => n | .tagged _ n => n | .bytes b => ofLe b
      let checks := checkedWrite u x idx sb v (entryOpen u idx sb number) fun n b => if valueBad u idx sb n b then .error abRange else .ok u
      let requests : List (Nat × Nat) := [(0x1020, 2), (0x2010, 3), (0x2202, 3), (0x2202, 4), (0x2310, 1), (0x2330, 1), (0x2410, 1)]
      (∀ e, checks = .error e → (idx ≠ 0x2010 ∨ sb ≠ 3) → odWrite slot x idx sb v s = .abort e u) ∧
      (∀ t, checks = .ok t → (idx, sb) ∉ requests → ∃ r n b, allow u x true idx sb = .ok r ∧ typed r v = .ok (n, b) ∧
        odWrite slot x idx sb v s = match entryEffect u slot x idx sb n b with | .ok w => .done w | .error e => .abort e u) ∧
      (∀ t b, checks = .ok t → v = .bytes b →
        ((idx, sb) = (0x1020, 2) → odWrite slot x idx sb v s = roleWrite slot x b u) ∧
        ((idx, sb) = (0x2010, 3) → odWrite slot x idx sb v s = .later (transitionWrite slot b u)) ∧
        ((idx, sb) = (0x2310, 1) → odWrite slot x idx sb v s = if 1 ≤ ofLe (b.take 1) ∧ ofLe (b.take 1) ≤ 14 then .done (vaultRequestWrite b u) else .abort abRange u) ∧
        ((idx, sb) = (0x2410, 1) → odWrite slot x idx sb v s = .done (laneRequestWrite b u)))) ∧
  (∀ (s : State) (slot : Fin 16) (idx : BitVec 16) (sb : Byte) (v : OdValue) (n : Nat) (b : Blob),
      (idx.toNat, sb.toNat) ∈ [(0x3903, 3), (0x1032, 1), (0x1034, 1), (0x1034, 2), (0x1034, 3), (0x2340, 3), (0x1033, 3), (0x1031, 1), (0x1031, 10)] →
      WriteReady s slot idx.toNat sb.toNat v n b → Completes (.objectWrite slot idx sb v) s fun t =>
        val t (odKey idx.toNat sb.toNat) = n ∧ (∀ k, k ≠ odKey idx.toNat sb.toNat → k ≠ odKey 0x2200 7 → val t k = val s k) ∧ t.blobs = s.blobs ∧
        t = { s with od := t.od, store := t.store, sess := t.sess, out := .odDone slot [] :: s.out }) ∧
  (∀ (s : State) (slot n : Nat) (x : Session) (v : Nat) (b : Blob), n < 16 →
      let e (i k : Nat) : Access := entryEffect s slot x i k v b
      e 0x2000 3 = effDeviceReset s v ∧ e 0x2100 1 = effStateRequest s v ∧ e 0x2102 1 = effKeeperVotes s v ∧ e 0x2106 1 = effPadRelease s ∧
      e 0x2201 3 = blockProtect v s ∧ e 0x2202 6 = storePasswords b s ∧ e 0x2300 6 = effKeyRevoke s v ∧ e 0x2330 2 = revokeRequest v s ∧ e 0x2340 1 = startAttestation b s ∧
      e 0x3800 2 = effPlaneTest s v ∧ e 0x3800 7 = effClearHighWater s v ∧ e 0x3902 1 = effStandbyLoad s b ∧ e 0x3902 2 = effSwap s v ∧ e 0x3904 1 = effMinGeneration s v ∧
      e 0x3A03 2 = effStreamSlots s b ∧ e 0x3A2B 1 = effBindings s b ∧ e 0x3B20 6 = effWatchdog s ∧ e (0x3B10 + n) 1 = effPairEnable s n v ∧ e (0x3B10 + n) 7 = effRequalify s n v ∧
      e 0x4001 1 = effWakeId s v ∧ e 0x4002 1 = effPatternTable s b ∧ e 0x4100 1 = effUwbEnable s v ∧ e 0x4200 1 = effNfcEnable s v ∧ e 0x4200 0xA = effReaderExchange s b ∧
      e 0x5040 2 = effLfLoopback s ∧ e 0x5041 1 = effUwbLoopback s ∧ e 0x5042 1 = effNfcLoad s ∧ e 0x5050 2 = effBist s ∧
      (n < 8 → e (0x4010 + n) 1 = effLfEnable s n v) ∧ (n < 12 → e (0x2480 + n) 3 = effLaneEnable s n v)) ∧
  (∀ (s : State) (slot : Fin 16) (v : Nat),
      (sessionAt s slot = none → exec (.restoreDefaults slot v) s = .next s) ∧
      (∀ x e, sessionAt s slot = some x → let u := dropSnapshot slot (odKey 0x1011 1) s
        checkedWrite u x 0x1011 1 (numFor 0x1011 1 v) true (fun _ _ => .ok u) = .error e → exec (.restoreDefaults slot v) s = .next { touchSession slot u with out := .odAbort slot e :: s.out }) ∧
      (∀ n b, WriteReady s slot 0x1011 1 (numFor 0x1011 1 v) n b →
        let u := dropSnapshot slot (odKey 0x1011 1) (touchSession slot s)
        (v = 0x64616F6C → exec (.restoreDefaults slot v) s = .next { u with sess := { u.sess with restore := true }, out := .odDone slot [] :: s.out }) ∧
        (v ≠ 0x64616F6C → exec (.restoreDefaults slot v) s = .next { u with out := .odAbort slot abRange :: s.out }))) ∧
  (∀ (s : State) (idx : BitVec 16) (sb : Byte),
      let act (t : State) : Prop := exec (.odWindowRead idx sb) s = .next { t with pending := s.pending }
      let cmd := 0x1000000 + sb.toNat * 0x10000 + idx.toNat
      let busy := s.sess.window.status = 0xFFFFFFFF ∧ s.sess.window.cmd ≠ cmd
      let u : State := { s with
        sess := { s.sess with window := { s.sess.window with cmd := cmd } }
        keeper := { s.keeper with resv := s.keeper.resv.filter fun p => !(p.1 ∈ [0x01000004, 0x01000005, 0x01000010, 0x01000011] || (decide (0x01000100 ≤ p.1) && decide (p.1 < 0x01100000))) } }
      let win (f : OdWindow → OdWindow) (t : State) : State := { t with sess := { t.sess with window := f t.sess.window } }
      (s.kpr.running = false → exec (.odWindowRead idx sb) s = .next s) ∧
      (s.kpr.running = true → busy → act (logEvent 0 clsRefusal 0 0 (leBytes 4 cmd) s)) ∧
      (s.kpr.running = true → ¬ busy →
        (sessionAt s s.sess.window.slot = none → act (win (fun w => { w with status := abState, value := none }) u)) ∧
        ∀ x, sessionAt s s.sess.window.slot = some x →
          (∀ r n, entryRow idx.toNat sb.toNat = some r → r.ty.bytes = some n →
            match odRead s.sess.window.slot x idx.toNat sb.toNat (dropSnapshot s.sess.window.slot (odKey idx.toNat sb.toNat) u) with
            | .error e => act (win (fun w => { w with status := e, value := none }) u)
            | .ok (b, t) => act (win (fun w => { w with status := 0, total := n, value := some (r.ty.tag.toNat, ofLe (b.take 4)), valueHi := ofLe (b.drop 4) }) t)) ∧
          ((entryRow idx.toNat sb.toNat).bind (·.ty.bytes) = none →
            match readPart s.sess.window.slot x idx.toNat sb.toNat s.sess.window.offset (min s.sess.window.length 4193280) u with
            | .error e => act (win (fun w => { w with status := e, value := none }) u)
            | .ok (b, total, t) => act (win (fun w => { w with status := 0, total := total, data := b }) t)))) ∧
  (∀ (s : State) (idx : BitVec 16) (sb : Byte),
      let act (t : State) : Prop := exec (.odWindowWrite idx sb) s = .next { t with pending := s.pending }
      let cmd := 0x2000000 + sb.toNat * 0x10000 + idx.toNat
      let busy := s.sess.window.status = 0xFFFFFFFF ∧ s.sess.window.cmd ≠ cmd
      let u : State := { s with
        sess := { s.sess with window := { s.sess.window with cmd := cmd } }
        keeper := { s.keeper with resv := s.keeper.resv.filter fun p => p.1 ∉ [0x01000004, 0x01000005] } }
      let w := s.sess.window
      let ends (r : Written) : Prop := act { r.status.2 with sess := { r.status.2.sess with window := { r.status.2.sess.window with
        status := r.status.1, total := totalOf idx.toNat sb.toNat r.status.2.sess.window.offset (r.status.2.sess.window.data.take r.status.2.sess.window.length) } } }
      (s.kpr.running = false → exec (.odWindowWrite idx sb) s = .next s) ∧
      (s.kpr.running = true → busy → act (logEvent 0 clsRefusal 0 0 (leBytes 4 cmd) s)) ∧
      (s.kpr.running = true → ¬ busy →
        (sessionAt s w.slot = none → act { u with sess := { u.sess with window := { u.sess.window with status := abState } } }) ∧
        ∀ x, sessionAt s w.slot = some x →
          (∀ r n, entryRow idx.toNat sb.toNat = some r → r.ty.bytes = some n →
            ends (odWrite w.slot x idx.toNat sb.toNat (.tagged (BitVec.ofNat 4 (w.value.getD (0, 0)).1) ((w.value.getD (0, 0)).2 + if n = 8 then w.valueHi * 2 ^ 32 else 0)) u)) ∧
          ((entryRow idx.toNat sb.toNat).bind (·.ty.bytes) = none →
            ends (requestWrite w.slot x idx.toNat sb.toNat w.offset 4193280 (subPad w.data 0 (min w.length 4193280)) u)))) ∧
  (∀ (s : State) (slot : Nat) (x : Session) (idx sb off len : Nat),
      (∀ e, allow s x false idx sb = .error e → odRead slot x idx sb s = .error e) ∧
      (∀ r, allow s x false idx sb = .ok r → (idx, sb) ∉ [(0x2202, 2), (0x1020, 1), (0x2010, 4), (0x2310, 2), (0x2410, 2)] → odRead slot x idx sb s = .ok (entryBytes s x idx sb, s)) ∧
      (∀ r, allow s x false 0x2202 2 = .ok r → odRead slot x 0x2202 2 s = if (wRights s slot x).1 then .ok (entryBytes s x 0x2202 2, s) else .error abProtected) ∧
      (∀ r, allow s x false 0x2310 2 = .ok r → odRead slot x 0x2310 2 s = .ok (entryBytes s x 0x2310 2, { s with vault := { s.vault with answers := s.vault.answers.tail } })) ∧
      (let u := dropSnapshot slot (odKey idx sb) s
       (∀ b r, x.snapshot = some (odKey idx sb, b) → off ≠ 0 → allow u x false idx sb = .ok r →
        readPart slot x idx sb off len s = .ok (sub b off len, b.length, if b.length ≤ off + len then modSession slot (fun y => { y with snapshot := none }) u else u)) ∧
       ((∀ b, x.snapshot ≠ some (odKey idx sb, b)) ∨ off = 0 → readPart slot x idx sb off len s = match odRead slot x idx sb u with
        | .error e => .error e
        | .ok (b, t) => .ok (sub b off len, b.length, modSession slot (fun y => { y with snapshot := if off + len < b.length then some (odKey idx sb, b) else none }) t))))

/-- SDO transfers on a CAN service port.
* An expedited download writes up to 4 bytes at once and is confirmed, or aborted with the write's code; any other announces its size and opens the transfer.
* A segment of a download with the right toggle adds up to 7 bytes and is acknowledged; the last one, with the announced size, writes the entry and ends the transfer; a wrong toggle aborts with 0x05030000, a wrong size with 0x06070010. Without a download under way on a channel with a session it aborts with 0x05040001, and ends what transfer there is. Where the port is not served nothing happens.
* An upload reads the entry at once, as its snapshot: up to 4 bytes are sent with the answer, longer contents announce their length and are sent in segments; a read that is refused is aborted with its code.
* A segment of an upload with the right toggle sends the next 7 bytes; the last one, of fewer or of exactly the rest, ends the transfer; a wrong toggle aborts with 0x05030000. Without an upload under way on a channel with a session it aborts with 0x05040001, and ends what transfer there is. Where the port is not served nothing happens.
* A block download is offered blocks of 127 segments. Segments that bear another sequence number than 1 to 127 in their blocks abort it with 0x05040003. Otherwise each block is acknowledged, and the data without the unused bytes of the last segment are written where their CRC is good, which 0xA1 confirms; a wrong CRC aborts with 0x05040004, and then nothing is written.
* A block upload with a block size of 1 to 127 sends the length, the contents in segments of 7 bytes numbered within their blocks, and the CRC with the unused bytes of the last; another block size aborts with 0x05040002, a read that is refused with its code.
* A client's abort ends the channel's transfer unanswered; a gap longer than 0x1032/01 since its last frame ends it with 0x05040000, and not before. Where the port is not served, and for a gap without a transfer, nothing happens. -/
def Obligations.SdoTransfers : Prop :=
  (∀ (n : Fin 24) (idx : BitVec 16) (sb : Byte) (size : Nat) (d : Blob),
      let say (b : Blob) (t : State) : State := { t with out := .sdo n (sdo8 b) :: t.out }
      SdoServed (.sdoInitiateDownload n idx sb false size d) n (fun _ _ v => say ([0x60] ++ sdoMux idx.toNat sb.toNat) { v with
        sess := { v.sess with sdo := vmod v.sess.sdo n fun _ => .download idx.toNat sb.toNat size [] false, sdoPs := vmod v.sess.sdoPs n fun _ => nowPs v } }) ∧
      SdoServed (.sdoInitiateDownload n idx sb true size d) n (fun i x v => match odWrite i x idx.toNat sb.toNat (.bytes (d.take 4)) v with
        | .done t => say ([0x60] ++ sdoMux idx.toNat sb.toNat) t
        | .abort c t => say ([0x80] ++ sdoMux idx.toNat sb.toNat ++ leBytes 4 c) t
        | .later t => t)) ∧
  (∀ (s : State) (n : Fin 24) (tg last : Bool) (d : Blob),
      let act (t : State) : Prop := exec (.sdoDownloadSegment n tg last d) s = .next { t with pending := s.pending }
      let u : State := { s with keeper := { s.keeper with ipend := s.keeper.ipend ||| 4 } }
      let set (x : SdoTransfer) (t : State) : State := { t with sess := { t.sess with sdo := vmod t.sess.sdo n fun _ => x, sdoPs := vmod t.sess.sdoPs n fun _ => nowPs s } }
      let say (b : Blob) (t : State) : State := { t with out := .sdo n (sdo8 b) :: t.out }
      let fail (c : Nat) (t : State) : State := match (sdoAt s n).entry with | none => say ([0x80] ++ sdoMux 0 0 ++ leBytes 4 c) t | some (i, b) => say ([0x80] ++ sdoMux i b ++ leBytes 4 c) (set .none t)
      (odServes s = false ∨ canService s n = false → exec (.sdoDownloadSegment n tg last d) s = .next s) ∧
      (odServes s = true → canService s n = true →
        (((sdoSession s n).isNone ∨ ∀ i b k g t, sdoAt s n ≠ .download i b k g t) → act (fail 0x05040001 u)) ∧
        ∀ i x idx sb size got t, sdoSession s n = some (i, x) → sdoAt s n = .download idx sb size got t →
          let v := touchSession i u
          let all := got ++ d.take 7
          let ack : Blob := [BitVec.ofNat 8 (0x20 + tg.toNat * 16)]
          (tg ≠ t → act (fail 0x05030000 v)) ∧
          (tg = t → last = false → act (say ack (set (.download idx sb size all (!t)) v))) ∧
          (tg = t → last = true → size ≠ 0 → all.length ≠ size → act (fail abType v)) ∧
          (tg = t → last = true → size = 0 ∨ all.length = size → act (match odWrite i x idx sb (.bytes all) (set .none v) with
            | .done w => say ack w
            | .abort c w => say ([0x80] ++ sdoMux idx sb ++ leBytes 4 c) w
            | .later w => w)))) ∧
  (∀ (n : Fin 24) (idx : BitVec 16) (sb : Byte),
      let say (b : Blob) (t : State) : State := { t with out := .sdo n (sdo8 b) :: t.out }
      SdoServed (.sdoInitiateUpload n idx sb) n fun i x v => match odRead i x idx.toNat sb.toNat (dropSnapshot i (odKey idx.toNat sb.toNat) v) with
        | .error c => say ([0x80] ++ sdoMux idx.toNat sb.toNat ++ leBytes 4 c) v
        | .ok (b, t) => if 1 ≤ b.length ∧ b.length ≤ 4 then say ([BitVec.ofNat 8 (0x43 + (4 - b.length) * 4)] ++ sdoMux idx.toNat sb.toNat ++ b) t
          else say ([0x41] ++ sdoMux idx.toNat sb.toNat ++ leBytes 4 b.length) { t with
            sess := { t.sess with sdo := vmod t.sess.sdo n fun _ => .upload idx.toNat sb.toNat b false, sdoPs := vmod t.sess.sdoPs n fun _ => nowPs t } }) ∧
  (∀ (s : State) (n : Fin 24) (tg : Bool),
      let act (t : State) : Prop := exec (.sdoUploadSegment n tg) s = .next { t with pending := s.pending }
      let u : State := { s with keeper := { s.keeper with ipend := s.keeper.ipend ||| 4 } }
      let set (x : SdoTransfer) (t : State) : State := { t with sess := { t.sess with sdo := vmod t.sess.sdo n fun _ => x, sdoPs := vmod t.sess.sdoPs n fun _ => nowPs s } }
      let say (b : Blob) (t : State) : State := { t with out := .sdo n (sdo8 b) :: t.out }
      let fail (c : Nat) (t : State) : State := match (sdoAt s n).entry with | none => say ([0x80] ++ sdoMux 0 0 ++ leBytes 4 c) t | some (i, b) => say ([0x80] ++ sdoMux i b ++ leBytes 4 c) (set .none t)
      (odServes s = false ∨ canService s n = false → exec (.sdoUploadSegment n tg) s = .next s) ∧
      (odServes s = true → canService s n = true →
        (((sdoSession s n).isNone ∨ ∀ i b l t, sdoAt s n ≠ .upload i b l t) → act (fail 0x05040001 u)) ∧
        ∀ i x idx sb left t, sdoSession s n = some (i, x) → sdoAt s n = .upload idx sb left t →
          let v := touchSession i u
          (tg ≠ t → act (fail 0x05030000 v)) ∧
          (tg = t → act (say ([BitVec.ofNat 8 (tg.toNat * 16 + (7 - min left.length 7) * 2 + (if left.length ≤ 7 then 1 else 0))] ++ left.take 7)
            (set (if left.length ≤ 7 then .none else .upload idx sb (left.drop 7) (!t)) v))))) ∧
  (∀ (n : Fin 24) (idx : BitVec 16) (sb : Byte) (segs : List (Nat × Blob)) (unused : Fin 7) (crc : BitVec 16),
      let say (b : Blob) (t : State) : State := { t with out := .sdo n (sdo8 b) :: t.out }
      let mux := sdoMux idx.toNat sb.toNat
      let bytes := segs.flatMap fun g => subPad g.2 0 7
      let d := bytes.take (bytes.length - unused)
      let good := segs.zipIdx.all fun g => g.1.1 == g.2 % 127 + 1
      SdoServed (.sdoBlockDownload n idx sb segs unused crc) n fun i x v =>
        let v := say ([0xA4] ++ mux ++ [127]) v
        if good = false then say ([0x80] ++ mux ++ leBytes 4 0x05040003) v
        else
          let w := (chunks 889 bytes).foldl (fun t b => say [0xA2, BitVec.ofNat 8 ((b.length + 6) / 7), 127] t) v
          if crc16 0 d ≠ crc.toNat then say ([0x80] ++ mux ++ leBytes 4 0x05040004) w
          else match odWrite i x idx.toNat sb.toNat (.bytes d) w with
            | .done t => say [0xA1] t
            | .abort c t => say ([0x80] ++ mux ++ leBytes 4 c) t
            | .later t => t) ∧
  (∀ (n : Fin 24) (idx : BitVec 16) (sb : Byte) (bs : Nat),
      let say (b : Blob) (t : State) : State := { t with out := .sdo n (sdo8 b) :: t.out }
      let mux := sdoMux idx.toNat sb.toNat
      SdoServed (.sdoBlockUpload n idx sb bs) n fun i x v =>
        if bs = 0 ∨ 127 < bs then say ([0x80] ++ mux ++ leBytes 4 0x05040002) v
        else match odRead i x idx.toNat sb.toNat (dropSnapshot i (odKey idx.toNat sb.toNat) v) with
          | .error c => say ([0x80] ++ mux ++ leBytes 4 c) v
          | .ok (b, t) =>
            let segs := chunks 7 b
            let t := say ([0xC6] ++ mux ++ leBytes 4 b.length) t
            let t := segs.zipIdx.foldl (fun t g => say ([BitVec.ofNat 8 (g.2 % bs + 1 + (if g.2 + 1 = segs.length then 128 else 0))] ++ g.1) t) t
            say ([BitVec.ofNat 8 (0xC1 + (7 * segs.length - b.length) * 4)] ++ leBytes 2 (crc16 0 b)) t) ∧
  (∀ (s : State) (n : Fin 24) (c : Word),
      let none' : State := { s with sess := { s.sess with sdo := vmod s.sess.sdo n fun _ => .none, sdoPs := vmod s.sess.sdoPs n fun _ => nowPs s } }
      let served := odServes s = true ∧ canService s n = true
      let late := (s.sess.sdoPs[n.val]?).getD 0 + setting s (odKey 0x1032 1) * 1000000000 < nowPs s
      (served → exec (.sdoAbort n c) s = .next none') ∧ (¬ served → exec (.sdoAbort n c) s = .next s) ∧
      (∀ idx sb, served → (sdoAt s n).entry = some (idx, sb) → late → exec (.sdoSegmentTimeout n) s = .next { none' with out := .sdo n (sdo8 ([0x80] ++ sdoMux idx sb ++ leBytes 4 0x05040000)) :: s.out }) ∧
      (¬ served ∨ (sdoAt s n).entry = none ∨ ¬ late → exec (.sdoSegmentTimeout n) s = .next s))

/-- OD-over-UDP on an Ethernet port. Whether a key is admitted is the vault's computation, so the conclusion has a case for each answer; the sequence number of the device's own CLOSE is free.
* OPEN without a key share is refused with 0x08000022. With one, a payload of 137 bytes whose import opens to a 16-byte key with the encrypt and decrypt usages and the keeper as owner opens a session in the lowest free slot with the next session ID, and OPENED carries its first challenge; any other is refused with 0x08000000 and opens none, and with no slot free it is refused with 0x05040005. Where the port is not served nothing happens.
* A REQUEST that reads in a session follows its SEQ: one below the last is dropped; one that repeats the last gets the stored RESPONSE again; a new one of at most 1,392 bytes is read and answered, a longer one answered with 0x06090030, and its RESPONSE is stored. SEQ 0xFFFFFFFF is followed by the device's CLOSE, which ends the session.
* A REQUEST that writes follows the same sequence rule; a new one of at most 1,388 bytes is written and answered with its code and the entry's full length, a longer one answered with 0x06090030.
* A write request to a scalar is written in the order of a big-endian payload. A string is gathered at rising offsets from 0 and written whole when its stated length, or without one a part shorter than the largest, is reached; an offset that does not go on from the last part is refused with 0x06090030.
* CLOSE with a good tag ends its session. -/
def Obligations.UdpMessages : Prop :=
  (∀ (s : State) (n : Fin 24) (p : Blob),
      let act (t : State) : Prop := exec (.udpOpen n p) s = .next { t with pending := s.pending }
      let u : State := { s with keeper := { s.keeper with ipend := s.keeper.ipend ||| 4 } }
      let refused (e : Nat) (t : State) : State := { t with out := .udp n 6 0 0 (beBytes 4 e) :: t.out }
      (odServes s = false ∨ ethService s n = false → exec (.udpOpen n p) s = .next s) ∧
      (odServes s = true → ethService s n = true →
        (s.vault.kd = none → act (refused abState u)) ∧
        (s.vault.kd.isSome = true →
          let q := importReq (p.take 65) (sub p 65 32) (p.drop 97) u
          let key : Option KeySlot := if q.1 = 0 ∧ p.length = 137 then (openBlob q.2.2 q.2.1).toOption.filter fun k => k.key.length = 16 && k.usage.getLsbD 0 && k.usage.getLsbD 1 && k.owner.getLsbD 0 else none
          (key = none → act (refused abProof q.2.2)) ∧
          (∀ k, key = some k → openSlot q.2.2 = none → act (refused abFull q.2.2)) ∧
          (∀ k i, key = some k → openSlot q.2.2 = some i → Completes (.udpOpen n p) s fun t => ∃ c : Blob, c.length = 32 ∧
            t.sess = { q.2.2.sess with
              nextUdpId := (q.2.2.sess.nextUdpId + 1) % 2 ^ 32
              slots := vmod q.2.2.sess.slots i fun _ => some { transport := .udp, endpoint := n, udpId := q.2.2.sess.nextUdpId, udpKey := k.key, lastPs := nowPs q.2.2
                                                               challenge := some { bytes := c, madePs := nowPs q.2.2, used := false } } } ∧
            t = { q.2.2 with sess := t.sess, draws := q.2.2.draws + 1, out := .udp n 2 q.2.2.sess.nextUdpId 0 (udpSeal k.key 2 q.2.2.sess.nextUdpId 0 c) :: q.2.2.out, pending := s.pending })))) ∧
  (∀ (n : Fin 24) (id q : Word) (idx : BitVec 16) (sb : Byte) (off len : Word) (tag : Blob),
      UdpServed (.udpRead n id q idx sb off len tag) n 3 id.toNat q.toNat (requestBytes 1 idx.toNat sb.toNat off.toNat len.toNat []) tag fun i x v =>
        let say (type sq : Nat) (r : Blob) (t : State) : State := { t with out := .udp n type id.toNat sq r :: t.out }
        if q.toNat < x.lastSeq then v
        else if q.toNat = x.lastSeq then (match x.response with | some r => say 4 q.toNat r v | none => v)
        else
          let a := requestRead i x idx.toNat sb.toNat off.toNat len.toNat v
          let p := if 1392 < len.toNat then responseBytes abRange 0 [] else responseBytes a.1 a.2.1 a.2.2.1
          let w := if 1392 < len.toNat then v else a.2.2.2
          let r := udpSeal x.udpKey 4 id.toNat q.toNat p
          let w := say 4 q.toNat r (modSession i (fun y => { y with lastSeq := q.toNat, response := some r }) w)
          if q = 0xFFFFFFFF then
            let c := free (2 ^ 32) w
            closeSession i (say 5 c.1 (udpSeal x.udpKey 5 id.toNat c.1 []) c.2)
          else w) ∧
  (∀ (n : Fin 24) (id q : Word) (idx : BitVec 16) (sb : Byte) (off : Word) (d tag : Blob),
      UdpServed (.udpWrite n id q idx sb off d tag) n 3 id.toNat q.toNat (requestBytes 2 idx.toNat sb.toNat off.toNat d.length d) tag fun i x v =>
        let say (type sq : Nat) (r : Blob) (t : State) : State := { t with out := .udp n type id.toNat sq r :: t.out }
        if q.toNat < x.lastSeq then v
        else if q.toNat = x.lastSeq then (match x.response with | some r => say 4 q.toNat r v | none => v)
        else
          let a := (requestWrite i x idx.toNat sb.toNat off.toNat 1388 d v).status
          let p := if 1388 < d.length then responseBytes abRange 0 [] else responseBytes a.1 (totalOf idx.toNat sb.toNat off.toNat d) []
          let w := if 1388 < d.length then v else a.2
          let r := udpSeal x.udpKey 4 id.toNat q.toNat p
          let w := say 4 q.toNat r (modSession i (fun y => { y with lastSeq := q.toNat, response := some r }) w)
          if q = 0xFFFFFFFF then
            let c := free (2 ^ 32) w
            closeSession i (say 5 c.1 (udpSeal x.udpKey 5 id.toNat c.1 []) c.2)
          else w) ∧
  (∀ (s : State) (slot : Nat) (x : Session) (idx sb off most : Nat) (d : Blob) (r : ObjRow), entryRow idx sb = some r →
      let u : State := modSession slot (fun y => { y with partialWrite := none }) s
      let got : Option Blob := if off = 0 then some [] else x.partialWrite.bind fun p => if p.1 = idx ∧ p.2.1 = sb ∧ p.2.2.length = off then some p.2.2 else none
      (r.ty.bytes.isSome = true → requestWrite slot x idx sb off most d s = odWrite slot x idx sb (.bytes d.reverse) u) ∧
      (r.ty.bytes = none →
        (got = none → requestWrite slot x idx sb off most d s = .abort abRange u) ∧
        ∀ g, got = some g →
          let ended := match r.len with | some l => decide (l ≤ (g ++ d).length) | none => decide (d.length < most)
          (ended = true → requestWrite slot x idx sb off most d s = odWrite slot x idx sb (.bytes (g ++ d)) u) ∧
          (ended = false → requestWrite slot x idx sb off most d s = match allow s x true idx sb with
            | .error c => .abort c s
            | .ok _ => .done (modSession slot (fun y => { y with partialWrite := some (idx, sb, g ++ d) }) s)))) ∧
  (∀ (n : Fin 24) (id q : Word) (tag : Blob), UdpServed (.udpClose n id q tag) n 5 id.toNat q.toNat [] tag fun i _ v => closeSession i v)

/-- UDS services, in a session and to the recovery loader, and the downloads of the update manager. The timing bytes of a session's answer are free.
* The default and the extended session are open to every role, the programming session to MAKER, any other role answering 0x33; another kind answers 0x12. The session's kind changes with the positive answer alone, and leaving the programming session abandons its download. The recovery loader knows the programming session alone.
* ECUReset of the keeper answers and then resets the keeper alone, with cause 4 where a keeper is staged; another kind answers 0x12. To the recovery loader it ends the download and the session and restarts the boot ROM's choice of a keeper.
* A reset of the keeper: it stops, with the cause as its last, its counter and an event that names cause and build; the lifecycle, the fabric, the pairs and the ports go on.
* TesterPresent is answered for subfunction 0 and silent for 0x80, any other 0x12; ReadDataByIdentifier gives the UID, the part code and the keeper's build, and 0x31 for every other identifier; the programming session does not serve it.
* Routine 0xFD00 outside the default session runs a read or a write of R416 and answers its RESPONSE payload; in the default session it answers 0x33, and another routine or operation answers 0x31.
* In the programming session, or to the recovery loader once its session stands, a download that nothing refuses opens, and what stood at its target stands no longer; a refused one answers its code; outside the programming session the answer is 0x22.
* What refuses a download: a format or address length other than 0x00 and 0x44, an address that is none of the keeper's and the four Comb set entries', a Comb in recovery, or a length above the largest image's, with 0x31; an entry that holds the active or the standby Comb, or a download that is open, with 0x22. The entries' addresses are 0x43000000 to 0x43000003, the keeper's 0x4B000000.
* A block with the next counter, of at most 1,024 bytes and within the announced length, is added and acknowledged; a repeat of the last is acknowledged and not added; another counter answers 0x73, too much data 0x71, a longer block 0x13; without a download of the session 0x24.
* The end of a complete download installs an image that passes its checks and answers 0x77, or answers 0x72 and installs nothing; the download is closed in both cases. An incomplete one, or none, answers 0x24.
* What a complete download installs. A Comb whose image and signatures are good and whose generation is not below the minimum stands in its set entry. A keeper image that fits and agrees with the active Comb or one of the set stands in the slot not last started, with the next install number, and is staged unless the loader installed it. -/
def Obligations.UdsServices : Prop :=
  (∀ (slot : Fin 16) (k : Byte),
      let say (i : Nat) (b : Blob) (t : State) : State := { t with out := .uds i b :: t.out }
      let enter (i : Nat) (t : State) : State := say i ([0x50, k] ++ bytesOf 4 Config.udsTiming) { t with
        sess := { t.sess with download := if k = 2 then t.sess.download else t.sess.download.filter (·.1 ≠ i), slots := vmod t.sess.slots i (·.map fun y => { y with diag := k.toNat }) } }
      (∀ s, s.kpr.recovery = false ∨ s.pwr.hive = false → UdsServes (.diagnosticSessionControl slot k) slot 0x10 (fun x t =>
        if k = 1 ∨ k = 3 then enter slot t else if k ≠ 2 then say slot [0x7F, 0x10, 0x12] t else if x.role = .maker then enter slot t else say slot [0x7F, 0x10, 0x33] t) s) ∧
      (∀ s : State, s.kpr.recovery = true → s.pwr.hive = true → exec (.diagnosticSessionControl slot k) s = .next (
        if k = 2 then enter 0 { s with sess := { s.sess with slots := vmod s.sess.slots 0 fun _ => some { transport := .uds, endpoint := 0, diag := 2 } } } else say 0 [0x7F, 0x10, 0x12] s))) ∧
  (∀ (slot : Fin 16) (k : Byte),
      let say (i : Nat) (b : Blob) (t : State) : State := { t with out := .uds i b :: t.out }
      (∀ s, s.kpr.recovery = false ∨ s.pwr.hive = false → UdsServes (.ecuReset slot k) slot 0x11 (fun _ t =>
        if k = 1 then keeperReset (if t.kpr.staged.isSome then 4 else 0) (say slot [0x51, 0x01] t) else say slot [0x7F, 0x11, 0x12] t) s) ∧
      (∀ s : State, s.kpr.recovery = true → s.pwr.hive = true →
        (k ≠ 1 → exec (.ecuReset slot k) s = .next (say 0 [0x7F, 0x11, 0x12] s)) ∧
        (k = 1 → exec (.ecuReset slot k) s = .next { bootAdvance { s with
          kpr := { s.kpr with recovery := false }, pwr := { s.pwr with boot := some (true, 5), dev := .boot }, out := .uds 0 [0x51, 0x01] :: s.out
          sess := { s.sess with download := none, slots := vmod s.sess.slots 0 fun _ => none } } with pending := s.pending }))) ∧
  (∀ (s : State) (cause : Nat),
      let t := keeperReset cause s
      t.kpr.running = false ∧ t.kpr.lastCause = cause ∧ t.fab = s.fab ∧ t.lc = s.lc ∧ t.comb = s.comb ∧ t.pairs = s.pairs ∧ t.vault = s.vault ∧ t.lf = s.lf ∧
      val t (odKey 0x3B20 3) = min (val s (odKey 0x3B20 3) + 1) 0xFFFFFFFF ∧ (∀ i, i < 15 → sessionAt t i = none)) ∧
  (∀ (slot : Fin 16) (k : Byte) (d : BitVec 16),
      let say (b : Blob) (t : State) : State := { t with out := .uds slot b :: t.out }
      (∀ s, UdsServes (.testerPresent slot k) slot 0x3E (fun _ t => if k = 0 then say [0x7E, 0x00] t else if k = 0x80 then t else say [0x7F, 0x3E, 0x12] t) s) ∧
      (∀ s, UdsServes (.readDataByIdentifier slot d) slot 0x22 (fun _ t =>
        if d = 0xF18C then say ([0x62, 0xF1, 0x8C] ++ fuseUid) t
        else if d = 0xF187 then say ([0x62, 0xF1, 0x87] ++ beBytes 2 (if isSmall t then 0x2412 else 0x2424)) t
        else if d = 0xF195 then say ([0x62, 0xF1, 0x95] ++ beBytes 4 t.kpr.build) t
        else say [0x7F, 0x22, 0x31] t) s)) ∧
  (∀ (s : State) (slot : Fin 16) (rid : BitVec 16) (op : Byte) (idx : BitVec 16) (sb : Byte) (off len : Nat) (d : Blob),
      let say (b : Blob) (t : State) : State := { t with out := .uds slot b :: t.out }
      UdsServes (.routineControl slot rid op idx sb off len d) slot 0x31 (fun x t =>
        if x.diag = 1 then say [0x7F, 0x31, 0x33] t
        else if rid ≠ 0xFD00 ∨ (op ≠ 1 ∧ op ≠ 2) then say [0x7F, 0x31, 0x31] t
        else if op = 1 then
          let a := requestRead slot x idx.toNat sb.toNat off len t
          say ([0x71, 0x01, 0xFD, 0x00] ++ responseBytes a.1 a.2.1 a.2.2.1) a.2.2.2
        else
          let a := (requestWrite slot x idx.toNat sb.toNat off 1388 d t).status
          say ([0x71, 0x01, 0xFD, 0x00] ++ responseBytes a.1 (totalOf idx.toNat sb.toNat off d) []) a.2) s) ∧
  (∀ (slot : Fin 16) (f a : Byte) (adr len : Nat),
      let say (i : Nat) (b : Blob) (t : State) : State := { t with out := .uds i b :: t.out }
      let effect (i : Nat) (t : State) : State := match downloadRefusal t f.toNat a.toNat adr len with
        | some c => say i [0x7F, 0x34, BitVec.ofNat 8 c] t
        | none => say i [0x74, 0x20, 0x04, 0x02] { (match combAddress adr with
            | some e => { t with comb := { t.comb with set := vmod t.comb.set e fun _ => none } }
            | none => { setKeeperSlot (1 - t.kpr.lastStarted) none t with kpr := { (setKeeperSlot (1 - t.kpr.lastStarted) none t).kpr with staged := none } } : State) with
          sess := { t.sess with download := some (i, ⟨adr, len, [], 0⟩) } }
      (∀ s, s.kpr.recovery = false ∨ s.pwr.hive = false → UdsServes (.requestDownload slot f a adr len) slot 0x34 (fun x t => if x.diag = 2 then effect slot t else say slot [0x7F, 0x34, 0x22] t) s) ∧
      (∀ s : State, s.kpr.recovery = true → s.pwr.hive = true → exec (.requestDownload slot f a adr len) s = .next { (if ((s.sess.slots[0]?).join).isSome then effect 0 s else say 0 [0x7F, 0x34, 0x22] s : State) with pending := s.pending })) ∧
  (∀ (s : State) (f a adr len : Nat),
      (∀ e, combAddress adr = some e ↔ e < 4 ∧ adr = 0x43000000 + e) ∧
      (f ≠ 0 ∨ a ≠ 0x44 → downloadRefusal s f a adr len = some 0x31) ∧
      (adr ≠ 0x4B000000 → combAddress adr = none ∨ s.kpr.recovery = true → downloadRefusal s f a adr len = some 0x31) ∧
      (adr = 0x4B000000 → 2101248 < len → downloadRefusal s f a adr len = some 0x31) ∧
      (adr ≠ 0x4B000000 → 10594042 < len → downloadRefusal s f a adr len = some 0x31) ∧
      (∀ e, combAddress adr = some e → s.kpr.recovery = false → len ≤ 10594042 → downloadRefusal s 0 0x44 adr len = if entryInUse s e || s.sess.download.isSome then some 0x22 else none) ∧
      (adr = 0x4B000000 → len ≤ 2101248 → downloadRefusal s 0 0x44 adr len = if s.sess.download.isSome then some 0x22 else none)) ∧
  (∀ (slot : Fin 16) (c : Byte) (d : Blob),
      let say (i : Nat) (b : Blob) (t : State) : State := { t with out := .uds i b :: t.out }
      let effect (i : Nat) (t : State) : State := match t.sess.download.filter (·.1 = i) with
        | none => say i [0x7F, 0x36, 0x24] t
        | some (_, w) =>
          if 0x400 < d.length then say i [0x7F, 0x36, 0x13] t
          else if c.toNat = w.counter ∧ w.got ≠ [] then say i [0x76, c] t
          else if c.toNat ≠ (w.counter + 1) % 256 then say i [0x7F, 0x36, 0x73] t
          else if w.length < w.got.length + d.length then say i [0x7F, 0x36, 0x71] t
          else say i [0x76, c] { t with sess := { t.sess with download := some (i, { w with got := w.got ++ d, counter := c.toNat }) } }
      (∀ s, s.kpr.recovery = false ∨ s.pwr.hive = false → UdsServes (.transferData slot c d) slot 0x36 (fun x t => if x.diag = 2 then effect slot t else say slot [0x7F, 0x36, 0x22] t) s) ∧
      (∀ s : State, s.kpr.recovery = true → s.pwr.hive = true → exec (.transferData slot c d) s = .next (if ((s.sess.slots[0]?).join).isSome then effect 0 s else say 0 [0x7F, 0x36, 0x22] s))) ∧
  (∀ (slot : Fin 16),
      let say (i : Nat) (b : Blob) (t : State) : State := { t with out := .uds i b :: t.out }
      let effect (i : Nat) (t : State) : State := match t.sess.download.filter (·.1 = i) with
        | none => say i [0x7F, 0x37, 0x24] t
        | some (_, w) =>
          let u : State := { t with sess := { t.sess with download := none } }
          if w.got.length ≠ w.length then say i [0x7F, 0x37, 0x24] t
          else match installImage w.address w.got u with | some v => say i [0x77] v | none => say i [0x7F, 0x37, 0x72] u
      (∀ s, s.kpr.recovery = false ∨ s.pwr.hive = false → UdsServes (.requestTransferExit slot) slot 0x37 (fun x t => if x.diag = 2 then effect slot t else say slot [0x7F, 0x37, 0x22] t) s) ∧
      (∀ s : State, s.kpr.recovery = true → s.pwr.hive = true → exec (.requestTransferExit slot) s = .next { (if ((s.sess.slots[0]?).join).isSome then effect 0 s else say 0 [0x7F, 0x37, 0x22] s : State) with pending := s.pending })) ∧
  (∀ (s : State) (adr : Nat) (b : Blob),
      (∀ e, combAddress adr = some e →
        let good := imageFault b = none ∧ signaturesGood s b = true ∧ val s (odKey 0x3904 1) ≤ (parseComb b).generation
        (good → installImage adr b s = some { s with comb := { s.comb with set := vmod s.comb.set e fun _ => some { image := b } } }) ∧ (¬ good → installImage adr b s = none)) ∧
      (combAddress adr = none →
        let good := keeperFits s b = true ∧ ∃ c ∈ combsToMatch s, keeperAgrees b c = true
        (¬ good → installImage adr b s = none) ∧
        (good → ∃ t, installImage adr b s = some t ∧ let i := 1 - s.kpr.lastStarted
          (keeperSlot t i).map (fun k => (k.image, k.confirmed)) = some (some b, false) ∧ (∀ j k, j < 2 → keeperSlot s j = some k → ∀ k', keeperSlot t i = some k' → k.install < k'.install) ∧
          t.kpr.staged = if s.kpr.recovery then s.kpr.staged else some (i, kimgHash b))))

/-- The AO supply, the field supply and the clocks.
* The AO supply rises: the AO domain starts anew with its clock at 0, no vote and no wake, the record store scans, the share register holds the row's share, the lock-outs run anew, and a cold boot with cause 0 is due; the dictionary loses the AO domain's entries alone. With the supply present nothing happens.
* A brown-out takes the Hive die and ACCESS off, DRAM with them, and ends no vote of the AO sequencer or of HOLD_N; a copy in service completes. Its end lets a cold boot with cause 3 follow where a domain was on. Without the supply, in a brown-out already, or after its end nothing happens.
* The Hive die off: every register, queue and buffer of the die is as at reset, its sessions, keys and votes are gone, but the keeper's ACCESS and DDR bits; the pads of the port domains that were on stay held; what the record store, the fuses, the dictionary, the access island and the Field die hold stays. ACCESS off: its keys, its round, its start-lock session and its sequencer's work are gone, with SLR_A low and both outputs' pads held.
* Below the AO reset threshold the device is OFF, or in FIELD where a field is present: nothing the AO domain kept stands, and no wake, vote or held pad is left. A field that meets a device without supply powers its Field die: FIELD, counted in FMARK, with its scan begun, FIELD_DET_N low and VHOLD at 0. Without the supply a reset, and with it or in another state a field, does nothing.
* A clock of a powered domain that loses lock clears its bit of 0x2180/01, is counted once in 0x2180/02 and logged; it locks again; the crystal is noted as stable. A clock whose domain is off, one that has lost its lock already, and a crystal without the supply change nothing. -/
def Obligations.Supplies : Prop :=
  (∀ s : State, (s.pwr.vao = true → exec .vaoPowerUp s = .next s) ∧
      (s.pwr.vao = false → Completes .vaoPowerUp s fun t =>
        t.pwr = { s.pwr with
          vao := true, dev := .sleep, brownout := false, brownoutOn := false, rtc := 0, sub := 0, crystal := false, resRun := 0, resDoze := 0, resSleep := 0
          held := 0, wake := none, wakeCode := 0, ddr := .off, ddrKey := none, voteHive := 0, voteAccess := 0, voteDdr := 0, pll := 0, bootDue := some 0 } ∧
        t.clk = { s.clk with ao := 0 } ∧ t.store.scanning = true ∧ t.store.inService = none ∧ t.store.pointer = 0 ∧ t.vault.aoShare = (rowShare s).getD (zeros 32) ∧
        (∀ z, lockAt t z = if (lockAt s z).times = [] ∧ (lockAt s z).locked = false ∨ 9 ≤ z then lockAt s z
          else { lockAt s z with times := (lockAt s z).times.map fun _ => 0, lockEnd := if (lockAt s z).locked then lockSeconds (lockAt s z).level else (lockAt s z).lockEnd }) ∧
        (∀ k, ((findRow (k / 256) (k % 256)).map (·.keep)) = some .ao → val t k = odDefault k) ∧
        (∀ k, ((findRow (k / 256) (k % 256)).map (·.keep)) ≠ some .ao → k ≠ odKey 0x2200 7 → val t k = val s k) ∧
        t.tamper = { s.tamper with lastCount := Vector.replicate 20 none } ∧ t.lf = { s.lf with lock := t.lf.lock } ∧
        t = { s with pwr := t.pwr, clk := t.clk, od := t.od, store := t.store, vault := t.vault, lf := t.lf, tamper := t.tamper })) ∧
  (∀ s : State,
      let off := accessOff (if s.pwr.hive then hiveOff s else readerOff s)
      let act (c : Instr) (t : State) : Prop := exec c s = .next { t with pending := s.pending }
      (s.pwr.vao = false ∨ s.pwr.brownout = true → exec .aoBrownout s = .next s) ∧
      (s.pwr.vao = true → s.pwr.brownout = false → act .aoBrownout (recordCopyComplete { off with pwr := { off.pwr with
        dev := .sleep, ddr := .off, ddrKey := none, brownout := true, brownoutOn := s.pwr.hive || s.pwr.access, bootDue := none
        voteAccess := off.pwr.voteAccess &&& 0xC, voteDdr := off.pwr.voteDdr &&& 0xC } })) ∧
      (s.pwr.vao = true → s.pwr.brownout = false → s.store.inService = none → Completes .aoBrownout s fun t => t.pwr.hive = false ∧ t.pwr.access = false ∧
        t.pwr.entry = (if s.pwr.hive then none else s.pwr.entry) ∧ t.vault.row = s.vault.row ∧ t.store.m = s.store.m ∧ t.fuse = s.fuse ∧ t.lc = s.lc) ∧
      (s.pwr.vao = false ∨ s.pwr.brownout = false → exec .brownoutRecovery s = .next s) ∧
      (s.pwr.vao = true → s.pwr.brownout = true → exec .brownoutRecovery s = .next { s with pwr := { s.pwr with brownout := false, brownoutOn := false, bootDue := if s.pwr.brownoutOn then some 3 else s.pwr.bootDue } })) ∧
  (∀ s : State,
      (let t := hiveOff s; let r := State.reset;
        t.pwr.hive = false ∧ t.pwr.pairs = r.pwr.pairs ∧ t.pwr.ports = r.pwr.ports ∧ t.pwr.votePair = r.pwr.votePair ∧ t.pwr.voteOwn = r.pwr.voteOwn ∧ t.pwr.votePort = r.pwr.votePort ∧
        t.pwr.voteHive = s.pwr.voteHive &&& 0xC ∧ t.pwr.voteAccess = s.pwr.voteAccess ∧ t.pwr.voteDdr = s.pwr.voteDdr ∧ t.pwr.entry = none ∧ t.pwr.boot = none ∧
        (∀ n : Fin 24, t.pwr.held.getLsbD n = (s.pwr.held.getLsbD n || s.pwr.votePort[n] || s.pwr.ports[n])) ∧
        t.comb = { set := s.comb.set, activations := s.comb.activations } ∧ t.fab = {} ∧ t.sig = {} ∧ t.port = r.port ∧ t.wp = r.wp ∧ t.keeper = r.keeper ∧ t.vcore = r.vcore ∧ t.cols = r.cols ∧ t.lanes = r.lanes ∧
        t.link.up = false ∧ t.link.key = none ∧ t.kpr.running = false ∧ t.vault.kd = none ∧ t.vault.mr = none ∧ (∀ i, slotAt t i = none) ∧ t.vault.repl = [] ∧ t.vault.row = s.vault.row ∧ t.vault.aoShare = s.vault.aoShare ∧
        (∀ i : Nat, (t.sess.slots[i]?).join = none) ∧ t.store.m = s.store.m ∧ t.store.w = s.store.w ∧ t.store.sys = s.store.sys ∧ t.store.tag = s.store.tag ∧ t.store.wRights = [] ∧
        t.od = s.od ∧ t.blobs = s.blobs ∧ t.fuse = s.fuse ∧ t.lc = s.lc ∧ t.tamper = s.tamper ∧ t.lf = { s.lf with loopback := false } ∧ t.uwb = { s.uwb with loopback := false }) ∧
      (s.pwr.access = false → accessOff s = s) ∧
      (s.pwr.access = true → let t := accessOff s
        t.pwr = { s.pwr with access := false, held := s.pwr.held ||| BitVec.twoPow 26 25, pll := s.pwr.pll &&& ~~~BitVec.twoPow 13 4 } ∧
        (∀ k ∈ t.lf.keys, k.key = none) ∧ t.lf.lock = s.lf.lock ∧ t.lf.session = none ∧ t.lf.slrA = false ∧ t.lf.seeded = false ∧ t.uwb.round = none ∧ t.uwb.exchange = none ∧
        t.acore = { coreid := 0x12, isalvl := 0x10, status := 9 } ∧ t = { s with pwr := t.pwr, lf := t.lf, uwb := t.uwb, test := t.test, acore := t.acore })) ∧
  (∀ s : State,
      (∀ b, s.pwr.vao = false → exec (.aoReset b) s = .next s) ∧
      (∀ b, s.pwr.vao = true → Completes (.aoReset b) s fun t => t.pwr.vao = false ∧ t.pwr.dev = (if b then .field else .off) ∧ t.pwr.hive = false ∧ t.pwr.access = false ∧ t.pwr.held = 0 ∧ t.pwr.wake = none ∧ t.pwr.bootDue = none ∧
        t.pwr.voteHive = 0 ∧ t.pwr.voteAccess = 0 ∧ t.pwr.voteDdr = 0 ∧ t.pwr.pll = 0 ∧ t.pwr.ddr = .off ∧ t.pwr.ddrKey = none ∧ t.pwr.brownout = false ∧ t.pwr.handed = false ∧
        t.evt.deferred = [] ∧ t.store.waiting = [] ∧ t.store.inService = none ∧ t.store.scanning = b ∧ t.store.m = s.store.m ∧ t.store.tag.fmark = (if b then (s.store.tag.fmark + 1) % 2 ^ 32 else s.store.tag.fmark) ∧
        t.nfc.field = b ∧ t.nfc.active = false ∧ t.nfc.write = none ∧ t.vault.row = s.vault.row ∧ t.fuse = s.fuse) ∧
      (s.pwr.vao = true ∨ s.pwr.dev ≠ .off → exec .fieldPowerUp s = .next s) ∧
      (s.pwr.vao = false → s.pwr.dev = .off → Completes .fieldPowerUp s fun t => t.pwr = { s.pwr with dev := .field } ∧ t.nfc = { s.nfc with field := true, detLow := true } ∧
        t.store = { s.store with scanning := true, tag := { s.store.tag with fmark := (s.store.tag.fmark + 1) % 2 ^ 32 } } ∧ t.tamper = { s.tamper with holdMv := 0 } ∧
        t.out = (if s.nfc.detLow then s.out else .pin "FIELD_DET_N" false :: s.out) ∧ t = { s with pwr := t.pwr, nfc := t.nfc, store := t.store, tamper := t.tamper, out := t.out })) ∧
  (∀ (s : State) (c : Fin 13),
      (clockOn s c = false ∨ s.pwr.pll.getLsbD c = false → exec (.pllLossOfLock c) s = .next s) ∧
      (clockOn s c = true → s.pwr.pll.getLsbD c = true → exec (.pllLossOfLock c) s = .next { (logEvent 14 clsThreshold 0 (odKey 0x2180 2) (leBytes 1 c)
        (setVal (odKey 0x2180 2) (min (val s (odKey 0x2180 2) + 1) 0xFFFFFFFF) { s with pwr := { s.pwr with pll := s.pwr.pll &&& ~~~BitVec.twoPow 13 c } })) with pending := s.pending }) ∧
      (clockOn s c = false → exec (.pllLock c) s = .next s) ∧
      (clockOn s c = true → exec (.pllLock c) s = .next { s with pwr := { s.pwr with pll := s.pwr.pll ||| BitVec.twoPow 13 c } }) ∧
      exec .crystal32kStable s = .next (if s.pwr.vao then { s with pwr := { s.pwr with crystal := true } } else s) ∧
      (clockOn s c = true ↔ (c = 4 ∧ s.pwr.access = true) ∨ (c = 5 ∧ s.nfc.own = true) ∨ (c = 6 ∧ s.pwr.vao = true) ∨ (c ≠ 4 ∧ c ≠ 5 ∧ c ≠ 6 ∧ s.pwr.hive = true)))

/-- Power votes, domains and wakes.
* A voter's vote in a domain it may vote in, while it can act, changes that vote alone; a port's vote that is withdrawn stops the port. A HIVE-CORE vote granted with the die off is a wake with code 18 from the access engine and 19 from HOLD_N. Any other vote does nothing.
* Who votes where: HIVE-CORE keeper, vault, access engine, HOLD_N, AO sequencer, Comb sequencer, pairs and ports; ACCESS keeper, access engine, HOLD_N and AO sequencer; DDR keeper, HOLD_N and AO sequencer; a pair's domain the Comb sequencer and the pair itself; a port's domain the port. A voter acts while its own domain is on.
* What a vote changes: the voter's bit of the domain's tally alone. ACCESS goes off with its last vote; a pair's domain is off once neither the Comb nor the pair votes for it, a port's once its port does not.
* 0x2101/01 shows the votes held, the vault's while a request runs, the Comb sequencer's while it runs, and the pairs and ports whose domains are on; the independent ones, which keep the die on, are bits 0 to 4.
* A port's vote withdrawn: a port that runs stops, its pads to be held once it has; one that waits for held pads stops at once; one that stops goes on; a stopped one's domain goes off with its pads held.
* A voted domain comes on with the Hive die: a pair's, a port's, or ACCESS with its clock, its generator reseeded, its keys loaded again and the patterns that waited for it; one that is not voted, or is on, and the domains that follow by themselves change nothing.
* The access island's keys: each blob that opens gives its key to its entry, and the entries without one keep theirs. The patterns that a touch asked for while ACCESS was off are triggered in their order, and none waits any more.
* The keeper's ready write of 0x2102/01 is kept and is its votes: bit 0 for ACCESS, which goes off with its last vote, bit 1 for DDR.
* A ready request of RUN or SLEEP sets or withdraws the keeper's HIVE-CORE vote and is the intent; DOZE is refused with 0x08000022 while the active Comb starts windows, and is like RUN else.
* An enabled wake is latched; in SLEEP, outside a brown-out and with no boot due, it starts a boot with cause 1 under the lowest code latched, with the AO sequencer's vote.
* A wake is latched in SLEEP and during an entry, under the lowest code of those that came; outside, and where it is not enabled, it has no effect. Codes 17, 18 and 19 are always enabled, 1 to 16 by their bit of 0x2100/03.
* A WAKE_SENSE input that rises is noted once and latches its wake where it is enabled; its fall is noted and wakes nothing; HOLD_N holds the three domains while it is low and latches code 19, and lets them go when it rises; the alarm latches code 16 in its own second. Without the supply nothing happens.
* A ready threshold in steps of 10 mV is kept and the input judged anew at its level, with the hysteresis of 0x2105/05-08 and without a wake; another value is refused with 0x06090030. -/
def Obligations.VotesAndWakes : Prop :=
  (∀ (s : State) (v : Fin 48) (d : Domain) (g : Bool),
      let act (t : State) : Prop := exec (.voteChange v d g) s = .next { t with pending := s.pending }
      let may := mayVote v d = true ∧ voterOn s v = true
      (¬ may → exec (.voteChange v d g) s = .next s) ∧
      (∀ p, may → d = .port p → g = false → act (withdrawPort p s)) ∧
      (may → (g = true ∨ ∀ p, d ≠ .port p) →
        (d = .hiveCore → g = true → s.pwr.hive = false → v = 2 → act (latchWake 18 (setVote v d g s))) ∧
        (d = .hiveCore → g = true → s.pwr.hive = false → v = 3 → act (latchWake 19 (setVote v d g s))) ∧
        (¬ (d = .hiveCore ∧ g = true ∧ s.pwr.hive = false ∧ (v = 2 ∨ v = 3)) → act (setVote v d g s)))) ∧
  (∀ (s : State) (v : Nat),
      (mayVote v .hiveCore = true ↔ v ≤ 5 ∨ (8 ≤ v ∧ v ≤ 47)) ∧ (mayVote v .access = true ↔ v ∈ [0, 2, 3, 4]) ∧ (mayVote v .ddr = true ↔ v ∈ [0, 3, 4]) ∧
      (∀ p, mayVote v (.pair p) = true ↔ v = 5 ∨ v = 8 + p.val) ∧ (∀ p, mayVote v (.port p) = true ↔ v = 24 + p.val) ∧
      (voterOn s v = true ↔ s.pwr.vao = true ∧ if v = 2 then s.pwr.access = true else v = 3 ∨ v = 4 ∨ s.pwr.hive = true)) ∧
  (∀ (s : State) (v : Nat) (g : Bool),
      (∀ x : BitVec 64, ∀ i, i < 64 → (tally x v g).getLsbD i = if i = v then g else x.getLsbD i) ∧
      setVote v .hiveCore g s = { s with pwr := { s.pwr with voteHive := tally s.pwr.voteHive v g } } ∧
      setVote v .ddr g s = { s with pwr := { s.pwr with voteDdr := tally s.pwr.voteDdr v g } } ∧
      (let t : State := { s with pwr := { s.pwr with voteAccess := tally s.pwr.voteAccess v g } };
       setVote v .access g s = if tally s.pwr.voteAccess v g = 0 then accessOff t else t) ∧
      (∀ p : Fin 24, setVote v (.port p) g s = { s with pwr := { s.pwr with votePort := s.pwr.votePort.set p g, ports := vmod s.pwr.ports p fun x => x && g } }) ∧
      (∀ p : Fin 16, let q := s.pwr.votePair.set p g
        setVote 5 (.pair p) g s = { s with pwr := { s.pwr with votePair := q, pairs := vmod s.pwr.pairs p fun x => x && (g || s.pwr.voteOwn[p]) } }) ∧
      (∀ p : Fin 16, v ≠ 5 → setVote v (.pair p) g s = { s with pwr := { s.pwr with voteOwn := s.pwr.voteOwn.set p g, pairs := vmod s.pwr.pairs p fun x => x && (s.pwr.votePair[p] || g) } })) ∧
  (∀ (s : State),
      (vaultVotes s = true ↔ s.pwr.hive = true ∧ (s.vault.repl ≠ [] ∨ s.vault.attesting.isSome = true)) ∧
      (hiveVoted s = true ↔ (∃ i < 5, s.pwr.voteHive.getLsbD i = true) ∨ vaultVotes s = true) ∧
      ((hiveVoters s).getLsbD 1 = (s.pwr.voteHive.getLsbD 1 || vaultVotes s)) ∧
      ((hiveVoters s).getLsbD 5 = (s.pwr.voteHive.getLsbD 5 || (s.comb.active.isSome && s.pwr.hive && !s.pwr.seqHalted))) ∧
      (∀ p : Fin 16, (hiveVoters s).getLsbD (8 + p.val) = (s.pwr.voteHive.getLsbD (8 + p.val) || s.pwr.pairs[p])) ∧
      (∀ n : Fin 24, (hiveVoters s).getLsbD (24 + n.val) = (s.pwr.voteHive.getLsbD (24 + n.val) || s.pwr.ports[n]))) ∧
  (∀ (s : State) (n : Fin 24),
      let u := modPort n (fun p => { p with voteOff := true }) s
      let st := (portAt s n).st
      (st = .running ∨ st = .busSleep ∨ st = .recovering → withdrawPort n s = stopPort n u) ∧
      (st = .pending → withdrawPort n s = if s.pwr.held.getLsbD n then finishStop n (setPortState n .stopping u) else setPortState n .stopping u) ∧
      (st = .stopping → withdrawPort n s = u) ∧
      (st = .stopped ∨ st = .down ∨ st = .fault → withdrawPort n s = { modPort n (fun p => { p with voteOff := false }) u with pwr := { s.pwr with
        held := s.pwr.held ||| BitVec.twoPow 26 n, votePort := vmod s.pwr.votePort n fun _ => false, ports := vmod s.pwr.ports n fun _ => false } })) ∧
  (∀ s : State,
      (∀ p : Fin 16, exec (.domainPowerOn (.pair p)) s = .next (if s.pwr.hive && (s.pwr.votePair[p] || s.pwr.voteOwn[p]) then { s with pwr := { s.pwr with pairs := s.pwr.pairs.set p true } } else s)) ∧
      (∀ p : Fin 24, exec (.domainPowerOn (.port p)) s = .next (if s.pwr.hive && s.pwr.votePort[p] then { s with pwr := { s.pwr with ports := s.pwr.ports.set p true } } else s)) ∧
      (let u : State := { s with lf := { s.lf with seeded := true }, pwr := { s.pwr with access := true, pll := s.pwr.pll ||| BitVec.twoPow 13 4 } };
        s.pwr.hive = true → s.pwr.access = false → s.pwr.voteAccess ≠ 0 → exec (.domainPowerOn .access) s = .next { runAfterWake (reloadAccessKeys u) with pending := s.pending }) ∧
      (s.pwr.hive = false ∨ s.pwr.access = true ∨ s.pwr.voteAccess = 0 → exec (.domainPowerOn .access) s = .next s) ∧
      exec (.domainPowerOn .hiveCore) s = .next s ∧ exec (.domainPowerOn .ddr) s = .next s) ∧
  (∀ s : State,
      (reloadAccessKeys s = { s with lf := { s.lf with keys := (reloadAccessKeys s).lf.keys } }) ∧
      (∀ i b k, s.vault.accessBlobs = [(i, b)] → openBlob s b = .ok k → (reloadAccessKeys s).lf.keys = s.lf.keys.map fun x => if x.index = i then { x with key := some k.key } else x) ∧
      (s.vault.accessBlobs = [] → reloadAccessKeys s = s) ∧
      runAfterWake s = s.lf.afterWake.foldl (fun t i => trigger i t) { s with lf := { s.lf with afterWake := [] } }) ∧
  (∀ v : Nat, Writes (.keeperVotesWrite v) 15 0x2102 1 (numFor 0x2102 1 v) (fun _ => true) fun s n _ => .ok fun t =>
      val t (odKey 0x2102 1) = n ∧ t = setVote 0 .ddr (n.testBit 1) (setVote 0 .access (n.testBit 0) (keepVal (odKey 0x2102 1) n s))) ∧
  (∀ (slot : Fin 16) (v : Nat) (c : Instr), (v = 0 ∧ c = .stateRequestRun slot) ∨ (v = 1 ∧ c = .stateRequestDoze slot) ∨ (v = 2 ∧ c = .stateRequestSleep slot) →
      Writes c slot 0x2100 1 (numFor 0x2100 1 v) (fun _ => true) fun s n _ =>
        if n = 1 ∧ combHasWindows s = true then .error abState else if 2 < n then .error abRange
        else .ok fun t => t = { s with pwr := { s.pwr with intent := n, voteHive := tally s.pwr.voteHive 0 (decide (n < 2)) } }) ∧
  (∀ (s : State) (c : Fin 20),
      let u := latchWake c s
      let act (t : State) : Prop := exec (.wake c) s = .next { t with pending := s.pending }
      let starts := s.pwr.dev = .sleep ∧ s.pwr.brownout = false ∧ s.pwr.bootDue = none
      (u.pwr.wake = none → act u) ∧
      (∀ k, u.pwr.wake = some k → starts → act { u with pwr := { u.pwr with wake := none, wakeCode := k, bootStart := s.clk.ao, bootDue := some 1, voteHive := tally s.pwr.voteHive 4 true } }) ∧
      (∀ k, u.pwr.wake = some k → ¬ starts → act u)) ∧
  (∀ (s : State) (c : Nat),
      (wakeEnabled s c = true ↔ c ∈ [17, 18, 19] ∨ (1 ≤ c ∧ c ≤ 16 ∧ (val s (odKey 0x2100 3)).testBit (c - 1) = true)) ∧
      (let may := wakeEnabled s c = true ∧ s.pwr.vao = true ∧ (s.pwr.dev = .sleep ∨ s.pwr.entry.isSome = true);
        (¬ may → latchWake c s = s) ∧ (may → s.pwr.wake = none → latchWake c s = { s with pwr := { s.pwr with wake := some c } }) ∧
        (∀ k, may → s.pwr.wake = some k → latchWake c s = { s with pwr := { s.pwr with wake := some (min c k) } }))) ∧
  (∀ s : State,
      (s.pwr.vao = false → (∀ i, exec (.wakeSenseRise i) s = .next s ∧ exec (.wakeSenseFall i) s = .next s) ∧ (∀ b, exec (.holdNLow b) s = .next s) ∧ exec .rtcAlarm s = .next s) ∧
      (s.pwr.vao = true →
        (∀ i : Fin 4, s.pwr.sense[i] = false → exec (.wakeSenseRise i) s = .next (latchWake (1 + i) { s with pwr := { s.pwr with sense := vmod s.pwr.sense i fun _ => true } })) ∧
        (∀ i : Fin 4, s.pwr.sense[i] = true → exec (.wakeSenseRise i) s = .next s) ∧
        (∀ i : Fin 4, exec (.wakeSenseFall i) s = .next { s with pwr := { s.pwr with sense := vmod s.pwr.sense i fun _ => false } }) ∧
        (exec (.holdNLow true) s = .next (latchWake 19 { s with pwr := { s.pwr with holdN := true, voteHive := tally s.pwr.voteHive 3 true, voteAccess := tally s.pwr.voteAccess 3 true, voteDdr := tally s.pwr.voteDdr 3 true } })) ∧
        (let u : State := { s with pwr := { s.pwr with holdN := false, voteHive := tally s.pwr.voteHive 3 false, voteAccess := tally s.pwr.voteAccess 3 false } };
         let w := if tally s.pwr.voteAccess 3 false = 0 then accessOff u else u
         exec (.holdNLow false) s = .next { w with pwr := { w.pwr with voteDdr := tally s.pwr.voteDdr 3 false } }) ∧
        (let a := val s (odKey 0x2107 2);
         exec .rtcAlarm s = .next (if a ≠ 0 ∧ s.pwr.rtc = a then latchWake 16 s else s)))) ∧
  (∀ (slot : Fin 16) (i : Fin 4) (v mv : Nat), Writes (.wakeSenseThresholdWrite slot i v mv) slot 0x2105 (1 + i) (numFor 0x2105 (1 + i) v) (fun _ => true) fun s n _ =>
      if n % 10 ≠ 0 then .error abRange
      else .ok fun t => val t (odKey 0x2105 (1 + i)) = n ∧
        t.pwr = { s.pwr with sense := vmod s.pwr.sense i fun x => if n < mv then true else if mv + val s (odKey 0x2105 (5 + i)) < n then false else x } ∧
        t = { keepVal (odKey 0x2105 (1 + i)) n s with pwr := t.pwr })

/-- Entering SLEEP, leaving an entry, and the pads.
* With the device on, no boot and no entry under way and no independent HIVE-CORE vote left, the entry begins with step 1 and notes what it found; otherwise nothing happens.
* Outside an entry, and while a port has still to send what it holds after step 2, nothing happens. Without a wake or a vote the next step runs: step 2 stops the ports, step 3 records, step 4 hands the triggers over, step 5 puts DRAM into retention or off, step 6 halts the sequencer and the pairs, and after it the Hive die is off and the device sleeps. With a wake or a vote the entry is abandoned where it stands.
* Steps 2 and 3. Running ports begin to stop and their tests end, noted for an abort; the step lasts until every port has sent what it holds, a port under a flush and one that waits for its pads counting as stopped. Then FRESH of every receive stream is recorded and the attestation snapshot replaced.
* An entry abandoned after step k: its steps are undone in reverse, the keeper's vote and the intent RUN are back, the abort is counted in 0x2108 at its step and logged, and the wake's code stands, 18 or 19 for a vote of the access engine or of HOLD_N. Undone are the halt, with the pairs on again and the Comb going on; DRAM's retention, its pads released; the hand-over, with ACCESS on again; and the stop of the ports, which start again.
* The keeper's ready write of 0x2106/01 releases every held pad, but SLR_A and SLR_B stay low while ACCESS is off, and the ports that waited for it start. -/
def Obligations.SleepEntry : Prop :=
  (∀ s : State,
      let may := s.pwr.dev = .on ∧ s.pwr.hive = true ∧ s.pwr.entry = none ∧ s.pwr.boot = none ∧ hiveVoted s = false
      (may → exec .sleepEntry s = .next { s with pwr := { s.pwr with entry := some 1, entryFrom := runOrDoze s, entryAccess := s.pwr.access, entryPorts := [], entryPairs := [] } }) ∧
      (¬ may → exec .sleepEntry s = .next s)) ∧
  (∀ s : State,
      let act (t : State) : Prop := exec .sleepEntryStepComplete s = .next { t with pending := s.pending }
      (s.pwr.entry = none → exec .sleepEntryStepComplete s = .next s) ∧
      (s.pwr.entry = some 2 → portsStopping s = true → exec .sleepEntryStepComplete s = .next s) ∧
      ∀ k, s.pwr.entry = some k → ¬ (k = 2 ∧ portsStopping s = true) →
        (s.pwr.wake.isSome = true ∨ hiveVoted s = true → act (abortEntry k s)) ∧
        (s.pwr.wake = none → hiveVoted s = false →
          let next (t : State) : Prop := act { t with pwr := { t.pwr with entry := some (k + 1) } }
          (k = 0 → next s) ∧ (k = 1 → next (entryStopPorts s)) ∧ (k = 2 → next (entryRecords s)) ∧
          (k = 3 → let u : State := { s with pwr := { s.pwr with handed := true } }; next (if s.pwr.voteAccess = 0 then accessOff u else u)) ∧
          (k = 4 → next { s with pwr := { s.pwr with ddr := if s.pwr.voteDdr = 0 then .off else .retained, ddrKey := if s.pwr.voteDdr = 0 then none else s.pwr.ddrKey, held := s.pwr.held ||| BitVec.twoPow 26 24 } }) ∧
          (k = 5 → next { s with pwr := { s.pwr with seqHalted := true, haltAo := s.clk.ao, entryPairs := (List.range 16).filter fun i => s.pwr.pairs.toList.getD i false, pairs := Vector.replicate 16 false } }) ∧
          (6 ≤ k → act { hiveOff s with pwr := { (hiveOff s).pwr with dev := .sleep } }))) ∧
  (∀ s : State,
      let run := (List.range 24).filter fun n => (portAt s n).st == .running || (portAt s n).st == .recovering || (portAt s n).st == .busSleep
      (entryStopPorts s).pwr.entryPorts = run ∧ (∀ n ∈ run, (portAt s n).test.st ≠ 1 → (portAt (entryStopPorts s) n).st = .stopping ∧ (portAt (entryStopPorts s) n).voteOff = true) ∧
      (∀ n < 24, n ∉ run → (portAt s n).test.st ≠ 1 → (portAt (entryStopPorts s) n).st = (portAt s n).st) ∧
      (portsStopping s = true ↔ ∃ n < 24, (portAt s n).flushing = false ∧ ((portAt s n).st = .stopping ∨ ((portAt s n).st = .pending ∧ s.pwr.held.getLsbD n = false))) ∧
      (let u := (s.sig.streams.filter fun e => !e.2.transmit && e.2.state ≠ 0).foldl (fun t e => commitS 0x20 (e.1 / 64) (groupBytes t (e.1 / 64)) t) s;
       entryRecords s = match attestation [] (val u (odKey 0x2340 3)) 1 u with | (some r, t) => snapshotPut r t | (none, t) => t)) ∧
  (∀ (s : State) (k : Nat),
      let u := ((List.range (k + 1)).reverse).foldl (fun t j => undoStep j t) s
      let code := match u.pwr.wake with | some c => c | none => if u.pwr.voteHive.getLsbD 2 then 18 else if u.pwr.voteHive.getLsbD 3 then 19 else 0
      abortEntry k s = logEvent 14 clsState u.pwr.entryFrom (odKey 0x2108 k) (leBytes 1 code) (countN (odKey 0x2108 k) 1
        { u with pwr := { u.pwr with entry := none, wake := none, wakeCode := code, intent := 0, voteHive := tally u.pwr.voteHive 0 true } }) ∧
      undoStep 6 s = resumeComb { s with pwr := { s.pwr with seqHalted := false, pairs := Vector.ofFn fun i => s.pwr.entryPairs.contains i.val } } ∧
      (s.pwr.ddrKey.isSome = true → undoStep 5 s = { s with pwr := { s.pwr with ddr := .on, held := s.pwr.held &&& ~~~BitVec.twoPow 26 24 } }) ∧
      (s.pwr.ddrKey = none → ∃ b : Blob, b.length = 32 ∧ undoStep 5 s = { s with draws := s.draws + 1, pwr := { s.pwr with ddr := .on, ddrKey := some b, held := s.pwr.held &&& ~~~BitVec.twoPow 26 24 } }) ∧
      (s.pwr.entryAccess = false ∨ s.pwr.access = true → undoStep 4 s = { s with pwr := { s.pwr with handed := false } }) ∧
      (s.pwr.entryAccess = true → s.pwr.access = false → undoStep 4 s = reloadAccessKeys { s with
        lf := { s.lf with seeded := true }, pwr := { s.pwr with handed := false, access := true, held := s.pwr.held &&& ~~~BitVec.twoPow 26 25, pll := s.pwr.pll ||| BitVec.twoPow 13 4 } }) ∧
      (∀ j, j ∈ [0, 1, 3] → undoStep j s = s) ∧
      (s.comb.active = none → resumeComb s = s) ∧
      (∀ c, s.comb.active = some c → s.clk.tick + (s.clk.ao - s.pwr.haltAo) * 15625 / 512 < c.hyper → resumeComb s = s)) ∧
  (∀ v : Nat, Writes (.padRelease v) 15 0x2106 1 (numFor 0x2106 1 v) (fun _ => true) fun s _ _ => .ok fun t =>
      let u : State := { s with pwr := { s.pwr with held := if s.pwr.access then 0 else s.pwr.held &&& BitVec.twoPow 26 25 } }
      t = (List.range 24).foldl (fun t n => if (portAt t n).st = .pending ∧ (portAt t n).flushing = false then startPort n t else t) u ∧
      ((∀ p < 24, (portAt s p).st ≠ .pending) → t = u))

/-- Cold and warm boots, their steps, and what stands when a boot cannot go on.
* A ready write of "reset" to 0x2000/03 is answered and a cold boot with cause 2 is due; any other value is refused with 0x06090030.
* A cold boot whose cause is due, with the AO supply good and the store's scan ended, starts the boot at its step 2 with ACCESS and the Hive die on, counts in 0x2181/02, keeps the cause, sets the boot flash's port by its SFDP, draws DRAM's key, has both planes tested, and clears what was volatile: no session, no active Comb, no key register, no KD. A cause that is not due, or that cannot be followed yet, and a wake with DRAM retained do nothing.
* The restore of defaults that a write of "load" asked for runs at a cold boot: every kept entry returns to its default, its record deleted, but the minimum generation, the key-use rules, the block protection and the revocation entries.
* A wake with DRAM retained boots warm: from step 1, counted in 0x2181/03, with DRAM, its key, what the record store keeps and the dictionary as they are. Where it cannot be followed nothing happens.
* Each step of a boot is followed by the next; with none under way nothing happens. A cold boot locks the clocks at 4, runs the boot ROM at 5, chooses and starts a keeper at 6, trains DRAM at 7, restores the Comb at 8, begins at tick 0 at 9, has the access island's keys loaded at 10 and ends at 11. A warm boot has its own order, with DRAM on again at 5 and the keeper last started.
* The boot ROM's step in a device that holds no life-cycle record and no PROV fuse finds BLANK, with the link trained, no key register loaded and the generator seeded; the ISA levels of the vault's and the access sequencer's images must not be above the cores'.
* The choice of a keeper: of the slots whose image fits and that are confirmed or have a try left, the one installed last; a slot not confirmed uses up a try. The keeper starts with its image's values and entry, votes for HIVE-CORE and by 0x2102/01 in place of the AO sequencer, its settings are in force and slot 15 is its session.
* DRAM trained is on, and the result of a test that was ordered stands in 0x5051/02: 0, or the failing line. A restored Comb becomes active at tick 0. The boot's end withdraws the AO sequencer's votes for ACCESS and DDR, the die's staying with the keeper, and keeps the time it took in 0x2181/04 unless an unlock message is still to come.
* With the keeper running and no Comb active, loading, under verification or armed the entries of the Comb set are tried in their order; an empty set leaves none to restore. Otherwise nothing happens. An entry that its check refuses is left with the code and the next one tried; one whose acceptance stands is armed at once; any other goes to the verifier.
* At the keeper's step of a cold boot with no image that fits, and after a failed training of DRAM, the recovery loader runs: no keeper, the boot ended; after the training every session is closed and every port stopped besides. In any other case nothing happens.
* The access sequencer restarts from its image: its core starts anew, no round, exchange or session is left, SLR_A is low, no lock record changes and, while ACCESS stays on, no key, the restart is logged with its trap code, and the third within 60 s asks for a cold boot with cause 2. While ACCESS is off nothing happens. -/
def Obligations.Boots : Prop :=
  (∀ (slot : Fin 16) (v : Nat), Writes (.deviceReset slot v) slot 0x2000 3 (numFor 0x2000 3 v) (fun _ => true) fun s n _ =>
      if n = 0x74657372 then .ok fun t => t = { s with pwr := { s.pwr with bootDue := some 2 } } else .error abRange) ∧
  (∀ (s : State) (c : Fin 6) (f : Option (Fin 32)),
      let may := s.pwr.bootDue = some c.val ∧ s.pwr.vao = true ∧ s.pwr.brownout = false ∧ s.store.scanning = false ∧ ¬ (c = 1 ∧ s.pwr.ddr = .retained)
      (¬ may → exec (.coldBoot c f) s = .next s) ∧
      (may → Completes (.coldBoot c f) s fun t =>
        t.pwr.boot = some (true, 2) ∧ t.pwr.dev = .boot ∧ t.pwr.hive = true ∧ t.pwr.access = true ∧ t.pwr.bootDue = none ∧ t.pwr.wake = none ∧ t.pwr.resetCause = c ∧ t.pwr.ddr = .off ∧ t.pwr.ddrKey.map (·.length) = some 32 ∧
        t.pwr.handed = false ∧ t.pwr.held.getLsbD 24 = false ∧ t.pwr.wakeCode = (if c = 1 then s.pwr.wakeCode else 0) ∧ (t.pwr.unlockDue = true ↔ c = 1 ∧ 11 ≤ s.pwr.wakeCode ∧ s.pwr.wakeCode ≤ 14) ∧
        t.pwr.flashOctal = f.isSome ∧ t.pwr.flashDummy = (f.map (·.val)).getD 0 ∧ t.fab.bootTest = true ∧ t.fuse = s.fuse ∧ t.vault.row = s.vault.row ∧
        (s.pwr.hive = true → t.comb.active = none ∧ t.vault.kd = none ∧ (∀ i, slotAt t i = none) ∧ (∀ i, sessionAt t i = none) ∧ t.comb.set = s.comb.set) ∧
        t.pwr.voteHive.getLsbD 4 = true ∧ t.pwr.voteAccess.getLsbD 4 = true ∧ t.pwr.voteDdr.getLsbD 4 = true ∧
        (∀ k, ((findRow (k / 256) (k % 256)).map (·.keep)) = some .volatile → (∀ n < 10, k ≠ pk n 9 0xB) → k ∉ [odKey 0x2181 2, odKey 0x2350 4, odKey 0x2200 7] → val t k = odDefault k) ∧
        (∀ e : Nat, (t.sess.fails[e]?).map (·.count) = (s.sess.fails[e]?).map fun _ => 0) ∧
        (∀ i, i < 16 → (pairAt t i).st = if (pairAt s i).retired then .retired else if flag t (pairKey i 1) then .running else .stopped) ∧
        (∀ i j, i < 24 → j < 8 → (t.fab.buckets[8 * i + j]?).map (·.micro) = some (8 * (val t (odKey (0x3830 + i) (9 + j)) : Int) * 1000000)))) ∧
  (∀ s : State, (s.sess.restore = false → restoreDefaults s = s) ∧
      (s.sess.restore = true → let t := restoreDefaults s
        t.sess = { s.sess with restore := false } ∧
        (∀ k, ((findRow (k / 256) (k % 256)).map (·.keep)) = some .config → k ≠ odKey 0x3904 1 → k ≠ odKey 0x2201 3 → k / 4096 ≠ 0x230 → k / 4096 ≠ 0x233 → val t k = odDefault k ∧ blob t k = []) ∧
        (∀ k, ((findRow (k / 256) (k % 256)).map (·.keep)) ≠ some .config ∨ k = odKey 0x3904 1 ∨ k = odKey 0x2201 3 ∨ k / 4096 = 0x230 ∨ k / 4096 = 0x233 → k ≠ odKey 0x2200 7 → val t k = val s k ∧ blob t k = blob s k) ∧
        t = { s with od := t.od, blobs := t.blobs, store := t.store, sess := t.sess })) ∧
  (∀ s : State,
      let may := s.pwr.bootDue = some 1 ∧ s.pwr.ddr = .retained ∧ s.pwr.vao = true ∧ s.pwr.brownout = false ∧ s.store.scanning = false
      (¬ may → exec .warmBoot s = .next s) ∧
      (may → Completes .warmBoot s fun t =>
        t.pwr.boot = some (false, 1) ∧ t.pwr.dev = .boot ∧ t.pwr.hive = true ∧ t.pwr.access = true ∧ t.pwr.resetCause = 1 ∧ t.pwr.bootDue = none ∧ t.pwr.wake = none ∧ t.pwr.ddr = .retained ∧ t.pwr.ddrKey = s.pwr.ddrKey ∧ t.pwr.wakeCode = s.pwr.wakeCode ∧ t.pwr.handed = false ∧
        t.fuse = s.fuse ∧ t.vault = s.vault ∧ t.blobs = s.blobs ∧ t.lc = s.lc ∧ t.pwr.voteHive.getLsbD 4 = true ∧ t.pwr.voteAccess.getLsbD 4 = true ∧ t.pwr.voteDdr.getLsbD 4 = true ∧
        val t (odKey 0x2181 3) = min (val s (odKey 0x2181 3) + 1) 0xFFFFFFFF ∧ (∀ k, k ∉ [odKey 0x2181 3, odKey 0x2350 4, odKey 0x2200 7] → val t k = val s k))) ∧
  (∀ s : State, (s.pwr.boot = none → exec .bootStepComplete s = .next s) ∧
      ∀ cold k, s.pwr.boot = some (cold, k) →
        let u : State := { s with pwr := { s.pwr with boot := some (cold, k + 1) } }
        let act (t : State) : Prop := exec .bootStepComplete s = .next { t with pending := s.pending }
        let locks : State := { u with pwr := { u.pwr with pll := u.pwr.pll ||| 0x1F } }
        let keys (t : State) : State := runAfterWake (if t.pwr.access then reloadAccessKeys t else t)
        (cold = true →
          (k = 3 → act locks) ∧ (k = 4 → act (bootRom u)) ∧
          (k = 5 → act (match chooseSlot u with | none => startRecovery u | some i => keeperStarts i (useTry i u))) ∧
          (k = 6 → act (dramTrained u)) ∧ (k = 7 → act (combRestore u)) ∧ (k = 8 → act (tickZero u)) ∧ (k = 9 → act (keys u)) ∧ (k = 10 → act (bootEnds u)) ∧ (k ≤ 2 ∨ 11 ≤ k → act u)) ∧
        (cold = false →
          (k = 2 → act locks) ∧ (k = 3 → act (bootRom u)) ∧ (k = 4 → act { u with pwr := { u.pwr with ddr := .on, held := u.pwr.held &&& ~~~BitVec.twoPow 26 24 } }) ∧
          (k = 5 → act (keeperStarts s.kpr.lastStarted u)) ∧ (k = 6 → act (combRestore u)) ∧ (k = 7 → act (tickZero u)) ∧ (k = 8 → act (bootEnds (keys u))) ∧ (k ≤ 1 ∨ 9 ≤ k → act u))) ∧
  (∀ s : State, s.pwr.hive = true → s.fuse.scrap = false → s.fuse.prov = false → lcRecord s = none → s.tamper.unlogged = 0 →
      let t := bootRom s
      t.lc.state = 0 ∧ t.lc.debugOpen = false ∧ t.lc.challenge = none ∧ t.link.up = true ∧ t.vault.slots = s.vault.slots ∧ t.vault.kd = s.vault.kd ∧ t.fuse = s.fuse ∧ t.lf.seeded = true ∧ t.pwr.bootDue = s.pwr.bootDue ∧
      (t.kpr.vaultOk = true ↔ s.kpr.vaultIsa ≤ 0x11) ∧ (t.kpr.accessOk = true ↔ s.kpr.accessIsa ≤ 0x10)) ∧
  (∀ (s : State) (i : Nat), i < 2 →
      let usable (j : Nat) : Prop := ∃ k, keeperSlot s j = some k ∧ slotFits s k = true ∧ (k.confirmed = true ∨ k.tries ≠ 0)
      let inst (j : Nat) : Nat := ((keeperSlot s j).map (·.install)).getD 0
      (chooseSlot s = none ↔ ¬ usable 0 ∧ ¬ usable 1) ∧
      (chooseSlot s = some 1 ↔ usable 1 ∧ (¬ usable 0 ∨ inst 0 < inst 1)) ∧ (chooseSlot s = some 0 ↔ usable 0 ∧ (¬ usable 1 ∨ inst 1 ≤ inst 0)) ∧
      keeperSlot (useTry i s) i = (keeperSlot s i).map (fun k => if k.confirmed then k else { k with tries := k.tries - 1 }) ∧
      (let t := startSlot i s;
        t.kpr.running = true ∧ t.kpr.recovery = false ∧ t.kpr.lastStarted = i ∧ t.kpr.watchPs = nowPs s ∧ t.kpr.startPs = nowPs s ∧ t.kpr.half = false ∧
        (∀ b, (keeperSlot s i).bind (·.image) = some b → t.kpr.build = kimgBuild b ∧ t.kpr.abi = kimgAbi b ∧ t.kpr.fmtMin = kimgFmtMin b ∧ t.kpr.fmtMax = kimgFmtMax b ∧ t.kpr.hash = kimgHash b ∧ t.keeper = { coreid := 0x10, imem := 0x80000, status := 9, pc := kimgEntry b })) ∧
      (let t := keeperStarts i s;
        t.kpr.running = true ∧ t.pwr.dev = .on ∧ t.pwr.voteHive.getLsbD 0 = true ∧ t.pwr.voteHive.getLsbD 4 = false ∧
        (t.sess.slots[15]?).join = some { transport := .keeperFirmware, endpoint := 32 } ∧ t.sess.inForce = s.od.filter fun e => (0x1030 ≤ e.1 / 256 && e.1 / 256 ≤ 0x1034) || (e.1 / 256 == 0x1040 && e.1 % 256 ≤ 8))) ∧
  (∀ s : State,
      (s.test.dram = false → dramTrained s = { s with pwr := { s.pwr with ddr := .on } }) ∧
      (s.test.dram = true → Completes .bootStepComplete { s with pwr := { s.pwr with boot := some (true, 6) } } fun t => val t (odKey 0x5051 2) = (match s.test.dramFailing with | none => 0 | some a => 2 ^ 31 + a / 64 % 2 ^ 31) ∧ t.test = { s.test with dram := false, dramFailing := none } ∧ t.pwr.ddr = .on) ∧
      (s.comb.state ≠ .armed ∨ s.comb.standby = none → tickZero s = s) ∧
      (∀ c, s.comb.state = .armed → s.comb.standby = some c → tickZero s = beginTick (expandFrom0 (swapNow s))) ∧
      (let t := bootEnds s;
        t.pwr.boot = none ∧ t.pwr.voteDdr = tally s.pwr.voteDdr 4 false ∧ t.pwr.voteAccess = tally s.pwr.voteAccess 4 false ∧ t.pwr.voteHive = s.pwr.voteHive ∧
        val t (odKey 0x2181 4) = (if s.pwr.unlockDue then val s (odKey 0x2181 4) else min ((s.clk.ao - s.pwr.bootStart) * 15625 / 512) 0xFFFFFFFF) ∧ t.fab = s.fab ∧ t.vault = s.vault ∧ t.kpr = s.kpr)) ∧
  (∀ s : State,
      let may := s.kpr.running = true ∧ s.comb.active = none ∧ s.comb.state ∉ [.verifying, .loading, .armed]
      (¬ may → exec .combRestore s = .next s) ∧
      (may → exec .combRestore s = .next { (restoreFrom (restoreOrder s) s) with pending := s.pending }) ∧
      (may → (∀ i < 4, setEntry s i = none) → exec .combRestore s = .next { s with comb := { s.comb with restore := none } }) ∧
      (∀ i l, setEntry s i = none → restoreFrom (i :: l) s = restoreFrom l s) ∧
      (∀ i l e, setEntry s i = some e → match restoreCheck s e.image with
        | some (code, detail) => restoreFrom (i :: l) s = restoreFrom l (refuseStandby code detail s)
        | none => restoreFrom (i :: l) s = (if e.tag.isSome = true ∧ e.tag = acceptTag s (parseComb e.image) then { placeStandby e.image (parseComb e.image) .armed s with comb := { (placeStandby e.image (parseComb e.image) .armed s).comb with restore := some i } }
          else { s with comb := { s.comb with restore := some i, state := .verifying, image := e.image, standby := none } })) ∧
      restoreFrom [] s = { s with comb := { s.comb with restore := none } }) ∧
  (∀ s : State,
      let loader (t : State) : State := { t with kpr := { t.kpr with running := false, recovery := true }, pwr := { t.pwr with boot := none, dev := .on } }
      (s.pwr.boot = some (true, 5) → chooseSlot s = none → exec .recoveryLoader s = .next (loader s)) ∧
      (s.pwr.boot = some (true, 5) → chooseSlot s ≠ none → exec .recoveryLoader s = .next s) ∧
      (s.pwr.boot = some (true, 6) → Completes .recoveryLoader s fun t => t.kpr = { s.kpr with running := false, recovery := true } ∧ t.pwr = { s.pwr with boot := none, dev := .on } ∧ t.port = State.reset.port ∧
        (∀ i : Nat, (t.sess.slots[i]?).join = none) ∧ t.sess.download = none ∧ t.store = { s.store with wRights := t.store.wRights } ∧ t = { s with kpr := t.kpr, pwr := t.pwr, port := t.port, sess := t.sess, store := t.store }) ∧
      ((s.pwr.boot ≠ some (true, 5) → s.pwr.boot ≠ some (true, 6) → exec .recoveryLoader s = .next s))) ∧
  (∀ s : State, (s.pwr.access = true → Completes .accessSequencerRestart s fun t => t.acore = { coreid := 0x12, isalvl := 0x10, status := 9 } ∧ t.uwb.round = none ∧ t.uwb.exchange = none ∧ t.lf.session = none ∧ t.lf.slrA = false ∧ t.lf.releasing = false ∧
        (t.pwr.access = true → t.lf.keys = s.lf.keys) ∧ t.lf.lock = s.lf.lock ∧ t.fab = s.fab ∧ t.vault = s.vault ∧ t.kpr.accessTimes = nowPs s :: s.kpr.accessTimes.filter (fun x => nowPs s < x + 60000000000000) ∧
        t.pwr.bootDue = (if 3 ≤ t.kpr.accessTimes.length then some 2 else s.pwr.bootDue)) ∧
      (s.pwr.access = false → exec .accessSequencerRestart s = .next s))

/-- Event records, their rings, summaries and deferred records.
* A source that is present logs its record while its die has power, the Field die's sources with the AO supply alone; any other logs nothing. With the Hive die on, a case that is not summarised joins the source's staging FIFO with its class, detail, object and 8 data bytes and the device time, and no other source's ring changes.
* Staging: a FIFO takes 32 records, and a full one drops its oldest, the next record written carrying GAP; a record of a Field-die source with the Hive die off is deferred, marked, among 64 at most, of which the oldest is dropped in the same way. The first case of a summarised event is staged with its first 4 data bytes and opens its window; the others of its detail and first data byte are counted there.
* In service-only mode or in a DRAM slot of its client, with no deferred record of the source waiting, the oldest staged record goes into its ring with the ring's next SEQ, its bytes and CRC reach DRAM, and it is counted; a full ring loses its oldest record, which is counted; a ring at three quarters raises the keeper's line 5; a ring that restarts begins at entry 0. An empty FIFO, a powerless die, a deferred record of the source and a slot of another client change nothing.
* A summary window closes 1 s after it opened, and not before: one that missed cases leaves a SUMMARY record with the first data and the count in its source's FIFO; one that missed none leaves nothing. Without such a window nothing happens.
* Once the keeper runs on a powered Hive die the deferred records go to their sources' rings in their order and none is left; otherwise nothing happens.
* The keeper's ready write of a ring's base, in steps of 32 bytes, or of its entries, a power of two from 64 to 65,536, is kept and restarts the ring at its next record; another value is refused with 0x06090030. -/
def Obligations.EventRings : Prop :=
  (∀ (s : State) (src : Fin 40) (cls : Byte) (detail : BitVec 16) (obj : BitVec 24) (d : Blob),
      let may := (sourcesPresent s).testBit src = true ∧ (s.pwr.hive = true ∨ (s.pwr.vao = true ∧ src.val ∈ [10, 11, 13, 14, 15]))
      (¬ may → exec (.eventRecord src cls detail obj d) s = .next s) ∧
      (may → exec (.eventRecord src cls detail obj d) s = .next { (logEvent src cls.toNat detail.toNat (odKey (obj.toNat % 65536) (obj.toNat / 65536)) d s) with pending := s.pending }) ∧
      (may → s.pwr.hive = true → summarised cls.toNat detail.toNat = false → s.evt.rings[src].staging.length < 31 → s.evt.deferredGap = [] → Completes (.eventRecord src cls detail obj d) s fun t =>
        (∃ e : EventRec, t.evt.rings[src].staging = s.evt.rings[src].staging ++ [e] ∧ e.source = src ∧ e.cls = cls.toNat ∧ e.detail = detail.toNat ∧ e.time = nowNs s ∧ e.data = subPad d 0 8 ∧ e.obj = obj.toNat) ∧
        (∀ j : Fin 40, j ≠ src → t.evt.rings[j] = s.evt.rings[j]) ∧ t.od = s.od ∧ t.out = s.out)) ∧
  (∀ (s : State) (src cls detail obj : Nat) (d : Blob),
      let e : EventRec := { seq := 0, source := src, cls := cls, detail := detail, time := nowNs s, obj := obj / 256 + obj % 256 * 65536, flags := 0, data := subPad d 0 8 }
      let key := ofLe (d.take 1)
      (summarised cls detail = true ↔ cls = 1 ∧ (detail = 0x0006 ∨ detail = 0x000A)) ∧
      (summarised cls detail = false → logEvent src cls detail obj d s = stageEvent e s) ∧
      (summarised cls detail = true → s.evt.windows.find? (fun w => w.detail == detail && w.key == key) = none →
        logEvent src cls detail obj d s = stageEvent { e with data := subPad (d.take 4) 0 8 } { s with evt := { s.evt with
          windows := s.evt.windows ++ [{ detail := detail, key := key, source := src, cls := cls, obj := e.obj, first := [], count := 0, openPs := nowPs s }] } }) ∧
      (∀ w, summarised cls detail = true → s.evt.windows.find? (fun w => w.detail == detail && w.key == key) = some w →
        logEvent src cls detail obj d s = { s with evt := { s.evt with windows := s.evt.windows.map fun w =>
          if w.detail = detail ∧ w.key = key then { w with count := w.count + 1, first := if w.count = 0 then subPad d 0 4 else w.first } else w } }) ∧
      (s.evt.deferredGap = [] → s.pwr.hive = true ∨ src ∉ [10, 11, 13, 14, 15] → stageEvent e s = { s with evt := { s.evt with rings := vmod s.evt.rings src (·.stage e) } }) ∧
      (s.evt.deferredGap = [] → s.pwr.hive = false → src ∈ [10, 11, 13, 14, 15] → stageEvent e s = { s with evt := s.evt.defer { e with flags := 1 } }) ∧
      (∀ r : EventRing, (r.staging.length < 32 → r.stage e = { r with staging := r.staging ++ [e] }) ∧
        ∀ o h l, r.staging = o :: h :: l → 32 ≤ r.staging.length → r.stage e = { r with staging := { h with flags := h.flags ||| 4 } :: (l ++ [e]) }) ∧
      (∀ v : EventSt, (v.deferred.length < 64 → v.defer e = { v with deferred := v.deferred ++ [e] }) ∧
        ∀ o h l, v.deferred = o :: h :: l → 64 ≤ v.deferred.length → h.source = o.source → v.defer e = { v with deferred := { h with flags := h.flags ||| 4 } :: (l ++ [e]) })) ∧
  (∀ (s : State) (src : Fin 40),
      let may := s.pwr.hive = true ∧ s.evt.deferred.all (fun d => d.source ≠ src.val) = true ∧ (serviceOnly s = true ∨ dramSlotDue s 2 = true)
      (s.evt.rings[src].staging = [] ∨ ¬ may → exec (.eventRingWrite src) s = .next s) ∧
      (∀ e rest, s.evt.rings[src].staging = e :: rest → may →
        exec (.eventRingWrite src) s = .next { (ringWrite src e { s with evt := { s.evt with rings := vmod s.evt.rings src fun x => { x with staging := rest } } }) with pending := s.pending }) ∧
      (∀ e rest, s.evt.rings[src].staging = e :: rest → may → Completes (.eventRingWrite src) s fun t =>
          let r := s.evt.rings[src].begin (val s (odKey (0x6010 + src) 2))
          t.evt.rings[src] = { r with
            staging := rest, ring := mapPut r.write { e with seq := r.seq } r.ring, write := (r.write + 1) % max r.entries 1, seq := (r.seq + 1) % 2 ^ 32, unread := min (r.unread + 1) r.entries } ∧
          (∀ j : Fin 40, j ≠ src → t.evt.rings[j] = s.evt.rings[j]) ∧
          t.out = .dram (val s (odKey (0x6010 + src) 1) + 32 * r.write) ({ e with seq := r.seq } : EventRec).bytes :: s.out ∧
          val t (odKey (0x6010 + src) 7) = min (val s (odKey (0x6010 + src) 7) + 1) 0xFFFFFFFF ∧
          val t (odKey (0x6010 + src) 6) = (if r.entries ≤ r.unread then min (val s (odKey (0x6010 + src) 6) + 1) 0xFFFFFFFF else val s (odKey (0x6010 + src) 6)) ∧
          t.keeper.ipend = (if 3 * r.entries ≤ 4 * min (r.unread + 1) r.entries then s.keeper.ipend ||| 0x20 else s.keeper.ipend)) ∧
      (∀ (r : EventRing) (n : Nat), r.begin n = if r.restart then { r with restart := false, entries := n, ring := [], write := 0, read := 0, unread := 0 } else r)) ∧
  (∀ (s : State) (detail : BitVec 16) (key : Nat),
      let isIt (w : SummaryWindow) : Bool := w.detail == detail.toNat && w.key == key
      (s.evt.windows.find? isIt = none → exec (.eventSummaryWindowClose detail key) s = .next s) ∧
      ∀ w, s.evt.windows.find? isIt = some w →
        let u : State := { s with evt := { s.evt with windows := s.evt.windows.filter fun w => !isIt w } }
        (nowPs s < w.openPs + 1000000000000 → exec (.eventSummaryWindowClose detail key) s = .next s) ∧
        (w.openPs + 1000000000000 ≤ nowPs s → w.count = 0 → exec (.eventSummaryWindowClose detail key) s = .next u) ∧
        (w.openPs + 1000000000000 ≤ nowPs s → w.count ≠ 0 → exec (.eventSummaryWindowClose detail key) s = .next { (stageEvent { seq := 0, source := w.source, cls := w.cls, detail := w.detail, time := nowNs s, obj := w.obj, flags := 2
                                                                                                                                 data := subPad w.first 0 4 ++ leBytes 4 w.count } u) with pending := s.pending })) ∧
  (∀ s : State,
      (s.pwr.hive = true → s.kpr.running = true →
        exec .deferredEventFlush s = .next { (s.evt.deferred.foldl (fun s e => ringWrite e.source e s) { s with evt := { s.evt with deferred := [] } }) with pending := s.pending }) ∧
      (s.evt.deferred = [] ∨ s.pwr.hive = false ∨ s.kpr.running = false → exec .deferredEventFlush s = .next s)) ∧
  (∀ (src : Fin 40) (entries : Bool) (v : Nat),
      let sb := if entries then 2 else 1
      Writes (.eventRingConfigWrite src entries v) 15 (0x6010 + src) sb (numFor (0x6010 + src) sb v) (fun _ => true) fun s n _ =>
        if (if entries then (List.range 11).all (fun i => n ≠ 64 * 2 ^ i) else n % 32 ≠ 0) then .error abRange
        else .ok fun t => val t (odKey (0x6010 + src) sb) = n ∧ t.evt = { s.evt with rings := vmod s.evt.rings src fun r => { r with restart := true } } ∧
          t = { keepVal (odKey (0x6010 + src) sb) n s with evt := t.evt })

/-- Tests of a port: starting, stopping, the frames they send and check, and completing.
* The write to 0x5010 + port/05 is accepted with the port STOPPED or DOWN. A start with no lane test on the port's SerDes, a mode the port has and a length it can send begins the test with its counters at 0 and votes for the port's domain; in mode 0 none runs. A running lane test refuses it with 0x08000022, a mode or length the port does not have with 0x06090030. A stop lets the frame in progress of a running test complete.
* Modes 0 to 4 are every port's, mode 5 is TSA's. Modes 1, 3 and 4 send frames, modes 2, 3 and 4 check them. A CAN test frame has the lowest enabled of the formats classic, FD and XL that carries its length, and an FD frame a length that FD has; a LIN frame has 2 to 8 bytes, an Ethernet frame 64 to the port's longest.
* A test frame that is sent counts, and the next takes the next SEQ, of 16 bits on CAN and LIN and of 32 on Ethernet; nothing else of the port changes. Except in loopback it reaches the wire: on CAN with identifier 0x7F0, on LIN as the response of identifier 0x30 with the enhanced checksum, its data SEQ, most significant byte first, then the pattern, whose byte i is the low byte of SEQ plus i; on Ethernet both addresses the port's, type 0x88B6, SEQ, the pattern and the FCS.
* In a running test of a mode that checks, a frame with the test layout is counted, and counted as an error too where its CRC, its pattern or, after the first, its SEQ is wrong; its SEQ plus 1 is expected next. Any other frame counts nothing.
* The layout a checker looks for: on CAN and LIN at least two data bytes, SEQ in the first two; on Ethernet at least 64 bytes with both addresses equal and type 0x88B6, SEQ in bytes 14 to 17. The pattern is good where every byte between SEQ and the end, on Ethernet the FCS, is the low byte of SEQ plus its place.
* A running test with a count is complete once its frames are sent or, in a mode that checks, enough are checked, and its vote ends where the port is at rest; a LIN port's count is taken as sent. Otherwise nothing happens. -/
def Obligations.PortTests : Prop :=
  (∀ (slot : Fin 16) (p : Fin 24),
      let effect (s : State) (n : Nat) : Except Nat (State → Prop) :=
        let mode := val s (odKey (0x5010 + p) 1)
        if n ≠ 1 then .ok fun t => t = { s with port := vmod s.port p fun x => if x.test.st = 1 then { x with test := { x.test with stopping := true } } else x }
        else if 18 ≤ p.val ∧ serRuns s (p.val - 18) = true then .error abState
        else if testModeOk p mode = false ∨ (modeGenerates mode = true ∧ testLenOk s p (val s (odKey (0x5010 + p) 2)) = false) then .error abRange
        else .ok fun t => t = { s with
          port := vmod s.port p fun x => { x with test := { st := if mode = 0 then 0 else 1, mode := mode, count := val s (odKey (0x5010 + p) 3) } }
          pwr := if mode = 0 then s.pwr else { s.pwr with votePort := vmod s.pwr.votePort p fun _ => true, ports := vmod s.pwr.ports p fun x => x && true } }
      let rest (s : State) : Bool := (portAt s p).st == .stopped || (portAt s p).st == .down
      Writes (.portTestStart slot p) slot (0x5010 + p) 5 (numFor (0x5010 + p) 5 1) rest (fun s n _ => effect s n) ∧
      Writes (.portTestStop slot p) slot (0x5010 + p) 5 (numFor (0x5010 + p) 5 2) rest (fun s n _ => effect s n)) ∧
  (∀ (s : State) (n : Fin 24) (m len : Nat),
      (testModeOk n m = true ↔ m ≤ 4 ∨ m = 5 ∧ portKind n = .tsa) ∧ (modeGenerates m = true ↔ m ∈ [1, 3, 4]) ∧ (modeChecks m = true ↔ m ∈ [2, 3, 4]) ∧
      (portKind n = .can → (testLenOk s n len = true ↔ 2 ≤ len ∧ ((formatEnabled s n .classicBase = true ∧ len ≤ 8) ∨
        (formatEnabled s n .fdBase = true ∧ len ∈ [2, 3, 4, 5, 6, 7, 8, 12, 16, 20, 24, 32, 48, 64]) ∨ (formatEnabled s n .xl = true ∧ len ≤ 2048)))) ∧
      (portKind n = .lin → (testLenOk s n len = true ↔ 2 ≤ len ∧ len ≤ 8)) ∧
      (n.val ≥ 14 → (testLenOk s n len = true ↔ 64 ≤ len ∧ len ≤ val s (pk n 1 2)))) ∧
  (∀ (s : State) (n : Fin 24),
      let x := (portAt s n).test
      let len := val s (odKey (0x5010 + n) 2)
      let u : State := { s with port := vmod s.port n fun y => { y with test := { y.test with
        sent := min (x.sent + 1) 0xFFFFFFFF, nextSeq := (x.nextSeq + 1) % 2 ^ (if n.val < 14 then 16 else 32) } } }
      let pattern (a : Nat) : Blob := (List.range a).map fun i => BitVec.ofNat 8 (x.nextSeq % 256 + i)
      (x.mode = 4 → testFrameSent n s = u) ∧
      (x.mode ≠ 4 → portKind n = .can → ∃ f, f.id = 0x7F0 ∧ f.data = beBytes 2 x.nextSeq ++ pattern (len - 2) ∧
        (f.fmt = match testFormat s n len with | some .fdBase => .fdBase | some .xl => .xl | _ => .classicBase) ∧
        testFrameSent n s = { u with out := .can n f :: s.out, freeCtr := (testFrameSent n s).freeCtr }) ∧
      (x.mode ≠ 4 → portKind n = .lin → testFrameSent n s = { u with out := .linResponse n 0x30 (beBytes 2 x.nextSeq ++ pattern (len - 2)) (linChecksum 0x30 (beBytes 2 x.nextSeq ++ pattern (len - 2)) true) :: s.out }) ∧
      (x.mode ≠ 4 → n.val ≥ 14 →
        let b := beBytes 6 (portMac s n) ++ beBytes 6 (portMac s n) ++ [0x88, 0xB6] ++ beBytes 4 x.nextSeq ++ pattern (len - 22)
        testFrameSent n s = { u with out := .eth n (b ++ leBytes 4 (crc32 b)) false :: s.out })) ∧
  (∀ (s : State) (p : Fin 24) (b : Blob) (crc : Bool),
      let x := (portAt s p).test
      ((x.st ≠ 1 ∨ modeChecks x.mode = false ∨ testLayout p b = none) → exec (.testFrameCheck p b crc) s = .next s) ∧
      (∀ seq good, x.st = 1 → modeChecks x.mode = true → testLayout p b = some (seq, good) →
        exec (.testFrameCheck p b crc) s = .next { s with port := vmod s.port p fun y => { y with test := { y.test with
          checked := min (x.checked + 1) 0xFFFFFFFF
          errors := if crc = true ∧ good = true ∧ (x.checked = 0 ∨ seq = x.expectSeq) then x.errors else min (x.errors + 1) 0xFFFFFFFF
          expectSeq := (seq + 1) % 2 ^ (if p.val < 14 then 16 else 32) } } })) ∧
  (∀ (n : Fin 24) (b : Blob),
      let pattern (seq a : Nat) : Blob := (List.range a).map fun i => BitVec.ofNat 8 (seq % 256 + i)
      (n.val < 14 → testLayout n b = if b.length < 2 then none else some (ofBe (sub b 0 2), b.drop 2 == pattern (ofBe (sub b 0 2)) (b.length - 2))) ∧
      (14 ≤ n.val → b.length < 64 ∨ sub b 0 6 ≠ sub b 6 6 ∨ ofBe (sub b 12 2) ≠ 0x88B6 → testLayout n b = none) ∧
      (14 ≤ n.val → 64 ≤ b.length → sub b 0 6 = sub b 6 6 → ofBe (sub b 12 2) = 0x88B6 →
        testLayout n b = some (ofBe (sub b 14 4), sub b 18 (b.length - 22) == pattern (ofBe (sub b 14 4)) (b.length - 22)))) ∧
  (∀ (s : State) (p : Fin 24),
      let x := (portAt s p).test
      let lin : Bool := portKind p == .lin
      let past : Prop := x.st = 1 ∧ x.count ≠ 0 ∧ ((x.mode = 1 ∧ (lin = true ∨ x.sent = x.count)) ∨ (modeChecks x.mode = true ∧ (x.count ≤ x.checked ∨ lin = true ∨ x.sent = x.count)))
      (¬ past → exec (.portTestComplete p) s = .next s) ∧
      (past → exec (.portTestComplete p) s = .next { s with
        port := vmod s.port p fun y => { y with test := { y.test with sent := if lin = true ∧ modeGenerates x.mode = true then x.count else x.sent, st := 2, stopping := false } }
        pwr := if (portAt s p).st = .stopped ∨ (portAt s p).st = .down then { s.pwr with votePort := vmod s.pwr.votePort p fun _ => false, ports := vmod s.pwr.ports p fun _ => false } else s.pwr }))

/-- Tests of SerDes lanes, of the radios and antennas, and of memories.
* The write to 0x5030 + lane/03 is accepted with the lane's port STOPPED or DOWN. A start with no port test running begins the lane test with its counters at 0, otherwise it is refused with 0x08000022. A stop of a running test ends it, with the bits since its checker locked counted: how many there were, only the wire shows, so that they are free values.
* The checker of a running test that checks locks. A locked one that loses lock counts at least 32 wrong bits and keeps its counters; how many bits it saw, only the wire shows: they are free values. Otherwise nothing happens.
* A start with the channel STOPPED or in FAULT puts the loopback among the LF engine's waiting starts, otherwise it is refused with 0x08000022. At its end the peak, at most 0xFFFF, and the finding (0 pass, 1 open, 2 short, 3 not reached) stand in 0x5040/03, and a short leaves the channel in FAULT. Where no loopback runs nothing happens.
* A start with UWB0 STOPPED or in FAULT starts the loopback, otherwise it is refused with 0x08000022. Its end leaves the delay in 0x5041/02, all ones where the frame was not received. Where none runs nothing happens.
* A start with NFC0 STOPPED drives the field, or with an external field only leaves 0xFFFF; otherwise it is refused with 0x08000022. The end of the drive leaves current and offset in 0x5042/02 and the field off. Where none runs nothing happens.
* A start of the memory code in 0x5050/01 that may be tested begins its BIST, otherwise it is refused with 0x08000022. A BIST that ends leaves 0 or bit 31 with the failing address in 0x5050/03; the memory tested holds nothing but zeros, but for the FeRAM, which is only read; and an owner that waits in PENDING is started. Where none runs nothing happens.
* The memories that may be tested: 0x10 + pair with the pair fitted and STOPPED or RETIRED, 0x20 + lane with the lane STOPPED or in FAULT, 0x30 + port of CAN or LIN with the port fitted and STOPPED or DOWN, and 0x40, the FeRAM, always.
* In service-only mode an order of the DRAM test is answered and followed by a cold boot with cause 2, in which the boot ROM runs it; outside that mode it is refused with 0x08000022. -/
def Obligations.LaneAndMemoryTests : Prop :=
  (∀ (slot : Fin 16) (k : Fin 6),
      let effect (s : State) (n : Nat) : Except Nat (State → Prop) :=
        if n = 1 then (if (portAt s (18 + k)).test.st = 1 then .error abState
          else .ok fun t => t = { s with test := { s.test with ser := vmod s.test.ser k fun _ => { running := true } } })
        else if s.test.ser[k].running = false then .ok fun t => t = s
        else if s.test.ser[k].locked = false then .ok fun t => t = { s with test := { s.test with ser := vmod s.test.ser k fun x => { x with running := false, locked := false } } }
        else .ok fun t => ∃ e g, t = { s with
          test := { s.test with ser := vmod s.test.ser k fun x => { x with running := false, locked := false, bits := (x.bits + e + g) % 2 ^ 64, errors := (x.errors + e) % 2 ^ 64 } }, freeCtr := s.freeCtr + 2 }
      let rest (s : State) : Bool := (portAt s (18 + k)).st == .stopped || (portAt s (18 + k)).st == .down
      Writes (.serTestStart slot k) slot (0x5030 + k) 3 (numFor (0x5030 + k) 3 1) rest (fun s n _ => effect s n) ∧
      Writes (.serTestStop slot k) slot (0x5030 + k) 3 (numFor (0x5030 + k) 3 2) rest (fun s n _ => effect s n)) ∧
  (∀ (s : State) (k : Fin 6),
      (s.test.ser[k].running = true → (val s (odKey (0x5030 + k) 2)).testBit 1 = true →
        exec (.prbsCheckerLock k) s = .next { s with test := { s.test with ser := vmod s.test.ser k fun x => { x with locked := true } } }) ∧
      (s.test.ser[k].running = false ∨ (val s (odKey (0x5030 + k) 2)).testBit 1 = false → exec (.prbsCheckerLock k) s = .next s) ∧
      (s.test.ser[k].locked = true → ∃ e g, exec (.prbsCheckerLossOfLock k) s = .next { s with
        test := { s.test with ser := vmod s.test.ser k fun x => { x with locked := false, bits := (x.bits + 32 + e + g) % 2 ^ 64, errors := (x.errors + 32 + e) % 2 ^ 64 } }, freeCtr := s.freeCtr + 2 }) ∧
      (s.test.ser[k].locked = false → exec (.prbsCheckerLossOfLock k) s = .next s)) ∧
  ((∀ slot : Fin 16, Writes (.lfLoopbackStart slot) slot 0x5040 2 (numFor 0x5040 2 1) (fun _ => true) fun s _ _ =>
      let st := chanAt s (val s (odKey 0x5040 1))
      if st = .stopped ∨ st = .fault then .ok fun t => t = { s with
        test := { s.test with lf := true }
        lf := { s.lf with loopback := false, pending := if s.lf.pending.contains 33 then s.lf.pending else s.lf.pending ++ [33] } }
      else .error abState) ∧
    ∀ (s : State) (peak : Nat),
      (s.lf.loopback = false → exec (.lfLoopbackComplete peak) s = .next s) ∧
      (s.lf.loopback = true →
        let finding := if 2400 < peak then 2 else if peak < 63 then 1 else if peak < 226 then 3 else 0
        let u := setVal (odKey 0x5040 3) (min peak 0xFFFF + finding * 2 ^ 16) { s with lf := { s.lf with loopback := false }, test := { s.test with lf := false } }
        exec (.lfLoopbackComplete peak) s = .next (if 2400 < peak then setChan (val s (odKey 0x5040 1)) .fault u else u))) ∧
  ((∀ slot : Fin 16, Writes (.uwbLoopbackStart slot) slot 0x5041 1 (numFor 0x5041 1 1) (fun _ => true) fun s _ _ =>
      if s.uwb.st = .stopped ∨ s.uwb.st = .fault then .ok fun t => t = { s with uwb := { s.uwb with loopback := true }, test := { s.test with uwb := true } } else .error abState) ∧
    ∀ (s : State) (d : Option Nat),
      (s.uwb.loopback = false → exec (.uwbLoopbackComplete d) s = .next s) ∧
      (s.uwb.loopback = true → exec (.uwbLoopbackComplete d) s = .next (setVal (odKey 0x5041 2) (match d with | some n => n % 2 ^ 32 | none => 0xFFFFFFFF)
        { s with uwb := { s.uwb with loopback := false }, test := { s.test with uwb := false } }))) ∧
  ((∀ slot : Fin 16, Writes (.nfcLoadCheckStart slot) slot 0x5042 1 (numFor 0x5042 1 1) (fun _ => true) fun s _ _ =>
      if s.nfc.st ≠ .stopped then .error abState
      else if s.nfc.field = true then .ok fun t => t = setVal (odKey 0x5042 2) 0xFFFF s
      else .ok fun t => t = { s with nfc := { s.nfc with own := true }, pwr := { s.pwr with pll := s.pwr.pll ||| 0x20#13 }, test := { s.test with nfc := true } }) ∧
    ∀ (s : State) (c o : Byte),
      (s.test.nfc = false → exec (.nfcLoadCheckComplete c o) s = .next s) ∧
      (s.test.nfc = true → exec (.nfcLoadCheckComplete c o) s = .next (setVal (odKey 0x5042 2) (c.toNat + o.toNat * 256)
        { s with nfc := { s.nfc with own := false }, pwr := { s.pwr with pll := s.pwr.pll &&& ~~~0x20#13 }, test := { s.test with nfc := false } }))) ∧
  ((∀ slot : Fin 16, Writes (.bistStart slot) slot 0x5050 2 (numFor 0x5050 2 1) (fun _ => true) fun s _ _ =>
      if bistAllowed s (val s (odKey 0x5050 1)) = true then .ok fun t => t = { s with test := { s.test with bist := some (val s (odKey 0x5050 1)) } } else .error abState) ∧
    ∀ (s : State) (f : Option Nat),
      let ends (u : State) : State := setVal (odKey 0x5050 3) (match f with | none => 0 | some a => 2 ^ 31 + a % 2 ^ 31) { u with test := { s.test with bist := none } }
      let act (t : State) : Prop := exec (.bistComplete f) s = .next { t with pending := s.pending }
      (s.test.bist = none → exec (.bistComplete f) s = .next s) ∧
      (∀ p : Fin 16, s.test.bist = some (0x10 + p) → act (pairStopped p (ends { s with wp := vmod s.wp p fun k => { k with mem := [], code := [], badCode := [] } }))) ∧
      (∀ l : Fin 16, s.test.bist = some (0x20 + l) → act (laneStopped l (ends { s with lanes := { s.lanes with lane := vmod s.lanes.lane l fun x => { x with hold := [] } } }))) ∧
      (∀ p : Fin 16, s.test.bist = some (0x30 + p) → act (portStopped p (ends { s with port := vmod s.port p fun x => { x with can := { x.can with rq0 := [], rq1 := [] }, lin := { x.lin with rq0 := [], rq1 := [] } } }))) ∧
      (s.test.bist = some 0x40 → act (ends s))) ∧
  (∀ (s : State) (code : Nat), bistAllowed s code = true ↔
      (∃ p : Fin 16, code = 0x10 + p ∧ pairFitted s p = true ∧ ((pairAt s p).st = .stopped ∨ (pairAt s p).st = .retired)) ∨
      (∃ l : Fin 12, code = 0x20 + l ∧ ((laneAt s l).st = .stopped ∨ (laneAt s l).st = .fault)) ∨
      (∃ p : Fin 14, code = 0x30 + p ∧ portFitted s p = true ∧ ((portAt s p).st = .stopped ∨ (portAt s p).st = .down)) ∨ code = 0x40) ∧
  (∀ (slot : Fin 16) (f : Option Nat), Writes (.dramTestStart slot f) slot 0x5051 1 (numFor 0x5051 1 1) (fun s => serviceOnly s) fun s _ _ =>
      .ok fun t => t = { s with test := { s.test with dram := true, dramFailing := f }, pwr := { s.pwr with bootDue := some 2 } })

/-- The debug port and boundary scan.
* Through an open debug port a core it reaches is halted; a halted one lets one instruction issue and shows a general register. A core it does not reach, and a step or a read of a core that is not halted, change nothing. It reaches the keeper, a fitted worker and the access sequencer with power, while the Hive die has power; the vault never.
* With the TAPs open a JTAG instruction is loaded and its bits leave: two bypass bits; the two IDCODEs (bit 0 is 1, bits 11-1 the maker 0x3D9, bits 27-12 the part, bits 31-28 the stepping), the Hive die's first; the pads' sample. EXTEST runs in service-only mode and is BYPASS otherwise. With the TAPs closed nothing happens. -/
def Obligations.DebugPort : Prop :=
  (∀ (s : State) (c : CoreId),
      let halted := debugReaches s c = true ∧ (coreOf c s).debugHalt = true
      (debugReaches s c = true → exec (.debugHalt c) s = .next (modCore c (fun k => { k with debugHalt := true, debugStep := false }) s)) ∧
      (debugReaches s c = false → exec (.debugHalt c) s = .next s) ∧
      (halted → exec (.debugStep c) s = .next (modCore c (fun k => { k with debugStep := true }) s) ∧
        ∀ r, exec (.debugRead c r) s = .next { s with out := .debug ((coreOf c s).g[r]).val.toNat :: s.out }) ∧
      (¬ halted → exec (.debugStep c) s = .next s ∧ ∀ r, exec (.debugRead c r) s = .next s) ∧
      (debugReaches s c = true ↔ s.lc.debugOpen = true ∧ s.pwr.hive = true ∧ match c with
        | .wp p => pairFitted s p = true | .keeper => True | .vault => False | .access => s.pwr.access = true)) ∧
  (∀ s : State,
      let code (part : Nat) : List Bool := (List.range 32).map fun i => Nat.testBit (s.fuse.stepping % 16 * 2 ^ 28 + part * 2 ^ 12 + 0x3D9 * 2 + 1) i
      (tapOpen s = true → exec .jtagBypass s = .next { s with test := { s.test with jtag := .bypass }, out := .jtag [false, false] :: s.out } ∧
        exec .jtagIdcode s = .next { s with test := { s.test with jtag := .idcode }, out := .jtag (code (if isSmall s = true then 0x2412 else 0x2424) ++ code 0x2400) :: s.out } ∧
        (∀ b, exec (.jtagSamplePreload b) s = .next { s with test := { s.test with jtag := .sample }, out := .jtag b :: s.out }) ∧
        (serviceOnly s = true → exec .extestPulse s = .next { s with test := { s.test with jtag := .extestPulse }, out := .jtag [] :: s.out } ∧
          exec .extestTrain s = .next { s with test := { s.test with jtag := .extestTrain }, out := .jtag [] :: s.out }) ∧
        (serviceOnly s = false → exec .extestPulse s = exec .jtagBypass s ∧ exec .extestTrain s = exec .jtagBypass s)) ∧
      (tapOpen s = false → ∀ c, c ∈ [Instr.jtagBypass, .jtagIdcode, .extestPulse, .extestTrain] ∨ (∃ b, c = .jtagSamplePreload b) → exec c s = .next s))
end

