-- ==== Sys2Proof/Laws/State.lean ====
section
/-! SUPPORT. Small lemmas of the state and of the operations that every meaning shares: what each changes and, field by field,
what it leaves. -/

namespace Sys2Proof.Machine

/-! ### Answers -/

/-- A meaning's answer is a next state, with the queue as it was. -/
@[simp] theorem conclude_eq (s t : State) : conclude s t = .next { t with pending := s.pending } := rfl

/-- A command completes with `P` where `P` holds of the state its meaning gives, the queue put back. -/
theorem completes_of {c : Instr} {s t : State} {P : State → Prop}
    (h : exec c s = conclude s t) (p : P { t with pending := s.pending }) : Completes c s P := ⟨_, h, p⟩

/-! ### Vectors addressed by numbers -/

/-- Reading the changed element. -/
theorem vmod_self {α : Type} {n : Nat} (v : Vector α n) (i : Nat) (f : α → α) (h : i < n) : (vmod v i f)[i]? = some (f v[i]) := by
  simp [vmod, h]

/-- Reading another element. -/
theorem vmod_other {α : Type} {n : Nat} (v : Vector α n) (i j : Nat) (f : α → α) (h : i ≠ j) : (vmod v i f)[j]? = v[j]? := by
  unfold vmod
  split
  · simp [h]
  · rfl

/-! ### Maps -/

/-- What a map holds after a write, at the key written and at any other. -/
theorem mapGet_mapPut {α : Type} (k j : Nat) (v : α) (m : List (Nat × α)) :
    mapGet j (mapPut k v m) = if k = j then some v else mapGet j m := by
  induction m with
  | nil => simp [mapPut, mapGet]
  | cons e r ih =>
    obtain ⟨a, w⟩ := e
    simp only [mapPut]
    split
    · simp [mapGet]
    · split
      · rename_i h; subst h; simp only [mapGet]; split <;> simp_all
      · simp only [mapGet, ih]
        split
        · rename_i h1 h2 h3; subst h3; split
          · rename_i h4; exact absurd h4.symm h2
          · rfl
        · rfl

/-- What a map holds after a removal. -/
theorem mapGet_mapDel {α : Type} (k j : Nat) (m : List (Nat × α)) :
    mapGet j (mapDel k m) = if k = j then none else mapGet j m := by
  induction m with
  | nil => simp [mapDel, mapGet]
  | cons e r ih =>
    obtain ⟨a, w⟩ := e
    simp only [mapDel, List.filter_cons] at *
    by_cases h : a = k
    · subst h; simp only [ne_eq, not_true_eq_false, decide_false, Bool.false_eq_true, ↓reduceIte, ih, mapGet]
      split <;> simp_all
    · simp only [ne_eq, h, not_false_eq_true, decide_true, ↓reduceIte, mapGet, ih]
      split
      · rename_i h2; subst h2; simp [Ne.symm h]
      · rfl

/-! ### Stored values -/

/-- An entry reads as it was last written; the others as before. -/
theorem val_setVal (k j v : Nat) (s : State) : val (setVal k v s) j = if k = j then v else val s j := by
  unfold val setVal odSet
  by_cases hv : v = odDefault k
  · simp only [hv, ↓reduceIte, mapGet_mapDel]
    by_cases hk : k = j
    · subst hk; simp
    · simp [hk]
  · simp only [hv, ↓reduceIte, mapGet_mapPut]
    by_cases hk : k = j
    · subst hk; simp
    · simp [hk]

@[simp] theorem val_setVal_self (k v : Nat) (s : State) : val (setVal k v s) k = v := by simp [val_setVal]

/-- A string reads as it was last written; the others as before. -/
theorem blob_setBlob (k j : Nat) (b : Blob) (s : State) : blob (setBlob k b s) j = if k = j then b else blob s j := by
  unfold blob setBlob
  by_cases hb : b = []
  · simp only [hb, ↓reduceIte, mapGet_mapDel]
    by_cases hk : k = j
    · subst hk; simp
    · simp [hk]
  · simp only [hb, ↓reduceIte, mapGet_mapPut]
    by_cases hk : k = j
    · subst hk; simp
    · simp [hk]

/-- A value depends on the stored values alone. -/
theorem val_congr {s t : State} (h : t.od = s.od) (k : Nat) : val t k = val s k := by simp [val, h]
/-- A string depends on the stored strings alone. -/
theorem blob_congr {s t : State} (h : t.blobs = s.blobs) (k : Nat) : blob t k = blob s k := by simp [blob, h]

/-- A saturating counter after a step, and every other value. -/
theorem val_count (k j : Nat) (s : State) : val (count k s) j = if k = j then min (val s k + 1) 0xFFFFFFFF else val s j := by
  simp [count, countN, val_setVal]

/-! ### Frames: what leaves the block -/

@[simp] theorem emit_out (x : Out) (s : State) : (emit x s).out = x :: s.out := rfl
@[simp] theorem emit_pending (x : Out) (s : State) : (emit x s).pending = s.pending := rfl
@[simp] theorem emit_draws (x : Out) (s : State) : (emit x s).draws = s.draws := rfl
@[simp] theorem emit_freeCtr (x : Out) (s : State) : (emit x s).freeCtr = s.freeCtr := rfl
@[simp] theorem emit_od (x : Out) (s : State) : (emit x s).od = s.od := rfl
@[simp] theorem emit_blobs (x : Out) (s : State) : (emit x s).blobs = s.blobs := rfl
@[simp] theorem emit_fuse (x : Out) (s : State) : (emit x s).fuse = s.fuse := rfl
@[simp] theorem emit_clk (x : Out) (s : State) : (emit x s).clk = s.clk := rfl
@[simp] theorem emit_evt (x : Out) (s : State) : (emit x s).evt = s.evt := rfl
@[simp] theorem emit_store (x : Out) (s : State) : (emit x s).store = s.store := rfl
@[simp] theorem emit_sess (x : Out) (s : State) : (emit x s).sess = s.sess := rfl
@[simp] theorem emit_link (x : Out) (s : State) : (emit x s).link = s.link := rfl
@[simp] theorem emit_comb (x : Out) (s : State) : (emit x s).comb = s.comb := rfl
@[simp] theorem emit_fab (x : Out) (s : State) : (emit x s).fab = s.fab := rfl
@[simp] theorem emit_sig (x : Out) (s : State) : (emit x s).sig = s.sig := rfl
@[simp] theorem emit_port (x : Out) (s : State) : (emit x s).port = s.port := rfl
@[simp] theorem emit_wp (x : Out) (s : State) : (emit x s).wp = s.wp := rfl
@[simp] theorem emit_keeper (x : Out) (s : State) : (emit x s).keeper = s.keeper := rfl
@[simp] theorem emit_vcore (x : Out) (s : State) : (emit x s).vcore = s.vcore := rfl
@[simp] theorem emit_acore (x : Out) (s : State) : (emit x s).acore = s.acore := rfl
@[simp] theorem emit_pairs (x : Out) (s : State) : (emit x s).pairs = s.pairs := rfl
@[simp] theorem emit_cols (x : Out) (s : State) : (emit x s).cols = s.cols := rfl
@[simp] theorem emit_kpr (x : Out) (s : State) : (emit x s).kpr = s.kpr := rfl
@[simp] theorem emit_lf (x : Out) (s : State) : (emit x s).lf = s.lf := rfl
@[simp] theorem emit_uwb (x : Out) (s : State) : (emit x s).uwb = s.uwb := rfl
@[simp] theorem emit_nfc (x : Out) (s : State) : (emit x s).nfc = s.nfc := rfl
@[simp] theorem emit_vault (x : Out) (s : State) : (emit x s).vault = s.vault := rfl
@[simp] theorem emit_lc (x : Out) (s : State) : (emit x s).lc = s.lc := rfl
@[simp] theorem emit_lanes (x : Out) (s : State) : (emit x s).lanes = s.lanes := rfl
@[simp] theorem emit_tamper (x : Out) (s : State) : (emit x s).tamper = s.tamper := rfl
@[simp] theorem emit_pwr (x : Out) (s : State) : (emit x s).pwr = s.pwr := rfl
@[simp] theorem emit_test (x : Out) (s : State) : (emit x s).test = s.test := rfl

/-! ### Frames: stored values -/

@[simp] theorem setVal_pending (k v : Nat) (s : State) : (setVal k v s).pending = s.pending := rfl
@[simp] theorem setVal_out (k v : Nat) (s : State) : (setVal k v s).out = s.out := rfl
@[simp] theorem setVal_draws (k v : Nat) (s : State) : (setVal k v s).draws = s.draws := rfl
@[simp] theorem setVal_freeCtr (k v : Nat) (s : State) : (setVal k v s).freeCtr = s.freeCtr := rfl
@[simp] theorem setVal_blobs (k v : Nat) (s : State) : (setVal k v s).blobs = s.blobs := rfl
@[simp] theorem setVal_fuse (k v : Nat) (s : State) : (setVal k v s).fuse = s.fuse := rfl
@[simp] theorem setVal_clk (k v : Nat) (s : State) : (setVal k v s).clk = s.clk := rfl
@[simp] theorem setVal_evt (k v : Nat) (s : State) : (setVal k v s).evt = s.evt := rfl
@[simp] theorem setVal_store (k v : Nat) (s : State) : (setVal k v s).store = s.store := rfl
@[simp] theorem setVal_sess (k v : Nat) (s : State) : (setVal k v s).sess = s.sess := rfl
@[simp] theorem setVal_link (k v : Nat) (s : State) : (setVal k v s).link = s.link := rfl
@[simp] theorem setVal_comb (k v : Nat) (s : State) : (setVal k v s).comb = s.comb := rfl
@[simp] theorem setVal_fab (k v : Nat) (s : State) : (setVal k v s).fab = s.fab := rfl
@[simp] theorem setVal_sig (k v : Nat) (s : State) : (setVal k v s).sig = s.sig := rfl
@[simp] theorem setVal_port (k v : Nat) (s : State) : (setVal k v s).port = s.port := rfl
@[simp] theorem setVal_wp (k v : Nat) (s : State) : (setVal k v s).wp = s.wp := rfl
@[simp] theorem setVal_keeper (k v : Nat) (s : State) : (setVal k v s).keeper = s.keeper := rfl
@[simp] theorem setVal_vcore (k v : Nat) (s : State) : (setVal k v s).vcore = s.vcore := rfl
@[simp] theorem setVal_acore (k v : Nat) (s : State) : (setVal k v s).acore = s.acore := rfl
@[simp] theorem setVal_pairs (k v : Nat) (s : State) : (setVal k v s).pairs = s.pairs := rfl
@[simp] theorem setVal_cols (k v : Nat) (s : State) : (setVal k v s).cols = s.cols := rfl
@[simp] theorem setVal_kpr (k v : Nat) (s : State) : (setVal k v s).kpr = s.kpr := rfl
@[simp] theorem setVal_lf (k v : Nat) (s : State) : (setVal k v s).lf = s.lf := rfl
@[simp] theorem setVal_uwb (k v : Nat) (s : State) : (setVal k v s).uwb = s.uwb := rfl
@[simp] theorem setVal_nfc (k v : Nat) (s : State) : (setVal k v s).nfc = s.nfc := rfl
@[simp] theorem setVal_vault (k v : Nat) (s : State) : (setVal k v s).vault = s.vault := rfl
@[simp] theorem setVal_lc (k v : Nat) (s : State) : (setVal k v s).lc = s.lc := rfl
@[simp] theorem setVal_lanes (k v : Nat) (s : State) : (setVal k v s).lanes = s.lanes := rfl
@[simp] theorem setVal_tamper (k v : Nat) (s : State) : (setVal k v s).tamper = s.tamper := rfl
@[simp] theorem setVal_pwr (k v : Nat) (s : State) : (setVal k v s).pwr = s.pwr := rfl
@[simp] theorem setVal_test (k v : Nat) (s : State) : (setVal k v s).test = s.test := rfl
@[simp] theorem setBlob_pending (k : Nat) (b : Blob) (s : State) : (setBlob k b s).pending = s.pending := rfl
@[simp] theorem setBlob_out (k : Nat) (b : Blob) (s : State) : (setBlob k b s).out = s.out := rfl
@[simp] theorem setBlob_draws (k : Nat) (b : Blob) (s : State) : (setBlob k b s).draws = s.draws := rfl
@[simp] theorem setBlob_freeCtr (k : Nat) (b : Blob) (s : State) : (setBlob k b s).freeCtr = s.freeCtr := rfl
@[simp] theorem setBlob_od (k : Nat) (b : Blob) (s : State) : (setBlob k b s).od = s.od := rfl
@[simp] theorem setBlob_fuse (k : Nat) (b : Blob) (s : State) : (setBlob k b s).fuse = s.fuse := rfl
@[simp] theorem setBlob_clk (k : Nat) (b : Blob) (s : State) : (setBlob k b s).clk = s.clk := rfl
@[simp] theorem setBlob_evt (k : Nat) (b : Blob) (s : State) : (setBlob k b s).evt = s.evt := rfl
@[simp] theorem setBlob_store (k : Nat) (b : Blob) (s : State) : (setBlob k b s).store = s.store := rfl
@[simp] theorem setBlob_sess (k : Nat) (b : Blob) (s : State) : (setBlob k b s).sess = s.sess := rfl
@[simp] theorem setBlob_link (k : Nat) (b : Blob) (s : State) : (setBlob k b s).link = s.link := rfl
@[simp] theorem setBlob_comb (k : Nat) (b : Blob) (s : State) : (setBlob k b s).comb = s.comb := rfl
@[simp] theorem setBlob_fab (k : Nat) (b : Blob) (s : State) : (setBlob k b s).fab = s.fab := rfl
@[simp] theorem setBlob_sig (k : Nat) (b : Blob) (s : State) : (setBlob k b s).sig = s.sig := rfl
@[simp] theorem setBlob_port (k : Nat) (b : Blob) (s : State) : (setBlob k b s).port = s.port := rfl
@[simp] theorem setBlob_wp (k : Nat) (b : Blob) (s : State) : (setBlob k b s).wp = s.wp := rfl
@[simp] theorem setBlob_keeper (k : Nat) (b : Blob) (s : State) : (setBlob k b s).keeper = s.keeper := rfl
@[simp] theorem setBlob_vcore (k : Nat) (b : Blob) (s : State) : (setBlob k b s).vcore = s.vcore := rfl
@[simp] theorem setBlob_acore (k : Nat) (b : Blob) (s : State) : (setBlob k b s).acore = s.acore := rfl
@[simp] theorem setBlob_pairs (k : Nat) (b : Blob) (s : State) : (setBlob k b s).pairs = s.pairs := rfl
@[simp] theorem setBlob_cols (k : Nat) (b : Blob) (s : State) : (setBlob k b s).cols = s.cols := rfl
@[simp] theorem setBlob_kpr (k : Nat) (b : Blob) (s : State) : (setBlob k b s).kpr = s.kpr := rfl
@[simp] theorem setBlob_lf (k : Nat) (b : Blob) (s : State) : (setBlob k b s).lf = s.lf := rfl
@[simp] theorem setBlob_uwb (k : Nat) (b : Blob) (s : State) : (setBlob k b s).uwb = s.uwb := rfl
@[simp] theorem setBlob_nfc (k : Nat) (b : Blob) (s : State) : (setBlob k b s).nfc = s.nfc := rfl
@[simp] theorem setBlob_vault (k : Nat) (b : Blob) (s : State) : (setBlob k b s).vault = s.vault := rfl
@[simp] theorem setBlob_lc (k : Nat) (b : Blob) (s : State) : (setBlob k b s).lc = s.lc := rfl
@[simp] theorem setBlob_lanes (k : Nat) (b : Blob) (s : State) : (setBlob k b s).lanes = s.lanes := rfl
@[simp] theorem setBlob_tamper (k : Nat) (b : Blob) (s : State) : (setBlob k b s).tamper = s.tamper := rfl
@[simp] theorem setBlob_pwr (k : Nat) (b : Blob) (s : State) : (setBlob k b s).pwr = s.pwr := rfl
@[simp] theorem setBlob_test (k : Nat) (b : Blob) (s : State) : (setBlob k b s).test = s.test := rfl
@[simp] theorem countN_pending (k n : Nat) (s : State) : (countN k n s).pending = s.pending := rfl
@[simp] theorem countN_out (k n : Nat) (s : State) : (countN k n s).out = s.out := rfl
@[simp] theorem countN_draws (k n : Nat) (s : State) : (countN k n s).draws = s.draws := rfl
@[simp] theorem countN_freeCtr (k n : Nat) (s : State) : (countN k n s).freeCtr = s.freeCtr := rfl
@[simp] theorem countN_blobs (k n : Nat) (s : State) : (countN k n s).blobs = s.blobs := rfl
@[simp] theorem countN_fuse (k n : Nat) (s : State) : (countN k n s).fuse = s.fuse := rfl
@[simp] theorem countN_clk (k n : Nat) (s : State) : (countN k n s).clk = s.clk := rfl
@[simp] theorem countN_evt (k n : Nat) (s : State) : (countN k n s).evt = s.evt := rfl
@[simp] theorem countN_store (k n : Nat) (s : State) : (countN k n s).store = s.store := rfl
@[simp] theorem countN_sess (k n : Nat) (s : State) : (countN k n s).sess = s.sess := rfl
@[simp] theorem countN_link (k n : Nat) (s : State) : (countN k n s).link = s.link := rfl
@[simp] theorem countN_comb (k n : Nat) (s : State) : (countN k n s).comb = s.comb := rfl
@[simp] theorem countN_fab (k n : Nat) (s : State) : (countN k n s).fab = s.fab := rfl
@[simp] theorem countN_sig (k n : Nat) (s : State) : (countN k n s).sig = s.sig := rfl
@[simp] theorem countN_port (k n : Nat) (s : State) : (countN k n s).port = s.port := rfl
@[simp] theorem countN_wp (k n : Nat) (s : State) : (countN k n s).wp = s.wp := rfl
@[simp] theorem countN_keeper (k n : Nat) (s : State) : (countN k n s).keeper = s.keeper := rfl
@[simp] theorem countN_vcore (k n : Nat) (s : State) : (countN k n s).vcore = s.vcore := rfl
@[simp] theorem countN_acore (k n : Nat) (s : State) : (countN k n s).acore = s.acore := rfl
@[simp] theorem countN_pairs (k n : Nat) (s : State) : (countN k n s).pairs = s.pairs := rfl
@[simp] theorem countN_cols (k n : Nat) (s : State) : (countN k n s).cols = s.cols := rfl
@[simp] theorem countN_kpr (k n : Nat) (s : State) : (countN k n s).kpr = s.kpr := rfl
@[simp] theorem countN_lf (k n : Nat) (s : State) : (countN k n s).lf = s.lf := rfl
@[simp] theorem countN_uwb (k n : Nat) (s : State) : (countN k n s).uwb = s.uwb := rfl
@[simp] theorem countN_nfc (k n : Nat) (s : State) : (countN k n s).nfc = s.nfc := rfl
@[simp] theorem countN_vault (k n : Nat) (s : State) : (countN k n s).vault = s.vault := rfl
@[simp] theorem countN_lc (k n : Nat) (s : State) : (countN k n s).lc = s.lc := rfl
@[simp] theorem countN_lanes (k n : Nat) (s : State) : (countN k n s).lanes = s.lanes := rfl
@[simp] theorem countN_tamper (k n : Nat) (s : State) : (countN k n s).tamper = s.tamper := rfl
@[simp] theorem countN_pwr (k n : Nat) (s : State) : (countN k n s).pwr = s.pwr := rfl
@[simp] theorem countN_test (k n : Nat) (s : State) : (countN k n s).test = s.test := rfl
@[simp] theorem count_pending (k : Nat) (s : State) : (count k s).pending = s.pending := rfl
@[simp] theorem count_out (k : Nat) (s : State) : (count k s).out = s.out := rfl
@[simp] theorem count_draws (k : Nat) (s : State) : (count k s).draws = s.draws := rfl
@[simp] theorem count_freeCtr (k : Nat) (s : State) : (count k s).freeCtr = s.freeCtr := rfl
@[simp] theorem count_blobs (k : Nat) (s : State) : (count k s).blobs = s.blobs := rfl
@[simp] theorem count_fuse (k : Nat) (s : State) : (count k s).fuse = s.fuse := rfl
@[simp] theorem count_clk (k : Nat) (s : State) : (count k s).clk = s.clk := rfl
@[simp] theorem count_evt (k : Nat) (s : State) : (count k s).evt = s.evt := rfl
@[simp] theorem count_store (k : Nat) (s : State) : (count k s).store = s.store := rfl
@[simp] theorem count_sess (k : Nat) (s : State) : (count k s).sess = s.sess := rfl
@[simp] theorem count_link (k : Nat) (s : State) : (count k s).link = s.link := rfl
@[simp] theorem count_comb (k : Nat) (s : State) : (count k s).comb = s.comb := rfl
@[simp] theorem count_fab (k : Nat) (s : State) : (count k s).fab = s.fab := rfl
@[simp] theorem count_sig (k : Nat) (s : State) : (count k s).sig = s.sig := rfl
@[simp] theorem count_port (k : Nat) (s : State) : (count k s).port = s.port := rfl
@[simp] theorem count_wp (k : Nat) (s : State) : (count k s).wp = s.wp := rfl
@[simp] theorem count_keeper (k : Nat) (s : State) : (count k s).keeper = s.keeper := rfl
@[simp] theorem count_vcore (k : Nat) (s : State) : (count k s).vcore = s.vcore := rfl
@[simp] theorem count_acore (k : Nat) (s : State) : (count k s).acore = s.acore := rfl
@[simp] theorem count_pairs (k : Nat) (s : State) : (count k s).pairs = s.pairs := rfl
@[simp] theorem count_cols (k : Nat) (s : State) : (count k s).cols = s.cols := rfl
@[simp] theorem count_kpr (k : Nat) (s : State) : (count k s).kpr = s.kpr := rfl
@[simp] theorem count_lf (k : Nat) (s : State) : (count k s).lf = s.lf := rfl
@[simp] theorem count_uwb (k : Nat) (s : State) : (count k s).uwb = s.uwb := rfl
@[simp] theorem count_nfc (k : Nat) (s : State) : (count k s).nfc = s.nfc := rfl
@[simp] theorem count_vault (k : Nat) (s : State) : (count k s).vault = s.vault := rfl
@[simp] theorem count_lc (k : Nat) (s : State) : (count k s).lc = s.lc := rfl
@[simp] theorem count_lanes (k : Nat) (s : State) : (count k s).lanes = s.lanes := rfl
@[simp] theorem count_tamper (k : Nat) (s : State) : (count k s).tamper = s.tamper := rfl
@[simp] theorem count_pwr (k : Nat) (s : State) : (count k s).pwr = s.pwr := rfl
@[simp] theorem count_test (k : Nat) (s : State) : (count k s).test = s.test := rfl
@[simp] theorem count64_pending (k : Nat) (s : State) : (count64 k s).pending = s.pending := rfl
@[simp] theorem count64_out (k : Nat) (s : State) : (count64 k s).out = s.out := rfl
@[simp] theorem count64_draws (k : Nat) (s : State) : (count64 k s).draws = s.draws := rfl
@[simp] theorem count64_freeCtr (k : Nat) (s : State) : (count64 k s).freeCtr = s.freeCtr := rfl
@[simp] theorem count64_blobs (k : Nat) (s : State) : (count64 k s).blobs = s.blobs := rfl
@[simp] theorem count64_fuse (k : Nat) (s : State) : (count64 k s).fuse = s.fuse := rfl
@[simp] theorem count64_clk (k : Nat) (s : State) : (count64 k s).clk = s.clk := rfl
@[simp] theorem count64_evt (k : Nat) (s : State) : (count64 k s).evt = s.evt := rfl
@[simp] theorem count64_store (k : Nat) (s : State) : (count64 k s).store = s.store := rfl
@[simp] theorem count64_sess (k : Nat) (s : State) : (count64 k s).sess = s.sess := rfl
@[simp] theorem count64_link (k : Nat) (s : State) : (count64 k s).link = s.link := rfl
@[simp] theorem count64_comb (k : Nat) (s : State) : (count64 k s).comb = s.comb := rfl
@[simp] theorem count64_fab (k : Nat) (s : State) : (count64 k s).fab = s.fab := rfl
@[simp] theorem count64_sig (k : Nat) (s : State) : (count64 k s).sig = s.sig := rfl
@[simp] theorem count64_port (k : Nat) (s : State) : (count64 k s).port = s.port := rfl
@[simp] theorem count64_wp (k : Nat) (s : State) : (count64 k s).wp = s.wp := rfl
@[simp] theorem count64_keeper (k : Nat) (s : State) : (count64 k s).keeper = s.keeper := rfl
@[simp] theorem count64_vcore (k : Nat) (s : State) : (count64 k s).vcore = s.vcore := rfl
@[simp] theorem count64_acore (k : Nat) (s : State) : (count64 k s).acore = s.acore := rfl
@[simp] theorem count64_pairs (k : Nat) (s : State) : (count64 k s).pairs = s.pairs := rfl
@[simp] theorem count64_cols (k : Nat) (s : State) : (count64 k s).cols = s.cols := rfl
@[simp] theorem count64_kpr (k : Nat) (s : State) : (count64 k s).kpr = s.kpr := rfl
@[simp] theorem count64_lf (k : Nat) (s : State) : (count64 k s).lf = s.lf := rfl
@[simp] theorem count64_uwb (k : Nat) (s : State) : (count64 k s).uwb = s.uwb := rfl
@[simp] theorem count64_nfc (k : Nat) (s : State) : (count64 k s).nfc = s.nfc := rfl
@[simp] theorem count64_vault (k : Nat) (s : State) : (count64 k s).vault = s.vault := rfl
@[simp] theorem count64_lc (k : Nat) (s : State) : (count64 k s).lc = s.lc := rfl
@[simp] theorem count64_lanes (k : Nat) (s : State) : (count64 k s).lanes = s.lanes := rfl
@[simp] theorem count64_tamper (k : Nat) (s : State) : (count64 k s).tamper = s.tamper := rfl
@[simp] theorem count64_pwr (k : Nat) (s : State) : (count64 k s).pwr = s.pwr := rfl
@[simp] theorem count64_test (k : Nat) (s : State) : (count64 k s).test = s.test := rfl

/-! ### Frames: interrupt lines of the keeper -/

@[simp] theorem keeperLine_pending (n : Nat) (s : State) : (keeperLine n s).pending = s.pending := rfl
@[simp] theorem keeperLine_out (n : Nat) (s : State) : (keeperLine n s).out = s.out := rfl
@[simp] theorem keeperLine_draws (n : Nat) (s : State) : (keeperLine n s).draws = s.draws := rfl
@[simp] theorem keeperLine_freeCtr (n : Nat) (s : State) : (keeperLine n s).freeCtr = s.freeCtr := rfl
@[simp] theorem keeperLine_od (n : Nat) (s : State) : (keeperLine n s).od = s.od := rfl
@[simp] theorem keeperLine_blobs (n : Nat) (s : State) : (keeperLine n s).blobs = s.blobs := rfl
@[simp] theorem keeperLine_fuse (n : Nat) (s : State) : (keeperLine n s).fuse = s.fuse := rfl
@[simp] theorem keeperLine_clk (n : Nat) (s : State) : (keeperLine n s).clk = s.clk := rfl
@[simp] theorem keeperLine_evt (n : Nat) (s : State) : (keeperLine n s).evt = s.evt := rfl
@[simp] theorem keeperLine_store (n : Nat) (s : State) : (keeperLine n s).store = s.store := rfl
@[simp] theorem keeperLine_sess (n : Nat) (s : State) : (keeperLine n s).sess = s.sess := rfl
@[simp] theorem keeperLine_link (n : Nat) (s : State) : (keeperLine n s).link = s.link := rfl
@[simp] theorem keeperLine_comb (n : Nat) (s : State) : (keeperLine n s).comb = s.comb := rfl
@[simp] theorem keeperLine_fab (n : Nat) (s : State) : (keeperLine n s).fab = s.fab := rfl
@[simp] theorem keeperLine_sig (n : Nat) (s : State) : (keeperLine n s).sig = s.sig := rfl
@[simp] theorem keeperLine_port (n : Nat) (s : State) : (keeperLine n s).port = s.port := rfl
@[simp] theorem keeperLine_wp (n : Nat) (s : State) : (keeperLine n s).wp = s.wp := rfl
@[simp] theorem keeperLine_vcore (n : Nat) (s : State) : (keeperLine n s).vcore = s.vcore := rfl
@[simp] theorem keeperLine_acore (n : Nat) (s : State) : (keeperLine n s).acore = s.acore := rfl
@[simp] theorem keeperLine_pairs (n : Nat) (s : State) : (keeperLine n s).pairs = s.pairs := rfl
@[simp] theorem keeperLine_cols (n : Nat) (s : State) : (keeperLine n s).cols = s.cols := rfl
@[simp] theorem keeperLine_kpr (n : Nat) (s : State) : (keeperLine n s).kpr = s.kpr := rfl
@[simp] theorem keeperLine_lf (n : Nat) (s : State) : (keeperLine n s).lf = s.lf := rfl
@[simp] theorem keeperLine_uwb (n : Nat) (s : State) : (keeperLine n s).uwb = s.uwb := rfl
@[simp] theorem keeperLine_nfc (n : Nat) (s : State) : (keeperLine n s).nfc = s.nfc := rfl
@[simp] theorem keeperLine_vault (n : Nat) (s : State) : (keeperLine n s).vault = s.vault := rfl
@[simp] theorem keeperLine_lc (n : Nat) (s : State) : (keeperLine n s).lc = s.lc := rfl
@[simp] theorem keeperLine_lanes (n : Nat) (s : State) : (keeperLine n s).lanes = s.lanes := rfl
@[simp] theorem keeperLine_tamper (n : Nat) (s : State) : (keeperLine n s).tamper = s.tamper := rfl
@[simp] theorem keeperLine_pwr (n : Nat) (s : State) : (keeperLine n s).pwr = s.pwr := rfl
@[simp] theorem keeperLine_test (n : Nat) (s : State) : (keeperLine n s).test = s.test := rfl

/-! ### Frames: events -/

/-- Staging a record changes the event state alone. -/
theorem stageEvent_eq (e : EventRec) (s : State) : stageEvent e s = { s with evt := (stageEvent e s).evt } := by
  by_cases h : (s.pwr.hive : Prop) ∨ ¬ (fieldSource e.source : Prop) <;> by_cases g : s.evt.deferredGap.contains e.source = true <;>
    simp_all [stageEvent, EventRec.withGap]

/-- Logging changes the event state alone. -/
theorem logEvent_eq (src cls detail obj : Nat) (data : Blob) (s : State) :
    logEvent src cls detail obj data s = { s with evt := (logEvent src cls detail obj data s).evt } := by
  unfold logEvent
  dsimp only
  split
  · split
    · rw [stageEvent_eq]
    · rfl
  · rw [stageEvent_eq]

@[simp] theorem logEvent_pending (src cls detail obj : Nat) (data : Blob) (s : State) : (logEvent src cls detail obj data s).pending = s.pending := by rw [logEvent_eq]
@[simp] theorem logEvent_out (src cls detail obj : Nat) (data : Blob) (s : State) : (logEvent src cls detail obj data s).out = s.out := by rw [logEvent_eq]
@[simp] theorem logEvent_draws (src cls detail obj : Nat) (data : Blob) (s : State) : (logEvent src cls detail obj data s).draws = s.draws := by rw [logEvent_eq]
@[simp] theorem logEvent_freeCtr (src cls detail obj : Nat) (data : Blob) (s : State) : (logEvent src cls detail obj data s).freeCtr = s.freeCtr := by rw [logEvent_eq]
@[simp] theorem logEvent_od (src cls detail obj : Nat) (data : Blob) (s : State) : (logEvent src cls detail obj data s).od = s.od := by rw [logEvent_eq]
@[simp] theorem logEvent_blobs (src cls detail obj : Nat) (data : Blob) (s : State) : (logEvent src cls detail obj data s).blobs = s.blobs := by rw [logEvent_eq]
@[simp] theorem logEvent_fuse (src cls detail obj : Nat) (data : Blob) (s : State) : (logEvent src cls detail obj data s).fuse = s.fuse := by rw [logEvent_eq]
@[simp] theorem logEvent_clk (src cls detail obj : Nat) (data : Blob) (s : State) : (logEvent src cls detail obj data s).clk = s.clk := by rw [logEvent_eq]
@[simp] theorem logEvent_store (src cls detail obj : Nat) (data : Blob) (s : State) : (logEvent src cls detail obj data s).store = s.store := by rw [logEvent_eq]
@[simp] theorem logEvent_sess (src cls detail obj : Nat) (data : Blob) (s : State) : (logEvent src cls detail obj data s).sess = s.sess := by rw [logEvent_eq]
@[simp] theorem logEvent_link (src cls detail obj : Nat) (data : Blob) (s : State) : (logEvent src cls detail obj data s).link = s.link := by rw [logEvent_eq]
@[simp] theorem logEvent_comb (src cls detail obj : Nat) (data : Blob) (s : State) : (logEvent src cls detail obj data s).comb = s.comb := by rw [logEvent_eq]
@[simp] theorem logEvent_fab (src cls detail obj : Nat) (data : Blob) (s : State) : (logEvent src cls detail obj data s).fab = s.fab := by rw [logEvent_eq]
@[simp] theorem logEvent_sig (src cls detail obj : Nat) (data : Blob) (s : State) : (logEvent src cls detail obj data s).sig = s.sig := by rw [logEvent_eq]
@[simp] theorem logEvent_port (src cls detail obj : Nat) (data : Blob) (s : State) : (logEvent src cls detail obj data s).port = s.port := by rw [logEvent_eq]
@[simp] theorem logEvent_wp (src cls detail obj : Nat) (data : Blob) (s : State) : (logEvent src cls detail obj data s).wp = s.wp := by rw [logEvent_eq]
@[simp] theorem logEvent_keeper (src cls detail obj : Nat) (data : Blob) (s : State) : (logEvent src cls detail obj data s).keeper = s.keeper := by rw [logEvent_eq]
@[simp] theorem logEvent_vcore (src cls detail obj : Nat) (data : Blob) (s : State) : (logEvent src cls detail obj data s).vcore = s.vcore := by rw [logEvent_eq]
@[simp] theorem logEvent_acore (src cls detail obj : Nat) (data : Blob) (s : State) : (logEvent src cls detail obj data s).acore = s.acore := by rw [logEvent_eq]
@[simp] theorem logEvent_pairs (src cls detail obj : Nat) (data : Blob) (s : State) : (logEvent src cls detail obj data s).pairs = s.pairs := by rw [logEvent_eq]
@[simp] theorem logEvent_cols (src cls detail obj : Nat) (data : Blob) (s : State) : (logEvent src cls detail obj data s).cols = s.cols := by rw [logEvent_eq]
@[simp] theorem logEvent_kpr (src cls detail obj : Nat) (data : Blob) (s : State) : (logEvent src cls detail obj data s).kpr = s.kpr := by rw [logEvent_eq]
@[simp] theorem logEvent_lf (src cls detail obj : Nat) (data : Blob) (s : State) : (logEvent src cls detail obj data s).lf = s.lf := by rw [logEvent_eq]
@[simp] theorem logEvent_uwb (src cls detail obj : Nat) (data : Blob) (s : State) : (logEvent src cls detail obj data s).uwb = s.uwb := by rw [logEvent_eq]
@[simp] theorem logEvent_nfc (src cls detail obj : Nat) (data : Blob) (s : State) : (logEvent src cls detail obj data s).nfc = s.nfc := by rw [logEvent_eq]
@[simp] theorem logEvent_vault (src cls detail obj : Nat) (data : Blob) (s : State) : (logEvent src cls detail obj data s).vault = s.vault := by rw [logEvent_eq]
@[simp] theorem logEvent_lc (src cls detail obj : Nat) (data : Blob) (s : State) : (logEvent src cls detail obj data s).lc = s.lc := by rw [logEvent_eq]
@[simp] theorem logEvent_lanes (src cls detail obj : Nat) (data : Blob) (s : State) : (logEvent src cls detail obj data s).lanes = s.lanes := by rw [logEvent_eq]
@[simp] theorem logEvent_tamper (src cls detail obj : Nat) (data : Blob) (s : State) : (logEvent src cls detail obj data s).tamper = s.tamper := by rw [logEvent_eq]
@[simp] theorem logEvent_pwr (src cls detail obj : Nat) (data : Blob) (s : State) : (logEvent src cls detail obj data s).pwr = s.pwr := by rw [logEvent_eq]
@[simp] theorem logEvent_test (src cls detail obj : Nat) (data : Blob) (s : State) : (logEvent src cls detail obj data s).test = s.test := by rw [logEvent_eq]

/-! ### Frames: record store -/

/-- Records of area S are the vault's or the access island's, never the keeper's (R390). -/
theorem recordOwner_sys (type : Nat) : recordOwner 2 type ≠ 4 := by
  unfold recordOwner
  rw [if_pos rfl]
  split <;> decide

/-- A record that is not the keeper's sets no line of the keeper. -/
theorem storeLine_other {who : Nat} (h : who ≠ 4) (s : State) : storeLine who s = s := if_neg h

/-- A commit changes the store, where it compacts the counter of compactions, and the keeper's line if the record is its own. -/
theorem storePut_eq {a type id : Nat} {d : Bool} {p : Blob} {s t : State} (h : storePut a type id d p s = some t) :
    t = { s with store := t.store, od := t.od, keeper := t.keeper } := by
  unfold storePut at h
  simp only [Option.map_eq_some_iff] at h
  obtain ⟨⟨l, c⟩, -, rfl⟩ := h
  unfold storeLine
  split <;> rfl

/-- A commit of area S leaves the keeper as it is. -/
theorem storePut_sys {type id : Nat} {d : Bool} {p : Blob} {s t : State} (h : storePut 2 type id d p s = some t) :
    t = { s with store := t.store, od := t.od } := by
  unfold storePut at h
  simp only [Option.map_eq_some_iff, storeLine_other (recordOwner_sys type)] at h
  obtain ⟨⟨l, c⟩, -, rfl⟩ := h
  rfl

/-- A commit of area S changes the store and the counter of compactions alone. -/
theorem commitS_eq (type id : Nat) (p : Blob) (s : State) :
    commitS type id p s = { s with store := (commitS type id p s).store, od := (commitS type id p s).od } := by
  unfold commitS
  cases h : storePut 2 type id false p s with
  | none => rfl
  | some t => simpa using storePut_sys h

/-- So does a removal. -/
theorem deleteS_eq (type id : Nat) (s : State) :
    deleteS type id s = { s with store := (deleteS type id s).store, od := (deleteS type id s).od } := by
  unfold deleteS
  cases h : storePut 2 type id true [] s with
  | none => rfl
  | some t => simpa using storePut_sys h

/-- A transaction in area S changes the store and the counter of compactions alone. -/
theorem commitTxn_eq (first : Option Nat) (rs : List LogRec) (s : State) :
    commitTxn first rs s = { s with store := (commitTxn first rs s).store, od := (commitTxn first rs s).od } := by
  unfold commitTxn
  split <;> rfl

/-- Keeping a string changes the string beside them. -/
theorem keepBlob_eq (k : Nat) (b : Blob) (s : State) :
    keepBlob k b s = { s with store := (keepBlob k b s).store, od := (keepBlob k b s).od, blobs := (keepBlob k b s).blobs } := by
  unfold keepBlob
  split
  · rw [commitS_eq]
    rfl
  · rw [commitTxn_eq]
    rfl

/-- An entry other than the counter of compactions reads the same after a commit. -/
theorem val_commitS (type id k : Nat) (p : Blob) (s : State) (hk : k ≠ odKey 0x2200 7) : val (commitS type id p s) k = val s k := by
  unfold commitS
  cases h : storePut 2 type id false p s with
  | none => rfl
  | some t =>
    unfold storePut at h
    simp only [Option.map_eq_some_iff, storeLine_other (recordOwner_sys type)] at h
    obtain ⟨⟨l, c⟩, -, rfl⟩ := h
    show val (countN _ _ _) k = _
    rw [countN, val_setVal, if_neg (Ne.symm hk)]
    rfl

/-- A kept value reads as written; other entries, the counter of compactions apart, as before. -/
theorem val_keepVal (k j v : Nat) (s : State) (hj : j ≠ odKey 0x2200 7) : val (keepVal k v s) j = if k = j then v else val s j := by
  rw [keepVal, val_commitS _ _ _ _ _ hj, val_setVal]

@[simp] theorem commitS_pending (type id : Nat) (p : Blob) (s : State) : (commitS type id p s).pending = s.pending := by rw [commitS_eq]
@[simp] theorem commitS_out (type id : Nat) (p : Blob) (s : State) : (commitS type id p s).out = s.out := by rw [commitS_eq]
@[simp] theorem commitS_draws (type id : Nat) (p : Blob) (s : State) : (commitS type id p s).draws = s.draws := by rw [commitS_eq]
@[simp] theorem commitS_freeCtr (type id : Nat) (p : Blob) (s : State) : (commitS type id p s).freeCtr = s.freeCtr := by rw [commitS_eq]
@[simp] theorem commitS_blobs (type id : Nat) (p : Blob) (s : State) : (commitS type id p s).blobs = s.blobs := by rw [commitS_eq]
@[simp] theorem commitS_fuse (type id : Nat) (p : Blob) (s : State) : (commitS type id p s).fuse = s.fuse := by rw [commitS_eq]
@[simp] theorem commitS_clk (type id : Nat) (p : Blob) (s : State) : (commitS type id p s).clk = s.clk := by rw [commitS_eq]
@[simp] theorem commitS_evt (type id : Nat) (p : Blob) (s : State) : (commitS type id p s).evt = s.evt := by rw [commitS_eq]
@[simp] theorem commitS_sess (type id : Nat) (p : Blob) (s : State) : (commitS type id p s).sess = s.sess := by rw [commitS_eq]
@[simp] theorem commitS_link (type id : Nat) (p : Blob) (s : State) : (commitS type id p s).link = s.link := by rw [commitS_eq]
@[simp] theorem commitS_comb (type id : Nat) (p : Blob) (s : State) : (commitS type id p s).comb = s.comb := by rw [commitS_eq]
@[simp] theorem commitS_fab (type id : Nat) (p : Blob) (s : State) : (commitS type id p s).fab = s.fab := by rw [commitS_eq]
@[simp] theorem commitS_sig (type id : Nat) (p : Blob) (s : State) : (commitS type id p s).sig = s.sig := by rw [commitS_eq]
@[simp] theorem commitS_port (type id : Nat) (p : Blob) (s : State) : (commitS type id p s).port = s.port := by rw [commitS_eq]
@[simp] theorem commitS_wp (type id : Nat) (p : Blob) (s : State) : (commitS type id p s).wp = s.wp := by rw [commitS_eq]
@[simp] theorem commitS_keeper (type id : Nat) (p : Blob) (s : State) : (commitS type id p s).keeper = s.keeper := by rw [commitS_eq]
@[simp] theorem commitS_vcore (type id : Nat) (p : Blob) (s : State) : (commitS type id p s).vcore = s.vcore := by rw [commitS_eq]
@[simp] theorem commitS_acore (type id : Nat) (p : Blob) (s : State) : (commitS type id p s).acore = s.acore := by rw [commitS_eq]
@[simp] theorem commitS_pairs (type id : Nat) (p : Blob) (s : State) : (commitS type id p s).pairs = s.pairs := by rw [commitS_eq]
@[simp] theorem commitS_cols (type id : Nat) (p : Blob) (s : State) : (commitS type id p s).cols = s.cols := by rw [commitS_eq]
@[simp] theorem commitS_kpr (type id : Nat) (p : Blob) (s : State) : (commitS type id p s).kpr = s.kpr := by rw [commitS_eq]
@[simp] theorem commitS_lf (type id : Nat) (p : Blob) (s : State) : (commitS type id p s).lf = s.lf := by rw [commitS_eq]
@[simp] theorem commitS_uwb (type id : Nat) (p : Blob) (s : State) : (commitS type id p s).uwb = s.uwb := by rw [commitS_eq]
@[simp] theorem commitS_nfc (type id : Nat) (p : Blob) (s : State) : (commitS type id p s).nfc = s.nfc := by rw [commitS_eq]
@[simp] theorem commitS_vault (type id : Nat) (p : Blob) (s : State) : (commitS type id p s).vault = s.vault := by rw [commitS_eq]
@[simp] theorem commitS_lc (type id : Nat) (p : Blob) (s : State) : (commitS type id p s).lc = s.lc := by rw [commitS_eq]
@[simp] theorem commitS_lanes (type id : Nat) (p : Blob) (s : State) : (commitS type id p s).lanes = s.lanes := by rw [commitS_eq]
@[simp] theorem commitS_tamper (type id : Nat) (p : Blob) (s : State) : (commitS type id p s).tamper = s.tamper := by rw [commitS_eq]
@[simp] theorem commitS_pwr (type id : Nat) (p : Blob) (s : State) : (commitS type id p s).pwr = s.pwr := by rw [commitS_eq]
@[simp] theorem commitS_test (type id : Nat) (p : Blob) (s : State) : (commitS type id p s).test = s.test := by rw [commitS_eq]
@[simp] theorem deleteS_pending (type id : Nat) (s : State) : (deleteS type id s).pending = s.pending := by rw [deleteS_eq]
@[simp] theorem deleteS_out (type id : Nat) (s : State) : (deleteS type id s).out = s.out := by rw [deleteS_eq]
@[simp] theorem deleteS_draws (type id : Nat) (s : State) : (deleteS type id s).draws = s.draws := by rw [deleteS_eq]
@[simp] theorem deleteS_freeCtr (type id : Nat) (s : State) : (deleteS type id s).freeCtr = s.freeCtr := by rw [deleteS_eq]
@[simp] theorem deleteS_blobs (type id : Nat) (s : State) : (deleteS type id s).blobs = s.blobs := by rw [deleteS_eq]
@[simp] theorem deleteS_fuse (type id : Nat) (s : State) : (deleteS type id s).fuse = s.fuse := by rw [deleteS_eq]
@[simp] theorem deleteS_clk (type id : Nat) (s : State) : (deleteS type id s).clk = s.clk := by rw [deleteS_eq]
@[simp] theorem deleteS_evt (type id : Nat) (s : State) : (deleteS type id s).evt = s.evt := by rw [deleteS_eq]
@[simp] theorem deleteS_sess (type id : Nat) (s : State) : (deleteS type id s).sess = s.sess := by rw [deleteS_eq]
@[simp] theorem deleteS_link (type id : Nat) (s : State) : (deleteS type id s).link = s.link := by rw [deleteS_eq]
@[simp] theorem deleteS_comb (type id : Nat) (s : State) : (deleteS type id s).comb = s.comb := by rw [deleteS_eq]
@[simp] theorem deleteS_fab (type id : Nat) (s : State) : (deleteS type id s).fab = s.fab := by rw [deleteS_eq]
@[simp] theorem deleteS_sig (type id : Nat) (s : State) : (deleteS type id s).sig = s.sig := by rw [deleteS_eq]
@[simp] theorem deleteS_port (type id : Nat) (s : State) : (deleteS type id s).port = s.port := by rw [deleteS_eq]
@[simp] theorem deleteS_wp (type id : Nat) (s : State) : (deleteS type id s).wp = s.wp := by rw [deleteS_eq]
@[simp] theorem deleteS_keeper (type id : Nat) (s : State) : (deleteS type id s).keeper = s.keeper := by rw [deleteS_eq]
@[simp] theorem deleteS_vcore (type id : Nat) (s : State) : (deleteS type id s).vcore = s.vcore := by rw [deleteS_eq]
@[simp] theorem deleteS_acore (type id : Nat) (s : State) : (deleteS type id s).acore = s.acore := by rw [deleteS_eq]
@[simp] theorem deleteS_pairs (type id : Nat) (s : State) : (deleteS type id s).pairs = s.pairs := by rw [deleteS_eq]
@[simp] theorem deleteS_cols (type id : Nat) (s : State) : (deleteS type id s).cols = s.cols := by rw [deleteS_eq]
@[simp] theorem deleteS_kpr (type id : Nat) (s : State) : (deleteS type id s).kpr = s.kpr := by rw [deleteS_eq]
@[simp] theorem deleteS_lf (type id : Nat) (s : State) : (deleteS type id s).lf = s.lf := by rw [deleteS_eq]
@[simp] theorem deleteS_uwb (type id : Nat) (s : State) : (deleteS type id s).uwb = s.uwb := by rw [deleteS_eq]
@[simp] theorem deleteS_nfc (type id : Nat) (s : State) : (deleteS type id s).nfc = s.nfc := by rw [deleteS_eq]
@[simp] theorem deleteS_vault (type id : Nat) (s : State) : (deleteS type id s).vault = s.vault := by rw [deleteS_eq]
@[simp] theorem deleteS_lc (type id : Nat) (s : State) : (deleteS type id s).lc = s.lc := by rw [deleteS_eq]
@[simp] theorem deleteS_lanes (type id : Nat) (s : State) : (deleteS type id s).lanes = s.lanes := by rw [deleteS_eq]
@[simp] theorem deleteS_tamper (type id : Nat) (s : State) : (deleteS type id s).tamper = s.tamper := by rw [deleteS_eq]
@[simp] theorem deleteS_pwr (type id : Nat) (s : State) : (deleteS type id s).pwr = s.pwr := by rw [deleteS_eq]
@[simp] theorem deleteS_test (type id : Nat) (s : State) : (deleteS type id s).test = s.test := by rw [deleteS_eq]
@[simp] theorem keepVal_pending (k v : Nat) (s : State) : (keepVal k v s).pending = s.pending := by simp [keepVal]
@[simp] theorem keepVal_out (k v : Nat) (s : State) : (keepVal k v s).out = s.out := by simp [keepVal]
@[simp] theorem keepVal_draws (k v : Nat) (s : State) : (keepVal k v s).draws = s.draws := by simp [keepVal]
@[simp] theorem keepVal_freeCtr (k v : Nat) (s : State) : (keepVal k v s).freeCtr = s.freeCtr := by simp [keepVal]
@[simp] theorem keepVal_blobs (k v : Nat) (s : State) : (keepVal k v s).blobs = s.blobs := by simp [keepVal]
@[simp] theorem keepVal_fuse (k v : Nat) (s : State) : (keepVal k v s).fuse = s.fuse := by simp [keepVal]
@[simp] theorem keepVal_clk (k v : Nat) (s : State) : (keepVal k v s).clk = s.clk := by simp [keepVal]
@[simp] theorem keepVal_evt (k v : Nat) (s : State) : (keepVal k v s).evt = s.evt := by simp [keepVal]
@[simp] theorem keepVal_sess (k v : Nat) (s : State) : (keepVal k v s).sess = s.sess := by simp [keepVal]
@[simp] theorem keepVal_link (k v : Nat) (s : State) : (keepVal k v s).link = s.link := by simp [keepVal]
@[simp] theorem keepVal_comb (k v : Nat) (s : State) : (keepVal k v s).comb = s.comb := by simp [keepVal]
@[simp] theorem keepVal_fab (k v : Nat) (s : State) : (keepVal k v s).fab = s.fab := by simp [keepVal]
@[simp] theorem keepVal_sig (k v : Nat) (s : State) : (keepVal k v s).sig = s.sig := by simp [keepVal]
@[simp] theorem keepVal_port (k v : Nat) (s : State) : (keepVal k v s).port = s.port := by simp [keepVal]
@[simp] theorem keepVal_wp (k v : Nat) (s : State) : (keepVal k v s).wp = s.wp := by simp [keepVal]
@[simp] theorem keepVal_keeper (k v : Nat) (s : State) : (keepVal k v s).keeper = s.keeper := by simp [keepVal]
@[simp] theorem keepVal_vcore (k v : Nat) (s : State) : (keepVal k v s).vcore = s.vcore := by simp [keepVal]
@[simp] theorem keepVal_acore (k v : Nat) (s : State) : (keepVal k v s).acore = s.acore := by simp [keepVal]
@[simp] theorem keepVal_pairs (k v : Nat) (s : State) : (keepVal k v s).pairs = s.pairs := by simp [keepVal]
@[simp] theorem keepVal_cols (k v : Nat) (s : State) : (keepVal k v s).cols = s.cols := by simp [keepVal]
@[simp] theorem keepVal_kpr (k v : Nat) (s : State) : (keepVal k v s).kpr = s.kpr := by simp [keepVal]
@[simp] theorem keepVal_lf (k v : Nat) (s : State) : (keepVal k v s).lf = s.lf := by simp [keepVal]
@[simp] theorem keepVal_uwb (k v : Nat) (s : State) : (keepVal k v s).uwb = s.uwb := by simp [keepVal]
@[simp] theorem keepVal_nfc (k v : Nat) (s : State) : (keepVal k v s).nfc = s.nfc := by simp [keepVal]
@[simp] theorem keepVal_vault (k v : Nat) (s : State) : (keepVal k v s).vault = s.vault := by simp [keepVal]
@[simp] theorem keepVal_lc (k v : Nat) (s : State) : (keepVal k v s).lc = s.lc := by simp [keepVal]
@[simp] theorem keepVal_lanes (k v : Nat) (s : State) : (keepVal k v s).lanes = s.lanes := by simp [keepVal]
@[simp] theorem keepVal_tamper (k v : Nat) (s : State) : (keepVal k v s).tamper = s.tamper := by simp [keepVal]
@[simp] theorem keepVal_pwr (k v : Nat) (s : State) : (keepVal k v s).pwr = s.pwr := by simp [keepVal]
@[simp] theorem keepVal_test (k v : Nat) (s : State) : (keepVal k v s).test = s.test := by simp [keepVal]
@[simp] theorem keepBlob_pending (k : Nat) (b : Blob) (s : State) : (keepBlob k b s).pending = s.pending := by rw [keepBlob_eq]
@[simp] theorem keepBlob_out (k : Nat) (b : Blob) (s : State) : (keepBlob k b s).out = s.out := by rw [keepBlob_eq]
@[simp] theorem keepBlob_draws (k : Nat) (b : Blob) (s : State) : (keepBlob k b s).draws = s.draws := by rw [keepBlob_eq]
@[simp] theorem keepBlob_freeCtr (k : Nat) (b : Blob) (s : State) : (keepBlob k b s).freeCtr = s.freeCtr := by rw [keepBlob_eq]
@[simp] theorem keepBlob_fuse (k : Nat) (b : Blob) (s : State) : (keepBlob k b s).fuse = s.fuse := by rw [keepBlob_eq]
@[simp] theorem keepBlob_clk (k : Nat) (b : Blob) (s : State) : (keepBlob k b s).clk = s.clk := by rw [keepBlob_eq]
@[simp] theorem keepBlob_evt (k : Nat) (b : Blob) (s : State) : (keepBlob k b s).evt = s.evt := by rw [keepBlob_eq]
@[simp] theorem keepBlob_sess (k : Nat) (b : Blob) (s : State) : (keepBlob k b s).sess = s.sess := by rw [keepBlob_eq]
@[simp] theorem keepBlob_link (k : Nat) (b : Blob) (s : State) : (keepBlob k b s).link = s.link := by rw [keepBlob_eq]
@[simp] theorem keepBlob_comb (k : Nat) (b : Blob) (s : State) : (keepBlob k b s).comb = s.comb := by rw [keepBlob_eq]
@[simp] theorem keepBlob_fab (k : Nat) (b : Blob) (s : State) : (keepBlob k b s).fab = s.fab := by rw [keepBlob_eq]
@[simp] theorem keepBlob_sig (k : Nat) (b : Blob) (s : State) : (keepBlob k b s).sig = s.sig := by rw [keepBlob_eq]
@[simp] theorem keepBlob_port (k : Nat) (b : Blob) (s : State) : (keepBlob k b s).port = s.port := by rw [keepBlob_eq]
@[simp] theorem keepBlob_wp (k : Nat) (b : Blob) (s : State) : (keepBlob k b s).wp = s.wp := by rw [keepBlob_eq]
@[simp] theorem keepBlob_keeper (k : Nat) (b : Blob) (s : State) : (keepBlob k b s).keeper = s.keeper := by rw [keepBlob_eq]
@[simp] theorem keepBlob_vcore (k : Nat) (b : Blob) (s : State) : (keepBlob k b s).vcore = s.vcore := by rw [keepBlob_eq]
@[simp] theorem keepBlob_acore (k : Nat) (b : Blob) (s : State) : (keepBlob k b s).acore = s.acore := by rw [keepBlob_eq]
@[simp] theorem keepBlob_pairs (k : Nat) (b : Blob) (s : State) : (keepBlob k b s).pairs = s.pairs := by rw [keepBlob_eq]
@[simp] theorem keepBlob_cols (k : Nat) (b : Blob) (s : State) : (keepBlob k b s).cols = s.cols := by rw [keepBlob_eq]
@[simp] theorem keepBlob_kpr (k : Nat) (b : Blob) (s : State) : (keepBlob k b s).kpr = s.kpr := by rw [keepBlob_eq]
@[simp] theorem keepBlob_lf (k : Nat) (b : Blob) (s : State) : (keepBlob k b s).lf = s.lf := by rw [keepBlob_eq]
@[simp] theorem keepBlob_uwb (k : Nat) (b : Blob) (s : State) : (keepBlob k b s).uwb = s.uwb := by rw [keepBlob_eq]
@[simp] theorem keepBlob_nfc (k : Nat) (b : Blob) (s : State) : (keepBlob k b s).nfc = s.nfc := by rw [keepBlob_eq]
@[simp] theorem keepBlob_vault (k : Nat) (b : Blob) (s : State) : (keepBlob k b s).vault = s.vault := by rw [keepBlob_eq]
@[simp] theorem keepBlob_lc (k : Nat) (b : Blob) (s : State) : (keepBlob k b s).lc = s.lc := by rw [keepBlob_eq]
@[simp] theorem keepBlob_lanes (k : Nat) (b : Blob) (s : State) : (keepBlob k b s).lanes = s.lanes := by rw [keepBlob_eq]
@[simp] theorem keepBlob_tamper (k : Nat) (b : Blob) (s : State) : (keepBlob k b s).tamper = s.tamper := by rw [keepBlob_eq]
@[simp] theorem keepBlob_pwr (k : Nat) (b : Blob) (s : State) : (keepBlob k b s).pwr = s.pwr := by rw [keepBlob_eq]
@[simp] theorem keepBlob_test (k : Nat) (b : Blob) (s : State) : (keepBlob k b s).test = s.test := by rw [keepBlob_eq]

/-! ### Free values and noise -/

@[simp] theorem free_pending (n : Nat) (s : State) : ((free n s).2).pending = s.pending := rfl
@[simp] theorem free_out (n : Nat) (s : State) : ((free n s).2).out = s.out := rfl
@[simp] theorem free_draws (n : Nat) (s : State) : ((free n s).2).draws = s.draws := rfl
@[simp] theorem free_od (n : Nat) (s : State) : ((free n s).2).od = s.od := rfl
@[simp] theorem free_blobs (n : Nat) (s : State) : ((free n s).2).blobs = s.blobs := rfl
@[simp] theorem free_fuse (n : Nat) (s : State) : ((free n s).2).fuse = s.fuse := rfl
@[simp] theorem free_clk (n : Nat) (s : State) : ((free n s).2).clk = s.clk := rfl
@[simp] theorem free_evt (n : Nat) (s : State) : ((free n s).2).evt = s.evt := rfl
@[simp] theorem free_store (n : Nat) (s : State) : ((free n s).2).store = s.store := rfl
@[simp] theorem free_sess (n : Nat) (s : State) : ((free n s).2).sess = s.sess := rfl
@[simp] theorem free_link (n : Nat) (s : State) : ((free n s).2).link = s.link := rfl
@[simp] theorem free_comb (n : Nat) (s : State) : ((free n s).2).comb = s.comb := rfl
@[simp] theorem free_fab (n : Nat) (s : State) : ((free n s).2).fab = s.fab := rfl
@[simp] theorem free_sig (n : Nat) (s : State) : ((free n s).2).sig = s.sig := rfl
@[simp] theorem free_port (n : Nat) (s : State) : ((free n s).2).port = s.port := rfl
@[simp] theorem free_wp (n : Nat) (s : State) : ((free n s).2).wp = s.wp := rfl
@[simp] theorem free_keeper (n : Nat) (s : State) : ((free n s).2).keeper = s.keeper := rfl
@[simp] theorem free_vcore (n : Nat) (s : State) : ((free n s).2).vcore = s.vcore := rfl
@[simp] theorem free_acore (n : Nat) (s : State) : ((free n s).2).acore = s.acore := rfl
@[simp] theorem free_pairs (n : Nat) (s : State) : ((free n s).2).pairs = s.pairs := rfl
@[simp] theorem free_cols (n : Nat) (s : State) : ((free n s).2).cols = s.cols := rfl
@[simp] theorem free_kpr (n : Nat) (s : State) : ((free n s).2).kpr = s.kpr := rfl
@[simp] theorem free_lf (n : Nat) (s : State) : ((free n s).2).lf = s.lf := rfl
@[simp] theorem free_uwb (n : Nat) (s : State) : ((free n s).2).uwb = s.uwb := rfl
@[simp] theorem free_nfc (n : Nat) (s : State) : ((free n s).2).nfc = s.nfc := rfl
@[simp] theorem free_vault (n : Nat) (s : State) : ((free n s).2).vault = s.vault := rfl
@[simp] theorem free_lc (n : Nat) (s : State) : ((free n s).2).lc = s.lc := rfl
@[simp] theorem free_lanes (n : Nat) (s : State) : ((free n s).2).lanes = s.lanes := rfl
@[simp] theorem free_tamper (n : Nat) (s : State) : ((free n s).2).tamper = s.tamper := rfl
@[simp] theorem free_pwr (n : Nat) (s : State) : ((free n s).2).pwr = s.pwr := rfl
@[simp] theorem free_test (n : Nat) (s : State) : ((free n s).2).test = s.test := rfl
@[simp] theorem draw_pending (n : Nat) (s : State) : ((draw n s).2).pending = s.pending := rfl
@[simp] theorem draw_out (n : Nat) (s : State) : ((draw n s).2).out = s.out := rfl
@[simp] theorem draw_freeCtr (n : Nat) (s : State) : ((draw n s).2).freeCtr = s.freeCtr := rfl
@[simp] theorem draw_od (n : Nat) (s : State) : ((draw n s).2).od = s.od := rfl
@[simp] theorem draw_blobs (n : Nat) (s : State) : ((draw n s).2).blobs = s.blobs := rfl
@[simp] theorem draw_fuse (n : Nat) (s : State) : ((draw n s).2).fuse = s.fuse := rfl
@[simp] theorem draw_clk (n : Nat) (s : State) : ((draw n s).2).clk = s.clk := rfl
@[simp] theorem draw_evt (n : Nat) (s : State) : ((draw n s).2).evt = s.evt := rfl
@[simp] theorem draw_store (n : Nat) (s : State) : ((draw n s).2).store = s.store := rfl
@[simp] theorem draw_sess (n : Nat) (s : State) : ((draw n s).2).sess = s.sess := rfl
@[simp] theorem draw_link (n : Nat) (s : State) : ((draw n s).2).link = s.link := rfl
@[simp] theorem draw_comb (n : Nat) (s : State) : ((draw n s).2).comb = s.comb := rfl
@[simp] theorem draw_fab (n : Nat) (s : State) : ((draw n s).2).fab = s.fab := rfl
@[simp] theorem draw_sig (n : Nat) (s : State) : ((draw n s).2).sig = s.sig := rfl
@[simp] theorem draw_port (n : Nat) (s : State) : ((draw n s).2).port = s.port := rfl
@[simp] theorem draw_wp (n : Nat) (s : State) : ((draw n s).2).wp = s.wp := rfl
@[simp] theorem draw_keeper (n : Nat) (s : State) : ((draw n s).2).keeper = s.keeper := rfl
@[simp] theorem draw_vcore (n : Nat) (s : State) : ((draw n s).2).vcore = s.vcore := rfl
@[simp] theorem draw_acore (n : Nat) (s : State) : ((draw n s).2).acore = s.acore := rfl
@[simp] theorem draw_pairs (n : Nat) (s : State) : ((draw n s).2).pairs = s.pairs := rfl
@[simp] theorem draw_cols (n : Nat) (s : State) : ((draw n s).2).cols = s.cols := rfl
@[simp] theorem draw_kpr (n : Nat) (s : State) : ((draw n s).2).kpr = s.kpr := rfl
@[simp] theorem draw_lf (n : Nat) (s : State) : ((draw n s).2).lf = s.lf := rfl
@[simp] theorem draw_uwb (n : Nat) (s : State) : ((draw n s).2).uwb = s.uwb := rfl
@[simp] theorem draw_nfc (n : Nat) (s : State) : ((draw n s).2).nfc = s.nfc := rfl
@[simp] theorem draw_vault (n : Nat) (s : State) : ((draw n s).2).vault = s.vault := rfl
@[simp] theorem draw_lc (n : Nat) (s : State) : ((draw n s).2).lc = s.lc := rfl
@[simp] theorem draw_lanes (n : Nat) (s : State) : ((draw n s).2).lanes = s.lanes := rfl
@[simp] theorem draw_tamper (n : Nat) (s : State) : ((draw n s).2).tamper = s.tamper := rfl
@[simp] theorem draw_pwr (n : Nat) (s : State) : ((draw n s).2).pwr = s.pwr := rfl
@[simp] theorem draw_test (n : Nat) (s : State) : ((draw n s).2).test = s.test := rfl

/-! ### Frames: keeper line of the store, transactions, and answers in a session -/

@[simp] theorem storeLine_pending (who : Nat) (s : State) : (storeLine who s).pending = s.pending := by unfold storeLine; split <;> rfl
@[simp] theorem storeLine_out (who : Nat) (s : State) : (storeLine who s).out = s.out := by unfold storeLine; split <;> rfl
@[simp] theorem storeLine_draws (who : Nat) (s : State) : (storeLine who s).draws = s.draws := by unfold storeLine; split <;> rfl
@[simp] theorem storeLine_freeCtr (who : Nat) (s : State) : (storeLine who s).freeCtr = s.freeCtr := by unfold storeLine; split <;> rfl
@[simp] theorem storeLine_od (who : Nat) (s : State) : (storeLine who s).od = s.od := by unfold storeLine; split <;> rfl
@[simp] theorem storeLine_blobs (who : Nat) (s : State) : (storeLine who s).blobs = s.blobs := by unfold storeLine; split <;> rfl
@[simp] theorem storeLine_fuse (who : Nat) (s : State) : (storeLine who s).fuse = s.fuse := by unfold storeLine; split <;> rfl
@[simp] theorem storeLine_clk (who : Nat) (s : State) : (storeLine who s).clk = s.clk := by unfold storeLine; split <;> rfl
@[simp] theorem storeLine_evt (who : Nat) (s : State) : (storeLine who s).evt = s.evt := by unfold storeLine; split <;> rfl
@[simp] theorem storeLine_store (who : Nat) (s : State) : (storeLine who s).store = s.store := by unfold storeLine; split <;> rfl
@[simp] theorem storeLine_sess (who : Nat) (s : State) : (storeLine who s).sess = s.sess := by unfold storeLine; split <;> rfl
@[simp] theorem storeLine_link (who : Nat) (s : State) : (storeLine who s).link = s.link := by unfold storeLine; split <;> rfl
@[simp] theorem storeLine_comb (who : Nat) (s : State) : (storeLine who s).comb = s.comb := by unfold storeLine; split <;> rfl
@[simp] theorem storeLine_fab (who : Nat) (s : State) : (storeLine who s).fab = s.fab := by unfold storeLine; split <;> rfl
@[simp] theorem storeLine_sig (who : Nat) (s : State) : (storeLine who s).sig = s.sig := by unfold storeLine; split <;> rfl
@[simp] theorem storeLine_port (who : Nat) (s : State) : (storeLine who s).port = s.port := by unfold storeLine; split <;> rfl
@[simp] theorem storeLine_wp (who : Nat) (s : State) : (storeLine who s).wp = s.wp := by unfold storeLine; split <;> rfl
@[simp] theorem storeLine_vcore (who : Nat) (s : State) : (storeLine who s).vcore = s.vcore := by unfold storeLine; split <;> rfl
@[simp] theorem storeLine_acore (who : Nat) (s : State) : (storeLine who s).acore = s.acore := by unfold storeLine; split <;> rfl
@[simp] theorem storeLine_pairs (who : Nat) (s : State) : (storeLine who s).pairs = s.pairs := by unfold storeLine; split <;> rfl
@[simp] theorem storeLine_cols (who : Nat) (s : State) : (storeLine who s).cols = s.cols := by unfold storeLine; split <;> rfl
@[simp] theorem storeLine_kpr (who : Nat) (s : State) : (storeLine who s).kpr = s.kpr := by unfold storeLine; split <;> rfl
@[simp] theorem storeLine_lf (who : Nat) (s : State) : (storeLine who s).lf = s.lf := by unfold storeLine; split <;> rfl
@[simp] theorem storeLine_uwb (who : Nat) (s : State) : (storeLine who s).uwb = s.uwb := by unfold storeLine; split <;> rfl
@[simp] theorem storeLine_nfc (who : Nat) (s : State) : (storeLine who s).nfc = s.nfc := by unfold storeLine; split <;> rfl
@[simp] theorem storeLine_vault (who : Nat) (s : State) : (storeLine who s).vault = s.vault := by unfold storeLine; split <;> rfl
@[simp] theorem storeLine_lc (who : Nat) (s : State) : (storeLine who s).lc = s.lc := by unfold storeLine; split <;> rfl
@[simp] theorem storeLine_lanes (who : Nat) (s : State) : (storeLine who s).lanes = s.lanes := by unfold storeLine; split <;> rfl
@[simp] theorem storeLine_tamper (who : Nat) (s : State) : (storeLine who s).tamper = s.tamper := by unfold storeLine; split <;> rfl
@[simp] theorem storeLine_pwr (who : Nat) (s : State) : (storeLine who s).pwr = s.pwr := by unfold storeLine; split <;> rfl
@[simp] theorem storeLine_test (who : Nat) (s : State) : (storeLine who s).test = s.test := by unfold storeLine; split <;> rfl

@[simp] theorem commitTxn_pending (first : Option Nat) (rs : List LogRec) (s : State) : (commitTxn first rs s).pending = s.pending := by rw [commitTxn_eq]
@[simp] theorem commitTxn_out (first : Option Nat) (rs : List LogRec) (s : State) : (commitTxn first rs s).out = s.out := by rw [commitTxn_eq]
@[simp] theorem commitTxn_draws (first : Option Nat) (rs : List LogRec) (s : State) : (commitTxn first rs s).draws = s.draws := by rw [commitTxn_eq]
@[simp] theorem commitTxn_freeCtr (first : Option Nat) (rs : List LogRec) (s : State) : (commitTxn first rs s).freeCtr = s.freeCtr := by rw [commitTxn_eq]
@[simp] theorem commitTxn_blobs (first : Option Nat) (rs : List LogRec) (s : State) : (commitTxn first rs s).blobs = s.blobs := by rw [commitTxn_eq]
@[simp] theorem commitTxn_fuse (first : Option Nat) (rs : List LogRec) (s : State) : (commitTxn first rs s).fuse = s.fuse := by rw [commitTxn_eq]
@[simp] theorem commitTxn_clk (first : Option Nat) (rs : List LogRec) (s : State) : (commitTxn first rs s).clk = s.clk := by rw [commitTxn_eq]
@[simp] theorem commitTxn_evt (first : Option Nat) (rs : List LogRec) (s : State) : (commitTxn first rs s).evt = s.evt := by rw [commitTxn_eq]
@[simp] theorem commitTxn_sess (first : Option Nat) (rs : List LogRec) (s : State) : (commitTxn first rs s).sess = s.sess := by rw [commitTxn_eq]
@[simp] theorem commitTxn_link (first : Option Nat) (rs : List LogRec) (s : State) : (commitTxn first rs s).link = s.link := by rw [commitTxn_eq]
@[simp] theorem commitTxn_comb (first : Option Nat) (rs : List LogRec) (s : State) : (commitTxn first rs s).comb = s.comb := by rw [commitTxn_eq]
@[simp] theorem commitTxn_fab (first : Option Nat) (rs : List LogRec) (s : State) : (commitTxn first rs s).fab = s.fab := by rw [commitTxn_eq]
@[simp] theorem commitTxn_sig (first : Option Nat) (rs : List LogRec) (s : State) : (commitTxn first rs s).sig = s.sig := by rw [commitTxn_eq]
@[simp] theorem commitTxn_port (first : Option Nat) (rs : List LogRec) (s : State) : (commitTxn first rs s).port = s.port := by rw [commitTxn_eq]
@[simp] theorem commitTxn_wp (first : Option Nat) (rs : List LogRec) (s : State) : (commitTxn first rs s).wp = s.wp := by rw [commitTxn_eq]
@[simp] theorem commitTxn_keeper (first : Option Nat) (rs : List LogRec) (s : State) : (commitTxn first rs s).keeper = s.keeper := by rw [commitTxn_eq]
@[simp] theorem commitTxn_vcore (first : Option Nat) (rs : List LogRec) (s : State) : (commitTxn first rs s).vcore = s.vcore := by rw [commitTxn_eq]
@[simp] theorem commitTxn_acore (first : Option Nat) (rs : List LogRec) (s : State) : (commitTxn first rs s).acore = s.acore := by rw [commitTxn_eq]
@[simp] theorem commitTxn_pairs (first : Option Nat) (rs : List LogRec) (s : State) : (commitTxn first rs s).pairs = s.pairs := by rw [commitTxn_eq]
@[simp] theorem commitTxn_cols (first : Option Nat) (rs : List LogRec) (s : State) : (commitTxn first rs s).cols = s.cols := by rw [commitTxn_eq]
@[simp] theorem commitTxn_kpr (first : Option Nat) (rs : List LogRec) (s : State) : (commitTxn first rs s).kpr = s.kpr := by rw [commitTxn_eq]
@[simp] theorem commitTxn_lf (first : Option Nat) (rs : List LogRec) (s : State) : (commitTxn first rs s).lf = s.lf := by rw [commitTxn_eq]
@[simp] theorem commitTxn_uwb (first : Option Nat) (rs : List LogRec) (s : State) : (commitTxn first rs s).uwb = s.uwb := by rw [commitTxn_eq]
@[simp] theorem commitTxn_nfc (first : Option Nat) (rs : List LogRec) (s : State) : (commitTxn first rs s).nfc = s.nfc := by rw [commitTxn_eq]
@[simp] theorem commitTxn_vault (first : Option Nat) (rs : List LogRec) (s : State) : (commitTxn first rs s).vault = s.vault := by rw [commitTxn_eq]
@[simp] theorem commitTxn_lc (first : Option Nat) (rs : List LogRec) (s : State) : (commitTxn first rs s).lc = s.lc := by rw [commitTxn_eq]
@[simp] theorem commitTxn_lanes (first : Option Nat) (rs : List LogRec) (s : State) : (commitTxn first rs s).lanes = s.lanes := by rw [commitTxn_eq]
@[simp] theorem commitTxn_tamper (first : Option Nat) (rs : List LogRec) (s : State) : (commitTxn first rs s).tamper = s.tamper := by rw [commitTxn_eq]
@[simp] theorem commitTxn_pwr (first : Option Nat) (rs : List LogRec) (s : State) : (commitTxn first rs s).pwr = s.pwr := by rw [commitTxn_eq]
@[simp] theorem commitTxn_test (first : Option Nat) (rs : List LogRec) (s : State) : (commitTxn first rs s).test = s.test := by rw [commitTxn_eq]

@[simp] theorem modSession_pending (slot : Nat) (f : Session → Session) (s : State) : (modSession slot f s).pending = s.pending := rfl
@[simp] theorem modSession_out (slot : Nat) (f : Session → Session) (s : State) : (modSession slot f s).out = s.out := rfl
@[simp] theorem modSession_draws (slot : Nat) (f : Session → Session) (s : State) : (modSession slot f s).draws = s.draws := rfl
@[simp] theorem modSession_freeCtr (slot : Nat) (f : Session → Session) (s : State) : (modSession slot f s).freeCtr = s.freeCtr := rfl
@[simp] theorem modSession_od (slot : Nat) (f : Session → Session) (s : State) : (modSession slot f s).od = s.od := rfl
@[simp] theorem modSession_blobs (slot : Nat) (f : Session → Session) (s : State) : (modSession slot f s).blobs = s.blobs := rfl
@[simp] theorem modSession_fuse (slot : Nat) (f : Session → Session) (s : State) : (modSession slot f s).fuse = s.fuse := rfl
@[simp] theorem modSession_clk (slot : Nat) (f : Session → Session) (s : State) : (modSession slot f s).clk = s.clk := rfl
@[simp] theorem modSession_evt (slot : Nat) (f : Session → Session) (s : State) : (modSession slot f s).evt = s.evt := rfl
@[simp] theorem modSession_store (slot : Nat) (f : Session → Session) (s : State) : (modSession slot f s).store = s.store := rfl
@[simp] theorem modSession_link (slot : Nat) (f : Session → Session) (s : State) : (modSession slot f s).link = s.link := rfl
@[simp] theorem modSession_comb (slot : Nat) (f : Session → Session) (s : State) : (modSession slot f s).comb = s.comb := rfl
@[simp] theorem modSession_fab (slot : Nat) (f : Session → Session) (s : State) : (modSession slot f s).fab = s.fab := rfl
@[simp] theorem modSession_sig (slot : Nat) (f : Session → Session) (s : State) : (modSession slot f s).sig = s.sig := rfl
@[simp] theorem modSession_port (slot : Nat) (f : Session → Session) (s : State) : (modSession slot f s).port = s.port := rfl
@[simp] theorem modSession_wp (slot : Nat) (f : Session → Session) (s : State) : (modSession slot f s).wp = s.wp := rfl
@[simp] theorem modSession_keeper (slot : Nat) (f : Session → Session) (s : State) : (modSession slot f s).keeper = s.keeper := rfl
@[simp] theorem modSession_vcore (slot : Nat) (f : Session → Session) (s : State) : (modSession slot f s).vcore = s.vcore := rfl
@[simp] theorem modSession_acore (slot : Nat) (f : Session → Session) (s : State) : (modSession slot f s).acore = s.acore := rfl
@[simp] theorem modSession_pairs (slot : Nat) (f : Session → Session) (s : State) : (modSession slot f s).pairs = s.pairs := rfl
@[simp] theorem modSession_cols (slot : Nat) (f : Session → Session) (s : State) : (modSession slot f s).cols = s.cols := rfl
@[simp] theorem modSession_kpr (slot : Nat) (f : Session → Session) (s : State) : (modSession slot f s).kpr = s.kpr := rfl
@[simp] theorem modSession_lf (slot : Nat) (f : Session → Session) (s : State) : (modSession slot f s).lf = s.lf := rfl
@[simp] theorem modSession_uwb (slot : Nat) (f : Session → Session) (s : State) : (modSession slot f s).uwb = s.uwb := rfl
@[simp] theorem modSession_nfc (slot : Nat) (f : Session → Session) (s : State) : (modSession slot f s).nfc = s.nfc := rfl
@[simp] theorem modSession_vault (slot : Nat) (f : Session → Session) (s : State) : (modSession slot f s).vault = s.vault := rfl
@[simp] theorem modSession_lc (slot : Nat) (f : Session → Session) (s : State) : (modSession slot f s).lc = s.lc := rfl
@[simp] theorem modSession_lanes (slot : Nat) (f : Session → Session) (s : State) : (modSession slot f s).lanes = s.lanes := rfl
@[simp] theorem modSession_tamper (slot : Nat) (f : Session → Session) (s : State) : (modSession slot f s).tamper = s.tamper := rfl
@[simp] theorem modSession_pwr (slot : Nat) (f : Session → Session) (s : State) : (modSession slot f s).pwr = s.pwr := rfl
@[simp] theorem modSession_test (slot : Nat) (f : Session → Session) (s : State) : (modSession slot f s).test = s.test := rfl

@[simp] theorem touchSession_pending (slot : Nat) (s : State) : (touchSession slot s).pending = s.pending := rfl
@[simp] theorem touchSession_out (slot : Nat) (s : State) : (touchSession slot s).out = s.out := rfl
@[simp] theorem touchSession_draws (slot : Nat) (s : State) : (touchSession slot s).draws = s.draws := rfl
@[simp] theorem touchSession_freeCtr (slot : Nat) (s : State) : (touchSession slot s).freeCtr = s.freeCtr := rfl
@[simp] theorem touchSession_od (slot : Nat) (s : State) : (touchSession slot s).od = s.od := rfl
@[simp] theorem touchSession_blobs (slot : Nat) (s : State) : (touchSession slot s).blobs = s.blobs := rfl
@[simp] theorem touchSession_fuse (slot : Nat) (s : State) : (touchSession slot s).fuse = s.fuse := rfl
@[simp] theorem touchSession_clk (slot : Nat) (s : State) : (touchSession slot s).clk = s.clk := rfl
@[simp] theorem touchSession_evt (slot : Nat) (s : State) : (touchSession slot s).evt = s.evt := rfl
@[simp] theorem touchSession_store (slot : Nat) (s : State) : (touchSession slot s).store = s.store := rfl
@[simp] theorem touchSession_link (slot : Nat) (s : State) : (touchSession slot s).link = s.link := rfl
@[simp] theorem touchSession_comb (slot : Nat) (s : State) : (touchSession slot s).comb = s.comb := rfl
@[simp] theorem touchSession_fab (slot : Nat) (s : State) : (touchSession slot s).fab = s.fab := rfl
@[simp] theorem touchSession_sig (slot : Nat) (s : State) : (touchSession slot s).sig = s.sig := rfl
@[simp] theorem touchSession_port (slot : Nat) (s : State) : (touchSession slot s).port = s.port := rfl
@[simp] theorem touchSession_wp (slot : Nat) (s : State) : (touchSession slot s).wp = s.wp := rfl
@[simp] theorem touchSession_keeper (slot : Nat) (s : State) : (touchSession slot s).keeper = s.keeper := rfl
@[simp] theorem touchSession_vcore (slot : Nat) (s : State) : (touchSession slot s).vcore = s.vcore := rfl
@[simp] theorem touchSession_acore (slot : Nat) (s : State) : (touchSession slot s).acore = s.acore := rfl
@[simp] theorem touchSession_pairs (slot : Nat) (s : State) : (touchSession slot s).pairs = s.pairs := rfl
@[simp] theorem touchSession_cols (slot : Nat) (s : State) : (touchSession slot s).cols = s.cols := rfl
@[simp] theorem touchSession_kpr (slot : Nat) (s : State) : (touchSession slot s).kpr = s.kpr := rfl
@[simp] theorem touchSession_lf (slot : Nat) (s : State) : (touchSession slot s).lf = s.lf := rfl
@[simp] theorem touchSession_uwb (slot : Nat) (s : State) : (touchSession slot s).uwb = s.uwb := rfl
@[simp] theorem touchSession_nfc (slot : Nat) (s : State) : (touchSession slot s).nfc = s.nfc := rfl
@[simp] theorem touchSession_vault (slot : Nat) (s : State) : (touchSession slot s).vault = s.vault := rfl
@[simp] theorem touchSession_lc (slot : Nat) (s : State) : (touchSession slot s).lc = s.lc := rfl
@[simp] theorem touchSession_lanes (slot : Nat) (s : State) : (touchSession slot s).lanes = s.lanes := rfl
@[simp] theorem touchSession_tamper (slot : Nat) (s : State) : (touchSession slot s).tamper = s.tamper := rfl
@[simp] theorem touchSession_pwr (slot : Nat) (s : State) : (touchSession slot s).pwr = s.pwr := rfl
@[simp] theorem touchSession_test (slot : Nat) (s : State) : (touchSession slot s).test = s.test := rfl

@[simp] theorem answerDone_pending (slot : Nat) (d : Blob) (s : State) : (answerDone slot d s).pending = s.pending := rfl
@[simp] theorem answerDone_draws (slot : Nat) (d : Blob) (s : State) : (answerDone slot d s).draws = s.draws := rfl
@[simp] theorem answerDone_freeCtr (slot : Nat) (d : Blob) (s : State) : (answerDone slot d s).freeCtr = s.freeCtr := rfl
@[simp] theorem answerDone_od (slot : Nat) (d : Blob) (s : State) : (answerDone slot d s).od = s.od := rfl
@[simp] theorem answerDone_blobs (slot : Nat) (d : Blob) (s : State) : (answerDone slot d s).blobs = s.blobs := rfl
@[simp] theorem answerDone_fuse (slot : Nat) (d : Blob) (s : State) : (answerDone slot d s).fuse = s.fuse := rfl
@[simp] theorem answerDone_clk (slot : Nat) (d : Blob) (s : State) : (answerDone slot d s).clk = s.clk := rfl
@[simp] theorem answerDone_evt (slot : Nat) (d : Blob) (s : State) : (answerDone slot d s).evt = s.evt := rfl
@[simp] theorem answerDone_store (slot : Nat) (d : Blob) (s : State) : (answerDone slot d s).store = s.store := rfl
@[simp] theorem answerDone_link (slot : Nat) (d : Blob) (s : State) : (answerDone slot d s).link = s.link := rfl
@[simp] theorem answerDone_comb (slot : Nat) (d : Blob) (s : State) : (answerDone slot d s).comb = s.comb := rfl
@[simp] theorem answerDone_fab (slot : Nat) (d : Blob) (s : State) : (answerDone slot d s).fab = s.fab := rfl
@[simp] theorem answerDone_sig (slot : Nat) (d : Blob) (s : State) : (answerDone slot d s).sig = s.sig := rfl
@[simp] theorem answerDone_port (slot : Nat) (d : Blob) (s : State) : (answerDone slot d s).port = s.port := rfl
@[simp] theorem answerDone_wp (slot : Nat) (d : Blob) (s : State) : (answerDone slot d s).wp = s.wp := rfl
@[simp] theorem answerDone_keeper (slot : Nat) (d : Blob) (s : State) : (answerDone slot d s).keeper = s.keeper := rfl
@[simp] theorem answerDone_vcore (slot : Nat) (d : Blob) (s : State) : (answerDone slot d s).vcore = s.vcore := rfl
@[simp] theorem answerDone_acore (slot : Nat) (d : Blob) (s : State) : (answerDone slot d s).acore = s.acore := rfl
@[simp] theorem answerDone_pairs (slot : Nat) (d : Blob) (s : State) : (answerDone slot d s).pairs = s.pairs := rfl
@[simp] theorem answerDone_cols (slot : Nat) (d : Blob) (s : State) : (answerDone slot d s).cols = s.cols := rfl
@[simp] theorem answerDone_kpr (slot : Nat) (d : Blob) (s : State) : (answerDone slot d s).kpr = s.kpr := rfl
@[simp] theorem answerDone_lf (slot : Nat) (d : Blob) (s : State) : (answerDone slot d s).lf = s.lf := rfl
@[simp] theorem answerDone_uwb (slot : Nat) (d : Blob) (s : State) : (answerDone slot d s).uwb = s.uwb := rfl
@[simp] theorem answerDone_nfc (slot : Nat) (d : Blob) (s : State) : (answerDone slot d s).nfc = s.nfc := rfl
@[simp] theorem answerDone_vault (slot : Nat) (d : Blob) (s : State) : (answerDone slot d s).vault = s.vault := rfl
@[simp] theorem answerDone_lc (slot : Nat) (d : Blob) (s : State) : (answerDone slot d s).lc = s.lc := rfl
@[simp] theorem answerDone_lanes (slot : Nat) (d : Blob) (s : State) : (answerDone slot d s).lanes = s.lanes := rfl
@[simp] theorem answerDone_tamper (slot : Nat) (d : Blob) (s : State) : (answerDone slot d s).tamper = s.tamper := rfl
@[simp] theorem answerDone_pwr (slot : Nat) (d : Blob) (s : State) : (answerDone slot d s).pwr = s.pwr := rfl
@[simp] theorem answerDone_test (slot : Nat) (d : Blob) (s : State) : (answerDone slot d s).test = s.test := rfl

@[simp] theorem answerAbort_pending (slot code : Nat) (s : State) : (answerAbort slot code s).pending = s.pending := rfl
@[simp] theorem answerAbort_draws (slot code : Nat) (s : State) : (answerAbort slot code s).draws = s.draws := rfl
@[simp] theorem answerAbort_freeCtr (slot code : Nat) (s : State) : (answerAbort slot code s).freeCtr = s.freeCtr := rfl
@[simp] theorem answerAbort_od (slot code : Nat) (s : State) : (answerAbort slot code s).od = s.od := rfl
@[simp] theorem answerAbort_blobs (slot code : Nat) (s : State) : (answerAbort slot code s).blobs = s.blobs := rfl
@[simp] theorem answerAbort_fuse (slot code : Nat) (s : State) : (answerAbort slot code s).fuse = s.fuse := rfl
@[simp] theorem answerAbort_clk (slot code : Nat) (s : State) : (answerAbort slot code s).clk = s.clk := rfl
@[simp] theorem answerAbort_evt (slot code : Nat) (s : State) : (answerAbort slot code s).evt = s.evt := rfl
@[simp] theorem answerAbort_store (slot code : Nat) (s : State) : (answerAbort slot code s).store = s.store := rfl
@[simp] theorem answerAbort_link (slot code : Nat) (s : State) : (answerAbort slot code s).link = s.link := rfl
@[simp] theorem answerAbort_comb (slot code : Nat) (s : State) : (answerAbort slot code s).comb = s.comb := rfl
@[simp] theorem answerAbort_fab (slot code : Nat) (s : State) : (answerAbort slot code s).fab = s.fab := rfl
@[simp] theorem answerAbort_sig (slot code : Nat) (s : State) : (answerAbort slot code s).sig = s.sig := rfl
@[simp] theorem answerAbort_port (slot code : Nat) (s : State) : (answerAbort slot code s).port = s.port := rfl
@[simp] theorem answerAbort_wp (slot code : Nat) (s : State) : (answerAbort slot code s).wp = s.wp := rfl
@[simp] theorem answerAbort_keeper (slot code : Nat) (s : State) : (answerAbort slot code s).keeper = s.keeper := rfl
@[simp] theorem answerAbort_vcore (slot code : Nat) (s : State) : (answerAbort slot code s).vcore = s.vcore := rfl
@[simp] theorem answerAbort_acore (slot code : Nat) (s : State) : (answerAbort slot code s).acore = s.acore := rfl
@[simp] theorem answerAbort_pairs (slot code : Nat) (s : State) : (answerAbort slot code s).pairs = s.pairs := rfl
@[simp] theorem answerAbort_cols (slot code : Nat) (s : State) : (answerAbort slot code s).cols = s.cols := rfl
@[simp] theorem answerAbort_kpr (slot code : Nat) (s : State) : (answerAbort slot code s).kpr = s.kpr := rfl
@[simp] theorem answerAbort_lf (slot code : Nat) (s : State) : (answerAbort slot code s).lf = s.lf := rfl
@[simp] theorem answerAbort_uwb (slot code : Nat) (s : State) : (answerAbort slot code s).uwb = s.uwb := rfl
@[simp] theorem answerAbort_nfc (slot code : Nat) (s : State) : (answerAbort slot code s).nfc = s.nfc := rfl
@[simp] theorem answerAbort_vault (slot code : Nat) (s : State) : (answerAbort slot code s).vault = s.vault := rfl
@[simp] theorem answerAbort_lc (slot code : Nat) (s : State) : (answerAbort slot code s).lc = s.lc := rfl
@[simp] theorem answerAbort_lanes (slot code : Nat) (s : State) : (answerAbort slot code s).lanes = s.lanes := rfl
@[simp] theorem answerAbort_tamper (slot code : Nat) (s : State) : (answerAbort slot code s).tamper = s.tamper := rfl
@[simp] theorem answerAbort_pwr (slot code : Nat) (s : State) : (answerAbort slot code s).pwr = s.pwr := rfl
@[simp] theorem answerAbort_test (slot code : Nat) (s : State) : (answerAbort slot code s).test = s.test := rfl

/-! ### Writes in a session (R410) -/

/-- A write that passes checks 1 to 6 answers what its effect answers. -/
theorem checkedWrite_ready {s : State} {x : Session} {idx sb n : Nat} {v : OdValue} {b : Blob} {r : ObjRow}
    (h1 : allow s x true idx sb = .ok r) (h2 : typed r v = .ok (n, b)) (h3 : r.acc = .rws → ownerStopped s idx sb = true)
    (h4 : stateOpen s idx sb = true) (h5 : inRange r n = true) (eff : Nat → Blob → Access) :
    checkedWrite s x idx sb v true eff = eff n b := by
  unfold checkedWrite
  simp only [h1, h2, bind, Except.bind, h4, h5, Bool.not_true, Bool.or_false, Bool.false_eq_true, ↓reduceIte]
  by_cases hr : r.acc = .rws
  · simp [hr, h3 hr]
  · have : (r.acc == ObjAcc.rws) = false := by simpa using hr
    simp [this]

/-- A write command whose write is ready answers what its effect answers. -/
theorem writeEntry_ready {s : State} {slot idx sb n : Nat} {v : OdValue} {b : Blob} (h : WriteReady s slot idx sb v n b)
    (eff : Session → Nat → Blob → Access) :
    ∃ x, sessionAt s slot = some x ∧ writeEntry slot idx sb v true eff s = answerWrite slot s (eff x n b) := by
  obtain ⟨x, r, hx, h1, h2, h3, h4, h5⟩ := h
  exact ⟨x, hx, by simp only [writeEntry, hx, checkedWrite_ready h1 h2 h3 h4 h5]⟩

/-- A write without a session does nothing. -/
theorem writeEntry_none {s : State} {slot idx sb : Nat} {v : OdValue} (h : sessionAt s slot = none) (cond : Bool)
    (eff : Session → Nat → Blob → Access) : writeEntry slot idx sb v cond eff s = s := by simp only [writeEntry, h]

end Sys2Proof.Machine
end

