-- ==== Sys2Proof/Laws/Fuse.lean ====
section
/-! SUPPORT. What no operation but those of the trust plane does: the fuses (R323) stay as they are. One lemma for each operation
of the model that leaves them, in the order of the model's files. -/

set_option linter.all false
set_option Elab.async false
namespace Sys2Proof.Machine

/-- An access that succeeds leaves the component `g` of the state as it is. -/
structure okk {β : Type} (g : State → β) (a : Access) (s : State) : Prop where
  h : ∀ t, a = .ok t → g t = g s
theorem okk_ok {β : Type} (g : State → β) (t s : State) : okk g (.ok t) s ↔ g t = g s := ⟨fun h => h.h t rfl, fun h => ⟨fun _ e => by cases e; exact h⟩⟩
theorem okk_error {β : Type} (g : State → β) (e : Nat) (s : State) : okk g (.error e) s := ⟨fun _ h => by cases h⟩
theorem okk_ite {β : Type} (g : State → β) (c : Prop) [Decidable c] (a b : Access) (s : State) : okk g (if c then a else b) s ↔ if c then okk g a s else okk g b s := by split <;> rfl
theorem ite_fuse (c : Prop) [Decidable c] (a b : State) : (if c then a else b).fuse = if c then a.fuse else b.fuse := by split <;> rfl
theorem fold_fuse {α : Type} (f : State → α → State) (h : ∀ s a, (f s a).fuse = s.fuse) : ∀ (l : List α) (s : State), (l.foldl f s).fuse = s.fuse
  | [], _ => rfl
  | a :: r, s => by rw [List.foldl_cons, fold_fuse f h r, h]
theorem checked_okk {β : Type} (g : State → β) (s : State) (x : Session) (idx sb : Nat) (v : OdValue) (c : Bool) (eff : Nat → Blob → Access) (s' : State)
    (h : ∀ n b, okk g (eff n b) s') : okk g (checkedWrite s x idx sb v c eff) s' := by
  refine ⟨fun t ht => ?_⟩
  unfold checkedWrite at ht
  simp only [bind, Except.bind] at ht
  repeat' split at ht
  all_goals first | (cases ht; done) | exact (h _ _).h _ ht
theorem answer_fuse (slot : Nat) (s : State) (a : Access) (h : okk (·.fuse) a s) : (answerWrite slot s a).fuse = s.fuse := by
  unfold answerWrite; split
  · rw [answerDone_fuse]; exact h.h _ rfl
  · rfl
theorem write_fuse (slot idx sb : Nat) (v : OdValue) (c : Bool) (eff : Session → Nat → Blob → Access) (s : State)
    (h : ∀ x n b, okk (·.fuse) (eff x n b) s) : (writeEntry slot idx sb v c eff s).fuse = s.fuse := by
  unfold writeEntry; split
  · rfl
  · exact answer_fuse _ _ _ (checked_okk _ _ _ _ _ _ _ _ _ (h _))
theorem serve_fuse (op rq : Nat) (tag : Byte) (f : State → Nat × Blob × State) (s : State) (h : ∀ t, (f t).2.2.fuse = t.fuse) : (serve op rq tag f s).fuse = s.fuse := by
  have hl : (lockstep op (grantVault rq s)).2.fuse = s.fuse := by
    unfold lockstep grantVault
    repeat' split
    all_goals simp
  unfold serve vaultAnswer
  split
  · rfl
  split
  · split <;> simp
  split
  · rename_i e; rw [e] at hl; split <;> simpa using hl
  · rename_i t e
    rw [e] at hl
    have := h t
    cases hf : f t with
    | mk a p => cases p with
      | mk b u => simp only [hf] at this ⊢; split <;> simp_all

theorem stageEvent_fuse (e : EventRec) (s : State) : (stageEvent e s).fuse = s.fuse := by unfold stageEvent; (repeat' first | with_reducible rfl | (intro _) | (simp only [ite_fuse, ite_self]) | split | (dsimp only))
theorem openJournal_fuse (id : Nat) (payload : Blob) (s : State) : (openJournal id payload s).fuse = s.fuse := by unfold openJournal; split <;> rfl
theorem discardJournal_fuse (id : Nat) (s : State) : (discardJournal id s).fuse = s.fuse := rfl
theorem commitJournal_fuse (id : Nat) (rs : List LogRec) (s : State) : (commitJournal id rs s).fuse = s.fuse := by simp only [commitJournal, commitTxn_fuse]
theorem counterAdd_fuse (c n : Nat) (s : State) : (counterAdd c n s).fuse = s.fuse := rfl
theorem modPort_fuse (n : Nat) (f : Port → Port) (s : State) : (modPort n f s).fuse = s.fuse := rfl
theorem storeScalar_fuse (r : ObjRow) (idx sb v : Nat) (s : State) : (storeScalar r idx sb v s).fuse = s.fuse := by unfold storeScalar; (repeat' first | with_reducible rfl | (intro _) | (simp only [keepVal_fuse, setVal_fuse, ite_fuse, ite_self]) | split | (dsimp only))
theorem storeBytes_fuse (r : ObjRow) (idx sb : Nat) (b : Blob) (s : State) : (storeBytes r idx sb b s).fuse = s.fuse := by unfold storeBytes; (repeat' first | with_reducible rfl | (intro _) | (simp only [keepBlob_fuse, setBlob_fuse, ite_fuse, ite_self]) | split | (dsimp only))
theorem storeEntry_fuse (idx sb : Nat) (s : State) (n : Nat) (b : Blob) : (storeEntry idx sb s n b).fuse = s.fuse := by unfold storeEntry; (repeat' first | with_reducible rfl | (intro _) | (simp only [storeBytes_fuse, storeScalar_fuse, ite_fuse, ite_self]) | split | (dsimp only))
theorem putSession_fuse (i : Nat) (x : Option Session) (s : State) : (putSession i x s).fuse = s.fuse := rfl
theorem closeSession_fuse (i : Nat) (s : State) : (closeSession i s).fuse = s.fuse := rfl
theorem closeEndpoint_fuse (n : Nat) (s : State) : (closeEndpoint n s).fuse = s.fuse := by unfold closeEndpoint; (repeat' first | with_reducible rfl | (intro _) | (rw [fold_fuse]) | (simp only [closeSession_fuse, ite_fuse, ite_self]) | split | (dsimp only))
theorem accessOff_fuse (s : State) : (accessOff s).fuse = s.fuse := by unfold accessOff; split <;> rfl
theorem setVote_fuse (voter : Nat) (d : Domain) (on : Bool) (s : State) : (setVote voter d on s).fuse = s.fuse := by unfold setVote; (repeat' first | with_reducible rfl | (intro _) | (simp only [accessOff_fuse, ite_fuse, ite_self]) | split | (dsimp only))
theorem latchWake_fuse (code : Nat) (s : State) : (latchWake code s).fuse = s.fuse := by unfold latchWake; split <;> rfl
theorem bootDue_fuse (cause : Nat) (s : State) : (bootDue cause s).fuse = s.fuse := rfl
theorem applyKeeperVotes_fuse (s : State) : (applyKeeperVotes s).fuse = s.fuse := by simp only [applyKeeperVotes, setVote_fuse]
theorem sigPut_fuse (i : Nat) (e : BitVec 64) (s : State) : (sigPut i e s).fuse = s.fuse := rfl
theorem sigSweepOne_fuse (s : State) (i : Nat) : (sigSweepOne s i).fuse = s.fuse := by unfold sigSweepOne; (repeat' first | with_reducible rfl | (intro _) | (simp only [sigPut_fuse, ite_fuse, ite_self]) | split | (dsimp only))
theorem openSession_fuse (key : Nat) (unlock start : Bool) (ks : Blob) (s : State) : (openSession key unlock start ks s).fuse = s.fuse := by unfold openSession; (repeat' first | with_reducible rfl | (intro _) | (simp only [counterAdd_fuse, keeperLine_fuse, latchWake_fuse, logEvent_fuse, setVote_fuse, ite_fuse, ite_self]) | split | (dsimp only))
theorem endSession_fuse (s : State) : (endSession s).fuse = s.fuse := by unfold endSession; (repeat' first | with_reducible rfl | (intro _) | (simp only [keeperLine_fuse, logEvent_fuse, setVote_fuse, ite_fuse, ite_self]) | split | (dsimp only))
theorem slrLow_fuse (s : State) : (slrLow s).fuse = s.fuse := rfl
theorem putLock_fuse (z : Nat) (r : LockRec) (s : State) : (putLock z r s).fuse = s.fuse := by simp only [putLock, commitS_fuse]
theorem lockFailure_fuse (z : Nat) (s : State) : (lockFailure z s).fuse = s.fuse := by unfold lockFailure; (repeat' first | with_reducible rfl | (intro _) | (simp only [counterAdd_fuse, logEvent_fuse, putLock_fuse, ite_fuse, ite_self]) | split | (dsimp only))
theorem lockSuccess_fuse (z : Nat) (s : State) : (lockSuccess z s).fuse = s.fuse := by simp only [lockSuccess, putLock_fuse]
theorem lockPowerUp_fuse (s : State) : (lockPowerUp s).fuse = s.fuse := by unfold lockPowerUp; (repeat' first | with_reducible rfl | (intro _) | (rw [fold_fuse]) | (simp only [putLock_fuse, ite_fuse, ite_self]) | split | (dsimp only))
theorem setMr_fuse (s : State) : (setMr s).fuse = s.fuse := by unfold setMr; split <;> rfl
theorem dropCopies_fuse (i : Nat) (s : State) : (dropCopies i s).fuse = s.fuse := rfl
theorem putSlot_fuse (i : Nat) (k : Option KeySlot) (s : State) : (putSlot i k s).fuse = s.fuse := rfl
theorem writeLc_fuse (state cause epoch share : Nat) (s : State) : (writeLc state cause epoch share s).fuse = s.fuse := rfl
theorem setShareField_fuse (v : Nat) (s : State) : (setShareField v s).fuse = s.fuse := rfl
theorem newShare_fuse (s : State) : (newShare s).fuse = s.fuse := rfl
theorem loadShare_fuse (s : State) : (loadShare s).fuse = s.fuse := by unfold loadShare; split <;> rfl
theorem eraseShare_fuse (s : State) : (eraseShare s).fuse = s.fuse := rfl
theorem eraseHive_fuse (s : State) : (eraseHive s).fuse = s.fuse := rfl
theorem eraseAll_fuse (s : State) : (eraseAll s).fuse = s.fuse := rfl
theorem vaultAnswer_fuse (rq : Nat) (tag : Byte) (status : Nat) (data : Blob) (s : State) : (vaultAnswer rq tag status data s).fuse = s.fuse := by unfold vaultAnswer; split <;> rfl
theorem abortVault_fuse (s : State) : (abortVault s).fuse = s.fuse := by unfold abortVault; (repeat' first | with_reducible rfl | (intro _) | (rw [fold_fuse]) | (simp only [countN_fuse, discardJournal_fuse, emit_fuse, vaultAnswer_fuse, ite_fuse, ite_self]) | split | (dsimp only))
theorem refuseStandby_fuse (code detail : Nat) (s : State) : (refuseStandby code detail s).fuse = s.fuse := by simp only [refuseStandby, logEvent_fuse]
theorem modFab_fuse (f : FabSt → FabSt) (s : State) : (modFab f s).fuse = s.fuse := rfl
theorem modFrame_fuse (id : Nat) (f : Frame → Frame) (s : State) : (modFrame id f s).fuse = s.fuse := rfl
theorem dropFrame_fuse (id : Nat) (s : State) : (dropFrame id s).fuse = s.fuse := rfl
theorem modQueue_fuse (q : Nat) (f : OutQueue → OutQueue) (s : State) : (modQueue q f s).fuse = s.fuse := rfl
theorem modFabPort_fuse (p : Nat) (f : FabPort → FabPort) (s : State) : (modFabPort p f s).fuse = s.fuse := rfl
theorem allocCell_fuse (s : State) : (allocCell s).fuse = s.fuse := rfl
theorem freeCell_fuse (s : State) : (freeCell s).fuse = s.fuse := rfl
theorem releasePool_fuse (p : Pool) (s : State) : (releasePool p s).fuse = s.fuse := by unfold releasePool; split <;> rfl
theorem countOut_fuse (f : Frame) (s : State) : (countOut f s).fuse = s.fuse := rfl
theorem countFlushed_fuse (n : Nat) (f : Frame) (s : State) : (countFlushed n f s).fuse = s.fuse := rfl
theorem countPoliced_fuse (n cause copies : Nat) (s : State) : (countPoliced n cause copies s).fuse = s.fuse := by unfold countPoliced; (repeat' first | with_reducible rfl | (intro _) | (rw [fold_fuse]) | (simp only [count64_fuse, count_fuse, ite_fuse, ite_self]) | split | (dsimp only))
theorem sendPause_fuse (n vec quanta : Nat) (s : State) : (sendPause n vec quanta s).fuse = s.fuse := by unfold sendPause; split <;> rfl
theorem askPause_fuse (q i : Nat) (s : State) : (askPause q i s).fuse = s.fuse := by unfold askPause; (repeat' first | with_reducible rfl | (intro _) | (simp only [modFabPort_fuse, sendPause_fuse, ite_fuse, ite_self]) | split | (dsimp only))
theorem dropPause_fuse (q i : Nat) (s : State) : (dropPause q i s).fuse = s.fuse := by unfold dropPause; (repeat' first | with_reducible rfl | (intro _) | (simp only [modFabPort_fuse, sendPause_fuse, ite_fuse, ite_self]) | split | (dsimp only))
theorem pressure_fuse (q : Nat) (s : State) : (pressure q s).fuse = s.fuse := by unfold pressure; (repeat' first | with_reducible rfl | (intro _) | (rw [fold_fuse]) | (simp only [askPause_fuse, dropPause_fuse, modQueue_fuse, ite_fuse, ite_self]) | split | (dsimp only))
theorem stepCseq_fuse (p q : Nat) (s : State) : (stepCseq p q s).fuse = s.fuse := rfl
theorem stageOne_fuse (p : Nat) (s : State) : (stageOne p s).fuse = s.fuse := by unfold stageOne; (repeat' first | with_reducible rfl | (intro _) | (simp only [allocCell_fuse, modFabPort_fuse, modQueue_fuse, pressure_fuse, stepCseq_fuse, ite_fuse, ite_self]) | split | (dsimp only))
theorem fillStaging_fuse (p : Nat) (s : State) : (fillStaging p s).fuse = s.fuse := by unfold fillStaging; (repeat' first | with_reducible rfl | (intro _) | (rw [fold_fuse]) | (simp only [stageOne_fuse, ite_fuse, ite_self]) | split | (dsimp only))
theorem sendCells_fuse (id first n : Nat) (s : State) : (sendCells id first n s).fuse = s.fuse := by unfold sendCells; split <;> simp only [fillStaging_fuse, modFabPort_fuse]
theorem addFrame_fuse (f : Frame) (s : State) : (addFrame f s).1.fuse = s.fuse := rfl
theorem sendFrame_fuse (f : Frame) (s : State) : (sendFrame f s).fuse = s.fuse := by simp only [sendFrame, addFrame_fuse, sendCells_fuse]
theorem takeCells_fuse (id : Nat) (s : State) : (takeCells id s).fuse = s.fuse := by unfold takeCells; (repeat' first | with_reducible rfl | (intro _) | (rw [fold_fuse]) | (simp only [modQueue_fuse, pressure_fuse, releasePool_fuse, ite_fuse, ite_self]) | split | (dsimp only))
theorem dropStaged_fuse (id : Nat) (s : State) : (dropStaged id s).fuse = s.fuse := by unfold dropStaged; (repeat' first | with_reducible rfl | (intro _) | (rw [fold_fuse]) | (simp only [freeCell_fuse, modFabPort_fuse, modQueue_fuse, ite_fuse, ite_self]) | split | (dsimp only))
theorem removeFrame_fuse (id : Nat) (s : State) : (removeFrame id s).fuse = s.fuse := by unfold removeFrame; split <;> simp only [dropFrame_fuse, dropStaged_fuse, fillStaging_fuse, takeCells_fuse]
theorem frameOut_fuse (id : Nat) (s : State) : (frameOut id s).fuse = s.fuse := by unfold frameOut; split <;> simp only [countOut_fuse, removeFrame_fuse]
theorem frameFlushed_fuse (id : Nat) (s : State) : (frameFlushed id s).fuse = s.fuse := by unfold frameFlushed; split <;> simp only [countFlushed_fuse, removeFrame_fuse]
theorem settleBucket_fuse (n tc : Nat) (s : State) : (settleBucket n tc s).fuse = s.fuse := rfl
theorem resetBuckets_fuse (s : State) : (resetBuckets s).fuse = s.fuse := by simp only [resetBuckets, modFab_fuse]
theorem bucketCharge_fuse (n tc len : Nat) (s : State) : (bucketCharge n tc len s).fuse = s.fuse := rfl
theorem graceCount_fuse (n tc cells : Nat) (s : State) : (graceCount n tc cells s).fuse = s.fuse := by unfold graceCount; split <;> rfl
theorem moveBuckets_fuse (n : Nat) (s : State) : (moveBuckets n s).fuse = s.fuse := by unfold moveBuckets; split <;> rfl
theorem returnBuckets_fuse (s : State) : (returnBuckets s).fuse = s.fuse := by unfold returnBuckets; split <;> rfl
theorem flushFrames_fuse (n : Nat) (ids : List Nat) (s : State) : (flushFrames n ids s).fuse = s.fuse := by unfold flushFrames; (repeat' first | with_reducible rfl | (intro _) | (rw [fold_fuse]) | (simp only [countFlushed_fuse, modPort_fuse, removeFrame_fuse, ite_fuse, ite_self]) | split | (dsimp only))
theorem stompFrame_fuse (id : Nat) (s : State) : (stompFrame id s).fuse = s.fuse := by unfold stompFrame; split <;> rfl
theorem endInternal_fuse (id : Nat) (s : State) : (endInternal id s).fuse = s.fuse := by unfold endInternal; (repeat' first | with_reducible rfl | (intro _) | (simp only [countOut_fuse, dropFrame_fuse, emit_fuse, ite_fuse, ite_self]) | split | (dsimp only))
theorem cutReception_fuse (n : Nat) (s : State) : (cutReception n s).fuse = s.fuse := by unfold cutReception; (repeat' first | with_reducible rfl | (intro _) | (rw [fold_fuse]) | (simp only [countPoliced_fuse, endInternal_fuse, modFab_fuse, removeFrame_fuse, stompFrame_fuse, ite_fuse, ite_self]) | split | (dsimp only))
theorem beginFlush_fuse (n : Nat) (s : State) : (beginFlush n s).fuse = s.fuse := by simp only [beginFlush, flushFrames_fuse, modPort_fuse]
theorem releaseQueues_fuse (n : Nat) (s : State) : (releaseQueues n s).fuse = s.fuse := by unfold releaseQueues; (repeat' first | with_reducible rfl | (intro _) | (rw [fold_fuse]) | (simp only [dropPause_fuse, modQueue_fuse, ite_fuse, ite_self]) | split | (dsimp only))
theorem loseReference_fuse (s : State) : (loseReference s).fuse = s.fuse := by unfold loseReference; split <;> simp only [logEvent_fuse]
theorem leaveGptp_fuse (n : Nat) (s : State) : (leaveGptp n s).fuse = s.fuse := by unfold leaveGptp; (repeat' first | with_reducible rfl | (intro _) | (simp only [loseReference_fuse, modPort_fuse, setVal_fuse, ite_fuse, ite_self]) | split | (dsimp only))
theorem setPortState_fuse (n : Nat) (st : FnState) (s : State) : (setPortState n st s).fuse = s.fuse := by unfold setPortState; (repeat' first | with_reducible rfl | (intro _) | (simp only [keeperLine_fuse, leaveGptp_fuse, logEvent_fuse, modPort_fuse, ite_fuse, ite_self]) | split | (dsimp only))
theorem declareDown_fuse (n cause : Nat) (s : State) : (declareDown n cause s).fuse = s.fuse := by unfold declareDown; (repeat' first | with_reducible rfl | (intro _) | (simp only [beginFlush_fuse, count_fuse, cutReception_fuse, logEvent_fuse, modPort_fuse, moveBuckets_fuse, setPortState_fuse, ite_fuse, ite_self]) | split | (dsimp only))
theorem portDown_fuse (n cause : Nat) (s : State) : (portDown n cause s).fuse = s.fuse := by unfold portDown; (repeat' first | with_reducible rfl | (intro _) | (simp only [beginFlush_fuse, count_fuse, cutReception_fuse, declareDown_fuse, logEvent_fuse, ite_fuse, ite_self]) | split | (dsimp only))
theorem audit_fuse (s : State) : (audit s).fuse = s.fuse := by unfold audit; (repeat' first | with_reducible rfl | (intro _) | (rw [fold_fuse]) | (simp only [countN_fuse, count_fuse, logEvent_fuse, modFabPort_fuse, modFab_fuse, setVal_fuse, ite_fuse, ite_self]) | split | (dsimp only))
theorem rematchFlows_fuse (s : State) : (rematchFlows s).fuse = s.fuse := by unfold rematchFlows; split <;> rfl
theorem commitIntent_fuse (s : State) : (commitIntent s).fuse = s.fuse := by unfold commitIntent; (repeat' first | with_reducible rfl | (intro _) | (simp only [counterAdd_fuse, ite_fuse, ite_self]) | split | (dsimp only))
theorem snapshotPut_fuse (content : Blob) (s : State) : (snapshotPut content s).fuse = s.fuse := by simp only [snapshotPut, commitIntent_fuse]
theorem signEs256_fuse (p : Blob) (s : State) : (signEs256 p s).2.fuse = s.fuse := rfl
theorem signMldsa_fuse (p : Blob) (s : State) : (signMldsa p s).2.fuse = s.fuse := rfl
theorem attestation_fuse (nonce : Blob) (algs kind : Nat) (s : State) : (attestation nonce algs kind s).2.fuse = s.fuse := by unfold attestation; (repeat' first | with_reducible rfl | (intro _) | (simp only [counterAdd_fuse, signEs256_fuse, signMldsa_fuse, ite_fuse, ite_self]) | split | (dsimp only))
theorem grantVault_fuse (rq : Nat) (s : State) : (grantVault rq s).fuse = s.fuse := rfl
theorem lockstep_fuse (op : Nat) (s : State) : (lockstep op s).2.fuse = s.fuse := by unfold lockstep; (repeat' first | with_reducible rfl | (intro _) | (simp only [count_fuse, logEvent_fuse, ite_fuse, ite_self]) | split | (dsimp only))
theorem loadReq_fuse (rq slot : Nat) (b : Blob) (s : State) : (loadReq rq slot b s).2.2.fuse = s.fuse := by unfold loadReq; (repeat' first | with_reducible rfl | (intro _) | (simp only [count_fuse, putSlot_fuse, ite_fuse, ite_self]) | split | (dsimp only))
theorem vaultLoad_fuse (rq : Nat) (tag : Byte) (slot : Nat) (b : Blob) (s : State) : (vaultLoad rq tag slot b s).fuse = s.fuse := by unfold vaultLoad; (repeat' first | with_reducible rfl | (intro _) | (rw [fold_fuse]) | (rw [write_fuse]) | (rw [answer_fuse]) | (rw [serve_fuse]) | (with_reducible apply checked_okk) | (simp only [loadReq_fuse, okk_ok, okk_error, okk_ite, ite_fuse, ite_self]) | split | (dsimp only))
theorem clearReq_fuse (rq slot : Nat) (s : State) : (clearReq rq slot s).2.2.fuse = s.fuse := by unfold clearReq; (repeat' first | with_reducible rfl | (intro _) | (simp only [putSlot_fuse, ite_fuse, ite_self]) | split | (dsimp only))
theorem vaultClear_fuse (rq : Nat) (tag : Byte) (slot : Nat) (s : State) : (vaultClear rq tag slot s).fuse = s.fuse := by unfold vaultClear; (repeat' first | with_reducible rfl | (intro _) | (rw [fold_fuse]) | (rw [write_fuse]) | (rw [answer_fuse]) | (rw [serve_fuse]) | (with_reducible apply checked_okk) | (simp only [clearReq_fuse, okk_ok, okk_error, okk_ite, ite_fuse, ite_self]) | split | (dsimp only))
theorem generateReq_fuse (rq klen : Nat) (usage : Byte) (owner : BitVec 4) (meas : Bool) (keyId : Word) (slot : Nat)     (s : State) : (generateReq rq klen usage owner meas keyId slot s).2.2.fuse = s.fuse := by unfold generateReq; (repeat' first | with_reducible rfl | (intro _) | (simp only [draw_fuse, free_fuse, putSlot_fuse, ite_fuse, ite_self]) | split | (dsimp only))
theorem vaultGenerate_fuse (rq : Nat) (tag : Byte) (klen : Nat) (usage : Byte) (owner : BitVec 4) (meas : Bool) (keyId : Word)     (slot : Nat) (s : State) : (vaultGenerate rq tag klen usage owner meas keyId slot s).fuse = s.fuse := by unfold vaultGenerate; (repeat' first | with_reducible rfl | (intro _) | (rw [fold_fuse]) | (rw [write_fuse]) | (rw [answer_fuse]) | (rw [serve_fuse]) | (with_reducible apply checked_okk) | (simp only [generateReq_fuse, okk_ok, okk_error, okk_ite, ite_fuse, ite_self]) | split | (dsimp only))
theorem importReq_fuse (eph hdr kwp : Blob) (s : State) : (importReq eph hdr kwp s).2.2.fuse = s.fuse := by unfold importReq; (repeat' first | with_reducible rfl | (intro _) | (simp only [ite_fuse, ite_self]) | split | (dsimp only))
theorem vaultImport_fuse (rq : Nat) (tag : Byte) (eph hdr kwp : Blob) (s : State) : (vaultImport rq tag eph hdr kwp s).fuse = s.fuse := by unfold vaultImport; (repeat' first | with_reducible rfl | (intro _) | (rw [fold_fuse]) | (rw [write_fuse]) | (rw [answer_fuse]) | (rw [serve_fuse]) | (with_reducible apply checked_okk) | (simp only [importReq_fuse, okk_ok, okk_error, okk_ite, ite_fuse, ite_self]) | split | (dsimp only))
theorem rewrapReq_fuse (b : Blob) (staged : Bool) (s : State) : (rewrapReq b staged s).2.2.fuse = s.fuse := by unfold rewrapReq; (repeat' first | with_reducible rfl | (intro _) | (simp only [ite_fuse, ite_self]) | split | (dsimp only))
theorem vaultRewrap_fuse (rq : Nat) (tag : Byte) (b : Blob) (staged : Bool) (s : State) : (vaultRewrap rq tag b staged s).fuse = s.fuse := by unfold vaultRewrap; (repeat' first | with_reducible rfl | (intro _) | (rw [fold_fuse]) | (rw [write_fuse]) | (rw [answer_fuse]) | (rw [serve_fuse]) | (with_reducible apply checked_okk) | (simp only [rewrapReq_fuse, okk_ok, okk_error, okk_ite, ite_fuse, ite_self]) | split | (dsimp only))
theorem deriveReq_fuse (rq : Nat) (lbl ctx : Blob) (klen : Nat) (usage : Byte) (owner : BitVec 4) (meas : Bool) (slot : Nat)     (s : State) : (deriveReq rq lbl ctx klen usage owner meas slot s).2.2.fuse = s.fuse := by unfold deriveReq; (repeat' first | with_reducible rfl | (intro _) | (simp only [free_fuse, putSlot_fuse, ite_fuse, ite_self]) | split | (dsimp only))
theorem vaultDerive_fuse (rq : Nat) (tag : Byte) (lbl ctx : Blob) (klen : Nat) (usage : Byte) (owner : BitVec 4) (meas : Bool)     (slot : Nat) (s : State) : (vaultDerive rq tag lbl ctx klen usage owner meas slot s).fuse = s.fuse := by unfold vaultDerive; (repeat' first | with_reducible rfl | (intro _) | (rw [fold_fuse]) | (rw [write_fuse]) | (rw [answer_fuse]) | (rw [serve_fuse]) | (with_reducible apply checked_okk) | (simp only [deriveReq_fuse, okk_ok, okk_error, okk_ite, ite_fuse, ite_self]) | split | (dsimp only))
theorem setGen_fuse (id g : Word) (s : State) : (setGen id g s).fuse = s.fuse := rfl
theorem putStream_fuse (j : Nat) (x : StreamSt) (s : State) : (putStream j x s).fuse = s.fuse := rfl
theorem commitFreshness_fuse (j : Nat) (s : State) : (commitFreshness j s).fuse = s.fuse := by simp only [commitFreshness, commitS_fuse]
theorem resetStreams_fuse (slot : Nat) (s : State) : (resetStreams slot s).fuse = s.fuse := by unfold resetStreams; (repeat' first | with_reducible rfl | (intro _) | (rw [fold_fuse]) | (simp only [putStream_fuse, ite_fuse, ite_self]) | split | (dsimp only))
theorem putKey_fuse (e : KeyEntry) (s : State) : (putKey e s).fuse = s.fuse := rfl
theorem replaceCommitted_fuse (s : State) : (replaceCommitted s).fuse = s.fuse := by unfold replaceCommitted; (repeat' first | with_reducible rfl | (intro _) | (simp only [commitJournal_fuse, count_fuse, emit_fuse, putKey_fuse, putSlot_fuse, resetStreams_fuse, setGen_fuse, vaultAnswer_fuse, ite_fuse, ite_self]) | split | (dsimp only))
theorem refuseAccess_fuse (slot c : Nat) (s : State) : (refuseAccess slot c s).fuse = s.fuse := by simp only [refuseAccess, emit_fuse, logEvent_fuse]
theorem revokeRequest_fuse (id : Nat) (s : State) : okk (·.fuse) (revokeRequest id s) s := by unfold revokeRequest; (repeat' first | with_reducible rfl | (intro _) | (rw [fold_fuse]) | (rw [write_fuse]) | (rw [answer_fuse]) | (rw [serve_fuse]) | (with_reducible apply checked_okk) | (simp only [deleteS_fuse, okk_ok, okk_error, okk_ite, ite_fuse, ite_self]) | split | (dsimp only))
theorem revokeWrite_fuse (slot : Nat) (id : Word) (s : State) : (revokeWrite slot id s).fuse = s.fuse := by unfold revokeWrite; (repeat' first | with_reducible rfl | (intro _) | (rw [fold_fuse]) | (rw [write_fuse]) | (rw [answer_fuse]) | (rw [serve_fuse]) | (with_reducible apply checked_okk) | (simp only [revokeRequest_fuse, okk_ok, okk_error, okk_ite, ite_fuse, ite_self]) | split | (dsimp only))
theorem kcvReq_fuse (rq slot : Nat) (s : State) : (kcvReq rq slot s).2.2.fuse = s.fuse := by unfold kcvReq; (repeat' first | with_reducible rfl | (intro _) | (simp only [ite_fuse, ite_self]) | split | (dsimp only))
theorem vaultKcv_fuse (rq : Nat) (tag : Byte) (slot : Nat) (s : State) : (vaultKcv rq tag slot s).fuse = s.fuse := by unfold vaultKcv; (repeat' first | with_reducible rfl | (intro _) | (rw [fold_fuse]) | (rw [write_fuse]) | (rw [answer_fuse]) | (rw [serve_fuse]) | (with_reducible apply checked_okk) | (simp only [kcvReq_fuse, okk_ok, okk_error, okk_ite, ite_fuse, ite_self]) | split | (dsimp only))
theorem mkaSlot_fuse (slot : Nat) (key : Blob) (usage : Byte) (owner : BitVec 4) (s : State) : (mkaSlot slot key usage owner s).fuse = s.fuse := rfl
theorem installSa_fuse (slot : Nat) (s : State) : (installSa slot s).fuse = s.fuse := by unfold installSa; (repeat' first | with_reducible rfl | (intro _) | (simp only [free_fuse, modPort_fuse, ite_fuse, ite_self]) | split | (dsimp only))
theorem mkaKeysReq_fuse (rq cak : Nat) (ckn : Blob) (ick kek : Nat) (s : State) : (mkaKeysReq rq cak ckn ick kek s).2.2.fuse = s.fuse := by unfold mkaKeysReq; (repeat' first | with_reducible rfl | (intro _) | (simp only [mkaSlot_fuse, ite_fuse, ite_self]) | split | (dsimp only))
theorem vaultMkaKeys_fuse (rq : Nat) (tag : Byte) (cak : Nat) (ckn : Blob) (ick kek : Nat) (s : State) : (vaultMkaKeys rq tag cak ckn ick kek s).fuse = s.fuse := by unfold vaultMkaKeys; (repeat' first | with_reducible rfl | (intro _) | (rw [fold_fuse]) | (rw [write_fuse]) | (rw [answer_fuse]) | (rw [serve_fuse]) | (with_reducible apply checked_okk) | (simp only [mkaKeysReq_fuse, okk_ok, okk_error, okk_ite, ite_fuse, ite_self]) | split | (dsimp only))
theorem mkaIcvReq_fuse (rq ick : Nat) (pdu : Blob) (s : State) : (mkaIcvReq rq ick pdu s).2.2.fuse = s.fuse := by unfold mkaIcvReq; (repeat' first | with_reducible rfl | (intro _) | (simp only [ite_fuse, ite_self]) | split | (dsimp only))
theorem vaultMkaIcv_fuse (rq : Nat) (tag : Byte) (ick : Nat) (pdu : Blob) (s : State) : (vaultMkaIcv rq tag ick pdu s).fuse = s.fuse := by unfold vaultMkaIcv; (repeat' first | with_reducible rfl | (intro _) | (rw [fold_fuse]) | (rw [write_fuse]) | (rw [answer_fuse]) | (rw [serve_fuse]) | (with_reducible apply checked_okk) | (simp only [mkaIcvReq_fuse, okk_ok, okk_error, okk_ite, ite_fuse, ite_self]) | split | (dsimp only))
theorem mkaUnwrapReq_fuse (rq kek : Nat) (w : Blob) (slot : Nat) (s : State) : (mkaUnwrapReq rq kek w slot s).2.2.fuse = s.fuse := by unfold mkaUnwrapReq; (repeat' first | with_reducible rfl | (intro _) | (simp only [installSa_fuse, mkaSlot_fuse, ite_fuse, ite_self]) | split | (dsimp only))
theorem vaultMkaUnwrap_fuse (rq : Nat) (tag : Byte) (kek : Nat) (w : Blob) (slot : Nat) (s : State) : (vaultMkaUnwrap rq tag kek w slot s).fuse = s.fuse := by unfold vaultMkaUnwrap; (repeat' first | with_reducible rfl | (intro _) | (rw [fold_fuse]) | (rw [write_fuse]) | (rw [answer_fuse]) | (rw [serve_fuse]) | (with_reducible apply checked_okk) | (simp only [mkaUnwrapReq_fuse, okk_ok, okk_error, okk_ite, ite_fuse, ite_self]) | split | (dsimp only))
theorem mkaNewsakReq_fuse (rq kek klen slot : Nat) (s : State) : (mkaNewsakReq rq kek klen slot s).2.2.fuse = s.fuse := by unfold mkaNewsakReq; (repeat' first | with_reducible rfl | (intro _) | (simp only [draw_fuse, installSa_fuse, mkaSlot_fuse, ite_fuse, ite_self]) | split | (dsimp only))
theorem vaultMkaNewsak_fuse (rq : Nat) (tag : Byte) (kek klen slot : Nat) (s : State) : (vaultMkaNewsak rq tag kek klen slot s).fuse = s.fuse := by unfold vaultMkaNewsak; (repeat' first | with_reducible rfl | (intro _) | (rw [fold_fuse]) | (rw [write_fuse]) | (rw [answer_fuse]) | (rw [serve_fuse]) | (with_reducible apply checked_okk) | (simp only [mkaNewsakReq_fuse, okk_ok, okk_error, okk_ite, ite_fuse, ite_self]) | split | (dsimp only))
theorem startAttestation_fuse (nonce : Blob) (s : State) : okk (·.fuse) (startAttestation nonce s) s := by unfold startAttestation; (repeat' first | with_reducible rfl | (intro _) | (rw [fold_fuse]) | (rw [write_fuse]) | (rw [answer_fuse]) | (rw [serve_fuse]) | (with_reducible apply checked_okk) | (simp only [okk_ok, okk_error, okk_ite, ite_fuse, ite_self]) | split | (dsimp only))
theorem nonceWrite_fuse (slot : Nat) (nonce : Blob) (s : State) : (nonceWrite slot nonce s).fuse = s.fuse := by unfold nonceWrite; (repeat' first | with_reducible rfl | (intro _) | (rw [fold_fuse]) | (rw [write_fuse]) | (rw [answer_fuse]) | (rw [serve_fuse]) | (with_reducible apply checked_okk) | (simp only [startAttestation_fuse, okk_ok, okk_error, okk_ite, ite_fuse, ite_self]) | split | (dsimp only))
theorem attestationReady_fuse (s : State) : (attestationReady s).fuse = s.fuse := by unfold attestationReady; (repeat' first | with_reducible rfl | (intro _) | (simp only [attestation_fuse, emit_fuse, free_fuse, ite_fuse, ite_self]) | split | (dsimp only))
theorem vaultAnswerRead_fuse (s : State) : (vaultAnswerRead s).fuse = s.fuse := by unfold vaultAnswerRead; split <;> rfl
theorem vaultRestart_fuse (s : State) : (vaultRestart s).fuse = s.fuse := by unfold vaultRestart; (repeat' first | with_reducible rfl | (intro _) | (rw [fold_fuse]) | (simp only [bootDue_fuse, countN_fuse, discardJournal_fuse, logEvent_fuse, refuseAccess_fuse, vaultAnswer_fuse, ite_fuse, ite_self]) | split | (dsimp only))
theorem modSig_fuse (f : SigSt → SigSt) (s : State) : (modSig f s).fuse = s.fuse := rfl
theorem distanceFeed_fuse (v : Nat) (s : State) : (distanceFeed v s).fuse = s.fuse := by unfold distanceFeed; (repeat' first | with_reducible rfl | (intro _) | (simp only [counterAdd_fuse, modSig_fuse, ite_fuse, ite_self]) | split | (dsimp only))
theorem distanceRejected_fuse (s : State) : (distanceRejected s).fuse = s.fuse := by simp only [distanceRejected, count_fuse, logEvent_fuse]
theorem sealedRefuse_fuse (d : BitVec 512) (why : BitVec 24) (s : State) : (sealedRefuse d why s).fuse = s.fuse := by unfold sealedRefuse; (repeat' first | with_reducible rfl | (intro _) | (simp only [count_fuse, logEvent_fuse, modSig_fuse, ite_fuse, ite_self]) | split | (dsimp only))
theorem sealedMove_fuse (d : BitVec 512) (f : Nat) (s : State) : (sealedMove d f s).fuse = s.fuse := rfl
theorem refusedDistance_fuse (i : Nat) (s : State) : (refusedDistance i s).fuse = s.fuse := by unfold refusedDistance; split <;> simp only [distanceRejected_fuse]
theorem putEmit_fuse (e : EmitSt) (s : State) : (putEmit e s).fuse = s.fuse := rfl
theorem fillOf_fuse (r : BitVec 256) (last : Option Nat) (s : State) : (fillOf r last s).2.fuse = s.fuse := by unfold fillOf; (repeat' first | with_reducible rfl | (intro _) | (simp only [free_fuse, ite_fuse, ite_self]) | split | (dsimp only))
theorem freshEvents_fuse (j old new : Nat) (s : State) : (freshEvents j old new s).fuse = s.fuse := by unfold freshEvents; (repeat' first | with_reducible rfl | (intro _) | (simp only [logEvent_fuse, putStream_fuse, ite_fuse, ite_self]) | split | (dsimp only))
theorem recordStream_fuse (j : Nat) (s : State) : (recordStream j s).fuse = s.fuse := by unfold recordStream; (repeat' first | with_reducible rfl | (intro _) | (simp only [commitFreshness_fuse, putStream_fuse, ite_fuse, ite_self]) | split | (dsimp only))
theorem activateStream_fuse (j : Nat) (tx : Bool) (s : State) : (activateStream j tx s).fuse = s.fuse := by unfold activateStream; (repeat' first | with_reducible rfl | (intro _) | (simp only [commitFreshness_fuse, freshEvents_fuse, putStream_fuse, ite_fuse, ite_self]) | split | (dsimp only))
theorem activateStreams_fuse (s : State) : (activateStreams s).fuse = s.fuse := by unfold activateStreams; (repeat' first | with_reducible rfl | (intro _) | (rw [fold_fuse]) | (simp only [activateStream_fuse, ite_fuse, ite_self]) | split | (dsimp only))
theorem emitFrame_fuse (s : State) (k : Nat) (i : Nat) (d : BitVec 512) (bytes : Blob) : (emitFrame s k i d bytes).fuse = s.fuse := by simp only [emitFrame, sendFrame_fuse]
theorem bamEmit_fuse (s : State) (k i : Nat) (d : BitVec 512) (e : EmitSt) (payload : Blob) : (bamEmit s k i d e payload).fuse = s.fuse := by unfold bamEmit; split <;> simp only [emitFrame_fuse, putEmit_fuse]
theorem resetPointers_fuse (s : State) : (resetPointers s).fuse = s.fuse := rfl
theorem enterDegraded_fuse (s : State) : (enterDegraded s).fuse = s.fuse := by unfold enterDegraded; (repeat' first | with_reducible rfl | (intro _) | (rw [fold_fuse]) | (simp only [count_fuse, modFab_fuse, resetPointers_fuse, ite_fuse, ite_self]) | split | (dsimp only))
theorem failPlane_fuse (b : Bool) (s : State) : (failPlane b s).fuse = s.fuse := by unfold failPlane; (repeat' first | with_reducible rfl | (intro _) | (simp only [enterDegraded_fuse, logEvent_fuse, modFab_fuse, ite_fuse, ite_self]) | split | (dsimp only))
theorem planeFault_fuse (b : Bool) (out : Nat) (s : State) : (planeFault b out s).fuse = s.fuse := by unfold planeFault; (repeat' first | with_reducible rfl | (intro _) | (simp only [failPlane_fuse, logEvent_fuse, modFab_fuse, ite_fuse, ite_self]) | split | (dsimp only))
theorem returnPlanes_fuse (atBoundary : Bool) (s : State) : (returnPlanes atBoundary s).fuse = s.fuse := by unfold returnPlanes; (repeat' first | with_reducible rfl | (intro _) | (simp only [modFab_fuse, resetPointers_fuse, ite_fuse, ite_self]) | split | (dsimp only))
theorem effPlaneTest_fuse (s : State) (n : Nat) : okk (·.fuse) (effPlaneTest s n) s := by unfold effPlaneTest; (repeat' first | with_reducible rfl | (intro _) | (rw [fold_fuse]) | (rw [write_fuse]) | (rw [answer_fuse]) | (rw [serve_fuse]) | (with_reducible apply checked_okk) | (simp only [modFab_fuse, okk_ok, okk_error, okk_ite, ite_fuse, ite_self]) | split | (dsimp only))
theorem planeTestRequest_fuse (slot : Nat) (s : State) : (planeTestRequest slot s).fuse = s.fuse := by unfold planeTestRequest; (repeat' first | with_reducible rfl | (intro _) | (rw [fold_fuse]) | (rw [write_fuse]) | (rw [answer_fuse]) | (rw [serve_fuse]) | (with_reducible apply checked_okk) | (simp only [effPlaneTest_fuse, okk_ok, okk_error, okk_ite, ite_fuse, ite_self]) | split | (dsimp only))
theorem planeTestComplete_fuse (passA passB : Bool) (s : State) : (planeTestComplete passA passB s).fuse = s.fuse := by unfold planeTestComplete; (repeat' first | with_reducible rfl | (intro _) | (simp only [failPlane_fuse, modFab_fuse, ite_fuse, ite_self]) | split | (dsimp only))
theorem startTx_fuse (n : Nat) (s : State) : (startTx n s).fuse = s.fuse := by unfold startTx; (repeat' first | with_reducible rfl | (intro _) | (simp only [modFrame_fuse, modPort_fuse, ite_fuse, ite_self]) | split | (dsimp only))
theorem startAll_fuse (s : State) : (startAll s).fuse = s.fuse := by unfold startAll; (repeat' first | with_reducible rfl | (intro _) | (rw [fold_fuse]) | (simp only [startTx_fuse, ite_fuse, ite_self]) | split | (dsimp only))
theorem unstage_fuse (i : Nat) (c : CellRef) (s : State) : (unstage i c s).fuse = s.fuse := rfl
theorem crossed_fuse (id : Nat) (s : State) : (crossed id s).fuse = s.fuse := rfl
theorem consumeCell_fuse (f : Frame) (s : State) : (consumeCell f s).fuse = s.fuse := by unfold consumeCell; split <;> rfl
theorem enqueueCell_fuse (f : Frame) (c : CellRef) (p : Pool) (spill : Bool) (s : State) : (enqueueCell f c p spill s).fuse = s.fuse := by unfold enqueueCell; (repeat' first | with_reducible rfl | (intro _) | (simp only [modFab_fuse, modQueue_fuse, pressure_fuse, setVal_fuse, ite_fuse, ite_self]) | split | (dsimp only))
theorem endFlushed_fuse (id : Nat) (s : State) : (endFlushed id s).fuse = s.fuse := by unfold endFlushed; (repeat' first | with_reducible rfl | (intro _) | (simp only [countFlushed_fuse, dropFrame_fuse, ite_fuse, ite_self]) | split | (dsimp only))
theorem endSending_fuse (f : Frame) (s : State) : (endSending f s).fuse = s.fuse := by unfold endSending; split <;> rfl
theorem unrecoverable_fuse (id : Nat) (s : State) : (unrecoverable id s).fuse = s.fuse := by unfold unrecoverable; split <;> simp only [countFlushed_fuse, endSending_fuse, logEvent_fuse, removeFrame_fuse]
theorem matchSlot_fuse (usedIn usedOut : List Nat) (s : State) : (matchSlot usedIn usedOut s).2.fuse = s.fuse := by unfold matchSlot; (repeat' first | with_reducible rfl | (intro _) | (rw [fold_fuse]) | (simp only [modFabPort_fuse, ite_fuse, ite_self]) | split | (dsimp only))
theorem planSlot_fuse (s : State) : (planSlot s).2.fuse = s.fuse := by unfold planSlot; (repeat' first | with_reducible rfl | (intro _) | (rw [fold_fuse]) | (simp only [count_fuse, matchSlot_fuse, ite_fuse, ite_self]) | split | (dsimp only))
theorem slotCells_fuse (s : State) : (slotCells s).2.fuse = s.fuse := by unfold slotCells; (repeat' first | with_reducible rfl | (intro _) | (simp only [modFab_fuse, planSlot_fuse, ite_fuse, ite_self]) | split | (dsimp only))
theorem pauseRefresh_fuse (n : Nat) (s : State) : (pauseRefresh n s).fuse = s.fuse := by unfold pauseRefresh; (repeat' first | with_reducible rfl | (intro _) | (rw [fold_fuse]) | (simp only [sendPause_fuse, ite_fuse, ite_self]) | split | (dsimp only))
theorem spillWrite_fuse (q : Nat) (s : State) : (spillWrite q s).fuse = s.fuse := by unfold spillWrite; split <;> rfl
theorem freeSent_fuse (q : Nat) (c : CellRef) (s : State) : (freeSent q c s).fuse = s.fuse := by unfold freeSent; split <;> simp only [freeCell_fuse, modFrame_fuse, modQueue_fuse, pressure_fuse]
theorem spillRead_fuse (q : Nat) (s : State) : (spillRead q s).fuse = s.fuse := by unfold spillRead; (repeat' first | with_reducible rfl | (intro _) | (simp only [allocCell_fuse, freeSent_fuse, modFab_fuse, modQueue_fuse, ite_fuse, ite_self]) | split | (dsimp only))
theorem spillDramSlot_fuse (s : State) : (spillDramSlot s).fuse = s.fuse := by unfold spillDramSlot; (repeat' first | with_reducible rfl | (intro _) | (simp only [spillRead_fuse, spillWrite_fuse, ite_fuse, ite_self]) | split | (dsimp only))
theorem loseFrame_fuse (id : Nat) (s : State) : (loseFrame id s).fuse = s.fuse := by unfold loseFrame; split <;> simp only [endSending_fuse, removeFrame_fuse]
theorem deliverCell_fuse (c : CellRef) (img : Blob) (s : State) : (deliverCell c img s).fuse = s.fuse := rfl
theorem spillReadback_fuse (q : Nat) (eccBad : Bool) (s : State) : (spillReadback q eccBad s).fuse = s.fuse := by unfold spillReadback; (repeat' first | with_reducible rfl | (intro _) | (simp only [count_fuse, deliverCell_fuse, logEvent_fuse, loseFrame_fuse, modFab_fuse, modQueue_fuse, startAll_fuse, ite_fuse, ite_self]) | split | (dsimp only))
theorem stallLimitExpiry_fuse (n : Nat) (s : State) : (stallLimitExpiry n s).fuse = s.fuse := by unfold stallLimitExpiry; (repeat' first | with_reducible rfl | (intro _) | (simp only [beginFlush_fuse, declareDown_fuse, ite_fuse, ite_self]) | split | (dsimp only))
theorem modMirror_fuse (m : Nat) (f : MirrorSt → MirrorSt) (s : State) : (modMirror m f s).fuse = s.fuse := rfl
theorem mirrorCapture_fuse (m : Nat) (cap : MirrorCap) (s : State) : (mirrorCapture m cap s).fuse = s.fuse := by unfold mirrorCapture; (repeat' first | with_reducible rfl | (intro _) | (simp only [modMirror_fuse, ite_fuse, ite_self]) | split | (dsimp only))
theorem mirrorWrite_fuse (m : Nat) (s : State) : (mirrorWrite m s).fuse = s.fuse := by unfold mirrorWrite; (repeat' first | with_reducible rfl | (intro _) | (simp only [count_fuse, modMirror_fuse, ite_fuse, ite_self]) | split | (dsimp only))
theorem mirrorSkip_fuse (m : Nat) (s : State) : (mirrorSkip m s).fuse = s.fuse := by unfold mirrorSkip; split <;> rfl
theorem effClearHighWater_fuse (s : State) (n : Nat) : okk (·.fuse) (effClearHighWater s n) s := by unfold effClearHighWater; (repeat' first | with_reducible rfl | (intro _) | (rw [fold_fuse]) | (rw [write_fuse]) | (rw [answer_fuse]) | (rw [serve_fuse]) | (with_reducible apply checked_okk) | (simp only [modFab_fuse, setVal_fuse, okk_ok, okk_error, okk_ite, ite_fuse, ite_self]) | split | (dsimp only))
theorem clearHighWater_fuse (slot v : Nat) (s : State) : (clearHighWater slot v s).fuse = s.fuse := by unfold clearHighWater; (repeat' first | with_reducible rfl | (intro _) | (rw [fold_fuse]) | (rw [write_fuse]) | (rw [answer_fuse]) | (rw [serve_fuse]) | (with_reducible apply checked_okk) | (simp only [effClearHighWater_fuse, okk_ok, okk_error, okk_ite, ite_fuse, ite_self]) | split | (dsimp only))
theorem effPauseGrace_fuse (s : State) (port n : Nat) : okk (·.fuse) (effPauseGrace s port n) s := by unfold effPauseGrace; (repeat' first | with_reducible rfl | (intro _) | (rw [fold_fuse]) | (rw [write_fuse]) | (rw [answer_fuse]) | (rw [serve_fuse]) | (with_reducible apply checked_okk) | (simp only [keepVal_fuse, setVal_fuse, okk_ok, okk_error, okk_ite, ite_fuse, ite_self]) | split | (dsimp only))
theorem pauseGraceWrite_fuse (slot port v : Nat) (s : State) : (pauseGraceWrite slot port v s).fuse = s.fuse := by unfold pauseGraceWrite; (repeat' first | with_reducible rfl | (intro _) | (rw [fold_fuse]) | (rw [write_fuse]) | (rw [answer_fuse]) | (rw [serve_fuse]) | (with_reducible apply checked_okk) | (simp only [effPauseGrace_fuse, okk_ok, okk_error, okk_ite, ite_fuse, ite_self]) | split | (dsimp only))
theorem effStallLimit_fuse (s : State) (port n : Nat) : okk (·.fuse) (effStallLimit s port n) s := by unfold effStallLimit; (repeat' first | with_reducible rfl | (intro _) | (rw [fold_fuse]) | (rw [write_fuse]) | (rw [answer_fuse]) | (rw [serve_fuse]) | (with_reducible apply checked_okk) | (simp only [keepVal_fuse, okk_ok, okk_error, okk_ite, ite_fuse, ite_self]) | split | (dsimp only))
theorem stallLimitWrite_fuse (slot port v : Nat) (s : State) : (stallLimitWrite slot port v s).fuse = s.fuse := by unfold stallLimitWrite; (repeat' first | with_reducible rfl | (intro _) | (rw [fold_fuse]) | (rw [write_fuse]) | (rw [answer_fuse]) | (rw [serve_fuse]) | (with_reducible apply checked_okk) | (simp only [effStallLimit_fuse, okk_ok, okk_error, okk_ite, ite_fuse, ite_self]) | split | (dsimp only))
theorem unlockSent_fuse (f : Frame) (ago : Nat) (s : State) : (unlockSent f ago s).fuse = s.fuse := by unfold unlockSent; split <;> rfl
theorem routeReload_fuse (pdu : Bool) (i : Nat) (s : State) : (routeReload pdu i s).fuse = s.fuse := by unfold routeReload; split <;> simp only [logEvent_fuse, modSig_fuse]
theorem effStreamSlots_fuse (s : State) (b : Blob) : okk (·.fuse) (effStreamSlots s b) s := by unfold effStreamSlots; (repeat' first | with_reducible rfl | (intro _) | (rw [fold_fuse]) | (rw [write_fuse]) | (rw [answer_fuse]) | (rw [serve_fuse]) | (with_reducible apply checked_okk) | (simp only [keepBlob_fuse, okk_ok, okk_error, okk_ite, ite_fuse, ite_self]) | split | (dsimp only))
theorem streamKeySlotWrite_fuse (slot : Nat) (data : Blob) (s : State) : (streamKeySlotWrite slot data s).fuse = s.fuse := by unfold streamKeySlotWrite; (repeat' first | with_reducible rfl | (intro _) | (rw [fold_fuse]) | (rw [write_fuse]) | (rw [answer_fuse]) | (rw [serve_fuse]) | (with_reducible apply checked_okk) | (simp only [effStreamSlots_fuse, okk_ok, okk_error, okk_ite, ite_fuse, ite_self]) | split | (dsimp only))
theorem setClaim_fuse (n : Nat) (x : ClaimSt) (s : State) : (setClaim n x s).fuse = s.fuse := rfl
theorem sendClaim_fuse (n : Nat) (s : State) : (sendClaim n s).fuse = s.fuse := rfl
theorem addressClaim_fuse (n address : Nat) (s : State) : (addressClaim n address s).fuse = s.fuse := by unfold addressClaim; split <;> simp only [sendFrame_fuse, setClaim_fuse]
theorem claimRequest_fuse (n dest : Nat) (s : State) : (claimRequest n dest s).fuse = s.fuse := by unfold claimRequest; split <;> rfl
theorem effBindings_fuse (s : State) (b : Blob) : okk (·.fuse) (effBindings s b) s := by unfold effBindings; (repeat' first | with_reducible rfl | (intro _) | (rw [fold_fuse]) | (rw [write_fuse]) | (rw [answer_fuse]) | (rw [serve_fuse]) | (with_reducible apply checked_okk) | (simp only [keepBlob_fuse, modSig_fuse, okk_ok, okk_error, okk_ite, ite_fuse, ite_self]) | split | (dsimp only))
theorem bindAddress_fuse (n sa name : Nat) (s : State) : (bindAddress n sa name s).fuse = s.fuse := by unfold bindAddress; (repeat' first | with_reducible rfl | (intro _) | (rw [fold_fuse]) | (simp only [modSig_fuse, ite_fuse, ite_self]) | split | (dsimp only))
theorem claimContention_fuse (n sa name : Nat) (s : State) : (claimContention n sa name s).fuse = s.fuse := by unfold claimContention; (repeat' first | with_reducible rfl | (intro _) | (simp only [logEvent_fuse, sendClaim_fuse, setClaim_fuse, ite_fuse, ite_self]) | split | (dsimp only))
theorem addressClaimed_fuse (n sa name : Nat) (s : State) : (addressClaimed n sa name s).fuse = s.fuse := by unfold addressClaimed; split <;> simp only [bindAddress_fuse, claimContention_fuse]
theorem bamDrop_fuse (k port sa : Nat) (s : State) : (bamDrop k port sa s).fuse = s.fuse := rfl
theorem bamAbort_fuse (k port sa : Nat) (s : State) : (bamAbort k port sa s).fuse = s.fuse := by unfold bamAbort; split <;> rfl
theorem bamAnnounce_fuse (k port sa pgn size packets : Nat) (s : State) : (bamAnnounce k port sa pgn size packets s).fuse = s.fuse := by unfold bamAnnounce; (repeat' first | with_reducible rfl | (intro _) | (simp only [bamAbort_fuse, count_fuse, modSig_fuse, ite_fuse, ite_self]) | split | (dsimp only))
theorem onStart_fuse (n : Nat) (s : State) : (onStart n s).fuse = s.fuse := by unfold onStart; (repeat' first | with_reducible rfl | (intro _) | (simp only [emit_fuse, modPort_fuse, ite_fuse, ite_self]) | split | (dsimp only))
theorem startPort_fuse (n : Nat) (s : State) : (startPort n s).fuse = s.fuse := by unfold startPort; (repeat' first | with_reducible rfl | (intro _) | (simp only [flushFrames_fuse, modPort_fuse, onStart_fuse, setPortState_fuse, ite_fuse, ite_self]) | split | (dsimp only))
theorem goToSleep_fuse (n : Nat) (s : State) : (goToSleep n s).fuse = s.fuse := by unfold goToSleep; split <;> rfl
theorem stopPort_fuse (n : Nat) (s : State) : (stopPort n s).fuse = s.fuse := by simp only [stopPort, goToSleep_fuse, modPort_fuse, setPortState_fuse]
theorem withHeld_fuse (n : Nat) (s : State) : (withHeld n s).fuse = s.fuse := by unfold withHeld; split <;> rfl
theorem finishStop_fuse (n : Nat) (s : State) : (finishStop n s).fuse = s.fuse := by unfold finishStop; (repeat' first | with_reducible rfl | (intro _) | (simp only [closeEndpoint_fuse, modPort_fuse, setPortState_fuse, startPort_fuse, withHeld_fuse, ite_fuse, ite_self]) | split | (dsimp only))
theorem portStopped_fuse (n : Nat) (s : State) : (portStopped n s).fuse = s.fuse := by unfold portStopped; (repeat' first | with_reducible rfl | (intro _) | (simp only [finishStop_fuse, ite_fuse, ite_self]) | split | (dsimp only))
theorem effPortEnable_fuse (s : State) (n v : Nat) : okk (·.fuse) (effPortEnable s n v) s := by unfold effPortEnable; (repeat' first | with_reducible rfl | (intro _) | (rw [fold_fuse]) | (rw [write_fuse]) | (rw [answer_fuse]) | (rw [serve_fuse]) | (with_reducible apply checked_okk) | (simp only [finishStop_fuse, keepVal_fuse, modPort_fuse, setPortState_fuse, startPort_fuse, stopPort_fuse, okk_ok, okk_error, okk_ite, ite_fuse, ite_self]) | split | (dsimp only))
theorem recovered_fuse (n : Nat) (s : State) : (recovered n s).fuse = s.fuse := by simp only [recovered, modPort_fuse, setPortState_fuse]
theorem flushComplete_fuse (n : Nat) (s : State) : (flushComplete n s).fuse = s.fuse := by unfold flushComplete; (repeat' first | with_reducible rfl | (intro _) | (simp only [finishStop_fuse, logEvent_fuse, modPort_fuse, releaseQueues_fuse, ite_fuse, ite_self]) | split | (dsimp only))
theorem holdoffExpiry_fuse (n : Nat) (s : State) : (holdoffExpiry n s).fuse = s.fuse := by unfold holdoffExpiry; (repeat' first | with_reducible rfl | (intro _) | (simp only [modPort_fuse, recovered_fuse, setPortState_fuse, ite_fuse, ite_self]) | split | (dsimp only))
theorem policed_fuse (n cause copies : Nat) (s : State) : (policed n cause copies s).fuse = s.fuse := by unfold policed; (repeat' first | with_reducible rfl | (intro _) | (rw [fold_fuse]) | (simp only [count64_fuse, countPoliced_fuse, ite_fuse, ite_self]) | split | (dsimp only))
theorem receiveItem_fuse (n : Nat) (q1 : Bool) (x : RxItem) (s : State) : (receiveItem n q1 x s).fuse = s.fuse := by unfold receiveItem; (repeat' first | with_reducible rfl | (intro _) | (simp only [bucketCharge_fuse, logEvent_fuse, modPort_fuse, policed_fuse, setVal_fuse, ite_fuse, ite_self]) | split | (dsimp only))
theorem enterCopy_fuse (n : Nat) (x : RxItem) (c : Nat × Option Nat × Option Nat) (s : State) : (enterCopy n x c s).fuse = s.fuse := by simp only [enterCopy, sendFrame_fuse]
theorem drainQueue_fuse (n : Nat) (s : State) : (drainQueue n s).fuse = s.fuse := by unfold drainQueue; (repeat' first | with_reducible rfl | (intro _) | (rw [fold_fuse]) | (simp only [enterCopy_fuse, modPort_fuse, ite_fuse, ite_self]) | split | (dsimp only))
theorem takeFrame_fuse (id : Nat) (s : State) : (takeFrame id s).fuse = s.fuse := by simp only [takeFrame, modFrame_fuse, takeCells_fuse]
theorem canTestFrame_fuse (s : State) (n seq len : Nat) : (canTestFrame s n seq len).2.fuse = s.fuse := by unfold canTestFrame; split <;> rfl
theorem testFrameSent_fuse (n : Nat) (s : State) : (testFrameSent n s).fuse = s.fuse := by unfold testFrameSent; (repeat' first | with_reducible rfl | (intro _) | (simp only [canTestFrame_fuse, emit_fuse, modPort_fuse, ite_fuse, ite_self]) | split | (dsimp only))
theorem testVote_fuse (n : Nat) (on : Bool) (s : State) : (testVote n on s).fuse = s.fuse := rfl
theorem endPortTest_fuse (n st : Nat) (s : State) : (endPortTest n st s).fuse = s.fuse := by unfold endPortTest; (repeat' first | with_reducible rfl | (intro _) | (simp only [modPort_fuse, testVote_fuse, ite_fuse, ite_self]) | split | (dsimp only))
theorem stopPortTest_fuse (n : Nat) (s : State) : (stopPortTest n s).fuse = s.fuse := rfl
theorem startPortTest_fuse (n mode count : Nat) (s : State) : (startPortTest n mode count s).fuse = s.fuse := by unfold startPortTest; split <;> rfl
theorem modCan_fuse (n : Nat) (f : CanSt → CanSt) (s : State) : (modCan n f s).fuse = s.fuse := rfl
theorem effBitTiming_fuse (s : State) (n sb v : Nat) : okk (·.fuse) (effBitTiming s n sb v) s := by unfold effBitTiming; (repeat' first | with_reducible rfl | (intro _) | (rw [fold_fuse]) | (rw [write_fuse]) | (rw [answer_fuse]) | (rw [serve_fuse]) | (with_reducible apply checked_okk) | (simp only [keepVal_fuse, okk_ok, okk_error, okk_ite, ite_fuse, ite_self]) | split | (dsimp only))
theorem bitTimingWrite_fuse (slot n sb v : Nat) (s : State) : (bitTimingWrite slot n sb v s).fuse = s.fuse := by unfold bitTimingWrite; (repeat' first | with_reducible rfl | (intro _) | (rw [fold_fuse]) | (rw [write_fuse]) | (rw [answer_fuse]) | (rw [serve_fuse]) | (with_reducible apply checked_okk) | (simp only [effBitTiming_fuse, okk_ok, okk_error, okk_ite, ite_fuse, ite_self]) | split | (dsimp only))
theorem effXlMode_fuse (s : State) (n : Nat) (switching : Bool) (v : Nat) : okk (·.fuse) (effXlMode s n switching v) s := by unfold effXlMode; (repeat' first | with_reducible rfl | (intro _) | (rw [fold_fuse]) | (rw [write_fuse]) | (rw [answer_fuse]) | (rw [serve_fuse]) | (with_reducible apply checked_okk) | (simp only [keepVal_fuse, okk_ok, okk_error, okk_ite, ite_fuse, ite_self]) | split | (dsimp only))
theorem xlModeWrite_fuse (slot n : Nat) (switching : Bool) (v : Nat) (s : State) : (xlModeWrite slot n switching v s).fuse = s.fuse := by unfold xlModeWrite; (repeat' first | with_reducible rfl | (intro _) | (rw [fold_fuse]) | (rw [write_fuse]) | (rw [answer_fuse]) | (rw [serve_fuse]) | (with_reducible apply checked_okk) | (simp only [effXlMode_fuse, okk_ok, okk_error, okk_ite, ite_fuse, ite_self]) | split | (dsimp only))
theorem effWakeMode_fuse (s : State) (n v : Nat) : okk (·.fuse) (effWakeMode s n v) s := by unfold effWakeMode; (repeat' first | with_reducible rfl | (intro _) | (rw [fold_fuse]) | (rw [write_fuse]) | (rw [answer_fuse]) | (rw [serve_fuse]) | (with_reducible apply checked_okk) | (simp only [keepVal_fuse, okk_ok, okk_error, okk_ite, ite_fuse, ite_self]) | split | (dsimp only))
theorem wakeModeWrite_fuse (slot n v : Nat) (s : State) : (wakeModeWrite slot n v s).fuse = s.fuse := by unfold wakeModeWrite; (repeat' first | with_reducible rfl | (intro _) | (rw [fold_fuse]) | (rw [write_fuse]) | (rw [answer_fuse]) | (rw [serve_fuse]) | (with_reducible apply checked_okk) | (simp only [effWakeMode_fuse, okk_ok, okk_error, okk_ite, ite_fuse, ite_self]) | split | (dsimp only))
theorem disabledFormat_fuse (n : Nat) (s : State) : (disabledFormat n s).fuse = s.fuse := by unfold disabledFormat; (repeat' first | with_reducible rfl | (intro _) | (simp only [count_fuse, emit_fuse, modCan_fuse, modPort_fuse, ite_fuse, ite_self]) | split | (dsimp only))
theorem canReceive_fuse (n : Nat) (x : CanFrame) (ago : Nat) (s : State) : (canReceive n x ago s).fuse = s.fuse := by unfold canReceive; (repeat' first | with_reducible rfl | (intro _) | (simp only [count_fuse, disabledFormat_fuse, modCan_fuse, receiveItem_fuse, ite_fuse, ite_self]) | split | (dsimp only))
theorem receiveQueueDrain_fuse (n : Nat) (s : State) : (receiveQueueDrain n s).fuse = s.fuse := by unfold receiveQueueDrain; split <;> simp only [drainQueue_fuse]
theorem bufferLoad_fuse (n : Nat) (s : State) : (bufferLoad n s).fuse = s.fuse := by unfold bufferLoad; (repeat' first | with_reducible rfl | (intro _) | (simp only [count_fuse, frameFlushed_fuse, logEvent_fuse, modCan_fuse, takeFrame_fuse, ite_fuse, ite_self]) | split | (dsimp only))
theorem raiseTec_fuse (n by' : Nat) (s : State) : (raiseTec n by' s).fuse = s.fuse := by unfold raiseTec; (repeat' first | with_reducible rfl | (intro _) | (simp only [modCan_fuse, portDown_fuse, ite_fuse, ite_self]) | split | (dsimp only))
theorem transmitError_fuse (n : Nat) (s : State) : (transmitError n s).fuse = s.fuse := by simp only [transmitError, count_fuse, emit_fuse, raiseTec_fuse]
theorem canTransmitted_fuse (n delay ago : Nat) (s : State) : (canTransmitted n delay ago s).fuse = s.fuse := by unfold canTransmitted; (repeat' first | with_reducible rfl | (intro _) | (simp only [count_fuse, emit_fuse, frameOut_fuse, loseReference_fuse, modCan_fuse, testFrameSent_fuse, transmitError_fuse, unlockSent_fuse, ite_fuse, ite_self]) | split | (dsimp only))
theorem arbitrationLost_fuse (n : Nat) (s : State) : (arbitrationLost n s).fuse = s.fuse := by unfold arbitrationLost; split <;> rfl
theorem raiseRec_fuse (n by' : Nat) (s : State) : (raiseRec n by' s).fuse = s.fuse := rfl
theorem canErrorDetected_fuse (n : Nat) (e : CanErr) (xlData : Bool) (s : State) : (canErrorDetected n e xlData s).fuse = s.fuse := by unfold canErrorDetected; (repeat' first | with_reducible rfl | (intro _) | (simp only [count_fuse, emit_fuse, modPort_fuse, raiseRec_fuse, raiseTec_fuse, transmitError_fuse, ite_fuse, ite_self]) | split | (dsimp only))
theorem canRecoveryComplete_fuse (n : Nat) (s : State) : (canRecoveryComplete n s).fuse = s.fuse := by unfold canRecoveryComplete; (repeat' first | with_reducible rfl | (intro _) | (simp only [modCan_fuse, recovered_fuse, ite_fuse, ite_self]) | split | (dsimp only))
theorem busIntegrationComplete_fuse (n : Nat) (s : State) : (busIntegrationComplete n s).fuse = s.fuse := rfl
theorem basicCycleStart_fuse (n : Nat) (s : State) : (basicCycleStart n s).fuse = s.fuse := by unfold basicCycleStart; split <;> rfl
theorem referenceArbitrationLost_fuse (n : Nat) (s : State) : (referenceArbitrationLost n s).fuse = s.fuse := by unfold referenceArbitrationLost; split <;> rfl
theorem referenceReceive_fuse (n : Nat) (x : CanFrame) (ago : Nat) (s : State) : (referenceReceive n x ago s).fuse = s.fuse := by unfold referenceReceive; (repeat' first | with_reducible rfl | (intro _) | (simp only [count_fuse, modCan_fuse, ite_fuse, ite_self]) | split | (dsimp only))
theorem referenceTimeout_fuse (n : Nat) (s : State) : (referenceTimeout n s).fuse = s.fuse := by unfold referenceTimeout; (repeat' first | with_reducible rfl | (intro _) | (simp only [logEvent_fuse, loseReference_fuse, modCan_fuse, ite_fuse, ite_self]) | split | (dsimp only))
theorem canWake_fuse (n : Nat) (s : State) : (canWake n s).fuse = s.fuse := by simp only [canWake, count_fuse, latchWake_fuse]
theorem wakeEdge_fuse (n half : Nat) (s : State) : (wakeEdge n half s).fuse = s.fuse := by unfold wakeEdge; split <;> simp only [canWake_fuse]
theorem wakeFrame_fuse (n : Nat) (x : CanFrame) (s : State) : (wakeFrame n x s).fuse = s.fuse := by unfold wakeFrame; (repeat' first | with_reducible rfl | (intro _) | (simp only [canWake_fuse, setVal_fuse, ite_fuse, ite_self]) | split | (dsimp only))
theorem wakeDecoderError_fuse (n : Nat) (s : State) : (wakeDecoderError n s).fuse = s.fuse := by unfold wakeDecoderError; (repeat' first | with_reducible rfl | (intro _) | (simp only [canWake_fuse, setVal_fuse, ite_fuse, ite_self]) | split | (dsimp only))
theorem modLin_fuse (n : Nat) (f : LinSt → LinSt) (s : State) : (modLin n f s).fuse = s.fuse := rfl
theorem sendResponse_fuse (n ident : Nat) (f : Frame) (s : State) : (sendResponse n ident f s).fuse = s.fuse := by simp only [sendResponse, count_fuse, emit_fuse, frameOut_fuse, modLin_fuse, unlockSent_fuse]
theorem beginHeader_fuse (n ident : Nat) (own : Bool) (rate : Nat) (s : State) : (beginHeader n ident own rate s).fuse = s.fuse := rfl
theorem skipSlot_fuse (n : Nat) (close : Bool) (s : State) : (skipSlot n close s).fuse = s.fuse := by unfold skipSlot; (repeat' first | with_reducible rfl | (intro _) | (simp only [count_fuse, logEvent_fuse, modLin_fuse, ite_fuse, ite_self]) | split | (dsimp only))
theorem scheduleSlot_fuse (n ident : Nat) (s : State) : (scheduleSlot n ident s).fuse = s.fuse := by unfold scheduleSlot; (repeat' first | with_reducible rfl | (intro _) | (simp only [beginHeader_fuse, count_fuse, emit_fuse, sendResponse_fuse, skipSlot_fuse, ite_fuse, ite_self]) | split | (dsimp only))
theorem linScheduleSlot_fuse (ch ident : Nat) (s : State) : (linScheduleSlot ch ident s).fuse = s.fuse := by unfold linScheduleSlot; split <;> simp only [scheduleSlot_fuse]
theorem responseLoad_fuse (n : Nat) (s : State) : (responseLoad n s).fuse = s.fuse := by unfold responseLoad; (repeat' first | with_reducible rfl | (intro _) | (simp only [frameFlushed_fuse, free_fuse, logEvent_fuse, modLin_fuse, takeFrame_fuse, ite_fuse, ite_self]) | split | (dsimp only))
theorem headerReceived_fuse (n ident rate : Nat) (s : State) : (headerReceived n ident rate s).fuse = s.fuse := by unfold headerReceived; (repeat' first | with_reducible rfl | (intro _) | (simp only [beginHeader_fuse, count_fuse, sendResponse_fuse, setPortState_fuse, testFrameSent_fuse, ite_fuse, ite_self]) | split | (dsimp only))
theorem responseError_fuse (n ident : Nat) (data : Blob) (s : State) : (responseError n ident data s).fuse = s.fuse := by simp only [responseError, count_fuse, modLin_fuse, policed_fuse]
theorem responseComplete_fuse (n : Nat) (data : Blob) (framing : Bool) (sum : Nat) (s : State) : (responseComplete n data framing sum s).fuse = s.fuse := by unfold responseComplete; (repeat' first | with_reducible rfl | (intro _) | (simp only [count_fuse, modLin_fuse, receiveItem_fuse, responseError_fuse, ite_fuse, ite_self]) | split | (dsimp only))
theorem responseTimeout_fuse (n : Nat) (started : Bool) (s : State) : (responseTimeout n started s).fuse = s.fuse := by unfold responseTimeout; (repeat' first | with_reducible rfl | (intro _) | (simp only [count_fuse, modLin_fuse, responseError_fuse, ite_fuse, ite_self]) | split | (dsimp only))
theorem readbackError_fuse (n : Nat) (s : State) : (readbackError n s).fuse = s.fuse := by unfold readbackError; (repeat' first | with_reducible rfl | (intro _) | (simp only [count_fuse, modLin_fuse, portDown_fuse, ite_fuse, ite_self]) | split | (dsimp only))
theorem busSleepTimeout_fuse (n : Nat) (s : State) : (busSleepTimeout n s).fuse = s.fuse := by unfold busSleepTimeout; split <;> simp only [setPortState_fuse]
theorem linWakeupReceived_fuse (n : Nat) (s : State) : (linWakeupReceived n s).fuse = s.fuse := by unfold linWakeupReceived; split <;> simp only [setPortState_fuse]
theorem modEth_fuse (n : Nat) (f : EthSt → EthSt) (s : State) : (modEth n f s).fuse = s.fuse := rfl
theorem holdDown6_fuse (n : Nat) (s : State) : (holdDown6 n s).fuse = s.fuse := by unfold holdDown6; (repeat' first | with_reducible rfl | (intro _) | (simp only [logEvent_fuse, modPort_fuse, portDown_fuse, ite_fuse, ite_self]) | split | (dsimp only))
theorem linkUp_fuse (n rate : Nat) (half : Bool) (s : State) : (linkUp n rate half s).fuse = s.fuse := by unfold linkUp; (repeat' first | with_reducible rfl | (intro _) | (simp only [holdDown6_fuse, modEth_fuse, recovered_fuse, startTx_fuse, ite_fuse, ite_self]) | split | (dsimp only))
theorem linkFailure_fuse (n : Nat) (s : State) : (linkFailure n s).fuse = s.fuse := by unfold linkFailure; split <;> simp only [linkUp_fuse, modEth_fuse, portDown_fuse]
theorem sendControls_fuse (n : Nat) (s : State) : (sendControls n s).fuse = s.fuse := by unfold sendControls; (repeat' first | with_reducible rfl | (intro _) | (rw [fold_fuse]) | (simp only [count_fuse, emit_fuse, modEth_fuse, ite_fuse, ite_self]) | split | (dsimp only))
theorem frameTransmitted_fuse (n ago : Nat) (s : State) : (frameTransmitted n ago s).fuse = s.fuse := by unfold frameTransmitted; (repeat' first | with_reducible rfl | (intro _) | (simp only [count_fuse, emit_fuse, frameOut_fuse, modEth_fuse, sendControls_fuse, startTx_fuse, testFrameSent_fuse, unlockSent_fuse, ite_fuse, ite_self]) | split | (dsimp only))
theorem collision_fuse (n : Nat) (s : State) : (collision n s).fuse = s.fuse := by unfold collision; split <;> rfl
theorem backoffExpiry_fuse (n : Nat) (s : State) : (backoffExpiry n s).fuse = s.fuse := by unfold backoffExpiry; (repeat' first | with_reducible rfl | (intro _) | (simp only [count_fuse, modEth_fuse, ite_fuse, ite_self]) | split | (dsimp only))
theorem modPause_fuse (n tc : Nat) (f : PauseSt → PauseSt) (s : State) : (modPause n tc f s).fuse = s.fuse := rfl
theorem applyPause_fuse (n tc quanta : Nat) (s : State) : (applyPause n tc quanta s).fuse = s.fuse := rfl
theorem pauseReceived_fuse (n quanta : Nat) (s : State) : (pauseReceived n quanta s).fuse = s.fuse := by unfold pauseReceived; (repeat' first | with_reducible rfl | (intro _) | (rw [fold_fuse]) | (simp only [applyPause_fuse, count_fuse, startTx_fuse, ite_fuse, ite_self]) | split | (dsimp only))
theorem pfcReceived_fuse (n enables : Nat) (times : List Nat) (s : State) : (pfcReceived n enables times s).fuse = s.fuse := by unfold pfcReceived; (repeat' first | with_reducible rfl | (intro _) | (rw [fold_fuse]) | (simp only [applyPause_fuse, count_fuse, startTx_fuse, ite_fuse, ite_self]) | split | (dsimp only))
theorem pauseExpiry_fuse (n tc : Nat) (s : State) : (pauseExpiry n tc s).fuse = s.fuse := by simp only [pauseExpiry, modPause_fuse, startTx_fuse]
theorem pauseWatchdog_fuse (n tc : Nat) (s : State) : (pauseWatchdog n tc s).fuse = s.fuse := by unfold pauseWatchdog; split <;> simp only [count_fuse, logEvent_fuse, modPause_fuse, startTx_fuse]
theorem overrideTimeout_fuse (n tc : Nat) (s : State) : (overrideTimeout n tc s).fuse = s.fuse := rfl
theorem effFlowMode_fuse (s : State) (n : Nat) (half : Bool) (v : Nat) : okk (·.fuse) (effFlowMode s n half v) s := by unfold effFlowMode; (repeat' first | with_reducible rfl | (intro _) | (rw [fold_fuse]) | (rw [write_fuse]) | (rw [answer_fuse]) | (rw [serve_fuse]) | (with_reducible apply checked_okk) | (simp only [keepVal_fuse, okk_ok, okk_error, okk_ite, ite_fuse, ite_self]) | split | (dsimp only))
theorem flowModeWrite_fuse (slot n : Nat) (half : Bool) (v : Nat) (s : State) : (flowModeWrite slot n half v s).fuse = s.fuse := by unfold flowModeWrite; (repeat' first | with_reducible rfl | (intro _) | (rw [fold_fuse]) | (rw [write_fuse]) | (rw [answer_fuse]) | (rw [serve_fuse]) | (with_reducible apply checked_okk) | (simp only [effFlowMode_fuse, okk_ok, okk_error, okk_ite, ite_fuse, ite_self]) | split | (dsimp only))
theorem plcaBeacon_fuse (n : Nat) (s : State) : (plcaBeacon n s).fuse = s.fuse := by unfold plcaBeacon; split <;> rfl
theorem plcaBeaconTimeout_fuse (n : Nat) (s : State) : (plcaBeaconTimeout n s).fuse = s.fuse := by unfold plcaBeaconTimeout; split <;> rfl
theorem plcaCycle_fuse (n : Nat) (s : State) : (plcaCycle n s).fuse = s.fuse := by unfold plcaCycle; split <;> rfl
theorem phyFault_fuse (n : Nat) (s : State) : (phyFault n s).fuse = s.fuse := by unfold phyFault; split <;> simp only [modPort_fuse, portDown_fuse]
theorem faultClear_fuse (n : Nat) (s : State) : (faultClear n s).fuse = s.fuse := by unfold faultClear; (repeat' first | with_reducible rfl | (intro _) | (simp only [modEth_fuse, modPort_fuse, phyFault_fuse, ite_fuse, ite_self]) | split | (dsimp only))
theorem tsaWake_fuse (n micros : Nat) (s : State) : (tsaWake n micros s).fuse = s.fuse := by unfold tsaWake; split <;> simp only [count_fuse, latchWake_fuse]
theorem wakeBurstEnd_fuse (n : Nat) (s : State) : (wakeBurstEnd n s).fuse = s.fuse := by simp only [wakeBurstEnd, modEth_fuse, startTx_fuse]
theorem setGptpPhase_fuse (n : Nat) (offset : Int) (s : State) : (setGptpPhase n offset s).fuse = s.fuse := by unfold setGptpPhase; (repeat' first | with_reducible rfl | (intro _) | (simp only [ite_fuse, ite_self]) | split | (dsimp only))
theorem gptpSync_fuse (n : Nat) (offset : Int) (good : Bool) (delay : Option Nat) (s : State) : (gptpSync n offset good delay s).fuse = s.fuse := by unfold gptpSync; (repeat' first | with_reducible rfl | (intro _) | (simp only [logEvent_fuse, modEth_fuse, setGptpPhase_fuse, setVal_fuse, ite_fuse, ite_self]) | split | (dsimp only))
theorem pnExhaustion_fuse (n : Nat) (s : State) : (pnExhaustion n s).fuse = s.fuse := by unfold pnExhaustion; split <;> simp only [flushFrames_fuse, portDown_fuse]
theorem portEnableWrite_fuse (slot n v : Nat) (s : State) : (portEnableWrite slot n v s).fuse = s.fuse := by unfold portEnableWrite; (repeat' first | with_reducible rfl | (intro _) | (rw [fold_fuse]) | (rw [write_fuse]) | (rw [answer_fuse]) | (rw [serve_fuse]) | (with_reducible apply checked_okk) | (simp only [effPortEnable_fuse, okk_ok, okk_error, okk_ite, ite_fuse, ite_self]) | split | (dsimp only))
theorem modLane_fuse (l : Nat) (f : Lane → Lane) (s : State) : (modLane l f s).fuse = s.fuse := rfl
theorem copyKey_fuse (l i : Nat) (s : State) : (copyKey l i s).fuse = s.fuse := by unfold copyKey; split <;> rfl
theorem beginPass_fuse (l : Nat) (reserved : Bool) (p : LanePass) (s : State) : (beginPass l reserved p s).fuse = s.fuse := by unfold beginPass; split <;> simp only [copyKey_fuse, modLane_fuse]
theorem startDynamic_fuse (l : Nat) (s : State) : (startDynamic l s).fuse = s.fuse := by unfold startDynamic; (repeat' first | with_reducible rfl | (intro _) | (simp only [beginPass_fuse, modLane_fuse, ite_fuse, ite_self]) | split | (dsimp only))
theorem startReserved_fuse (l : Nat) (s : State) : (startReserved l s).fuse = s.fuse := by unfold startReserved; split <;> simp only [beginPass_fuse, modLane_fuse]
theorem nextPass_fuse (l : Nat) (s : State) : (nextPass l s).fuse = s.fuse := by unfold nextPass; (repeat' first | with_reducible rfl | (intro _) | (simp only [modLane_fuse, startDynamic_fuse, startReserved_fuse, ite_fuse, ite_self]) | split | (dsimp only))
theorem addDynamic_fuse (l : Nat) (p : LanePass) (s : State) : (addDynamic l p s).fuse = s.fuse := by simp only [addDynamic, modLane_fuse, startDynamic_fuse]
theorem addReserved_fuse (home l : Nat) (p : LanePass) (s : State) : (addReserved home l p s).fuse = s.fuse := by unfold addReserved; (repeat' first | with_reducible rfl | (intro _) | (simp only [modLane_fuse, startReserved_fuse, ite_fuse, ite_self]) | split | (dsimp only))
theorem cipherLaneSlot_fuse (home : Nat) (s : State) : (cipherLaneSlot home s).fuse = s.fuse := by unfold cipherLaneSlot; (repeat' first | with_reducible rfl | (intro _) | (simp only [count_fuse, logEvent_fuse, modLane_fuse, startReserved_fuse, ite_fuse, ite_self]) | split | (dsimp only))
theorem effLaneKey_fuse (s : State) (l : Nat) (key3 : Bool) (b : Blob) : okk (·.fuse) (effLaneKey s l key3 b) s := by unfold effLaneKey; (repeat' first | with_reducible rfl | (intro _) | (rw [fold_fuse]) | (rw [write_fuse]) | (rw [answer_fuse]) | (rw [serve_fuse]) | (with_reducible apply checked_okk) | (simp only [modLane_fuse, okk_ok, okk_error, okk_ite, ite_fuse, ite_self]) | split | (dsimp only))
theorem laneKeyWrite_fuse (l : Nat) (key3 : Bool) (key : Blob) (s : State) : (laneKeyWrite l key3 key s).fuse = s.fuse := by unfold laneKeyWrite; (repeat' first | with_reducible rfl | (intro _) | (rw [fold_fuse]) | (rw [write_fuse]) | (rw [answer_fuse]) | (rw [serve_fuse]) | (with_reducible apply checked_okk) | (simp only [effLaneKey_fuse, okk_ok, okk_error, okk_ite, ite_fuse, ite_self]) | split | (dsimp only))
theorem takePn_fuse (n : Nat) (s : State) : (takePn n s).fuse = s.fuse := by unfold takePn; (repeat' first | with_reducible rfl | (intro _) | (simp only [logEvent_fuse, modEth_fuse, ite_fuse, ite_self]) | split | (dsimp only))
theorem pickPortLane_fuse (s : State) (n : Nat) (rx : Bool) : (pickPortLane s n rx).2.fuse = s.fuse := rfl
theorem consumeAtF29_fuse (id : Nat) (s : State) : (consumeAtF29 id s).fuse = s.fuse := by unfold consumeAtF29; split <;> simp only [countOut_fuse, takeFrame_fuse]
theorem endAtF29_fuse (id : Nat) (s : State) : (endAtF29 id s).fuse = s.fuse := rfl
theorem tooLong_fuse (n id : Nat) (s : State) : (tooLong n id s).fuse = s.fuse := by simp only [tooLong, consumeAtF29_fuse, count_fuse, endAtF29_fuse, logEvent_fuse]
theorem laneAnswer_fuse (discard : Bool) (tag : Byte) (status : Nat) (data : Blob) (s : State) : (laneAnswer discard tag status data s).fuse = s.fuse := by unfold laneAnswer; split <;> rfl
theorem issueLaneReq_fuse (op : Nat) (r : LaneReq) (discard : Bool) (s : State) : (issueLaneReq op r discard s).fuse = s.fuse := by unfold issueLaneReq; (repeat' first | with_reducible rfl | (intro _) | (simp only [addDynamic_fuse, laneAnswer_fuse, ite_fuse, ite_self]) | split | (dsimp only))
theorem laneRequest_fuse (op : Nat) (r : LaneReq) (s : State) : (laneRequest op r s).fuse = s.fuse := by unfold laneRequest; (repeat' first | with_reducible rfl | (intro _) | (simp only [issueLaneReq_fuse, laneAnswer_fuse, ite_fuse, ite_self]) | split | (dsimp only))
theorem laneEncrypt_fuse (r : LaneReq) (s : State) : (laneEncrypt r s).fuse = s.fuse := by simp only [laneEncrypt, laneRequest_fuse]
theorem laneDecrypt_fuse (r : LaneReq) (s : State) : (laneDecrypt r s).fuse = s.fuse := by simp only [laneDecrypt, laneRequest_fuse]
theorem laneMacGenerate_fuse (r : LaneReq) (s : State) : (laneMacGenerate r s).fuse = s.fuse := by simp only [laneMacGenerate, laneRequest_fuse]
theorem laneMacVerify_fuse (r : LaneReq) (s : State) : (laneMacVerify r s).fuse = s.fuse := by simp only [laneMacVerify, laneRequest_fuse]
theorem laneAnswerRead_fuse (s : State) : (laneAnswerRead s).fuse = s.fuse := by unfold laneAnswerRead; (repeat' first | with_reducible rfl | (intro _) | (simp only [emit_fuse, ite_fuse, ite_self]) | split | (dsimp only))
theorem keeperPass_fuse (l : Nat) (p : LanePass) (r : LaneReq) (s : State) : (keeperPass l p r s).fuse = s.fuse := by unfold keeperPass; (repeat' first | with_reducible rfl | (intro _) | (simp only [count_fuse, emit_fuse, laneAnswer_fuse, ite_fuse, ite_self]) | split | (dsimp only))
theorem releaseAtF29_fuse (f : Frame) (out : Nat) (bytes : Blob) (pdu next : Option Nat) (s : State) : (releaseAtF29 f out bytes pdu next s).fuse = s.fuse := by simp only [releaseAtF29, crossed_fuse, sendFrame_fuse]
theorem releaseSealed_fuse (f : Frame) (o : Nat) (bytes : Blob) (s : State) : (releaseSealed f o bytes s).fuse = s.fuse := by unfold releaseSealed; split <;> simp only [releaseAtF29_fuse]
theorem sealTxEnd_fuse (f : Frame) (d : BitVec 512) (o : Nat) (s : State) : (sealTxEnd f d o s).fuse = s.fuse := by unfold sealTxEnd; split <;> simp only [count_fuse, logEvent_fuse, releaseSealed_fuse]
theorem macRxEnd_fuse (f : Frame) (s : State) : (macRxEnd f s).fuse = s.fuse := by unfold macRxEnd; (repeat' first | with_reducible rfl | (intro _) | (rw [fold_fuse]) | (simp only [count_fuse, modEth_fuse, releaseAtF29_fuse, ite_fuse, ite_self]) | split | (dsimp only))
theorem framePass_fuse (p : LanePass) (f : Frame) (s : State) : (framePass p f s).fuse = s.fuse := by unfold framePass; (repeat' first | with_reducible rfl | (intro _) | (simp only [count_fuse, endAtF29_fuse, macRxEnd_fuse, releaseAtF29_fuse, sealTxEnd_fuse, ite_fuse, ite_self]) | split | (dsimp only))
theorem finishPass_fuse (l : Nat) (reserved : Bool) (p : LanePass) (s : State) : (finishPass l reserved p s).fuse = s.fuse := by unfold finishPass; (repeat' first | with_reducible rfl | (intro _) | (simp only [count_fuse, framePass_fuse, keeperPass_fuse, modLane_fuse, nextPass_fuse, ite_fuse, ite_self]) | split | (dsimp only))
theorem cipherPassComplete_fuse (l : Nat) (reserved : Bool) (s : State) : (cipherPassComplete l reserved s).fuse = s.fuse := by unfold cipherPassComplete; (repeat' first | with_reducible rfl | (intro _) | (simp only [finishPass_fuse, ite_fuse, ite_self]) | split | (dsimp only))
theorem abandonPass_fuse (l : Nat) (p : LanePass) (s : State) : (abandonPass l p s).fuse = s.fuse := by unfold abandonPass; split <;> simp only [count_fuse, endAtF29_fuse, laneAnswer_fuse, logEvent_fuse]
theorem moveWaiting_fuse (l : Nat) (dst : Option Nat) (s : State) : (moveWaiting l dst s).fuse = s.fuse := by unfold moveWaiting; (repeat' first | with_reducible rfl | (intro _) | (simp only [modLane_fuse, startDynamic_fuse, ite_fuse, ite_self]) | split | (dsimp only))
theorem laneMiscompare_fuse (l : Nat) (p : LanePass) (s : State) : (laneMiscompare l p s).fuse = s.fuse := by unfold laneMiscompare; (repeat' first | with_reducible rfl | (intro _) | (simp only [abandonPass_fuse, beginPass_fuse, count_fuse, logEvent_fuse, modLane_fuse, moveWaiting_fuse, ite_fuse, ite_self]) | split | (dsimp only))
theorem cipherBlockComplete_fuse (l : Nat) (miscompare : Bool) (s : State) : (cipherBlockComplete l miscompare s).fuse = s.fuse := by unfold cipherBlockComplete; (repeat' first | with_reducible rfl | (intro _) | (simp only [laneMiscompare_fuse, modLane_fuse, ite_fuse, ite_self]) | split | (dsimp only))
theorem laneBack_fuse (l : Nat) (s : State) : (laneBack l s).fuse = s.fuse := by unfold laneBack; (repeat' first | with_reducible rfl | (intro _) | (rw [fold_fuse]) | (simp only [issueLaneReq_fuse, modLane_fuse, startDynamic_fuse, ite_fuse, ite_self]) | split | (dsimp only))
theorem laneTestComplete_fuse (l : Nat) (pass : Bool) (s : State) : (laneTestComplete l pass s).fuse = s.fuse := by unfold laneTestComplete; (repeat' first | with_reducible rfl | (intro _) | (simp only [modLane_fuse, ite_fuse, ite_self]) | split | (dsimp only))
theorem returnLanes_fuse (s : State) : (returnLanes s).fuse = s.fuse := by unfold returnLanes; (repeat' first | with_reducible rfl | (intro _) | (rw [fold_fuse]) | (simp only [laneBack_fuse, ite_fuse, ite_self]) | split | (dsimp only))
theorem maskReseed_fuse (l : Nat) (good : Bool) (s : State) : (maskReseed l good s).fuse = s.fuse := by unfold maskReseed; (repeat' first | with_reducible rfl | (intro _) | (simp only [count_fuse, logEvent_fuse, modLane_fuse, ite_fuse, ite_self]) | split | (dsimp only))
theorem tamperPass_fuse (p : LanePass) (s : State) : (tamperPass p s).fuse = s.fuse := by unfold tamperPass; (repeat' first | with_reducible rfl | (intro _) | (simp only [count_fuse, endAtF29_fuse, laneAnswer_fuse, releaseAtF29_fuse, ite_fuse, ite_self]) | split | (dsimp only))
theorem tamperLanes_fuse (s : State) : (tamperLanes s).fuse = s.fuse := by unfold tamperLanes; (repeat' first | with_reducible rfl | (intro _) | (rw [fold_fuse]) | (simp only [tamperPass_fuse, ite_fuse, ite_self]) | split | (dsimp only))
theorem effLaneEnable_fuse (s : State) (l v : Nat) : okk (·.fuse) (effLaneEnable s l v) s := by unfold effLaneEnable; (repeat' first | with_reducible rfl | (intro _) | (rw [fold_fuse]) | (rw [write_fuse]) | (rw [answer_fuse]) | (rw [serve_fuse]) | (with_reducible apply checked_okk) | (simp only [keepVal_fuse, laneBack_fuse, modLane_fuse, moveWaiting_fuse, okk_ok, okk_error, okk_ite, ite_fuse, ite_self]) | split | (dsimp only))
theorem laneEnableWrite_fuse (slot l v : Nat) (s : State) : (laneEnableWrite slot l v s).fuse = s.fuse := by unfold laneEnableWrite; (repeat' first | with_reducible rfl | (intro _) | (rw [fold_fuse]) | (rw [write_fuse]) | (rw [answer_fuse]) | (rw [serve_fuse]) | (with_reducible apply checked_okk) | (simp only [effLaneEnable_fuse, okk_ok, okk_error, okk_ite, ite_fuse, ite_self]) | split | (dsimp only))
theorem laneStopped_fuse (l : Nat) (s : State) : (laneStopped l s).fuse = s.fuse := by unfold laneStopped; (repeat' first | with_reducible rfl | (intro _) | (simp only [laneBack_fuse, modLane_fuse, ite_fuse, ite_self]) | split | (dsimp only))
theorem modUwb_fuse (f : UwbSt → UwbSt) (s : State) : (modUwb f s).fuse = s.fuse := rfl
theorem modRound_fuse (f : UwbRound → UwbRound) (s : State) : (modRound f s).fuse = s.fuse := rfl
theorem modExchange_fuse (f : Exchange → Exchange) (s : State) : (modExchange f s).fuse = s.fuse := rfl
theorem openRound_fuse (pattern zone : Nat) (tail : List Nat) (slotByte : Nat) (nb : Blob) (s : State) : (openRound pattern zone tail slotByte nb s).fuse = s.fuse := by unfold openRound; split <;> simp only [count_fuse, modUwb_fuse, setVote_fuse]
theorem failureEvent_fuse (z id : Nat) (s : State) : (failureEvent z id s).fuse = s.fuse := by simp only [failureEvent, logEvent_fuse]
theorem roundFailure_fuse (id : Nat) (s : State) : (roundFailure id s).fuse = s.fuse := by unfold roundFailure; split <;> simp only [failureEvent_fuse, modRound_fuse]
theorem admitTo_fuse (z : Nat) (index : Nat) (ks : Blob) (s : State) : (admitTo z index ks s).fuse = s.fuse := by simp only [admitTo, openSession_fuse]
theorem applyRound_fuse (s : State) : (applyRound s).fuse = s.fuse := by unfold applyRound; (repeat' first | with_reducible rfl | (intro _) | (rw [fold_fuse]) | (simp only [admitTo_fuse, lockFailure_fuse, lockSuccess_fuse, modUwb_fuse, setVote_fuse, ite_fuse, ite_self]) | split | (dsimp only))
theorem preemptRound_fuse (s : State) : (preemptRound s).fuse = s.fuse := by unfold preemptRound; split <;> simp only [applyRound_fuse, countN_fuse]
theorem answerPeriodOpen_fuse (s : State) : (answerPeriodOpen s).fuse = s.fuse := by unfold answerPeriodOpen; (repeat' first | with_reducible rfl | (intro _) | (simp only [modRound_fuse, ite_fuse, ite_self]) | split | (dsimp only))
theorem ignoredAnswer_fuse (z : Nat) (s : State) : (ignoredAnswer z s).fuse = s.fuse := rfl
theorem answerInSlot_fuse (r : UwbRound) (slot id : Nat) (nk pk : Blob) (tails : List Nat) (s : State) : (answerInSlot r slot id nk pk tails s).fuse = s.fuse := by unfold answerInSlot; (repeat' first | with_reducible rfl | (intro _) | (simp only [ignoredAnswer_fuse, modRound_fuse, roundFailure_fuse, ite_fuse, ite_self]) | split | (dsimp only))
theorem answerToRepoll_fuse (r : UwbRound) (index slot id : Nat) (nk pk : Blob) (tails : List Nat) (s : State) : (answerToRepoll r index slot id nk pk tails s).fuse = s.fuse := by unfold answerToRepoll; (repeat' first | with_reducible rfl | (intro _) | (simp only [ignoredAnswer_fuse, modRound_fuse, roundFailure_fuse, ite_fuse, ite_self]) | split | (dsimp only))
theorem answerToUchal_fuse (index z : Nat) (nb : Blob) (id : Nat) (nk pk : Blob) (s : State) : (answerToUchal index z nb id nk pk s).fuse = s.fuse := by unfold answerToUchal; (repeat' first | with_reducible rfl | (intro _) | (simp only [failureEvent_fuse, ignoredAnswer_fuse, lockFailure_fuse, modUwb_fuse, ite_fuse, ite_self]) | split | (dsimp only))
theorem uwbAnswer_fuse (slot atPs : Nat) (b : Blob) (s : State) : (uwbAnswer slot atPs b s).fuse = s.fuse := by unfold uwbAnswer; (repeat' first | with_reducible rfl | (intro _) | (simp only [answerInSlot_fuse, answerToRepoll_fuse, answerToUchal_fuse, ite_fuse, ite_self]) | split | (dsimp only))
theorem answerSlotEnd_fuse (slot : Nat) (ports : List SlotReport) (s : State) : (answerSlotEnd slot ports s).fuse = s.fuse := by unfold answerSlotEnd; (repeat' first | with_reducible rfl | (intro _) | (simp only [count_fuse, modRound_fuse, ite_fuse, ite_self]) | split | (dsimp only))
theorem repoll_fuse (s : State) : (repoll s).fuse = s.fuse := by unfold repoll; (repeat' first | with_reducible rfl | (intro _) | (simp only [count_fuse, emit_fuse, modRound_fuse, ite_fuse, ite_self]) | split | (dsimp only))
theorem stamped_fuse (t : BitVec 40) (s : State) : (stamped t s).fuse = s.fuse := rfl
theorem sendRpoll_fuse (channel : Nat) (nb : Blob) (e : Exchange) (sent : BitVec 40) (s : State) : (sendRpoll channel nb e sent s).fuse = s.fuse := rfl
theorem exchangeStart_fuse (sent : BitVec 40) (s : State) : (exchangeStart sent s).fuse = s.fuse := by unfold exchangeStart; (repeat' first | with_reducible rfl | (intro _) | (simp only [count_fuse, modRound_fuse, sendRpoll_fuse, ite_fuse, ite_self]) | split | (dsimp only))
theorem storeResult_fuse (e : Exchange) (db outcome : Nat) (s : State) : (storeResult e db outcome s).fuse = s.fuse := rfl
theorem exchangeFails_fuse (e : Exchange) (db outcome : Nat) (s : State) : (exchangeFails e db outcome s).fuse = s.fuse := by unfold exchangeFails; (repeat' first | with_reducible rfl | (intro _) | (simp only [failureEvent_fuse, lockFailure_fuse, modExchange_fuse, roundFailure_fuse, storeResult_fuse, ite_fuse, ite_self]) | split | (dsimp only))
theorem abortExchange_fuse (e : Exchange) (s : State) : (abortExchange e s).fuse = s.fuse := by unfold abortExchange; (repeat' first | with_reducible rfl | (intro _) | (simp only [count_fuse, modExchange_fuse, modRound_fuse, repoll_fuse, storeResult_fuse, ite_fuse, ite_self]) | split | (dsimp only))
theorem rresp_fuse (received : BitVec 40) (sts : Sts) (phase : Int) (s : State) : (rresp received sts phase s).fuse = s.fuse := by unfold rresp; (repeat' first | with_reducible rfl | (intro _) | (simp only [abortExchange_fuse, draw_fuse, emit_fuse, modExchange_fuse, stamped_fuse, ite_fuse, ite_self]) | split | (dsimp only))
theorem foragerAnswer_fuse (i : Nat) (sent received : BitVec 40) (pol : Bool) (s : State) : (foragerAnswer i sent received pol s).fuse = s.fuse := by unfold foragerAnswer; (repeat' first | with_reducible rfl | (intro _) | (simp only [modExchange_fuse, stamped_fuse, ite_fuse, ite_self]) | split | (dsimp only))
theorem decisionRefuses_fuse (e : Exchange) (key outcome : Nat) (s : State) : (decisionRefuses e key outcome s).fuse = s.fuse := by simp only [decisionRefuses, count_fuse, exchangeFails_fuse]
theorem rangeDecision_fuse (e : Exchange) (s : State) : (rangeDecision e s).fuse = s.fuse := by unfold rangeDecision; (repeat' first | with_reducible rfl | (intro _) | (simp only [count_fuse, decisionRefuses_fuse, emit_fuse, modExchange_fuse, storeResult_fuse, ite_fuse, ite_self]) | split | (dsimp only))
theorem rreport_fuse (b : Blob) (received : BitVec 40) (s : State) : (rreport b received s).fuse = s.fuse := by unfold rreport; (repeat' first | with_reducible rfl | (intro _) | (simp only [abortExchange_fuse, count_fuse, exchangeFails_fuse, modExchange_fuse, rangeDecision_fuse, stamped_fuse, ite_fuse, ite_self]) | split | (dsimp only))
theorem ack_fuse (b : Blob) (received : BitVec 40) (s : State) : (ack b received s).fuse = s.fuse := by unfold ack; (repeat' first | with_reducible rfl | (intro _) | (simp only [admitTo_fuse, count_fuse, exchangeFails_fuse, lockSuccess_fuse, modExchange_fuse, modRound_fuse, stamped_fuse, storeResult_fuse, ite_fuse, ite_self]) | split | (dsimp only))
theorem frameTimeout_fuse (s : State) : (frameTimeout s).fuse = s.fuse := by unfold frameTimeout; (repeat' first | with_reducible rfl | (intro _) | (simp only [abortExchange_fuse, ack_fuse, exchangeFails_fuse, modRound_fuse, modUwb_fuse, ite_fuse, ite_self]) | split | (dsimp only))
theorem exchangeSlotEnd_fuse (s : State) : (exchangeSlotEnd s).fuse = s.fuse := by unfold exchangeSlotEnd; (repeat' first | with_reducible rfl | (intro _) | (simp only [frameTimeout_fuse, modUwb_fuse, ite_fuse, ite_self]) | split | (dsimp only))
theorem roundEnd_fuse (s : State) : (roundEnd s).fuse = s.fuse := by unfold roundEnd; (repeat' first | with_reducible rfl | (intro _) | (simp only [applyRound_fuse, ite_fuse, ite_self]) | split | (dsimp only))
theorem yieldToSlot_fuse (s : State) : (yieldToSlot s).fuse = s.fuse := by unfold yieldToSlot; (repeat' first | with_reducible rfl | (intro _) | (simp only [count_fuse, modRound_fuse, modUwb_fuse, repoll_fuse, ite_fuse, ite_self]) | split | (dsimp only))
theorem rangingSlot_fuse (index z : Nat) (s : State) : (rangingSlot index z s).fuse = s.fuse := by unfold rangingSlot; (repeat' first | with_reducible rfl | (intro _) | (simp only [count_fuse, draw_fuse, emit_fuse, modUwb_fuse, yieldToSlot_fuse, ite_fuse, ite_self]) | split | (dsimp only))
theorem setUwbState_fuse (st : FnState) (s : State) : (setUwbState st s).fuse = s.fuse := by unfold setUwbState; split <;> simp only [logEvent_fuse, modUwb_fuse]
theorem uwbFault_fuse (s : State) : (uwbFault s).fuse = s.fuse := by unfold uwbFault; (repeat' first | with_reducible rfl | (intro _) | (simp only [modUwb_fuse, setUwbState_fuse, setVote_fuse, ite_fuse, ite_self]) | split | (dsimp only))
theorem uwbStops_fuse (s : State) : (uwbStops s).fuse = s.fuse := by unfold uwbStops; (repeat' first | with_reducible rfl | (intro _) | (simp only [applyRound_fuse, count_fuse, modUwb_fuse, ite_fuse, ite_self]) | split | (dsimp only))
theorem effUwbEnable_fuse (s : State) (v : Nat) : okk (·.fuse) (effUwbEnable s v) s := by unfold effUwbEnable; (repeat' first | with_reducible rfl | (intro _) | (rw [fold_fuse]) | (rw [write_fuse]) | (rw [answer_fuse]) | (rw [serve_fuse]) | (with_reducible apply checked_okk) | (simp only [keepVal_fuse, setUwbState_fuse, uwbStops_fuse, okk_ok, okk_error, okk_ite, ite_fuse, ite_self]) | split | (dsimp only))
theorem uwbEnableWrite_fuse (slot v : Nat) (s : State) : (uwbEnableWrite slot v s).fuse = s.fuse := by unfold uwbEnableWrite; (repeat' first | with_reducible rfl | (intro _) | (rw [fold_fuse]) | (rw [write_fuse]) | (rw [answer_fuse]) | (rw [serve_fuse]) | (with_reducible apply checked_okk) | (simp only [effUwbEnable_fuse, okk_ok, okk_error, okk_ite, ite_fuse, ite_self]) | split | (dsimp only))
theorem uwbStopped_fuse (s : State) : (uwbStopped s).fuse = s.fuse := by unfold uwbStopped; split <;> simp only [setUwbState_fuse]
theorem modLf_fuse (f : LfSt → LfSt) (s : State) : (modLf f s).fuse = s.fuse := rfl
theorem modTp_fuse (f : TpSt → TpSt) (s : State) : (modTp f s).fuse = s.fuse := rfl
theorem setChan_fuse (c : Nat) (st : FnState) (s : State) : (setChan c st s).fuse = s.fuse := by unfold setChan; split <;> simp only [logEvent_fuse, modLf_fuse]
theorem trigger_fuse (r : Nat) (s : State) : (trigger r s).fuse = s.fuse := by unfold trigger; (repeat' first | with_reducible rfl | (intro _) | (simp only [count_fuse, modLf_fuse, ite_fuse, ite_self]) | split | (dsimp only))
theorem afterStartSet_fuse (s : State) : (afterStartSet s).fuse = s.fuse := by unfold afterStartSet; (repeat' first | with_reducible rfl | (intro _) | (simp only [trigger_fuse, ite_fuse, ite_self]) | split | (dsimp only))
theorem patternDone_fuse (i : Nat) (s : State) : (patternDone i s).fuse = s.fuse := by unfold patternDone; (repeat' first | with_reducible rfl | (intro _) | (simp only [afterStartSet_fuse, modLf_fuse, ite_fuse, ite_self]) | split | (dsimp only))
theorem chargeField_fuse (s : State) : (chargeField s).fuse = s.fuse := by unfold chargeField; (repeat' first | with_reducible rfl | (intro _) | (simp only [emit_fuse, modLf_fuse, modTp_fuse, ite_fuse, ite_self]) | split | (dsimp only))
theorem loopbackRuns_fuse (s : State) : (loopbackRuns s).fuse = s.fuse := rfl
theorem patternEnd_fuse (s : State) : (patternEnd s).fuse = s.fuse := by unfold patternEnd; split <;> simp only [modLf_fuse, patternDone_fuse]
theorem preemptUser_fuse (s : State) : (preemptUser s).fuse = s.fuse := by unfold preemptUser; (repeat' first | with_reducible rfl | (intro _) | (simp only [count_fuse, emit_fuse, modLf_fuse, modTp_fuse, ite_fuse, ite_self]) | split | (dsimp only))
theorem periodicTimer_fuse (i : Nat) (s : State) : (periodicTimer i s).fuse = s.fuse := by unfold periodicTimer; split <;> simp only [trigger_fuse]
theorem lfShort_fuse (c : Nat) (s : State) : (lfShort c s).fuse = s.fuse := by unfold lfShort; (repeat' first | with_reducible rfl | (intro _) | (simp only [count_fuse, modLf_fuse, setChan_fuse, ite_fuse, ite_self]) | split | (dsimp only))
theorem touched_fuse (i : Nat) (s : State) : (touched i s).fuse = s.fuse := by unfold touched; (repeat' first | with_reducible rfl | (intro _) | (rw [fold_fuse]) | (simp only [count_fuse, latchWake_fuse, modLf_fuse, trigger_fuse, ite_fuse, ite_self]) | split | (dsimp only))
theorem scanInput_fuse (i cap : Nat) (s : State) : (scanInput i cap s).fuse = s.fuse := by unfold scanInput; (repeat' first | with_reducible rfl | (intro _) | (simp only [modLf_fuse, touched_fuse, ite_fuse, ite_self]) | split | (dsimp only))
theorem touchScan_fuse (caps : List Nat) (s : State) : (touchScan caps s).fuse = s.fuse := by unfold touchScan; (repeat' first | with_reducible rfl | (intro _) | (rw [fold_fuse]) | (simp only [scanInput_fuse, ite_fuse, ite_self]) | split | (dsimp only))
theorem effPatternTable_fuse (s : State) (b : Blob) : okk (·.fuse) (effPatternTable s b) s := by unfold effPatternTable; (repeat' first | with_reducible rfl | (intro _) | (rw [fold_fuse]) | (rw [write_fuse]) | (rw [answer_fuse]) | (rw [serve_fuse]) | (with_reducible apply checked_okk) | (simp only [keepBlob_fuse, okk_ok, okk_error, okk_ite, ite_fuse, ite_self]) | split | (dsimp only))
theorem patternTableWrite_fuse (slot : Nat) (d : Blob) (s : State) : (patternTableWrite slot d s).fuse = s.fuse := by unfold patternTableWrite; (repeat' first | with_reducible rfl | (intro _) | (rw [fold_fuse]) | (rw [write_fuse]) | (rw [answer_fuse]) | (rw [serve_fuse]) | (with_reducible apply checked_okk) | (simp only [effPatternTable_fuse, okk_ok, okk_error, okk_ite, ite_fuse, ite_self]) | split | (dsimp only))
theorem effWakeId_fuse (s : State) (v : Nat) : okk (·.fuse) (effWakeId s v) s := by unfold effWakeId; (repeat' first | with_reducible rfl | (intro _) | (rw [fold_fuse]) | (rw [write_fuse]) | (rw [answer_fuse]) | (rw [serve_fuse]) | (with_reducible apply checked_okk) | (simp only [keepVal_fuse, okk_ok, okk_error, okk_ite, ite_fuse, ite_self]) | split | (dsimp only))
theorem wakeIdWrite_fuse (slot v : Nat) (s : State) : (wakeIdWrite slot v s).fuse = s.fuse := by unfold wakeIdWrite; (repeat' first | with_reducible rfl | (intro _) | (rw [fold_fuse]) | (rw [write_fuse]) | (rw [answer_fuse]) | (rw [serve_fuse]) | (with_reducible apply checked_okk) | (simp only [effWakeId_fuse, okk_ok, okk_error, okk_ite, ite_fuse, ite_self]) | split | (dsimp only))
theorem bridgeOff_fuse (c : Nat) (s : State) : (bridgeOff c s).fuse = s.fuse := rfl
theorem effLfEnable_fuse (s : State) (c v : Nat) : okk (·.fuse) (effLfEnable s c v) s := by unfold effLfEnable; (repeat' first | with_reducible rfl | (intro _) | (rw [fold_fuse]) | (rw [write_fuse]) | (rw [answer_fuse]) | (rw [serve_fuse]) | (with_reducible apply checked_okk) | (simp only [keepVal_fuse, setChan_fuse, okk_ok, okk_error, okk_ite, ite_fuse, ite_self]) | split | (dsimp only))
theorem lfChannelEnableWrite_fuse (slot c v : Nat) (s : State) : (lfChannelEnableWrite slot c v s).fuse = s.fuse := by unfold lfChannelEnableWrite; (repeat' first | with_reducible rfl | (intro _) | (rw [fold_fuse]) | (rw [write_fuse]) | (rw [answer_fuse]) | (rw [serve_fuse]) | (with_reducible apply checked_okk) | (simp only [effLfEnable_fuse, okk_ok, okk_error, okk_ite, ite_fuse, ite_self]) | split | (dsimp only))
theorem lfStoppedNow_fuse (c : Nat) (s : State) : (lfStoppedNow c s).fuse = s.fuse := by unfold lfStoppedNow; split <;> simp only [bridgeOff_fuse, setChan_fuse]
theorem tpSend_fuse (s : State) (bits : List Bool) : (tpSend s bits).fuse = s.fuse := rfl
theorem tpEnd_fuse (s : State) : (tpEnd s).fuse = s.fuse := rfl
theorem tpNext_fuse (s : State) : (tpNext s).fuse = s.fuse := by unfold tpNext; (repeat' first | with_reducible rfl | (intro _) | (simp only [draw_fuse, modTp_fuse, tpEnd_fuse, tpSend_fuse, ite_fuse, ite_self]) | split | (dsimp only))
theorem tpListed_fuse (s : State) : (tpListed s).fuse = s.fuse := by simp only [tpListed, countN_fuse, modTp_fuse, setBlob_fuse, tpNext_fuse]
theorem tpWalk_fuse (s : State) : (tpWalk s).fuse = s.fuse := by unfold tpWalk; (repeat' first | with_reducible rfl | (intro _) | (simp only [modTp_fuse, tpListed_fuse, tpSend_fuse, ite_fuse, ite_self]) | split | (dsimp only))
theorem chargeComplete_fuse (s : State) : (chargeComplete s).fuse = s.fuse := by unfold chargeComplete; split <;> rfl
theorem transponderStart_fuse (s : State) : (transponderStart s).fuse = s.fuse := by unfold transponderStart; split <;> simp only [chargeField_fuse, modLf_fuse]
theorem tpFailure_fuse (id : Nat) (s : State) : (tpFailure id s).fuse = s.fuse := by simp only [tpFailure, lockFailure_fuse, logEvent_fuse]
theorem tpRepeat_fuse (s : State) : (tpRepeat s).fuse = s.fuse := by unfold tpRepeat; (repeat' first | with_reducible rfl | (intro _) | (simp only [modTp_fuse, tpSend_fuse, ite_fuse, ite_self]) | split | (dsimp only))
theorem tpBadAnswer_fuse (s : State) : (tpBadAnswer s).fuse = s.fuse := by unfold tpBadAnswer; (repeat' first | with_reducible rfl | (intro _) | (simp only [tpEnd_fuse, tpFailure_fuse, tpRepeat_fuse, ite_fuse, ite_self]) | split | (dsimp only))
theorem tpNoAnswer_fuse (s : State) : (tpNoAnswer s).fuse = s.fuse := by unfold tpNoAnswer; (repeat' first | with_reducible rfl | (intro _) | (simp only [tpBadAnswer_fuse, tpRepeat_fuse, tpWalk_fuse, ite_fuse, ite_self]) | split | (dsimp only))
theorem tpInventory_fuse (p : List Bool) (a : TransponderAnswer) (s : State) : (tpInventory p a s).fuse = s.fuse := by unfold tpInventory; (repeat' first | with_reducible rfl | (intro _) | (simp only [modTp_fuse, tpBadAnswer_fuse, tpWalk_fuse, ite_fuse, ite_self]) | split | (dsimp only))
theorem tpAuth_fuse (id : Nat) (a : TransponderAnswer) (s : State) : (tpAuth id a s).fuse = s.fuse := by unfold tpAuth; (repeat' first | with_reducible rfl | (intro _) | (simp only [modTp_fuse, tpBadAnswer_fuse, tpFailure_fuse, tpNext_fuse, tpSend_fuse, ite_fuse, ite_self]) | split | (dsimp only))
theorem tpConfirm_fuse (id : Nat) (a : TransponderAnswer) (s : State) : (tpConfirm id a s).fuse = s.fuse := by unfold tpConfirm; (repeat' first | with_reducible rfl | (intro _) | (simp only [lockSuccess_fuse, openSession_fuse, tpBadAnswer_fuse, tpEnd_fuse, tpFailure_fuse, tpNext_fuse, ite_fuse, ite_self]) | split | (dsimp only))
theorem transponderAnswer_fuse (a : TransponderAnswer) (s : State) : (transponderAnswer a s).fuse = s.fuse := by unfold transponderAnswer; (repeat' first | with_reducible rfl | (intro _) | (simp only [tpAuth_fuse, tpBadAnswer_fuse, tpConfirm_fuse, tpInventory_fuse, ite_fuse, ite_self]) | split | (dsimp only))
theorem lockEnd_fuse (z : Nat) (s : State) : (lockEnd z s).fuse = s.fuse := by unfold lockEnd; split <;> simp only [putLock_fuse]
theorem sessionTimeout_fuse (s : State) : (sessionTimeout s).fuse = s.fuse := by unfold sessionTimeout; (repeat' first | with_reducible rfl | (intro _) | (simp only [endSession_fuse, ite_fuse, ite_self]) | split | (dsimp only))
theorem doorRead_fuse (s : State) : (doorRead s).fuse = s.fuse := by unfold doorRead; (repeat' first | with_reducible rfl | (intro _) | (simp only [endSession_fuse, modLf_fuse, ite_fuse, ite_self]) | split | (dsimp only))
theorem startRequested_fuse (s : State) : (startRequested s).fuse = s.fuse := by unfold startRequested; (repeat' first | with_reducible rfl | (intro _) | (rw [fold_fuse]) | (simp only [afterStartSet_fuse, modLf_fuse, trigger_fuse, ite_fuse, ite_self]) | split | (dsimp only))
theorem startRead_fuse (s : State) : (startRead s).fuse = s.fuse := by unfold startRead; (repeat' first | with_reducible rfl | (intro _) | (simp only [modLf_fuse, startRequested_fuse, ite_fuse, ite_self]) | split | (dsimp only))
theorem slrHalfPeriod_fuse (padA padB : Bool) (s : State) : (slrHalfPeriod padA padB s).fuse = s.fuse := by unfold slrHalfPeriod; (repeat' first | with_reducible rfl | (intro _) | (simp only [count_fuse, emit_fuse, logEvent_fuse, modLf_fuse, slrLow_fuse, ite_fuse, ite_self]) | split | (dsimp only))
theorem recordWrite_fuse (who area type id : Nat) (txn commit delete : Bool) (payload : Blob) (s : State) : (recordWrite who area type id txn commit delete payload s).fuse = s.fuse := by unfold recordWrite; split <;> simp only [emit_fuse, logEvent_fuse]
theorem storeGrant_fuse (s : State) : (storeGrant s).fuse = s.fuse := by unfold storeGrant; (repeat' first | with_reducible rfl | (intro _) | (simp only [ite_fuse, ite_self]) | split | (dsimp only))
theorem recordCopyComplete_fuse (s : State) : (recordCopyComplete s).fuse = s.fuse := by unfold recordCopyComplete; (repeat' first | with_reducible rfl | (intro _) | (simp only [countN_fuse, emit_fuse, storeLine_fuse, ite_fuse, ite_self]) | split | (dsimp only))
theorem abandonKeeperTransactions_fuse (s : State) : (abandonKeeperTransactions s).fuse = s.fuse := rfl
theorem compactionSlice_fuse (a : Nat) (s : State) : (compactionSlice a s).fuse = s.fuse := by unfold compactionSlice; (repeat' first | with_reducible rfl | (intro _) | (simp only [countN_fuse, ite_fuse, ite_self]) | split | (dsimp only))
theorem scanRecords_fuse (a : Nat) (types : Nat → Bool) (ds : List CopyDamage) (s : State) : (scanRecords a types ds s).fuse = s.fuse := by unfold scanRecords; (repeat' first | with_reducible rfl | (intro _) | (rw [fold_fuse]) | (simp only [countN_fuse, logEvent_fuse, ite_fuse, ite_self]) | split | (dsimp only))
theorem scanArea_fuse (a : Nat) (ds : List CopyDamage) (s : State) : (scanArea a ds s).fuse = s.fuse := by simp only [scanArea, countN_fuse, scanRecords_fuse]
theorem dropPending_fuse (s : State) : (dropPending s).fuse = s.fuse := rfl
theorem restartCounter_fuse (c : Nat) (s : State) : (restartCounter c s).fuse = s.fuse := by unfold restartCounter; (repeat' first | with_reducible rfl | (intro _) | (simp only [count_fuse, ite_fuse, ite_self]) | split | (dsimp only))
theorem damageCounter_fuse (s : State) (d : CopyDamage) : (damageCounter s d).fuse = s.fuse := by unfold damageCounter; split <;> rfl
theorem tagRecover_fuse (s : State) : (tagRecover s).fuse = s.fuse := by unfold tagRecover; (repeat' first | with_reducible rfl | (intro _) | (simp only [counterAdd_fuse, ite_fuse, ite_self]) | split | (dsimp only))
theorem scanVaultRow_fuse (s : State) : (scanVaultRow s).fuse = s.fuse := by unfold scanVaultRow; (repeat' first | with_reducible rfl | (intro _) | (simp only [count_fuse, logEvent_fuse, ite_fuse, ite_self]) | split | (dsimp only))
theorem counterUpdate_fuse (c n : Nat) (s : State) : (counterUpdate c n s).fuse = s.fuse := by unfold counterUpdate; split <;> rfl
theorem snapshotReplace_fuse (content : Blob) (s : State) : (snapshotReplace content s).fuse = s.fuse := by unfold snapshotReplace; split <;> simp only [snapshotPut_fuse]
theorem areaWrite_fuse (a off size : Nat) (d : Blob) (s : State) : okk (·.fuse) (areaWrite a off size d s) s := by unfold areaWrite; (repeat' first | with_reducible rfl | (intro _) | (rw [fold_fuse]) | (rw [write_fuse]) | (rw [answer_fuse]) | (rw [serve_fuse]) | (with_reducible apply checked_okk) | (simp only [countN_fuse, storeLine_fuse, okk_ok, okk_error, okk_ite, ite_fuse, ite_self]) | split | (dsimp only))
theorem mWrite_fuse (x : Session) (d : Blob) (s : State) : okk (·.fuse) (mWrite x d s) s := by unfold mWrite; (repeat' first | with_reducible rfl | (intro _) | (rw [fold_fuse]) | (rw [write_fuse]) | (rw [answer_fuse]) | (rw [serve_fuse]) | (with_reducible apply checked_okk) | (simp only [areaWrite_fuse, okk_ok, okk_error, okk_ite, ite_fuse, ite_self]) | split | (dsimp only))
theorem mDataWrite_fuse (slot : Nat) (d : Blob) (s : State) : (mDataWrite slot d s).fuse = s.fuse := by unfold mDataWrite; (repeat' first | with_reducible rfl | (intro _) | (rw [fold_fuse]) | (rw [write_fuse]) | (rw [answer_fuse]) | (rw [serve_fuse]) | (with_reducible apply checked_okk) | (simp only [mWrite_fuse, okk_ok, okk_error, okk_ite, ite_fuse, ite_self]) | split | (dsimp only))
theorem blockProtect_fuse (v : Nat) (s : State) : okk (·.fuse) (blockProtect v s) s := by unfold blockProtect; (repeat' first | with_reducible rfl | (intro _) | (rw [fold_fuse]) | (rw [write_fuse]) | (rw [answer_fuse]) | (rw [serve_fuse]) | (with_reducible apply checked_okk) | (simp only [keepVal_fuse, okk_ok, okk_error, okk_ite, ite_fuse, ite_self]) | split | (dsimp only))
theorem blockProtectWrite_fuse (slot v : Nat) (s : State) : (blockProtectWrite slot v s).fuse = s.fuse := by unfold blockProtectWrite; (repeat' first | with_reducible rfl | (intro _) | (rw [fold_fuse]) | (rw [write_fuse]) | (rw [answer_fuse]) | (rw [serve_fuse]) | (with_reducible apply checked_okk) | (simp only [blockProtect_fuse, okk_ok, okk_error, okk_ite, ite_fuse, ite_self]) | split | (dsimp only))
theorem wWrite_fuse (slot : Nat) (x : Session) (d : Blob) (s : State) : okk (·.fuse) (wWrite slot x d s) s := by unfold wWrite; (repeat' first | with_reducible rfl | (intro _) | (rw [fold_fuse]) | (rw [write_fuse]) | (rw [answer_fuse]) | (rw [serve_fuse]) | (with_reducible apply checked_okk) | (simp only [areaWrite_fuse, okk_ok, okk_error, okk_ite, ite_fuse, ite_self]) | split | (dsimp only))
theorem wDataWrite_fuse (slot : Nat) (d : Blob) (s : State) : (wDataWrite slot d s).fuse = s.fuse := by unfold wDataWrite; (repeat' first | with_reducible rfl | (intro _) | (rw [fold_fuse]) | (rw [write_fuse]) | (rw [answer_fuse]) | (rw [serve_fuse]) | (with_reducible apply checked_okk) | (simp only [wWrite_fuse, okk_ok, okk_error, okk_ite, ite_fuse, ite_self]) | split | (dsimp only))
theorem modNfc_fuse (f : NfcSt → NfcSt) (s : State) : (modNfc f s).fuse = s.fuse := rfl
theorem nfcSend_fuse (b : Blob) (s : State) : (nfcSend b s).fuse = s.fuse := rfl
theorem setFieldDet_fuse (low : Bool) (s : State) : (setFieldDet low s).fuse = s.fuse := by unfold setFieldDet; split <;> rfl
theorem setOwnField_fuse (on : Bool) (s : State) : (setOwnField on s).fuse = s.fuse := rfl
theorem readerOff_fuse (s : State) : (readerOff s).fuse = s.fuse := rfl
theorem fieldDetect_fuse (s : State) : (fieldDetect s).fuse = s.fuse := by unfold fieldDetect; (repeat' first | with_reducible rfl | (intro _) | (simp only [count_fuse, latchWake_fuse, modNfc_fuse, readerOff_fuse, setFieldDet_fuse, ite_fuse, ite_self]) | split | (dsimp only))
theorem fieldLoss_fuse (s : State) : (fieldLoss s).fuse = s.fuse := by unfold fieldLoss; (repeat' first | with_reducible rfl | (intro _) | (simp only [modNfc_fuse, ite_fuse, ite_self]) | split | (dsimp only))
theorem fieldDetRelease_fuse (s : State) : (fieldDetRelease s).fuse = s.fuse := by unfold fieldDetRelease; split <;> simp only [setFieldDet_fuse]
theorem serveCard_fuse (s : State) : (serveCard s).fuse = s.fuse := by unfold serveCard; split <;> rfl
theorem nextCard_fuse (s : State) : (nextCard s).fuse = s.fuse := by simp only [nextCard, modNfc_fuse, serveCard_fuse]
theorem deselectCard_fuse (s : State) : (deselectCard s).fuse = s.fuse := by simp only [deselectCard, nextCard_fuse, nfcSend_fuse]
theorem loseCard_fuse (s : State) : (loseCard s).fuse = s.fuse := by simp only [loseCard, count_fuse, nextCard_fuse]
theorem nfcPoll_fuse (cards : List Blob) (s : State) : (nfcPoll cards s).fuse = s.fuse := by unfold nfcPoll; (repeat' first | with_reducible rfl | (intro _) | (simp only [countN_fuse, count_fuse, modNfc_fuse, serveCard_fuse, setBlob_fuse, setOwnField_fuse, ite_fuse, ite_self]) | split | (dsimp only))
theorem phoneStart_fuse (s : State) : (phoneStart s).fuse = s.fuse := by unfold phoneStart; split <;> simp only [deselectCard_fuse, draw_fuse, modNfc_fuse, nfcSend_fuse]
theorem phoneFails_fuse (id : Nat) (s : State) : (phoneFails id s).fuse = s.fuse := by simp only [phoneFails, tpFailure_fuse]
theorem phoneAnswer1_fuse (nb d : Blob) (s : State) : (phoneAnswer1 nb d s).fuse = s.fuse := by unfold phoneAnswer1; (repeat' first | with_reducible rfl | (intro _) | (simp only [deselectCard_fuse, modNfc_fuse, nfcSend_fuse, phoneFails_fuse, ite_fuse, ite_self]) | split | (dsimp only))
theorem phoneAnswer2_fuse (nb nk : Blob) (index : Nat) (d : Blob) (s : State) : (phoneAnswer2 nb nk index d s).fuse = s.fuse := by unfold phoneAnswer2; split <;> simp only [deselectCard_fuse, lockSuccess_fuse, openSession_fuse, phoneFails_fuse]
theorem cardBlock_fuse (d : Blob) (inTime : Bool) (s : State) : (cardBlock d inTime s).fuse = s.fuse := by unfold cardBlock; (repeat' first | with_reducible rfl | (intro _) | (simp only [deselectCard_fuse, keeperLine_fuse, modNfc_fuse, phoneAnswer1_fuse, phoneAnswer2_fuse, phoneFails_fuse, phoneStart_fuse, ite_fuse, ite_self]) | split | (dsimp only))
theorem cardBad_fuse (s : State) : (cardBad s).fuse = s.fuse := by unfold cardBad; (repeat' first | with_reducible rfl | (intro _) | (simp only [loseCard_fuse, modNfc_fuse, nfcSend_fuse, phoneFails_fuse, ite_fuse, ite_self]) | split | (dsimp only))
theorem cardWtx_fuse (m : Nat) (s : State) : (cardWtx m s).fuse = s.fuse := by unfold cardWtx; (repeat' first | with_reducible rfl | (intro _) | (simp only [cardBad_fuse, deselectCard_fuse, loseCard_fuse, modNfc_fuse, nfcSend_fuse, phoneFails_fuse, ite_fuse, ite_self]) | split | (dsimp only))
theorem cardResponse_fuse (r : CardResponse) (s : State) : (cardResponse r s).fuse = s.fuse := by unfold cardResponse; split <;> simp only [cardBad_fuse, cardBlock_fuse, cardWtx_fuse]
theorem effReaderExchange_fuse (s : State) (b : Blob) : okk (·.fuse) (effReaderExchange s b) s := by unfold effReaderExchange; (repeat' first | with_reducible rfl | (intro _) | (rw [fold_fuse]) | (rw [write_fuse]) | (rw [answer_fuse]) | (rw [serve_fuse]) | (with_reducible apply checked_okk) | (simp only [deselectCard_fuse, modNfc_fuse, nfcSend_fuse, okk_ok, okk_error, okk_ite, ite_fuse, ite_self]) | split | (dsimp only))
theorem readerExchange_fuse (apdu : Blob) (s : State) : (readerExchange apdu s).fuse = s.fuse := by unfold readerExchange; (repeat' first | with_reducible rfl | (intro _) | (rw [fold_fuse]) | (rw [write_fuse]) | (rw [answer_fuse]) | (rw [serve_fuse]) | (with_reducible apply checked_okk) | (simp only [effReaderExchange_fuse, okk_ok, okk_error, okk_ite, ite_fuse, ite_self]) | split | (dsimp only))
theorem readerOfferTimeout_fuse (s : State) : (readerOfferTimeout s).fuse = s.fuse := by unfold readerOfferTimeout; split <;> simp only [deselectCard_fuse]
theorem setNfcState_fuse (st : FnState) (s : State) : (setNfcState st s).fuse = s.fuse := by unfold setNfcState; split <;> simp only [logEvent_fuse, modNfc_fuse]
theorem nfcStops_fuse (s : State) : (nfcStops s).fuse = s.fuse := by unfold nfcStops; split <;> rfl
theorem effNfcEnable_fuse (s : State) (v : Nat) : okk (·.fuse) (effNfcEnable s v) s := by unfold effNfcEnable; (repeat' first | with_reducible rfl | (intro _) | (rw [fold_fuse]) | (rw [write_fuse]) | (rw [answer_fuse]) | (rw [serve_fuse]) | (with_reducible apply checked_okk) | (simp only [keepVal_fuse, nfcStops_fuse, setNfcState_fuse, okk_ok, okk_error, okk_ite, ite_fuse, ite_self]) | split | (dsimp only))
theorem nfcEnableWrite_fuse (slot v : Nat) (s : State) : (nfcEnableWrite slot v s).fuse = s.fuse := by unfold nfcEnableWrite; (repeat' first | with_reducible rfl | (intro _) | (rw [fold_fuse]) | (rw [write_fuse]) | (rw [answer_fuse]) | (rw [serve_fuse]) | (with_reducible apply checked_okk) | (simp only [effNfcEnable_fuse, okk_ok, okk_error, okk_ite, ite_fuse, ite_self]) | split | (dsimp only))
theorem nfcStopped_fuse (s : State) : (nfcStopped s).fuse = s.fuse := by unfold nfcStopped; (repeat' first | with_reducible rfl | (intro _) | (simp only [modNfc_fuse, setNfcState_fuse, ite_fuse, ite_self]) | split | (dsimp only))
theorem tagActivation_fuse (s : State) : (tagActivation s).fuse = s.fuse := by unfold tagActivation; (repeat' first | with_reducible rfl | (intro _) | (simp only [draw_fuse, modNfc_fuse, nfcSend_fuse, ite_fuse, ite_self]) | split | (dsimp only))
theorem ppsRefused_fuse (s : State) : (ppsRefused s).fuse = s.fuse := rfl
theorem tagSelect_fuse (t : TagSelect) (s : State) : (tagSelect t s).fuse = s.fuse := by unfold tagSelect; (repeat' first | with_reducible rfl | (intro _) | (simp only [modNfc_fuse, nfcSend_fuse, ite_fuse, ite_self]) | split | (dsimp only))
theorem readBinary_fuse (off len : Nat) (s : State) : (readBinary off len s).fuse = s.fuse := by unfold readBinary; (repeat' first | with_reducible rfl | (intro _) | (simp only [free_fuse, modNfc_fuse, nfcSend_fuse, ite_fuse, ite_self]) | split | (dsimp only))
theorem openIntent_fuse (file off role : Nat) (field : Bool) (d : Blob) (s : State) : (openIntent file off role field d s).fuse = s.fuse := rfl
theorem tagFileWrite_fuse (file role : Nat) (d : Blob) (s : State) : (tagFileWrite file role d s).fuse = s.fuse := by simp only [tagFileWrite, commitIntent_fuse, openIntent_fuse]
theorem updateBinary_fuse (off : Nat) (d : Blob) (energy : Bool) (s : State) : (updateBinary off d energy s).fuse = s.fuse := by unfold updateBinary; (repeat' first | with_reducible rfl | (intro _) | (simp only [modNfc_fuse, nfcSend_fuse, openIntent_fuse, ite_fuse, ite_self]) | split | (dsimp only))
theorem tagWriteComplete_fuse (s : State) : (tagWriteComplete s).fuse = s.fuse := by unfold tagWriteComplete; (repeat' first | with_reducible rfl | (intro _) | (simp only [commitIntent_fuse, modNfc_fuse, nfcSend_fuse, openIntent_fuse, ite_fuse, ite_self]) | split | (dsimp only))
theorem makerAuth_fuse (pk sig : Blob) (s : State) : (makerAuth pk sig s).fuse = s.fuse := by unfold makerAuth; (repeat' first | with_reducible rfl | (intro _) | (simp only [draw_fuse, modNfc_fuse, nfcSend_fuse, ite_fuse, ite_self]) | split | (dsimp only))
theorem startNfcAttest_fuse (nonce : Blob) (s : State) : (startNfcAttest nonce s).fuse = s.fuse := by unfold startNfcAttest; split <;> rfl
theorem attestApdu_fuse (nonce : Blob) (s : State) : (attestApdu nonce s).fuse = s.fuse := by unfold attestApdu; (repeat' first | with_reducible rfl | (intro _) | (simp only [modNfc_fuse, nfcSend_fuse, startNfcAttest_fuse, ite_fuse, ite_self]) | split | (dsimp only))
theorem tagDeselect_fuse (s : State) : (tagDeselect s).fuse = s.fuse := by unfold tagDeselect; split <;> rfl
theorem wtxExtensionEnd_fuse (s : State) : (wtxExtensionEnd s).fuse = s.fuse := by unfold wtxExtensionEnd; (repeat' first | with_reducible rfl | (intro _) | (simp only [free_fuse, modNfc_fuse, nfcSend_fuse, startNfcAttest_fuse, ite_fuse, ite_self]) | split | (dsimp only))
theorem modTamper_fuse (f : TamperSt → TamperSt) (s : State) : (modTamper f s).fuse = s.fuse := rfl
theorem countTrips_fuse (m : BitVec 32) (s : State) : (countTrips m s).fuse = s.fuse := by unfold countTrips; (repeat' first | with_reducible rfl | (intro _) | (rw [fold_fuse]) | (simp only [count_fuse, modTamper_fuse, ite_fuse, ite_self]) | split | (dsimp only))
theorem logTrip_fuse (i : Nat) (s : State) : (logTrip i s).fuse = s.fuse := by simp only [logTrip, logEvent_fuse]
theorem setLatch_fuse (m : BitVec 32) (s : State) : (setLatch m s).fuse = s.fuse := by unfold setLatch; (repeat' first | with_reducible rfl | (intro _) | (rw [fold_fuse]) | (simp only [logTrip_fuse, modTamper_fuse, ite_fuse, ite_self]) | split | (dsimp only))
theorem logUnlogged_fuse (s : State) : (logUnlogged s).fuse = s.fuse := by unfold logUnlogged; (repeat' first | with_reducible rfl | (intro _) | (rw [fold_fuse]) | (simp only [logTrip_fuse, modTamper_fuse, ite_fuse, ite_self]) | split | (dsimp only))
theorem accessTampered_fuse (s : State) : (accessTampered s).fuse = s.fuse := by simp only [accessTampered, endSession_fuse, modUwb_fuse]
theorem effLoopCheck_fuse (s : State) (mask : Nat) (bad : Byte) : okk (·.fuse) (effLoopCheck s mask bad) s := by unfold effLoopCheck; (repeat' first | with_reducible rfl | (intro _) | (rw [fold_fuse]) | (rw [write_fuse]) | (rw [answer_fuse]) | (rw [serve_fuse]) | (with_reducible apply checked_okk) | (simp only [modTamper_fuse, okk_ok, okk_error, okk_ite, ite_fuse, ite_self]) | split | (dsimp only))
theorem loopCheck_fuse (slot mask : Nat) (bad : Byte) (s : State) : (loopCheck slot mask bad s).fuse = s.fuse := by unfold loopCheck; (repeat' first | with_reducible rfl | (intro _) | (rw [fold_fuse]) | (rw [write_fuse]) | (rw [answer_fuse]) | (rw [serve_fuse]) | (with_reducible apply checked_okk) | (simp only [effLoopCheck_fuse, okk_ok, okk_error, okk_ite, ite_fuse, ite_self]) | split | (dsimp only))
theorem effTamperConfig_fuse (s : State) (sb v : Nat) : okk (·.fuse) (effTamperConfig s sb v) s := by unfold effTamperConfig; (repeat' first | with_reducible rfl | (intro _) | (rw [fold_fuse]) | (rw [write_fuse]) | (rw [answer_fuse]) | (rw [serve_fuse]) | (with_reducible apply checked_okk) | (simp only [modTamper_fuse, okk_ok, okk_error, okk_ite, ite_fuse, ite_self]) | split | (dsimp only))
theorem tamperConfigWrite_fuse (slot sub v : Nat) (s : State) : (tamperConfigWrite slot sub v s).fuse = s.fuse := by unfold tamperConfigWrite; (repeat' first | with_reducible rfl | (intro _) | (rw [fold_fuse]) | (rw [write_fuse]) | (rw [answer_fuse]) | (rw [serve_fuse]) | (with_reducible apply checked_okk) | (simp only [effTamperConfig_fuse, okk_ok, okk_error, okk_ite, ite_fuse, ite_self]) | split | (dsimp only))
theorem modLink_fuse (f : LinkSt → LinkSt) (s : State) : (modLink f s).fuse = s.fuse := rfl
theorem markFlit_fuse (toHive failed : Bool) (s : State) : (markFlit toHive failed s).fuse = s.fuse := rfl
theorem linkTrain_fuse (s : State) : (linkTrain s).fuse = s.fuse := by unfold linkTrain; split <;> rfl
theorem setKeeperSlot_fuse (i : Nat) (k : Option KeeperSlot) (s : State) : (setKeeperSlot i k s).fuse = s.fuse := rfl
theorem startSlot_fuse (i : Nat) (s : State) : (startSlot i s).fuse = s.fuse := rfl
theorem closeSessions_fuse (s : State) : (closeSessions s).fuse = s.fuse := by unfold closeSessions; (repeat' first | with_reducible rfl | (intro _) | (rw [fold_fuse]) | (simp only [closeSession_fuse, putSession_fuse, ite_fuse, ite_self]) | split | (dsimp only))
theorem dropKeeperWork_fuse (s : State) : (dropKeeperWork s).fuse = s.fuse := by unfold dropKeeperWork; (repeat' first | with_reducible rfl | (intro _) | (rw [fold_fuse]) | (simp only [abandonKeeperTransactions_fuse, closeSessions_fuse, countN_fuse, discardJournal_fuse, leaveGptp_fuse, loseReference_fuse, ite_fuse, ite_self]) | split | (dsimp only))
theorem keeperReset_fuse (cause : Nat) (s : State) : (keeperReset cause s).fuse = s.fuse := by unfold keeperReset; (repeat' first | with_reducible rfl | (intro _) | (simp only [bootDue_fuse, count_fuse, dropKeeperWork_fuse, logEvent_fuse, ite_fuse, ite_self]) | split | (dsimp only))
theorem logRestart_fuse (src processor tcode : Nat) (s : State) : (logRestart src processor tcode s).fuse = s.fuse := by simp only [logRestart, logEvent_fuse]
theorem accessRestart_fuse (tcode : Nat) (s : State) : (accessRestart tcode s).fuse = s.fuse := by unfold accessRestart; (repeat' first | with_reducible rfl | (intro _) | (simp only [bootDue_fuse, endSession_fuse, logRestart_fuse, slrLow_fuse, ite_fuse, ite_self]) | split | (dsimp only))
theorem modPair_fuse (p : Nat) (f : PairSt → PairSt) (s : State) : (modPair p f s).fuse = s.fuse := rfl
theorem modCol_fuse (c : Nat) (f : ColSt → ColSt) (s : State) : (modCol c f s).fuse = s.fuse := rfl
theorem setPairState_fuse (p : Nat) (st : FnState) (s : State) : (setPairState p st s).fuse = s.fuse := by unfold setPairState; split <;> simp only [keeperLine_fuse, logEvent_fuse, modPair_fuse]
theorem finishWindow_fuse (c : Nat) (s : State) : (finishWindow c s).fuse = s.fuse := by unfold finishWindow; (repeat' first | with_reducible rfl | (intro _) | (rw [fold_fuse]) | (simp only [modCol_fuse, modPair_fuse, ite_fuse, ite_self]) | split | (dsimp only))
theorem runOverrun_fuse (p : Nat) (s : State) : (runOverrun p s).fuse = s.fuse := by unfold runOverrun; split <;> simp only [count_fuse, finishWindow_fuse, logEvent_fuse]
theorem runEnded_fuse (p : Nat) (s : State) : (runEnded p s).fuse = s.fuse := rfl
theorem loadCode_fuse (p : Nat) (ws : List Nat) (s : State) : (loadCode p ws s).fuse = s.fuse := by unfold loadCode; split <;> rfl
theorem loadColumn_fuse (p col : Nat) (s : State) : (loadColumn p col s).fuse = s.fuse := by unfold loadColumn; split <;> simp only [loadCode_fuse]
theorem beginRun_fuse (p : Nat) (r : WinRun) (s : State) : (beginRun p r s).fuse = s.fuse := by unfold beginRun; split <;> rfl
theorem windowMissed_fuse (col w pair : Nat) (s : State) : (windowMissed col w pair s).fuse = s.fuse := by simp only [windowMissed, count_fuse, finishWindow_fuse, logEvent_fuse]
theorem recordRetired_fuse (s : State) : (recordRetired s).fuse = s.fuse := by simp only [recordRetired, commitS_fuse]
theorem cancelSwap_fuse (detail : Nat) (s : State) : (cancelSwap detail s).fuse = s.fuse := by simp only [cancelSwap, count_fuse, keeperLine_fuse, logEvent_fuse]
theorem recheckStandby_fuse (s : State) : (recheckStandby s).fuse = s.fuse := by unfold recheckStandby; (repeat' first | with_reducible rfl | (intro _) | (simp only [cancelSwap_fuse, ite_fuse, ite_self]) | split | (dsimp only))
theorem retirePair_fuse (p : Nat) (s : State) : (retirePair p s).fuse = s.fuse := by unfold retirePair; split <;> simp only [modPair_fuse, recheckStandby_fuse, recordRetired_fuse, setPairState_fuse]
theorem firstMiscompare_fuse (p : Nat) (r : WinRun) (s : State) : (firstMiscompare p r s).fuse = s.fuse := by unfold firstMiscompare; (repeat' first | with_reducible rfl | (intro _) | (simp only [beginRun_fuse, ite_fuse, ite_self]) | split | (dsimp only))
theorem secondMiscompare_fuse (p : Nat) (r : WinRun) (s : State) : (secondMiscompare p r s).fuse = s.fuse := by unfold secondMiscompare; (repeat' first | with_reducible rfl | (intro _) | (simp only [count_fuse, keeperLine_fuse, logEvent_fuse, modPair_fuse, retirePair_fuse, windowMissed_fuse, ite_fuse, ite_self]) | split | (dsimp only))
theorem miscompare_fuse (p : Nat) (s : State) : (miscompare p s).fuse = s.fuse := by unfold miscompare; (repeat' first | with_reducible rfl | (intro _) | (simp only [count_fuse, firstMiscompare_fuse, modPair_fuse, secondMiscompare_fuse, ite_fuse, ite_self]) | split | (dsimp only))
theorem columnLoaded_fuse (p : Nat) (s : State) : (columnLoaded p s).fuse = s.fuse := by unfold columnLoaded; split <;> simp only [loadColumn_fuse, modPair_fuse]
theorem spareLoaded_fuse (p : Nat) (s : State) : (spareLoaded p s).fuse = s.fuse := by unfold spareLoaded; (repeat' first | with_reducible rfl | (intro _) | (simp only [columnLoaded_fuse, loadCode_fuse, modPair_fuse, ite_fuse, ite_self]) | split | (dsimp only))
theorem windowOverrun_fuse (col : Nat) (s : State) : (windowOverrun col s).fuse = s.fuse := by unfold windowOverrun; (repeat' first | with_reducible rfl | (intro _) | (simp only [runOverrun_fuse, ite_fuse, ite_self]) | split | (dsimp only))
theorem windowDeadline_fuse (col : Nat) (s : State) : (windowDeadline col s).fuse = s.fuse := by unfold windowDeadline; (repeat' first | with_reducible rfl | (intro _) | (simp only [retirePair_fuse, windowMissed_fuse, ite_fuse, ite_self]) | split | (dsimp only))
theorem startPairUnit_fuse (p : Nat) (s : State) : (startPairUnit p s).fuse = s.fuse := by simp only [startPairUnit, modPair_fuse, setPairState_fuse]
theorem effPairEnable_fuse (s : State) (p v : Nat) : okk (·.fuse) (effPairEnable s p v) s := by unfold effPairEnable; (repeat' first | with_reducible rfl | (intro _) | (rw [fold_fuse]) | (rw [write_fuse]) | (rw [answer_fuse]) | (rw [serve_fuse]) | (with_reducible apply checked_okk) | (simp only [modPair_fuse, setPairState_fuse, setVal_fuse, startPairUnit_fuse, okk_ok, okk_error, okk_ite, ite_fuse, ite_self]) | split | (dsimp only))
theorem pairEnableWrite_fuse (slot p v : Nat) (s : State) : (pairEnableWrite slot p v s).fuse = s.fuse := by unfold pairEnableWrite; (repeat' first | with_reducible rfl | (intro _) | (rw [fold_fuse]) | (rw [write_fuse]) | (rw [answer_fuse]) | (rw [serve_fuse]) | (with_reducible apply checked_okk) | (simp only [effPairEnable_fuse, okk_ok, okk_error, okk_ite, ite_fuse, ite_self]) | split | (dsimp only))
theorem drainLoaded_fuse (p : Nat) (s : State) : (drainLoaded p s).fuse = s.fuse := by unfold drainLoaded; split <;> simp only [columnLoaded_fuse, loadColumn_fuse, modPair_fuse]
theorem pairStopped_fuse (p : Nat) (s : State) : (pairStopped p s).fuse = s.fuse := by unfold pairStopped; (repeat' first | with_reducible rfl | (intro _) | (simp only [modPair_fuse, setPairState_fuse, startPairUnit_fuse, ite_fuse, ite_self]) | split | (dsimp only))
theorem effRequalify_fuse (s : State) (p v : Nat) : okk (·.fuse) (effRequalify s p v) s := by unfold effRequalify; (repeat' first | with_reducible rfl | (intro _) | (rw [fold_fuse]) | (rw [write_fuse]) | (rw [answer_fuse]) | (rw [serve_fuse]) | (with_reducible apply checked_okk) | (simp only [modPair_fuse, setVote_fuse, okk_ok, okk_error, okk_ite, ite_fuse, ite_self]) | split | (dsimp only))
theorem requalifyWrite_fuse (slot p v : Nat) (s : State) : (requalifyWrite slot p v s).fuse = s.fuse := by unfold requalifyWrite; (repeat' first | with_reducible rfl | (intro _) | (rw [fold_fuse]) | (rw [write_fuse]) | (rw [answer_fuse]) | (rw [serve_fuse]) | (with_reducible apply checked_okk) | (simp only [effRequalify_fuse, okk_ok, okk_error, okk_ite, ite_fuse, ite_self]) | split | (dsimp only))
theorem requalified_fuse (p : Nat) (pass : Bool) (s : State) : (requalified p pass s).fuse = s.fuse := by unfold requalified; (repeat' first | with_reducible rfl | (intro _) | (simp only [logEvent_fuse, modPair_fuse, recordRetired_fuse, retirePair_fuse, setPairState_fuse, setVote_fuse, ite_fuse, ite_self]) | split | (dsimp only))
theorem modCore_fuse (c : CoreId) (f : PfCore → PfCore) (s : State) : (modCore c f s).fuse = s.fuse := by unfold modCore; split <;> rfl
theorem odWindowStore_fuse (a : Nat) (v : PfWord) (s : State) : (odWindowStore a v s).fuse = s.fuse := by unfold odWindowStore; (repeat' first | with_reducible rfl | (intro _) | (simp only [logEvent_fuse, ite_fuse, ite_self]) | split | (dsimp only))
theorem strayAccess_fuse (a : Nat) (s : State) : (strayAccess a s).fuse = s.fuse := by simp only [strayAccess, logEvent_fuse]
theorem loadWord_fuse (c : CoreId) (a : Nat) (s : State) : (loadWord c a s).2.fuse = s.fuse := by unfold loadWord; (repeat' first | with_reducible rfl | (intro _) | (simp only [strayAccess_fuse, ite_fuse, ite_self]) | split | (dsimp only))
theorem storeWord_fuse (c : CoreId) (a : Nat) (w : PfWord) (s : State) : (storeWord c a w s).fuse = s.fuse := by unfold storeWord; (repeat' first | with_reducible rfl | (intro _) | (simp only [modCore_fuse, modPair_fuse, odWindowStore_fuse, strayAccess_fuse, ite_fuse, ite_self]) | split | (dsimp only))
theorem meet_fuse (c : CoreId) (a : Nat) (s : State) : (meet c a s).2.fuse = s.fuse := by unfold meet; (repeat' first | with_reducible rfl | (intro _) | (simp only [modCore_fuse, modPair_fuse, ite_fuse, ite_self]) | split | (dsimp only))
theorem storeOwn_fuse (c : CoreId) (a : Nat) (w : PfWord) (s : State) : (storeOwn c a w s).fuse = s.fuse := by simp only [storeOwn, meet_fuse, modCore_fuse, storeWord_fuse]
theorem loseReservation_fuse (c : CoreId) (words : Nat → Bool) (s : State) : (loseReservation c words s).fuse = s.fuse := by simp only [loseReservation, modCore_fuse]
theorem landSnapshot_fuse (c : CoreId) (s : State) : (landSnapshot c s).fuse = s.fuse := by unfold landSnapshot; (repeat' first | with_reducible rfl | (intro _) | (simp only [loseReservation_fuse, modCore_fuse, modPair_fuse, ite_fuse, ite_self]) | split | (dsimp only))
theorem settleCore_fuse (c : CoreId) (s : State) : (settleCore c s).fuse = s.fuse := by simp only [settleCore, landSnapshot_fuse, modCore_fuse]
theorem completeWend_fuse (c : CoreId) (s : State) : (completeWend c s).fuse = s.fuse := by unfold completeWend; (repeat' first | with_reducible rfl | (intro _) | (simp only [modCore_fuse, runEnded_fuse, runOverrun_fuse, ite_fuse, ite_self]) | split | (dsimp only))
theorem slowData_fuse (c : CoreId) (a : Nat) (s : State) : (slowData c a s).2.fuse = s.fuse := by unfold slowData; (repeat' first | with_reducible rfl | (intro _) | (simp only [free_fuse, ite_fuse, ite_self]) | split | (dsimp only))
theorem memEvent_fuse (m : MemWord) (uncorrectable : Bool) (s : State) : (memEvent m uncorrectable s).fuse = s.fuse := by simp only [memEvent, logEvent_fuse]
theorem streamRestore_fuse (j : Nat) (s : State) : (streamRestore j s).fuse = s.fuse := by unfold streamRestore; (repeat' first | with_reducible rfl | (intro _) | (simp only [activateStream_fuse, putStream_fuse, ite_fuse, ite_self]) | split | (dsimp only))
theorem beginReload_fuse (pdu : Bool) (i : Nat) (s : State) : (beginReload pdu i s).fuse = s.fuse := by unfold beginReload; split <;> rfl
theorem tickCores_fuse (s : State) : (tickCores s).fuse = s.fuse := by unfold tickCores; split <;> rfl
theorem modComb_fuse (f : CombSt → CombSt) (s : State) : (modComb f s).fuse = s.fuse := rfl
theorem putEntry_fuse (i : Nat) (e : Option CombSetEntry) (s : State) : (putEntry i e s).fuse = s.fuse := rfl
theorem storeAccepted_fuse (img : Blob) (c : Comb) (s : State) : (storeAccepted img c s).fuse = s.fuse := by unfold storeAccepted; split <;> rfl
theorem placeStandby_fuse (img : Blob) (c : Comb) (st : BankState) (s : State) : (placeStandby img c st s).fuse = s.fuse := rfl
theorem ageSweep_fuse (s : State) : (ageSweep s).fuse = s.fuse := by unfold ageSweep; (repeat' first | with_reducible rfl | (intro _) | (rw [fold_fuse]) | (simp only [sigSweepOne_fuse, ite_fuse, ite_self]) | split | (dsimp only))
theorem snapshotAll_fuse (s : State) : (snapshotAll s).fuse = s.fuse := by unfold snapshotAll; (repeat' first | with_reducible rfl | (intro _) | (rw [fold_fuse]) | (simp only [modCol_fuse, ite_fuse, ite_self]) | split | (dsimp only))
theorem beginTick_fuse (s : State) : (beginTick s).fuse = s.fuse := by unfold beginTick; (repeat' first | with_reducible rfl | (intro _) | (simp only [ageSweep_fuse, doorRead_fuse, modComb_fuse, modFab_fuse, returnPlanes_fuse, snapshotAll_fuse, startRead_fuse, ite_fuse, ite_self]) | split | (dsimp only))
theorem expandFrom0_fuse (s : State) : (expandFrom0 s).fuse = s.fuse := rfl
theorem setTickSource_fuse (c : Comb) (s : State) : (setTickSource c s).fuse = s.fuse := rfl
theorem applyMap_fuse (c : Comb) (s : State) : (applyMap c s).fuse = s.fuse := by unfold applyMap; (repeat' first | with_reducible rfl | (intro _) | (rw [fold_fuse]) | (simp only [keeperLine_fuse, loadColumn_fuse, modPair_fuse, ite_fuse, ite_self]) | split | (dsimp only))
theorem applyLimits_fuse (s : State) : (applyLimits s).fuse = s.fuse := by unfold applyLimits; (repeat' first | with_reducible rfl | (intro _) | (rw [fold_fuse]) | (simp only [modFab_fuse, pressure_fuse, ite_fuse, ite_self]) | split | (dsimp only))
theorem logActivation_fuse (s : State) : (logActivation s).fuse = s.fuse := by unfold logActivation; split <;> rfl
theorem loadEnds_fuse (s : State) : (loadEnds s).fuse = s.fuse := by unfold loadEnds; split <;> rfl
theorem ageAdvance_fuse (s : State) : (ageAdvance s).fuse = s.fuse := by unfold ageAdvance; split <;> rfl
theorem repaired_fuse (eq : Nat) (diff : Int) (s : State) : (repaired eq diff s).fuse = s.fuse := by unfold repaired; split <;> simp only [countN_fuse, logEvent_fuse]
theorem rescanComplete_fuse (s : State) : (rescanComplete s).fuse = s.fuse := by unfold rescanComplete; (repeat' first | with_reducible rfl | (intro _) | (rw [fold_fuse]) | (simp only [modFab_fuse, modQueue_fuse, repaired_fuse, ite_fuse, ite_self]) | split | (dsimp only))
theorem holdoverExceeded_fuse (s : State) : (holdoverExceeded s).fuse = s.fuse := by unfold holdoverExceeded; split <;> simp only [logEvent_fuse, modComb_fuse]
theorem referenceReturn_fuse (s : State) : (referenceReturn s).fuse = s.fuse := by unfold referenceReturn; split <;> rfl
theorem effStandbyLoad_fuse (s : State) (img : Blob) : okk (·.fuse) (effStandbyLoad s img) s := by unfold effStandbyLoad; (repeat' first | with_reducible rfl | (intro _) | (rw [fold_fuse]) | (rw [write_fuse]) | (rw [answer_fuse]) | (rw [serve_fuse]) | (with_reducible apply checked_okk) | (simp only [keeperLine_fuse, modComb_fuse, okk_ok, okk_error, okk_ite, ite_fuse, ite_self]) | split | (dsimp only))
theorem standbyImageLoad_fuse (slot : Nat) (img : Blob) (s : State) : (standbyImageLoad slot img s).fuse = s.fuse := by unfold standbyImageLoad; (repeat' first | with_reducible rfl | (intro _) | (rw [fold_fuse]) | (rw [write_fuse]) | (rw [answer_fuse]) | (rw [serve_fuse]) | (with_reducible apply checked_okk) | (simp only [effStandbyLoad_fuse, okk_ok, okk_error, okk_ite, ite_fuse, ite_self]) | split | (dsimp only))
theorem effSwap_fuse (s : State) (v : Nat) : okk (·.fuse) (effSwap s v) s := by unfold effSwap; (repeat' first | with_reducible rfl | (intro _) | (rw [fold_fuse]) | (rw [write_fuse]) | (rw [answer_fuse]) | (rw [serve_fuse]) | (with_reducible apply checked_okk) | (simp only [keeperLine_fuse, modComb_fuse, okk_ok, okk_error, okk_ite, ite_fuse, ite_self]) | split | (dsimp only))
theorem swapCommand_fuse (slot v : Nat) (s : State) : (swapCommand slot v s).fuse = s.fuse := by unfold swapCommand; (repeat' first | with_reducible rfl | (intro _) | (rw [fold_fuse]) | (rw [write_fuse]) | (rw [answer_fuse]) | (rw [serve_fuse]) | (with_reducible apply checked_okk) | (simp only [effSwap_fuse, okk_ok, okk_error, okk_ite, ite_fuse, ite_self]) | split | (dsimp only))
theorem swapCancel_fuse (slot : Nat) (s : State) : (swapCancel slot s).fuse = s.fuse := by simp only [swapCancel, swapCommand_fuse]
theorem effMinGeneration_fuse (s : State) (v : Nat) : okk (·.fuse) (effMinGeneration s v) s := by unfold effMinGeneration; (repeat' first | with_reducible rfl | (intro _) | (rw [fold_fuse]) | (rw [write_fuse]) | (rw [answer_fuse]) | (rw [serve_fuse]) | (with_reducible apply checked_okk) | (simp only [keepVal_fuse, okk_ok, okk_error, okk_ite, ite_fuse, ite_self]) | split | (dsimp only))
theorem minGenerationWrite_fuse (slot v : Nat) (s : State) : (minGenerationWrite slot v s).fuse = s.fuse := by unfold minGenerationWrite; (repeat' first | with_reducible rfl | (intro _) | (rw [fold_fuse]) | (rw [write_fuse]) | (rw [answer_fuse]) | (rw [serve_fuse]) | (with_reducible apply checked_okk) | (simp only [effMinGeneration_fuse, okk_ok, okk_error, okk_ite, ite_fuse, ite_self]) | split | (dsimp only))
theorem effWatchdog_fuse (s : State) : okk (·.fuse) (effWatchdog s) s := by unfold effWatchdog; (repeat' first | with_reducible rfl | (intro _) | (rw [fold_fuse]) | (rw [write_fuse]) | (rw [answer_fuse]) | (rw [serve_fuse]) | (with_reducible apply checked_okk) | (simp only [okk_ok, okk_error, okk_ite, ite_fuse, ite_self]) | split | (dsimp only))
theorem watchdogService_fuse (v : Nat) (s : State) : (watchdogService v s).fuse = s.fuse := by unfold watchdogService; (repeat' first | with_reducible rfl | (intro _) | (rw [fold_fuse]) | (rw [write_fuse]) | (rw [answer_fuse]) | (rw [serve_fuse]) | (with_reducible apply checked_okk) | (simp only [effWatchdog_fuse, okk_ok, okk_error, okk_ite, ite_fuse, ite_self]) | split | (dsimp only))
theorem watchdogHalf_fuse (s : State) : (watchdogHalf s).fuse = s.fuse := by unfold watchdogHalf; split <;> rfl
theorem watchdogExpiry_fuse (s : State) : (watchdogExpiry s).fuse = s.fuse := by unfold watchdogExpiry; split <;> simp only [keeperReset_fuse]
theorem takeSettings_fuse (s : State) : (takeSettings s).fuse = s.fuse := rfl
theorem recheckActive_fuse (s : State) : (recheckActive s).fuse = s.fuse := by unfold recheckActive; (repeat' first | with_reducible rfl | (intro _) | (simp only [keeperLine_fuse, logEvent_fuse, modComb_fuse, ite_fuse, ite_self]) | split | (dsimp only))
theorem keeperConfirm_fuse (s : State) : (keeperConfirm s).fuse = s.fuse := by unfold keeperConfirm; split <;> rfl
theorem modPwr_fuse (f : PwrSt → PwrSt) (s : State) : (modPwr f s).fuse = s.fuse := rfl
theorem hiveReset_fuse (s : State) : (hiveReset s).fuse = s.fuse := rfl
theorem hiveOff_fuse (s : State) : (hiveOff s).fuse = s.fuse := by simp only [hiveOff, hiveReset_fuse, readerOff_fuse]
theorem clearAo_fuse (s : State) : (clearAo s).fuse = s.fuse := rfl
theorem vaoPowerUp_fuse (s : State) : (vaoPowerUp s).fuse = s.fuse := by unfold vaoPowerUp; split <;> simp only [bootDue_fuse, clearAo_fuse, loadShare_fuse, lockPowerUp_fuse]
theorem aoBrownout_fuse (s : State) : (aoBrownout s).fuse = s.fuse := by unfold aoBrownout; (repeat' first | with_reducible rfl | (intro _) | (simp only [accessOff_fuse, bootDue_fuse, hiveOff_fuse, modPwr_fuse, readerOff_fuse, recordCopyComplete_fuse, ite_fuse, ite_self]) | split | (dsimp only))
theorem brownoutRecovery_fuse (s : State) : (brownoutRecovery s).fuse = s.fuse := by unfold brownoutRecovery; (repeat' first | with_reducible rfl | (intro _) | (simp only [bootDue_fuse, modPwr_fuse, ite_fuse, ite_self]) | split | (dsimp only))
theorem fieldStart_fuse (s : State) : (fieldStart s).fuse = s.fuse := by simp only [fieldStart, modNfc_fuse, setFieldDet_fuse]
theorem aoReset_fuse (fieldPresent : Bool) (s : State) : (aoReset fieldPresent s).fuse = s.fuse := by unfold aoReset; (repeat' first | with_reducible rfl | (intro _) | (simp only [accessOff_fuse, bootDue_fuse, fieldStart_fuse, hiveOff_fuse, modNfc_fuse, ite_fuse, ite_self]) | split | (dsimp only))
theorem fieldPowerUp_fuse (s : State) : (fieldPowerUp s).fuse = s.fuse := by unfold fieldPowerUp; split <;> simp only [fieldStart_fuse, modTamper_fuse]
theorem withdrawPort_fuse (n : Nat) (s : State) : (withdrawPort n s).fuse = s.fuse := by unfold withdrawPort; (repeat' first | with_reducible rfl | (intro _) | (simp only [finishStop_fuse, modPort_fuse, setPortState_fuse, stopPort_fuse, withHeld_fuse, ite_fuse, ite_self]) | split | (dsimp only))
theorem voteChange_fuse (voter : Nat) (d : Domain) (grant : Bool) (s : State) : (voteChange voter d grant s).fuse = s.fuse := by unfold voteChange; (repeat' first | with_reducible rfl | (intro _) | (simp only [latchWake_fuse, setVote_fuse, withdrawPort_fuse, ite_fuse, ite_self]) | split | (dsimp only))
theorem reloadAccessKeys_fuse (s : State) : (reloadAccessKeys s).fuse = s.fuse := by unfold reloadAccessKeys; (repeat' first | with_reducible rfl | (intro _) | (rw [fold_fuse]) | (simp only [ite_fuse, ite_self]) | split | (dsimp only))
theorem runAfterWake_fuse (s : State) : (runAfterWake s).fuse = s.fuse := by unfold runAfterWake; (repeat' first | with_reducible rfl | (intro _) | (rw [fold_fuse]) | (simp only [modLf_fuse, trigger_fuse, ite_fuse, ite_self]) | split | (dsimp only))
theorem domainPowerOn_fuse (d : Domain) (s : State) : (domainPowerOn d s).fuse = s.fuse := by unfold domainPowerOn; (repeat' first | with_reducible rfl | (intro _) | (simp only [modLf_fuse, modPwr_fuse, reloadAccessKeys_fuse, runAfterWake_fuse, ite_fuse, ite_self]) | split | (dsimp only))
theorem effKeeperVotes_fuse (s : State) (v : Nat) : okk (·.fuse) (effKeeperVotes s v) s := by unfold effKeeperVotes; (repeat' first | with_reducible rfl | (intro _) | (rw [fold_fuse]) | (rw [write_fuse]) | (rw [answer_fuse]) | (rw [serve_fuse]) | (with_reducible apply checked_okk) | (simp only [applyKeeperVotes_fuse, keepVal_fuse, okk_ok, okk_error, okk_ite, ite_fuse, ite_self]) | split | (dsimp only))
theorem keeperVotesWrite_fuse (v : Nat) (s : State) : (keeperVotesWrite v s).fuse = s.fuse := by unfold keeperVotesWrite; (repeat' first | with_reducible rfl | (intro _) | (rw [fold_fuse]) | (rw [write_fuse]) | (rw [answer_fuse]) | (rw [serve_fuse]) | (with_reducible apply checked_okk) | (simp only [effKeeperVotes_fuse, okk_ok, okk_error, okk_ite, ite_fuse, ite_self]) | split | (dsimp only))
theorem effStateRequest_fuse (s : State) (v : Nat) : okk (·.fuse) (effStateRequest s v) s := by unfold effStateRequest; (repeat' first | with_reducible rfl | (intro _) | (rw [fold_fuse]) | (rw [write_fuse]) | (rw [answer_fuse]) | (rw [serve_fuse]) | (with_reducible apply checked_okk) | (simp only [modPwr_fuse, setVote_fuse, okk_ok, okk_error, okk_ite, ite_fuse, ite_self]) | split | (dsimp only))
theorem stateRequest_fuse (slot v : Nat) (s : State) : (stateRequest slot v s).fuse = s.fuse := by unfold stateRequest; (repeat' first | with_reducible rfl | (intro _) | (rw [fold_fuse]) | (rw [write_fuse]) | (rw [answer_fuse]) | (rw [serve_fuse]) | (with_reducible apply checked_okk) | (simp only [effStateRequest_fuse, okk_ok, okk_error, okk_ite, ite_fuse, ite_self]) | split | (dsimp only))
theorem requestRun_fuse (slot : Nat) (s : State) : (requestRun slot s).fuse = s.fuse := by simp only [requestRun, stateRequest_fuse]
theorem requestDoze_fuse (slot : Nat) (s : State) : (requestDoze slot s).fuse = s.fuse := by simp only [requestDoze, stateRequest_fuse]
theorem requestSleep_fuse (slot : Nat) (s : State) : (requestSleep slot s).fuse = s.fuse := by simp only [requestSleep, stateRequest_fuse]
theorem wake_fuse (code : Nat) (s : State) : (wake code s).fuse = s.fuse := by unfold wake; (repeat' first | with_reducible rfl | (intro _) | (simp only [bootDue_fuse, latchWake_fuse, modPwr_fuse, setVote_fuse, ite_fuse, ite_self]) | split | (dsimp only))
theorem senseRise_fuse (i : Nat) (s : State) : (senseRise i s).fuse = s.fuse := by unfold senseRise; split <;> simp only [latchWake_fuse, modPwr_fuse]
theorem senseFall_fuse (i : Nat) (s : State) : (senseFall i s).fuse = s.fuse := by unfold senseFall; split <;> rfl
theorem effSenseThreshold_fuse (s : State) (i v mv : Nat) : okk (·.fuse) (effSenseThreshold s i v mv) s := by unfold effSenseThreshold; (repeat' first | with_reducible rfl | (intro _) | (rw [fold_fuse]) | (rw [write_fuse]) | (rw [answer_fuse]) | (rw [serve_fuse]) | (with_reducible apply checked_okk) | (simp only [keepVal_fuse, modPwr_fuse, okk_ok, okk_error, okk_ite, ite_fuse, ite_self]) | split | (dsimp only))
theorem senseThresholdWrite_fuse (slot i v mv : Nat) (s : State) : (senseThresholdWrite slot i v mv s).fuse = s.fuse := by unfold senseThresholdWrite; (repeat' first | with_reducible rfl | (intro _) | (rw [fold_fuse]) | (rw [write_fuse]) | (rw [answer_fuse]) | (rw [serve_fuse]) | (with_reducible apply checked_okk) | (simp only [effSenseThreshold_fuse, okk_ok, okk_error, okk_ite, ite_fuse, ite_self]) | split | (dsimp only))
theorem holdNLow_fuse (low : Bool) (s : State) : (holdNLow low s).fuse = s.fuse := by unfold holdNLow; (repeat' first | with_reducible rfl | (intro _) | (simp only [latchWake_fuse, modPwr_fuse, setVote_fuse, ite_fuse, ite_self]) | split | (dsimp only))
theorem rtcAlarm_fuse (s : State) : (rtcAlarm s).fuse = s.fuse := by unfold rtcAlarm; (repeat' first | with_reducible rfl | (intro _) | (simp only [latchWake_fuse, ite_fuse, ite_self]) | split | (dsimp only))
theorem sleepEntry_fuse (s : State) : (sleepEntry s).fuse = s.fuse := by unfold sleepEntry; split <;> rfl
theorem entryStopPorts_fuse (s : State) : (entryStopPorts s).fuse = s.fuse := by unfold entryStopPorts; (repeat' first | with_reducible rfl | (intro _) | (rw [fold_fuse]) | (simp only [endPortTest_fuse, modPort_fuse, modPwr_fuse, stopPort_fuse, ite_fuse, ite_self]) | split | (dsimp only))
theorem keyDdr_fuse (s : State) : (keyDdr s).fuse = s.fuse := by unfold keyDdr; split <;> rfl
theorem effPadRelease_fuse (s : State) : okk (·.fuse) (effPadRelease s) s := by unfold effPadRelease; (repeat' first | with_reducible rfl | (intro _) | (rw [fold_fuse]) | (rw [write_fuse]) | (rw [answer_fuse]) | (rw [serve_fuse]) | (with_reducible apply checked_okk) | (simp only [modPwr_fuse, startPort_fuse, okk_ok, okk_error, okk_ite, ite_fuse, ite_self]) | split | (dsimp only))
theorem padRelease_fuse (v : Nat) (s : State) : (padRelease v s).fuse = s.fuse := by unfold padRelease; (repeat' first | with_reducible rfl | (intro _) | (rw [fold_fuse]) | (rw [write_fuse]) | (rw [answer_fuse]) | (rw [serve_fuse]) | (with_reducible apply checked_okk) | (simp only [effPadRelease_fuse, okk_ok, okk_error, okk_ite, ite_fuse, ite_self]) | split | (dsimp only))
theorem pllLoss_fuse (c : Nat) (s : State) : (pllLoss c s).fuse = s.fuse := by unfold pllLoss; split <;> simp only [count_fuse, logEvent_fuse, modPwr_fuse]
theorem pllLocks_fuse (c : Nat) (s : State) : (pllLocks c s).fuse = s.fuse := by unfold pllLocks; split <;> rfl
theorem crystalStable_fuse (s : State) : (crystalStable s).fuse = s.fuse := by unfold crystalStable; split <;> rfl
theorem effDeviceReset_fuse (s : State) (v : Nat) : okk (·.fuse) (effDeviceReset s v) s := by unfold effDeviceReset; (repeat' first | with_reducible rfl | (intro _) | (rw [fold_fuse]) | (rw [write_fuse]) | (rw [answer_fuse]) | (rw [serve_fuse]) | (with_reducible apply checked_okk) | (simp only [bootDue_fuse, okk_ok, okk_error, okk_ite, ite_fuse, ite_self]) | split | (dsimp only))
theorem deviceReset_fuse (slot v : Nat) (s : State) : (deviceReset slot v s).fuse = s.fuse := by unfold deviceReset; (repeat' first | with_reducible rfl | (intro _) | (rw [fold_fuse]) | (rw [write_fuse]) | (rw [answer_fuse]) | (rw [serve_fuse]) | (with_reducible apply checked_okk) | (simp only [effDeviceReset_fuse, okk_ok, okk_error, okk_ite, ite_fuse, ite_self]) | split | (dsimp only))
theorem effRingConfig_fuse (s : State) (src : Nat) (entries : Bool) (v : Nat) : okk (·.fuse) (effRingConfig s src entries v) s := by unfold effRingConfig; (repeat' first | with_reducible rfl | (intro _) | (rw [fold_fuse]) | (rw [write_fuse]) | (rw [answer_fuse]) | (rw [serve_fuse]) | (with_reducible apply checked_okk) | (simp only [keepVal_fuse, okk_ok, okk_error, okk_ite, ite_fuse, ite_self]) | split | (dsimp only))
theorem eventRingConfigWrite_fuse (src : Nat) (entries : Bool) (v : Nat) (s : State) : (eventRingConfigWrite src entries v s).fuse = s.fuse := by unfold eventRingConfigWrite; (repeat' first | with_reducible rfl | (intro _) | (rw [fold_fuse]) | (rw [write_fuse]) | (rw [answer_fuse]) | (rw [serve_fuse]) | (with_reducible apply checked_okk) | (simp only [effRingConfig_fuse, okk_ok, okk_error, okk_ite, ite_fuse, ite_self]) | split | (dsimp only))
theorem formKd_fuse (s : State) : (formKd s).fuse = s.fuse := by unfold formKd; split <;> rfl
theorem enterState_fuse (n : Nat) (s : State) : (enterState n s).fuse = s.fuse := rfl
theorem clearVolatile_fuse (s : State) : (clearVolatile s).fuse = s.fuse := rfl
theorem restoreDefaults_fuse (s : State) : (restoreDefaults s).fuse = s.fuse := by unfold restoreDefaults; (repeat' first | with_reducible rfl | (intro _) | (rw [fold_fuse]) | (simp only [deleteS_fuse, ite_fuse, ite_self]) | split | (dsimp only))
theorem startFunctions_fuse (s : State) : (startFunctions s).fuse = s.fuse := rfl
theorem powerHive_fuse (cold : Bool) (cause done : Nat) (s : State) : (powerHive cold cause done s).fuse = s.fuse := by simp only [powerHive, bootDue_fuse, lockPowerUp_fuse, resetBuckets_fuse, setVote_fuse, startFunctions_fuse, wake_fuse]
theorem coldBoot_fuse (cause : Nat) (sfdp : Option Nat) (s : State) : (coldBoot cause sfdp s).fuse = s.fuse := by unfold coldBoot; (repeat' first | with_reducible rfl | (intro _) | (simp only [accessOff_fuse, clearVolatile_fuse, count_fuse, dropPending_fuse, hiveOff_fuse, keyDdr_fuse, modFab_fuse, modPwr_fuse, powerHive_fuse, restoreDefaults_fuse, ite_fuse, ite_self]) | split | (dsimp only))
theorem warmBoot_fuse (s : State) : (warmBoot s).fuse = s.fuse := by unfold warmBoot; split <;> simp only [count_fuse, dropPending_fuse, powerHive_fuse]
theorem useTry_fuse (i : Nat) (s : State) : (useTry i s).fuse = s.fuse := rfl
theorem startRecovery_fuse (s : State) : (startRecovery s).fuse = s.fuse := rfl
theorem startEnabledPorts_fuse (s : State) : (startEnabledPorts s).fuse = s.fuse := by unfold startEnabledPorts; (repeat' first | with_reducible rfl | (intro _) | (rw [fold_fuse]) | (simp only [startPort_fuse, ite_fuse, ite_self]) | split | (dsimp only))
theorem keeperStarts_fuse (i : Nat) (s : State) : (keeperStarts i s).fuse = s.fuse := by simp only [keeperStarts, applyKeeperVotes_fuse, modPwr_fuse, putSession_fuse, setVote_fuse, startEnabledPorts_fuse, startSlot_fuse, takeSettings_fuse]
theorem keeperImage_fuse (cold : Bool) (s : State) : (keeperImage cold s).fuse = s.fuse := by unfold keeperImage; (repeat' first | with_reducible rfl | (intro _) | (simp only [keeperStarts_fuse, startRecovery_fuse, useTry_fuse, ite_fuse, ite_self]) | split | (dsimp only))
theorem dramTrained_fuse (s : State) : (dramTrained s).fuse = s.fuse := by unfold dramTrained; (repeat' first | with_reducible rfl | (intro _) | (simp only [modPwr_fuse, setVal_fuse, ite_fuse, ite_self]) | split | (dsimp only))
theorem bootEnds_fuse (s : State) : (bootEnds s).fuse = s.fuse := by unfold bootEnds; (repeat' first | with_reducible rfl | (intro _) | (simp only [modPwr_fuse, setVal_fuse, setVote_fuse, ite_fuse, ite_self]) | split | (dsimp only))
theorem accessReady_fuse (s : State) : (accessReady s).fuse = s.fuse := by unfold accessReady; split <;> simp only [reloadAccessKeys_fuse, runAfterWake_fuse]
theorem pllsLock_fuse (s : State) : (pllsLock s).fuse = s.fuse := rfl
theorem lcChallengeRead_fuse (slot : Nat) (s : State) : (lcChallengeRead slot s).fuse = s.fuse := by unfold lcChallengeRead; (repeat' first | with_reducible rfl | (intro _) | (simp only [answerAbort_fuse, answerDone_fuse, draw_fuse, ite_fuse, ite_self]) | split | (dsimp only))
theorem useLcChallenge_fuse (s : State) : (useLcChallenge s).fuse = s.fuse := rfl
theorem endVendor_fuse (s : State) : (endVendor s).fuse = s.fuse := rfl
theorem refuseTransition_fuse (slot code : Nat) (s : State) : (refuseTransition slot code s).fuse = s.fuse := by simp only [refuseTransition, answerAbort_fuse, logEvent_fuse]
theorem modTest_fuse (f : TestSt → TestSt) (s : State) : (modTest f s).fuse = s.fuse := rfl
theorem effPortTest_fuse (s : State) (n v : Nat) : okk (·.fuse) (effPortTest s n v) s := by unfold effPortTest; (repeat' first | with_reducible rfl | (intro _) | (rw [fold_fuse]) | (rw [write_fuse]) | (rw [answer_fuse]) | (rw [serve_fuse]) | (with_reducible apply checked_okk) | (simp only [startPortTest_fuse, stopPortTest_fuse, okk_ok, okk_error, okk_ite, ite_fuse, ite_self]) | split | (dsimp only))
theorem portTestWrite_fuse (slot n v : Nat) (s : State) : (portTestWrite slot n v s).fuse = s.fuse := by unfold portTestWrite; (repeat' first | with_reducible rfl | (intro _) | (rw [fold_fuse]) | (rw [write_fuse]) | (rw [answer_fuse]) | (rw [serve_fuse]) | (with_reducible apply checked_okk) | (simp only [effPortTest_fuse, okk_ok, okk_error, okk_ite, ite_fuse, ite_self]) | split | (dsimp only))
theorem testFrameChecked_fuse (n : Nat) (b : Blob) (crcGood : Bool) (s : State) : (testFrameChecked n b crcGood s).fuse = s.fuse := by unfold testFrameChecked; (repeat' first | with_reducible rfl | (intro _) | (simp only [modPort_fuse, ite_fuse, ite_self]) | split | (dsimp only))
theorem portTestComplete_fuse (n : Nat) (s : State) : (portTestComplete n s).fuse = s.fuse := by unfold portTestComplete; (repeat' first | with_reducible rfl | (intro _) | (simp only [endPortTest_fuse, modPort_fuse, ite_fuse, ite_self]) | split | (dsimp only))
theorem modSer_fuse (k : Nat) (f : SerTest → SerTest) (s : State) : (modSer k f s).fuse = s.fuse := rfl
theorem countSerBits_fuse (k least : Nat) (s : State) : (countSerBits k least s).fuse = s.fuse := by unfold countSerBits; (repeat' first | with_reducible rfl | (intro _) | (simp only [free_fuse, modSer_fuse, ite_fuse, ite_self]) | split | (dsimp only))
theorem effSerTest_fuse (s : State) (k v : Nat) : okk (·.fuse) (effSerTest s k v) s := by unfold effSerTest; (repeat' first | with_reducible rfl | (intro _) | (rw [fold_fuse]) | (rw [write_fuse]) | (rw [answer_fuse]) | (rw [serve_fuse]) | (with_reducible apply checked_okk) | (simp only [countSerBits_fuse, modSer_fuse, okk_ok, okk_error, okk_ite, ite_fuse, ite_self]) | split | (dsimp only))
theorem serTestWrite_fuse (slot k v : Nat) (s : State) : (serTestWrite slot k v s).fuse = s.fuse := by unfold serTestWrite; (repeat' first | with_reducible rfl | (intro _) | (rw [fold_fuse]) | (rw [write_fuse]) | (rw [answer_fuse]) | (rw [serve_fuse]) | (with_reducible apply checked_okk) | (simp only [effSerTest_fuse, okk_ok, okk_error, okk_ite, ite_fuse, ite_self]) | split | (dsimp only))
theorem serLock_fuse (k : Nat) (s : State) : (serLock k s).fuse = s.fuse := by unfold serLock; split <;> rfl
theorem serUnlock_fuse (k : Nat) (s : State) : (serUnlock k s).fuse = s.fuse := by unfold serUnlock; split <;> simp only [countSerBits_fuse, modSer_fuse]
theorem effLfLoopback_fuse (s : State) : okk (·.fuse) (effLfLoopback s) s := by unfold effLfLoopback; (repeat' first | with_reducible rfl | (intro _) | (rw [fold_fuse]) | (rw [write_fuse]) | (rw [answer_fuse]) | (rw [serve_fuse]) | (with_reducible apply checked_okk) | (simp only [modLf_fuse, modTest_fuse, okk_ok, okk_error, okk_ite, ite_fuse, ite_self]) | split | (dsimp only))
theorem lfLoopbackStart_fuse (slot : Nat) (s : State) : (lfLoopbackStart slot s).fuse = s.fuse := by unfold lfLoopbackStart; (repeat' first | with_reducible rfl | (intro _) | (rw [fold_fuse]) | (rw [write_fuse]) | (rw [answer_fuse]) | (rw [serve_fuse]) | (with_reducible apply checked_okk) | (simp only [effLfLoopback_fuse, okk_ok, okk_error, okk_ite, ite_fuse, ite_self]) | split | (dsimp only))
theorem lfLoopbackEnds_fuse (peak : Nat) (s : State) : (lfLoopbackEnds peak s).fuse = s.fuse := by unfold lfLoopbackEnds; (repeat' first | with_reducible rfl | (intro _) | (simp only [modLf_fuse, modTest_fuse, setChan_fuse, setVal_fuse, ite_fuse, ite_self]) | split | (dsimp only))
theorem effUwbLoopback_fuse (s : State) : okk (·.fuse) (effUwbLoopback s) s := by unfold effUwbLoopback; (repeat' first | with_reducible rfl | (intro _) | (rw [fold_fuse]) | (rw [write_fuse]) | (rw [answer_fuse]) | (rw [serve_fuse]) | (with_reducible apply checked_okk) | (simp only [modTest_fuse, okk_ok, okk_error, okk_ite, ite_fuse, ite_self]) | split | (dsimp only))
theorem uwbLoopbackStart_fuse (slot : Nat) (s : State) : (uwbLoopbackStart slot s).fuse = s.fuse := by unfold uwbLoopbackStart; (repeat' first | with_reducible rfl | (intro _) | (rw [fold_fuse]) | (rw [write_fuse]) | (rw [answer_fuse]) | (rw [serve_fuse]) | (with_reducible apply checked_okk) | (simp only [effUwbLoopback_fuse, okk_ok, okk_error, okk_ite, ite_fuse, ite_self]) | split | (dsimp only))
theorem uwbLoopbackEnds_fuse (delay : Option Nat) (s : State) : (uwbLoopbackEnds delay s).fuse = s.fuse := by unfold uwbLoopbackEnds; split <;> rfl
theorem effNfcLoad_fuse (s : State) : okk (·.fuse) (effNfcLoad s) s := by unfold effNfcLoad; (repeat' first | with_reducible rfl | (intro _) | (rw [fold_fuse]) | (rw [write_fuse]) | (rw [answer_fuse]) | (rw [serve_fuse]) | (with_reducible apply checked_okk) | (simp only [modTest_fuse, setOwnField_fuse, setVal_fuse, okk_ok, okk_error, okk_ite, ite_fuse, ite_self]) | split | (dsimp only))
theorem nfcLoadStart_fuse (slot : Nat) (s : State) : (nfcLoadStart slot s).fuse = s.fuse := by unfold nfcLoadStart; (repeat' first | with_reducible rfl | (intro _) | (rw [fold_fuse]) | (rw [write_fuse]) | (rw [answer_fuse]) | (rw [serve_fuse]) | (with_reducible apply checked_okk) | (simp only [effNfcLoad_fuse, okk_ok, okk_error, okk_ite, ite_fuse, ite_self]) | split | (dsimp only))
theorem nfcLoadEnds_fuse (current offset : Byte) (s : State) : (nfcLoadEnds current offset s).fuse = s.fuse := by unfold nfcLoadEnds; split <;> rfl
theorem effBist_fuse (s : State) : okk (·.fuse) (effBist s) s := by unfold effBist; (repeat' first | with_reducible rfl | (intro _) | (rw [fold_fuse]) | (rw [write_fuse]) | (rw [answer_fuse]) | (rw [serve_fuse]) | (with_reducible apply checked_okk) | (simp only [modTest_fuse, okk_ok, okk_error, okk_ite, ite_fuse, ite_self]) | split | (dsimp only))
theorem bistStart_fuse (slot : Nat) (s : State) : (bistStart slot s).fuse = s.fuse := by unfold bistStart; (repeat' first | with_reducible rfl | (intro _) | (rw [fold_fuse]) | (rw [write_fuse]) | (rw [answer_fuse]) | (rw [serve_fuse]) | (with_reducible apply checked_okk) | (simp only [effBist_fuse, okk_ok, okk_error, okk_ite, ite_fuse, ite_self]) | split | (dsimp only))
theorem bistWipes_fuse (code : Nat) (s : State) : (bistWipes code s).fuse = s.fuse := by unfold bistWipes; (repeat' first | with_reducible rfl | (intro _) | (simp only [modLane_fuse, modPort_fuse, ite_fuse, ite_self]) | split | (dsimp only))
theorem bistReleases_fuse (code : Nat) (s : State) : (bistReleases code s).fuse = s.fuse := by unfold bistReleases; (repeat' first | with_reducible rfl | (intro _) | (simp only [laneStopped_fuse, pairStopped_fuse, portStopped_fuse, ite_fuse, ite_self]) | split | (dsimp only))
theorem bistEnds_fuse (failing : Option Nat) (s : State) : (bistEnds failing s).fuse = s.fuse := by unfold bistEnds; split <;> simp only [bistReleases_fuse, bistWipes_fuse, modTest_fuse, setVal_fuse]
theorem effDramTest_fuse (s : State) (failing : Option Nat) : okk (·.fuse) (effDramTest s failing) s := by unfold effDramTest; (repeat' first | with_reducible rfl | (intro _) | (rw [fold_fuse]) | (rw [write_fuse]) | (rw [answer_fuse]) | (rw [serve_fuse]) | (with_reducible apply checked_okk) | (simp only [bootDue_fuse, modTest_fuse, okk_ok, okk_error, okk_ite, ite_fuse, ite_self]) | split | (dsimp only))
theorem dramTestStart_fuse (slot : Nat) (failing : Option Nat) (s : State) : (dramTestStart slot failing s).fuse = s.fuse := by unfold dramTestStart; (repeat' first | with_reducible rfl | (intro _) | (rw [fold_fuse]) | (rw [write_fuse]) | (rw [answer_fuse]) | (rw [serve_fuse]) | (with_reducible apply checked_okk) | (simp only [effDramTest_fuse, okk_ok, okk_error, okk_ite, ite_fuse, ite_self]) | split | (dsimp only))
theorem debugHalt_fuse (c : CoreId) (s : State) : (debugHalt c s).fuse = s.fuse := by unfold debugHalt; split <;> simp only [modCore_fuse]
theorem debugStep_fuse (c : CoreId) (s : State) : (debugStep c s).fuse = s.fuse := by unfold debugStep; split <;> simp only [debugHalt_fuse, modCore_fuse]
theorem debugRead_fuse (c : CoreId) (r : Fin 32) (s : State) : (debugRead c r s).fuse = s.fuse := by unfold debugRead; split <;> rfl
theorem jtagShift_fuse (i : JtagInst) (bits : List Bool) (s : State) : (jtagShift i bits s).fuse = s.fuse := by unfold jtagShift; split <;> rfl
theorem jtagBypass_fuse (s : State) : (jtagBypass s).fuse = s.fuse := by simp only [jtagBypass, jtagShift_fuse]
theorem jtagIdcode_fuse (s : State) : (jtagIdcode s).fuse = s.fuse := by simp only [jtagIdcode, jtagShift_fuse]
theorem jtagSample_fuse (pads : List Bool) (s : State) : (jtagSample pads s).fuse = s.fuse := by simp only [jtagSample, jtagShift_fuse]
theorem jtagExtest_fuse (i : JtagInst) (s : State) : (jtagExtest i s).fuse = s.fuse := by unfold jtagExtest; split <;> simp only [jtagBypass_fuse, jtagShift_fuse]
theorem setMirror_fuse (m : Nat) (st : FnState) (s : State) : (setMirror m st s).fuse = s.fuse := rfl
theorem startMirror_fuse (m : Nat) (s : State) : (startMirror m s).fuse = s.fuse := rfl
theorem effMirrorEnable_fuse (s : State) (m v : Nat) : okk (·.fuse) (effMirrorEnable s m v) s := by unfold effMirrorEnable; (repeat' first | with_reducible rfl | (intro _) | (rw [fold_fuse]) | (rw [write_fuse]) | (rw [answer_fuse]) | (rw [serve_fuse]) | (with_reducible apply checked_okk) | (simp only [keepVal_fuse, setMirror_fuse, startMirror_fuse, okk_ok, okk_error, okk_ite, ite_fuse, ite_self]) | split | (dsimp only))
theorem mirrorStopped_fuse (m : Nat) (s : State) : (mirrorStopped m s).fuse = s.fuse := by unfold mirrorStopped; split <;> rfl
theorem portTestStopped_fuse (n : Nat) (s : State) : (portTestStopped n s).fuse = s.fuse := by unfold portTestStopped; split <;> simp only [endPortTest_fuse, portStopped_fuse]
theorem shutdownEnds_fuse (fn : Stoppable) (s : State) : (shutdownEnds fn s).fuse = s.fuse := by unfold shutdownEnds; split <;> simp only [laneStopped_fuse, lfStoppedNow_fuse, mirrorStopped_fuse, nfcStopped_fuse, pairStopped_fuse, portStopped_fuse, portTestStopped_fuse, uwbStopped_fuse]
theorem recoveryLoader_fuse (s : State) : (recoveryLoader s).fuse = s.fuse := by unfold recoveryLoader; (repeat' first | with_reducible rfl | (intro _) | (simp only [closeSessions_fuse, startRecovery_fuse, ite_fuse, ite_self]) | split | (dsimp only))
theorem accessSequencerRestart_fuse (s : State) : (accessSequencerRestart s).fuse = s.fuse := by unfold accessSequencerRestart; split <;> simp only [accessRestart_fuse]
theorem eventRecord_fuse (src cls detail obj : Nat) (data : Blob) (s : State) : (eventRecord src cls detail obj data s).fuse = s.fuse := by unfold eventRecord; split <;> simp only [logEvent_fuse]
theorem ringWrite_fuse (src : Nat) (e : EventRec) (s : State) : (ringWrite src e s).fuse = s.fuse := by unfold ringWrite; (repeat' first | with_reducible rfl | (intro _) | (simp only [count_fuse, emit_fuse, keeperLine_fuse, ite_fuse, ite_self]) | split | (dsimp only))
theorem eventRingWrite_fuse (src : Nat) (s : State) : (eventRingWrite src s).fuse = s.fuse := by unfold eventRingWrite; (repeat' first | with_reducible rfl | (intro _) | (simp only [ringWrite_fuse, ite_fuse, ite_self]) | split | (dsimp only))
theorem summaryClose_fuse (detail key : Nat) (s : State) : (summaryClose detail key s).fuse = s.fuse := by unfold summaryClose; (repeat' first | with_reducible rfl | (intro _) | (simp only [stageEvent_fuse, ite_fuse, ite_self]) | split | (dsimp only))
theorem deferredFlush_fuse (s : State) : (deferredFlush s).fuse = s.fuse := by unfold deferredFlush; (repeat' first | with_reducible rfl | (intro _) | (rw [fold_fuse]) | (simp only [ringWrite_fuse, ite_fuse, ite_self]) | split | (dsimp only))
theorem newChallenge_fuse (slot : Nat) (s : State) : (newChallenge slot s).2.fuse = s.fuse := rfl
theorem dropSnapshot_fuse (slot : Nat) (key : Nat) (s : State) : (dropSnapshot slot key s).fuse = s.fuse := rfl
theorem linkWrite_fuse (c : CoreId) (rd : Fin 32) (s : State) : (linkWrite c rd s).fuse = s.fuse := by simp only [linkWrite, modCore_fuse]
theorem takeInterrupt_fuse (c : CoreId) (s : State) : (takeInterrupt c s).fuse = s.fuse := by unfold takeInterrupt; (repeat' first | with_reducible rfl | (intro _) | (simp only [modCore_fuse, settleCore_fuse, ite_fuse, ite_self]) | split | (dsimp only))
theorem expireReservation_fuse (c : CoreId) (s : State) : (expireReservation c s).fuse = s.fuse := by simp only [expireReservation, modCore_fuse]
theorem writeback_fuse (c : CoreId) (s : State) : (writeback c s).fuse = s.fuse := by simp only [writeback, modCore_fuse, settleCore_fuse]
theorem effReadIndex_fuse (s : State) (src v : Nat) : okk (·.fuse) (effReadIndex s src v) s := by unfold effReadIndex; (repeat' first | with_reducible rfl | (intro _) | (rw [fold_fuse]) | (rw [write_fuse]) | (rw [answer_fuse]) | (rw [serve_fuse]) | (with_reducible apply checked_okk) | (simp only [okk_ok, okk_error, okk_ite, ite_fuse, ite_self]) | split | (dsimp only))
theorem portEffect_fuse (s : State) (n off sb idx v : Nat) (b : Blob) : okk (·.fuse) (portEffect s n off sb idx v b) s := by unfold portEffect; (repeat' first | with_reducible rfl | (intro _) | (rw [fold_fuse]) | (rw [write_fuse]) | (rw [answer_fuse]) | (rw [serve_fuse]) | (with_reducible apply checked_okk) | (simp only [effBitTiming_fuse, effFlowMode_fuse, effPortEnable_fuse, effWakeMode_fuse, effXlMode_fuse, storeEntry_fuse, okk_ok, okk_error, okk_ite, ite_fuse, ite_self]) | split | (dsimp only))
theorem accessEffect_fuse (s : State) (x : Session) (idx sb v : Nat) (b : Blob) : okk (·.fuse) (accessEffect s x idx sb v b) s := by unfold accessEffect; (repeat' first | with_reducible rfl | (intro _) | (rw [fold_fuse]) | (rw [write_fuse]) | (rw [answer_fuse]) | (rw [serve_fuse]) | (with_reducible apply checked_okk) | (simp only [effBist_fuse, effDramTest_fuse, effLfEnable_fuse, effLfLoopback_fuse, effNfcEnable_fuse, effNfcLoad_fuse, effPatternTable_fuse, effPortTest_fuse, effReadIndex_fuse, effReaderExchange_fuse, effRingConfig_fuse, effSerTest_fuse, effUwbEnable_fuse, effUwbLoopback_fuse, effWakeId_fuse, storeEntry_fuse, tagFileWrite_fuse, okk_ok, okk_error, okk_ite, ite_fuse, ite_self]) | split | (dsimp only))
theorem laneRequestWrite_fuse (d : Blob) (s : State) : (laneRequestWrite d s).fuse = s.fuse := by simp only [laneRequestWrite, laneRequest_fuse]
theorem odPending_fuse (t : Transport) (n : Nat) (s : State) : (odPending t n s).fuse = s.fuse := by unfold odPending; split <;> rfl
theorem sdoSend_fuse (n : Nat) (b : Blob) (s : State) : (sdoSend n b s).fuse = s.fuse := rfl
theorem sdoAbortSend_fuse (n idx sb code : Nat) (s : State) : (sdoAbortSend n idx sb code s).fuse = s.fuse := rfl
theorem udpRefused_fuse (n session code : Nat) (s : State) : (udpRefused n session code s).fuse = s.fuse := rfl
theorem udsNegative_fuse (slot sid nrc : Nat) (s : State) : (udsNegative slot sid nrc s).fuse = s.fuse := rfl
theorem refuseOpen_fuse (t : Transport) (n : Nat) (s : State) : (refuseOpen t n s).fuse = s.fuse := by unfold refuseOpen; split <;> rfl
theorem idleTimeout_fuse (slot : Nat) (s : State) : (idleTimeout slot s).fuse = s.fuse := by unfold idleTimeout; (repeat' first | with_reducible rfl | (intro _) | (simp only [closeSession_fuse, ite_fuse, ite_self]) | split | (dsimp only))
theorem roleBlockEnd_fuse (endpoint : Nat) (s : State) : (roleBlockEnd endpoint s).fuse = s.fuse := rfl
theorem setSdo_fuse (n : Nat) (t : SdoTransfer) (s : State) : (setSdo n t s).fuse = s.fuse := rfl
theorem sdoFail_fuse (n code : Nat) (s : State) : (sdoFail n code s).fuse = s.fuse := by unfold sdoFail; split <;> rfl
theorem sdoFresh_fuse (n : Nat) (s : State) : (sdoFresh n s).fuse = s.fuse := by unfold sdoFresh; split <;> simp only [sdoFail_fuse]
theorem sdoUpSegment_fuse (n : Nat) (toggle : Bool) (s : State) : (sdoUpSegment n toggle s).fuse = s.fuse := by unfold sdoUpSegment; (repeat' first | with_reducible rfl | (intro _) | (simp only [sdoFail_fuse, sdoSend_fuse, setSdo_fuse, touchSession_fuse, ite_fuse, ite_self]) | split | (dsimp only))
theorem sdoAborted_fuse (n : Nat) (s : State) : (sdoAborted n s).fuse = s.fuse := by unfold sdoAborted; split <;> rfl
theorem sdoTimeout_fuse (n : Nat) (s : State) : (sdoTimeout n s).fuse = s.fuse := by unfold sdoTimeout; split <;> simp only [sdoFail_fuse]
theorem setDiag_fuse (slot kind : Nat) (s : State) : (setDiag slot kind s).fuse = s.fuse := rfl
theorem eraseTarget_fuse (address : Nat) (s : State) : (eraseTarget address s).fuse = s.fuse := by unfold eraseTarget; split <;> rfl
theorem stageKeeper_fuse (b : Blob) (s : State) : (stageKeeper b s).fuse = s.fuse := by unfold stageKeeper; (repeat' first | with_reducible rfl | (intro _) | (simp only [setKeeperSlot_fuse, ite_fuse, ite_self]) | split | (dsimp only))
theorem doipGone_fuse (slot : Nat) (s : State) : (doipGone slot s).fuse = s.fuse := by unfold doipGone; (repeat' first | with_reducible rfl | (intro _) | (simp only [closeSession_fuse, emit_fuse, ite_fuse, ite_self]) | split | (dsimp only))
theorem modWindow_fuse (f : OdWindow → OdWindow) (s : State) : (modWindow f s).fuse = s.fuse := rfl
theorem windowWritten_fuse (read : Bool) (s : State) : (windowWritten read s).fuse = s.fuse := rfl
theorem windowIgnored_fuse (op idx sb : Nat) (s : State) : (windowIgnored op idx sb s).fuse = s.fuse := by simp only [windowIgnored, logEvent_fuse]
theorem aoPeriod_fuse (s : State) : (aoPeriod s).fuse = s.fuse := by unfold aoPeriod; split <;> rfl

end Sys2Proof.Machine
end

