-- ==== Sys2Proof/Laws/Maps.lean ====
section
/-! SUPPORT. The one canonical form of the block's addressed storage, and that the operations on it keep that form: the
object dictionary, the string entries, the words of a core's memory, the signal store, the receive streams. -/

namespace Sys2Proof.Machine

variable {α : Type} {ok : Nat → α → Bool}

/-- Keys above a bound, rising, and every entry accepted: the form of a map as a recursion over its tail. -/
theorem mapWf_iff (m : List (Nat × α)) :
    mapWf ok m = true ↔ m.Pairwise (fun a b => a.1 < b.1) ∧ ∀ e ∈ m, ok e.1 e.2 = true := by
  induction m with
  | nil => simp [mapWf]
  | cons e r ih =>
    obtain ⟨k, v⟩ := e
    cases r with
    | nil => simp [mapWf]
    | cons e' r =>
      obtain ⟨k', v'⟩ := e'
      simp only [mapWf, Bool.and_eq_true, decide_eq_true_eq, ih, List.pairwise_cons, List.forall_mem_cons]
      constructor
      · rintro ⟨⟨hk, ho⟩, ⟨hr, hp⟩, hok⟩
        exact ⟨⟨⟨hk, fun x hx => Nat.lt_trans hk (hr x hx)⟩, hr, hp⟩, ho, hok⟩
      · rintro ⟨⟨⟨hk, _⟩, hr, hp⟩, ho, hok⟩
        exact ⟨⟨hk, ho⟩, ⟨hr, hp⟩, hok⟩

theorem mapWf_filter {m : List (Nat × α)} (p : Nat × α → Bool) (h : mapWf ok m = true) : mapWf ok (m.filter p) = true := by
  rw [mapWf_iff] at *
  exact ⟨h.1.filter p, fun e he => h.2 e ((List.mem_filter.mp he).1)⟩

theorem mapWf_del {m : List (Nat × α)} (k : Nat) (h : mapWf ok m = true) : mapWf ok (mapDel k m) = true := mapWf_filter _ h

/-- What a put leaves in a map: the new entry and old ones. -/
theorem mem_mapPut {k : Nat} {v : α} {m : List (Nat × α)} {e : Nat × α} (h : e ∈ mapPut k v m) : e = (k, v) ∨ e ∈ m := by
  induction m with
  | nil => simpa [mapPut] using h
  | cons a r ih =>
    obtain ⟨j, w⟩ := a
    simp only [mapPut] at h
    split at h
    · simpa using h
    · split at h
      · simp only [List.mem_cons] at h ⊢; rcases h with h | h
        · exact .inl h
        · exact .inr (.inr h)
      · simp only [List.mem_cons] at h ⊢; rcases h with h | h
        · exact .inr (.inl h)
        · exact (ih h).imp id .inr

theorem mapWf_put {m : List (Nat × α)} {k : Nat} {v : α} (hv : ok k v = true) (h : mapWf ok m = true) :
    mapWf ok (mapPut k v m) = true := by
  rw [mapWf_iff] at *
  refine ⟨?_, fun e he => (mem_mapPut he).elim (fun q => by rw [q]; exact hv) (h.2 e)⟩
  obtain ⟨hp, -⟩ := h
  induction m with
  | nil => simp [mapPut]
  | cons a r ih =>
    obtain ⟨j, w⟩ := a
    rw [List.pairwise_cons] at hp
    simp only [mapPut]
    split
    · rename_i hkj
      refine List.pairwise_cons.mpr ⟨fun e he => ?_, List.pairwise_cons.mpr hp⟩
      rcases List.mem_cons.mp he with rfl | he
      · exact hkj
      · exact Nat.lt_trans hkj (hp.1 e he)
    · split
      · rename_i hjk; subst hjk
        exact List.pairwise_cons.mpr hp
      · rename_i h1 h2
        refine List.pairwise_cons.mpr ⟨fun e he => ?_, ih hp.2⟩
        rcases mem_mapPut he with rfl | he
        · exact Nat.lt_of_le_of_ne (Nat.le_of_not_lt h1) h2
        · exact hp.1 e he

/-! ### The dictionary -/

theorem odSet_wf {m : List (Nat × Nat)} (k v : Nat) (h : mapWf (fun k v => v ≠ odDefault k) m = true) :
    mapWf (fun k v => v ≠ odDefault k) (odSet m k v) = true := by
  unfold odSet; split
  · exact mapWf_del k h
  · rename_i hv; exact mapWf_put (by simpa using hv) h

theorem setVal_odWf {s : State} (k v : Nat) (h : s.odWf = true) : (setVal k v s).odWf = true := odSet_wf k v h

theorem setBlob_blobsWf {s : State} (k : Nat) (b : Blob) (h : s.blobsWf = true) : (setBlob k b s).blobsWf = true := by
  unfold setBlob State.blobsWf; dsimp only; split
  · exact mapWf_del k h
  · rename_i hb; exact mapWf_put (by simpa using hb) h

/-! ### Core memory, signal store, streams -/

/-- The words listed differ from what an unlisted address reads as, in rising order. -/
theorem putWord_wf {k : PfCore} (a : Nat) (w : PfWord) (h : mapWf (fun _ w => decide (w ≠ {})) k.mem = true) :
    mapWf (fun _ w => decide (w ≠ {})) (k.putWord a w).mem = true := by
  unfold PfCore.putWord; dsimp only; split
  · exact mapWf_del a h
  · rename_i hw; exact mapWf_put (by simpa using hw) h

theorem sigPut_wf {s : State} (i : Nat) (e : BitVec 64) (h : mapWf (fun _ e => decide (e ≠ sigPowerUp)) s.sig.store = true) :
    mapWf (fun _ e => decide (e ≠ sigPowerUp)) (sigPut i e s).sig.store = true := by
  unfold sigPut; dsimp only; split
  · exact mapWf_del i h
  · rename_i he; exact mapWf_put (by simpa using he) h

theorem streamPut_wf {s : State} (j : Nat) (x : StreamSt) (h : mapWf (fun _ x => decide (x ≠ {})) s.sig.streams = true) :
    mapWf (fun _ x => decide (x ≠ {})) (putStream j x s).sig.streams = true := by
  unfold putStream; dsimp only; split
  · exact mapWf_del j h
  · rename_i hx; exact mapWf_put (by simpa using hx) h

theorem reset_odWf : State.reset.odWf = true := by decide +kernel
theorem reset_blobsWf : State.reset.blobsWf = true := by decide +kernel

end Sys2Proof.Machine
end

