-- ==== Sys2Proof/Tests/Slice0.lean ====
section
/-! SUPPORT. The model's own tests: small states, one step each, with results worked out from the rules; the well-formedness
checks, each with a term it refuses; and for every statement a state and operands that meet its hypotheses. -/

namespace Sys2Proof.Tests

set_option Elab.async false

open Sys2Proof Sys2Proof.Machine

/-! ### Helpers -/

/-- session of HOST in slot 0 -/
def wHost : State := { State.reset with sess := { State.reset.sess with slots := State.reset.sess.slots.set 0 (some { transport := .sdo, endpoint := 0, role := .host }) } }

def wRole (r : Role) : State := { State.reset with sess := { State.reset.sess with slots := State.reset.sess.slots.set 0 (some { transport := .sdo, endpoint := 0, role := r }) } }

/-- computes WriteReady -/
def readyB (s : State) (slot idx sb : Nat) (v : OdValue) : Option (Nat × Blob) :=
  match sessionAt s slot with
  | none => none
  | some x => match allow s x true idx sb with
    | .error _ => none
    | .ok r => match typed r v with
      | .error _ => none
      | .ok (n, b) => if (r.acc == .rws && !ownerStopped s idx sb) || !stateOpen s idx sb || !inRange r n then none else some (n, b)

theorem ready_of {s : State} {slot idx sb : Nat} {v : OdValue} {n : Nat} {b : Blob} (h : readyB s slot idx sb v = some (n, b)) :
    WriteReady s slot idx sb v n b := by
  unfold readyB at h
  split at h; · cases h
  rename_i x hx
  split at h; · cases h
  rename_i r hr
  split at h; · cases h
  rename_i n' b' ht
  split at h; · cases h
  rename_i hc
  cases h
  simp at hc
  exact ⟨x, r, hx, hr, ht, fun e => hc.1.1 e, hc.1.2, hc.2⟩

/-- a Comb whose header gives this many ticks -/
def wC (h : Nat) : Comb := { hdr := zeros 32 ++ leBytes 4 h ++ zeros 220, acts := [], wins := [], flows := [], code := [], routes := [], rlist := [], pdus := [], limits := [], graph := [], cert := [], cmap := [], hash := [] }

def wRun (h t : Nat) (due : Bool) : State := { State.reset with comb := { active := some (wC h) }, clk := { State.reset.clk with tick := t, boundaryDue := due } }

def wVerified : State := { wRole .host with comb := { State.reset.comb with state := .verified } }

def wPlane : State := { wRole .maker with fab := { State.reset.fab with planeB := { failed := true } } }

def wSpill : State := { State.reset with
  comb := { State.reset.comb with now := [0x3000000000000000#64] }
  fab := { State.reset.fab with queues := vmod State.reset.fab.queues 0 fun x => { x with cells := [(⟨1, 0, 0⟩, .dram), (⟨2, 0, 1⟩, .spillPending)], spill := true } } }

def wSig : State := { State.reset with sig := { State.reset.sig with store := [(0, sigMake 7 4 1 true 0 false false), (1, sigMake 7 4 1 true 0 true false), (2, sigMake 7 4 1 false 0 false false)] } }

def wCan : State := modPort 0 (fun p => { p with st := .running }) { wRole .maker with fuse := State.reset.fuse }

def wDiv : State := { State.reset with keeper := { State.reset.keeper with g := ((State.reset.keeper.g.set 1 (mkWord tS32 (-7))).set 2 (mkWord tS32 2)).set 3 ⟨tF32, 0x40000000⟩ } }

theorem quietKeeper {s : State} {w : Word} (h1 : canIssue .keeper s = true) (h2 : s.keeper.pend = []) (h3 : s.keeper.rep = none) (h4 : s.keeper.slotTarget = none)
    (h5 : s.keeper.pc < s.keeper.imem) (h6 : 0x11 ≤ s.keeper.isalvl.toNat) (h7 : s.keeper.lastDiv = none)
    (h8 : s.keeper.prevLoad = none) (h9 : s.keeper.repWord = none) (h10 : s.keeper.code = []) (h11 : s.keeper.badCode = []) : Quiet .keeper s w :=
  ⟨h1, h2, h3, h4, h8, h9, ⟨by simp [coreOf, h11], .inr (.inl h5), by simp [PfCore.fetches, PfCore.codeAt, coreOf, h9, h10, mapGet], by simp [PfCore.codeAt, coreOf, h10, mapGet]⟩,
    h6, fun d h => by simp [coreOf, h7] at h, fun p h => by cases h⟩

theorem qReset {w : Word} : Quiet .keeper State.reset w :=
  quietKeeper (by decide +kernel) rfl rfl rfl (by decide +kernel) (by decide +kernel) rfl rfl rfl rfl rfl

theorem qDiv {w : Word} : Quiet .keeper wDiv w :=
  quietKeeper (by decide +kernel) rfl rfl rfl (by decide +kernel) (by decide +kernel) rfl rfl rfl rfl rfl

/-- The keeper's core with operands, a segment 1 of words 0x100-0x164 and a REP count. -/
def kMem (n : Nat) (f : PfCore → PfCore) : State := { State.reset with keeper := f { State.reset.keeper with
  g := ((((((((State.reset.keeper.g.set 1 (u32Word 5)).set 2 (mkWord tS32 7)).set 3 (segWord 1 5)).set 4 (boolWord true)).set 5 (rawWord 0x21)).set 26 (u32Word 3)).set 27 (u32Word 9)).set 29 (u32Word n))
  sg := State.reset.keeper.sg.set 1 0x000001000000641F } }

def wMem : State := kMem 2 id

def wRep : State := kMem 0 id

def wRepS : State := kMem 0 fun k => { k with g := k.g.set 29 (mkWord tS32 1) }

def wStr1 : State := kMem 1 fun k => { k with mem := [(0x103, mkWord tS32 6), (0x109, mkWord tS32 (-4))] }

def wUser : State := kMem 0 fun k => { k with status := 8 }

def wExl : State := kMem 0 fun k => { k with status := 13 }

def wIrq : State := kMem 0 fun k => { k with status := 11, ipend := 0x18, imask := 0xF8 }

def wPendK : State := kMem 0 fun k => { k with pend := [⟨4, .reg 1 (u32Word 9)⟩], resv := some (5, 9) }

theorem qMem {w : Word} : Quiet .keeper wMem w :=
  quietKeeper (by decide +kernel) rfl rfl rfl (by decide +kernel) (by decide +kernel) rfl rfl rfl rfl rfl

theorem qRep {w : Word} : Quiet .keeper wRep w :=
  quietKeeper (by decide +kernel) rfl rfl rfl (by decide +kernel) (by decide +kernel) rfl rfl rfl rfl rfl

theorem qRepS {w : Word} : Quiet .keeper wRepS w :=
  quietKeeper (by decide +kernel) rfl rfl rfl (by decide +kernel) (by decide +kernel) rfl rfl rfl rfl rfl

theorem qStr1 {w : Word} : Quiet .keeper wStr1 w :=
  quietKeeper (by decide +kernel) rfl rfl rfl (by decide +kernel) (by decide +kernel) rfl rfl rfl rfl rfl

theorem qUser {w : Word} : Quiet .keeper wUser w :=
  quietKeeper (by decide +kernel) rfl rfl rfl (by decide +kernel) (by decide +kernel) rfl rfl rfl rfl rfl

theorem qExl {w : Word} : Quiet .keeper wExl w :=
  quietKeeper (by decide +kernel) rfl rfl rfl (by decide +kernel) (by decide +kernel) rfl rfl rfl rfl rfl

theorem qIrq {w : Word} : Quiet .keeper wIrq w :=
  quietKeeper (by decide +kernel) rfl rfl rfl (by decide +kernel) (by decide +kernel) rfl rfl rfl rfl rfl

/-- a Comb with one window on column 0, its map primary pair 0 and spares 1 and 2 -/
def cCol : Comb := { wC 100 with wins := [BitVec.ofNat 256 (5 * 2 ^ 172 + 1000 * 2 ^ 192)], cmap := [0x30210] }

/-- A worker that runs a window. -/
def wWinRun : WinRun := { win := 0, col := 0, kind := .first }

def wWp : State := { State.reset with
  comb := { State.reset.comb with active := some cCol }
  pwr := { State.reset.pwr with pairs := Vector.replicate 16 true }
  pairs := State.reset.pairs.set 0 { State.reset.pairs[0] with run := some wWinRun }
  wp := State.reset.wp.set 0 { State.reset.wp[0] with g := State.reset.wp[0].g.set 1 (u32Word 5) } }

theorem qWp {w : Word} : Quiet (.wp 0) wWp w :=
  ⟨by decide +kernel, rfl, rfl, rfl, rfl, rfl, ⟨by decide +kernel, .inr (.inl (by decide +kernel)), by simp [PfCore.fetches, PfCore.codeAt, coreOf, wWp, State.reset, mapGet], by simp [PfCore.codeAt, coreOf, wWp, State.reset, mapGet]⟩, by decide +kernel, (fun d h => by cases h),
    (fun p h => by cases h; exact ⟨wWinRun, rfl, rfl, Nat.zero_le _⟩)⟩

def wPend : State := { State.reset with
  wp := State.reset.wp.set 0 { State.reset.wp[0] with pend := [⟨4, .reg 1 (u32Word 9)⟩], resv := some (5, 9), cyc := 6 } }

abbrev OutS := Host.Outcome State Fault Refusal

def st' (o : OutS) : State := match o with | .next t => t | _ => State.reset

/-- runs commands -/
def runs (l : List Instr) (s : State) : State := l.foldl (fun s c => st' (exec c s)) s

def wCol (run : Option WinRun) : State := { State.reset with
  pwr := { State.reset.pwr with pairs := Vector.replicate 16 true }
  comb := { State.reset.comb with active := some cCol, now := [0x2000000000000000#64] }
  pairs := State.reset.pairs.set 0 { State.reset.pairs[0] with column := some 0, run := run }
  cols := if run.isSome then State.reset.cols.set 0 { win := some 0, startTick := 0, snap := [] } else State.reset.cols
  clk := { State.reset.clk with ticks := 9 } }

/-- pattern entry: zone, channel mask, current, carrier, command, triggers, period -/
def pat (zone ant icur fcode cmd trig period : Nat) : Nat :=
  2 ^ 127 + zone * 2 ^ 124 + ant * 2 ^ 116 + icur * 2 ^ 108 + fcode * 2 ^ 99 + cmd * 2 ^ 95 + trig * 2 ^ 87 + period * 2 ^ 71

def patBlob (l : List Nat) : Blob := subPad (l.flatMap (leBytes 16)) 0 512

/-- patterns 0 (poll frame, every trigger), 1 (CHALLENGE) -/
def wLf : State := setBlob (odKey 0x4002 1) (patBlob [pat 1 1 40 200 1 0x7F 100, pat 0 1 40 200 2 0 100]) { wRole .maker with pwr := { State.reset.pwr with access := true, crystal := true } }

def wKey (i id kind : Nat) : KeyEntry := { index := i, id := id, kind := kind, zones := 0xFF, key := some (zeros 16) }

def wTp (st : TpStep) : State := { wLf with lf := { wLf.lf with user := .transponder, tp := { step := st, channels := 64 }, keys := [wKey 0 7 1] } }

def wSess (start : Bool) : State := { wLf with lf := { wLf.lf with session := some ⟨7, true, start, zeros 16, 99999⟩ }, lc := { State.reset.lc with state := 1 } }

def wRound (r : UwbRound → UwbRound) : State := { wLf with uwb := { wLf.uwb with round := some (r { pattern := 1, zone := 0, tailAnts := [], slotBase := 0, channel := 9, nb := zeros 8 }) }, lf := { wLf.lf with keys := [wKey 3 7 0] } }

def wExch (e : Exchange → Exchange) : State := { wRound (fun r => { r with answersDone := true }) with uwb := { (wRound (fun r => { r with answersDone := true })).uwb with exchange := some (e { index := 3, nk := zeros 8, tails := [], zone := 0 }) } }

def wTag (f : Option Nat) (r : NfcRole) : State := { wRole .maker with nfc := { State.reset.nfc with field := true, active := true, app := true, file := f, role := r } }

def wRd (st : ReaderStep) : State := { wLf with nfc := { State.reset.nfc with step := st, cards := [[1, 2, 3, 4]], own := true }, lf := { wLf.lf with keys := [wKey 0 7 1] } }

/-- A device with a valid share, KEY slots 0 (every usage, owned by keeper and data plane), a session of MAKER in slot 0. -/
def kAll : KeySlot := { key := zeros 16, src := 0, meas := false, usage := 0xFF, owner := 0xF, keyId := 9, kgen := 2 }

def wTr : State := { wRole .maker with
  lc := { State.reset.lc with state := 1, challenge := some { bytes := zeros 32, madePs := 0, used := false } }
  fuse := { State.reset.fuse with makerKh := List.replicate 32 1, debugKh := List.replicate 32 2 }
  vault := { State.reset.vault with kd := some (zeros 32), slots := State.reset.vault.slots.set 0 (some kAll) } }

def wLc (n : Nat) : State := { wTr with lc := { wTr.lc with state := n } }

def wRepl (e : Option (Nat × Nat × Nat)) : State := { wTr with vault := { wTr.vault with repl := [{ requester := 0, tag := 7, target := 3, enrol := e, shadow := kAll, blob := zeros 72 }] } }

def wF : Frame := { id := 1, bytes := zeros 64, inPort := 14, outPort := 29, tc := 0, rxPort := 14 }

def wF29 : State := { State.reset with fab := { State.reset.fab with frames := [wF], nextFrame := 2, queues := vmod State.reset.fab.queues wF.queue fun _ => { cells := [(⟨1, 0, 1⟩, .shared)], frames := [1] } } }

def wLreq : LaneReq := { tag := 1, mode := 5, ksel := 0, lane := 2, tlen := 0, aad := [], data := [1], unit4096 := false, dst := 0, iv := [], tagv := [] }

def wPass : LanePass := { kind := .keeper, requester := 5, frame := 0, left := 2, req := some wLreq, op := 3 }

def wLane (f : Lane → Lane) : State := modLane 2 f { wTr with comb := { wTr.comb with now := [0x7000002000000000#64] } }

def wHold : State := { wTr with pwr := { wTr.pwr with hive := false, dev := .field }, tamper := { wTr.tamper with waiting := true } }

def wSrv (copyB : Bool) : State := { State.reset with store := { State.reset.store with inService := some ⟨4, 0, ⟨1, 5, 0, false, false, false, List.replicate 256 9⟩, copyB⟩ } }

/-- Area W with a write password of ones, seen by a WORKSHOP session. -/
def wPw : State := (storePut 1 0x02 0 false (zeros 16 ++ List.replicate 16 1) (wRole .workshop)).getD State.reset

def wPwB : State := { wPw with store := { wPw.store with verifyPw := ⟨8, true, 600⟩ } }

/-- Every session slot taken, none on CAN0. -/
def wFull : State := { State.reset with sess := { State.reset.sess with slots := Vector.replicate 16 (some { transport := .uds, endpoint := 5 }) } }

/-- Ethernet port 14 serves OD-over-UDP and DoIP; a UDP session 5 in slot 0. -/
def wEth : State := { wTr with sess := { wTr.sess with inForce := mapPut (odKey 0x1033 1) 0x4000 wTr.sess.inForce
                                                       slots := wTr.sess.slots.set 0 (some { transport := .udp, endpoint := 14, role := .maker, udpId := 5, udpKey := zeros 16, lastSeq := 3, response := some [9] }) } }

def wWinAt (n : Nat) : State := { State.reset with sess := { State.reset.sess with window := { slot := n } } }

def wWinM : State := { wTr with sess := { wTr.sess with window := { slot := 0, value := some (3, 60000) } } }

def wSdo (t : SdoTransfer) : State := { wTr with sess := { wTr.sess with sdo := wTr.sess.sdo.set 0 t } }

def wEthNo : State := { wEth with vault := { wEth.vault with kd := none } }

def wUds (d : Nat) (r : Role) : State := { wTr with sess := { wTr.sess with slots := wTr.sess.slots.set 0 (some { transport := .uds, endpoint := 0, role := r, diag := d }) } }

def wDl (got : Blob) (c : Nat) : State := { wUds 2 .maker with sess := { (wUds 2 .maker).sess with download := some (0, ⟨0x4B000000, 4, got, c⟩) } }

def wLoader : State := { wTr with kpr := { wTr.kpr with running := false, recovery := true } }

def wAccOff (v : BitVec 64) : State := { State.reset with pwr := { State.reset.pwr with access := false, voteAccess := v, pll := 0x4F } }

def wSleep : State := { State.reset with pwr := { State.reset.pwr with dev := .sleep, hive := false, voteHive := 0 } }

def wAlarm : State := setVal (odKey 0x2107 2) 5 { State.reset with pwr := { State.reset.pwr with rtc := 5, sense := State.reset.pwr.sense.set 1 true } }

def wEntry (k : Option Nat) : State := { wTr with pwr := { wTr.pwr with voteHive := 0, entry := k } }

def wEntryW (k : Nat) : State := { wEntry (some k) with pwr := { (wEntry (some k)).pwr with wake := some 17 } }

def wDue (c : Nat) : State := { wTr with pwr := { wTr.pwr with bootDue := some c } }

def wWarm : State := { wSleep with pwr := { wSleep.pwr with bootDue := some 1, ddr := .retained, wakeCode := 17 } }

def wBoot (cold : Bool) (k : Nat) : State := { State.reset with pwr := { State.reset.pwr with boot := some (cold, k), dev := .boot, voteHive := 0x11, voteAccess := 0x11, voteDdr := 0x11 } }

def wStaged : State := { State.reset with evt := { State.reset.evt with rings := State.reset.evt.rings.set 3 { staging := [{ seq := 0, source := 3, cls := 2, detail := 5, time := 0, obj := 0, flags := 0, data := zeros 8 }], restart := false } } }

/-- A port test of port 0 set up: this mode, 8 bytes, 3 frames, CAN classic format enabled. -/
def wPt (_n mode : Nat) : State := setVal (odKey 0x5010 3) 3 (setVal (odKey 0x5010 2) 8 (setVal (odKey 0x5010 1) mode (modPort 0 (fun p => { p with st := .stopped }) wTr)))

def wPtSer : State := { wTr with test := { wTr.test with ser := wTr.test.ser.set 5 { running := true } } }

def wLocked : State := { wTr with test := { wTr.test with ser := wTr.test.ser.set 5 { running := true, locked := true } } }

def wPtRun : State := modPort 0 (fun p => { p with st := .running }) wTr

/-- A port test of port 0 that runs in this mode, all 3 of its frames sent. -/
def wTest (mode : Nat) : State := modPort 0 (fun p => { p with test := { st := 1, mode := mode, count := 3, sent := 3 } }) (wPt 0 mode)

def wPtGen (mode : Nat) : State := modPort 0 (fun p => { p with test := { st := 1, mode := mode, count := 3, sent := 0 } }) (wPt 0 mode)

def wLoop : State := { wTr with lf := { wTr.lf with loopback := true }, test := { wTr.test with lf := true } }

def wBist (code : Nat) : State := { wTr with
  test := { wTr.test with bist := some code }
  pairs := wTr.pairs.set 3 { wTr.pairs[3] with st := .retired, retired := true }
  wp := wTr.wp.set 3 { wTr.wp[3] with mem := [(5, mkWord tS32 6)] } }

def wDbg : State := { State.reset with lc := { State.reset.lc with debugOpen := true, state := 3 }, keeper := { State.reset.keeper with debugHalt := true, g := State.reset.keeper.g.set 5 (mkWord tS32 6) } }

def wStop : State := { setChan 0 .stopped wTr with uwb := { wTr.uwb with st := .stopped } }

/-- A running port of `wTr`. -/
def wOn (n : Nat) (f : Port → Port) : State := modPort n (fun p => f { p with st := .running }) wTr

/-- One frame (number 1, one cell) for an output, in its queue of class 0. -/
def wQueue (out : Nat) (s : State) : State := { s with fab := { s.fab with
  frames := [{ wF with outPort := out, bytes := zeros 64 }], nextFrame := 2
  queues := vmod s.fab.queues (8 * out) fun _ => { cells := [(⟨1, 0, 1⟩, .shared)], frames := [1] } } }

def wTransit : State := { State.reset with fab := { State.reset.fab with spillInFlight := 1, queues := vmod State.reset.fab.queues 5 fun _ => { cells := [(⟨7, 0, 1⟩, .transit)] } } }

def wCap : MirrorCap := ⟨zeros 64, 64, 0, 14, 15, 0, 0, none, false, false, false, false, 0, 0, false, false⟩

def wMir : State := setVal (odKey 0x3810 1) 14 <| setVal (odKey 0x3810 3) 1 { State.reset with
  comb := { State.reset.comb with now := [0x3000000004000000#64] }
  fab := { State.reset.fab with mirrors := vmod State.reset.fab.mirrors 0 fun _ => { st := .running, waiting := [(wCap, 9)] } } }

def wPause : State := setVal (pk 18 3 3) 1 { State.reset with fab := { State.reset.fab with ports := vmod State.reset.fab.ports 18 fun p => { p with pausedBy := [3] } } }

def wClaim : State := setVal (odKey 0x3A20 1) 7 { wOn 0 id with sig := { State.reset.sig with claims := State.reset.sig.claims.set 0 { address := 0x80, state := 2 } } }

/-- A J1939 receive PDU of port 0 with PGN 0xFECA, 100 bytes, for cluster 0. -/
def bamD : BitVec 512 := BitVec.ofNat 512 (2 ^ 499 + 0xFECA * 2 ^ 467 + 100 * 2 ^ 443 + 2 ^ 439)

def wBam : State := { wOn 0 id with comb := { State.reset.comb with active := some { wC 100 with pdus := [bamD] } } }

def wItem : RxItem := ⟨zeros 64, [(5, none, none)], 0, 0, 0⟩

def wCanIn : State := let s := setVal (odKey 0x3830 1) 1000 <| setVal (odKey 0x3830 9) 100000 (wOn 0 id); { s with fab := { s.fab with buckets := s.fab.buckets.map fun _ => { micro := 9000000000 } } }

def wTx : State := setVal (pk 0 1 1) 7 (wQueue 0 (wOn 0 id))

def wTxb : State := setVal (pk 0 1 1) 7 (wQueue 0 (wOn 0 fun p => { p with can := { p.can with bufs := [(3, 1)] } }))

/-- LIN port 10: commander or responder, with a default filter entry that subscribes to everything. -/
def wLin (resp : Nat) (st : FnState) : State := setBlob (pk 10 5 2) (List.replicate 16 0xFF) (setVal (pk 10 1 1) resp { modPort 10 (fun p => { p with st := st }) wTr with comb := { State.reset.comb with now := [0x6000000000000000#64], active := some (wC 1000) } })

def wPlca (id : Nat) : State := setVal (pk 14 0xB 1) 1 (setVal (pk 14 0xB 2) id (wOn 14 fun p => { p with eth := { p.eth with plca := 1 } }))

def wEthIn : State := let s := setVal (odKey 0x3842 1) 1000 <| setVal (odKey 0x3842 9) 100000 (setBlob (pk 18 5 2) (leBytes 16 (2 ^ 127 + 2 ^ 110)) (wOn 18 id)); { s with comb := { s.comb with active := some (wC 1000) }, fab := { s.fab with buckets := s.fab.buckets.map fun _ => { micro := 9000000000 } } }

def wEthTx (n : Nat) : State := wQueue n (wOn n fun p => { p with eth := { p.eth with tx := some 1 } })

def at60 (s : State) : State := { s with clk := { s.clk with tickPs := 60000000000000 } }

theorem flit_parts (b : BitVec 80) (g : BitVec 32) (c : BitVec 16) :
    ((b ++ g) ++ c).extractLsb' 48 80 = b ∧ ((b ++ g) ++ c).extractLsb' 16 32 = g ∧ ((b ++ g) ++ c).extractLsb' 0 16 = c := by
  refine ⟨?_, ?_, ?_⟩
  · apply BitVec.eq_of_getLsbD_eq; intro i hi
    rw [BitVec.getLsbD_extractLsb', BitVec.getLsbD_append, if_neg (by omega), BitVec.getLsbD_append, if_neg (by omega)]
    rw [show 48 + i - 16 - 32 = i by omega]; simp [hi]
  · apply BitVec.eq_of_getLsbD_eq; intro i hi
    rw [BitVec.getLsbD_extractLsb', BitVec.getLsbD_append, if_neg (by omega), BitVec.getLsbD_append, if_pos (by omega)]
    rw [show 16 + i - 16 = i by omega]; simp [hi]
  · apply BitVec.eq_of_getLsbD_eq; intro i hi
    rw [BitVec.getLsbD_extractLsb', BitVec.getLsbD_append, if_pos (by omega)]
    rw [show 0 + i = i by omega]; simp [hi]

/-- A Comb with reservations of input 0 to output 29, class 0, in slots 0 to 63; a 64-byte frame from port 0 for output 29 staged and ready. -/
def wSlot : State := { State.reset with
  fab := { State.reset.fab with
    frames := [{ wF with inPort := 0, outPort := 29, whole := true }], nextFrame := 2
    ports := vmod State.reset.fab.ports 0 (fun p => { p with staging := [⟨1, 0, 1⟩] }), ready := [(0, [(⟨1, 0, 1⟩, 29, 0)])] } }

/-! ### One step each -/

theorem test_tick :
    let d := wC 50
    let s : State := { State.reset with comb := { State.reset.comb with state := .armed, standby := some d } }
    let t := st' (exec (.tick []) s)
    let r := st' (exec (.tick []) (wRun 1000 5 false))
    t.comb.active = some d ∧ r.clk.tick = 6 ∧ r.comb.active = some (wC 1000) := by decide +kernel

theorem test_rescanComplete :
    let s : State := { State.reset with fab := { State.reset.fab with rescan := true, freeCells := 5, allocCells := 9 } }
    let t := st' (exec .rescanComplete s)
    t.fab.freeCells = 131072 ∧ t.fab.allocCells = 0 ∧ t.fab.rescan = false := by decide +kernel

theorem test_standbyImageLoad :
    let t := st' (exec (.standbyImageLoad 0 [1, 2]) (wRole .maker))
    t.comb.state = .loading ∧ t.comb.image = [1, 2] := by decide +kernel

theorem test_verifierDone :
    let s : State := { State.reset with comb := { State.reset.comb with state := .verifying, image := [1, 2] } }
    let t := st' (exec .verifierDone s)
    t.comb.state = .refused ∧ t.comb.refusal = 1 := by decide +kernel

theorem test_minGenerationWrite :
    let t := st' (exec (.minGenerationWrite 0 0) (wRole .maker))
    val t (odKey 0x3904 1) = 0 := by decide +kernel

theorem test_keeperWatchdogExpiry :
    let s := at60 wHost
    let t := st' (exec .keeperWatchdogExpiry s)
    t.kpr.running = false ∧ t.kpr.lastCause = 1 ∧ val t (odKey 0x3B20 3) = 1 ∧ ∀ i : Fin 16, i.val < 15 → t.sess.slots[i] = none := by decide +kernel

theorem test_keeperRestart :
    let s : State := at60 { State.reset with kpr := { State.reset.kpr with running := false }, comb := { State.reset.comb with state := .verifying, image := [2] } }
    let t := st' (exec .keeperRestart s)
    t.kpr.running = true ∧ t.kpr.watchPs = 60000000000000 ∧ t.comb.state = .refused ∧ t.comb.refusal = 14 := by decide +kernel

theorem test_keeperConfirm :
    let t := st' (exec .keeperConfirm (at60 State.reset))
    (keeperSlot t 0).map (·.confirmed) = some true := by decide +kernel

theorem test_spillDramSlot :
    let t := st' (exec .spillDramSlot wSpill)
    let s2 : State := { wSpill with fab := { wSpill.fab with spillReadNext := true } }
    let u := st' (exec .spillDramSlot s2)
    t.fab.spillReadNext = true ∧ t.fab.spillWPtr = 1 ∧ u.fab.spillReadNext = false ∧ u.fab.spillRPtr = 1 := by decide +kernel

theorem test_spillReadbackComplete :
    let t := st' (exec (.spillReadbackComplete 5 false) wTransit)
    let u := st' (exec (.spillReadbackComplete 5 true) wTransit)
    let s2 : State := { wTransit with fab := { wTransit.fab with queues := vmod wTransit.fab.queues 5 fun x => { x with groupLost := [(0, 9)] }, frames := [{ wF with id := 9 }, { wF with id := 7 }] } }
    let w := st' (exec (.spillReadbackComplete 5 true) s2)
    t.fab.spillInFlight = 0 ∧ u.fab.spillInFlight = 0 ∧ val u (odKey 0x3821 1) = 1 ∧ w.fab.frames = [] ∧ val w (odKey 0x3821 2) = 1 := by decide +kernel

theorem test_stallLimitExpiry :
    let t := st' (exec (.stallLimitExpiry 0) wTxb)
    let s2 := modPort 0 (fun p => { p with st := .stopping }) wTxb
    let u := st' (exec (.stallLimitExpiry 0) s2)
    (portAt t 0).st = .down ∧ (portAt t 0).flushing = true ∧ (portAt t 0).downCause = 2 ∧ val t (pk 0 4 4) = 1 ∧ (portAt u 0).st = .stopping ∧ (portAt u 0).flushing = true ∧ (portAt u 0).can.bufs = [] := by decide +kernel

theorem test_mirrorEntryWrite :
    let t := st' (exec (.mirrorEntryWrite 0) wMir)
    (mirrorAt t 0).waiting = [] ∧ (mirrorAt t 0).seq = 1 ∧ (mapGet 0 (mirrorAt t 0).ring) = some (mirrorEntry wMir 0 0 wCap 9) ∧ (mirrorEntry wMir 0 0 wCap 9).length = 128 := by decide +kernel

theorem test_mirrorSkipTimeout :
    let t := st' (exec (.mirrorSkipTimeout 0) wMir)
    (mirrorAt t 0).waiting = [] ∧ val t (odKey 0x3810 9) = 1 := by decide +kernel

theorem test_pauseRefreshTimer :
    let t := st' (exec (.pauseRefreshTimer 18) wPause)
    t.out.length = 1 ∧ val t (pk 18 3 8) = 1 := by decide +kernel

theorem test_signalWrites :
    let s := sigWrite 9 3 77 true 5 (sigWrite 9 2 1 false 0 State.reset)
    sigValue (sigRaw s 9) = 77 ∧ sigTag (sigRaw s 9) = 3 ∧ sigSealV (sigRaw s 9) = true ∧ sigWseq (sigRaw s 9) = 2 ∧ sigNoAge (sigRaw s 9) = false ∧ sigExpiry (sigRaw s 9) = 5 := by decide +kernel

theorem test_freshnessRecordCommit :
    let s := putStream 1 { waiting := true, fresh := 9, accepts := 4, state := 1 } (putStream 0 { waiting := true, transmit := true, resv := 65536, fresh := 5, state := 1 } State.reset)
    let t := st' (exec (.freshnessRecordCommit 0) s)
    let u := st' (exec (.freshnessRecordCommit 1) s)
    (streamAt t 0).resv = 131072 ∧ (streamAt u 1).resv = 9 ∧ (streamAt u 1).accepts = 0 ∧ (streamAt u 1).waiting = false := by decide +kernel

theorem test_addressClaimInitial :
    let s := modPort 0 (fun p => { p with st := .running }) (setVal (odKey 0x3A20 2) 0x80 State.reset)
    let t := st' (exec (.addressClaimInitial 0 0x80) s)
    (claimAt t 0).address = 0x80 ∧ (claimAt t 0).state = 2 := by decide +kernel

theorem test_addressClaimRequest :
    let t := st' (exec (.addressClaimRequest 0 0x80) wClaim)
    val t (pk 0 8 2) = 1 := by decide +kernel

theorem test_addressClaimedReceived :
    let u := st' (exec (.addressClaimedReceived 0 0x80 5) wClaim)
    (claimAt u 0).state = 3 ∧ u.out = [] := by decide +kernel

theorem test_bamAnnounce :
    let t := st' (exec (.bamAnnounce 0 0 5 0xFECA 100 15) wBam)
    let u := st' (exec (.bamAnnounce 0 0 5 0xFECA 1786 256) t)
    let v := st' (exec (.bamAnnounce 0 0 5 0xFECA 100 16) wBam)
    u.sig.bams = [] ∧ val u (odKey 0x3A2A 1) = 1 ∧ val u (odKey 0x3A2A 3) = 1 ∧ v.sig.bams = [] ∧ val v (odKey 0x3A2A 1) = 1 := by decide +kernel

theorem test_bamPacket :
    let s := st' (exec (.bamAnnounce 0 0 5 0xFECA 9 2) wBam)
    let t := st' (exec (.bamPacket 0 0 5 1 (zeros 7)) s)
    let u := st' (exec (.bamPacket 0 0 5 2 (zeros 7)) t)
    u.sig.bams = [] ∧ val u (odKey 0x3A2A 2) = 1 ∧ val u (odKey 0x3A01 5) = 1 := by decide +kernel

theorem test_canFrameReceive :
    let x : CanFrame := { id := 0x123, fmt := .classicBase, data := [1] }
    let t := st' (exec (.canFrameReceive 0 x 7) wCan)
    val t (pk 0 8 1) = 1 ∧ val t (pk 0 8 5) = 1 := by decide +kernel

theorem test_canFrames :
    let s := modPort 0 (fun p => { p with can := { p.can with rq0 := List.replicate 127 wItem } }) wCanIn
    let u := receiveItem 0 true wItem s
    let v := receiveItem 0 false wItem s
    let w := receiveItem 0 false wItem v
    (portAt u 0).can.rq1.length = 1 ∧ val u (pk 0 6 4) = 64 ∧ (portAt v 0).can.rq0.length = 128 ∧ (portAt w 0).can.rq0.length = 128 ∧ val w (odKey 0x3803 0x25) = 1 := by decide +kernel

theorem test_canDisabledFormatFrame :
    let a := setVal (pk 0 1 2) 0 wCan
    let t := st' (exec (.canDisabledFormatFrame 0) a)
    (portAt t 0).can.recv = 1 ∧ val t (pk 0 8 6) = 1 := by decide +kernel

theorem test_canErrorDetected :
    let t := st' (exec (.canErrorDetected 0 .receiver false) wCan)
    let u := st' (exec (.canErrorDetected 0 .transmitterInFlag false) wCan)
    let v := st' (exec (.canErrorDetected 0 .receiver true) (setVal (pk 0 1 3) 0 wCan))
    (portAt t 0).can.recv = 1 ∧ val t (pk 0 8 4) = 1 ∧ (portAt u 0).can.tec = 8 ∧ u.out = [] ∧ val u (pk 0 8 4) = 0 ∧ (portAt v 0).integrating = true ∧ v.out = [] := by decide +kernel

theorem test_canFrames_more :
    let t := raiseTec 0 8 (modCan 0 (fun c => { c with tec := 250 }) wCan)
    (portAt t 0).st = .down ∧ (portAt t 0).downCause = 1 ∧ (portAt t 0).flushing = true := by decide +kernel

theorem test_receiveQueueDrain :
    let s := wOn 0 fun p => { p with can := { p.can with rq0 := [wItem], rq1 := [wItem] } }
    let t := st' (exec (.receiveQueueDrain 0) s)
    (portAt t 0).can.rq0 = [] ∧ (portAt t 0).can.rq1 = [wItem] ∧ t.fab.frames.length = 1 := by decide +kernel

theorem test_transmitBufferLoad :
    let u := st' (exec (.transmitBufferLoad 0) (setVal (pk 0 1 1) 6 wTx))
    u.fab.frames = [] ∧ val u (pk 0 8 7) = 1 := by decide +kernel

theorem test_canFrameTransmitted :
    let t := st' (exec (.canFrameTransmitted 0 100 5) wTxb)
    (portAt t 0).can.bufs = [] ∧ (portAt t 0).can.tec = 0 ∧ val t (pk 0 8 2) = 1 := by decide +kernel

theorem test_canArbitrationLost :
    let t := st' (exec (.canArbitrationLost 0) wTxb)
    val t (pk 0 8 3) = 1 := by decide +kernel

theorem test_canHoldoffExpiry :
    let t := st' (exec (.canHoldoffExpiry 0) (modPort 0 (fun p => { p with st := .down, holdoff := true }) State.reset))
    (portAt t 0).st = .recovering ∧ (portAt t 0).recoverySeq = true ∧ (portAt t 0).holdoff = false := by decide +kernel

theorem test_canRecoveryComplete :
    let s := modPort 0 (fun p => { p with st := .recovering, recoverySeq := true, can := { p.can with tec := 9 } }) State.reset
    let t := st' (exec (.canRecoveryComplete 0) s)
    (portAt t 0).st = .running ∧ (portAt t 0).can.tec = 0 := by decide +kernel

theorem test_flushComplete :
    let s := modPort 1 (fun p => { p with st := .down, flushing := true }) (modPort 0 (fun p => { p with st := .stopping, flushing := true }) State.reset)
    let t := st' (exec (.flushComplete 0) s)
    (portAt t 0).st = .stopped ∧ (portAt t 0).flushing = false := by decide +kernel

theorem test_referenceMessageReceive :
    let s := setVal (pk 0 0xA 1) 1 wCan
    let t := st' (exec (.referenceMessageReceive 0 { id := 0, fmt := .classicBase, data := [5, 0, 1, 2] } 0) s)
    (portAt t 0).can.refState = 1 ∧ (portAt t 0).can.refMark = 0x102 ∧ (portAt t 0).can.refCycle = 5 ∧ (portAt t 0).can.lastRefPs = some (nowPs s) := by decide +kernel

theorem test_referenceTimeout :
    let s := modCan 0 (fun c => { c with refState := 1, lastRefPs := some 0 }) { wCan with clk := { wCan.clk with tickPs := 60000000000000 } }
    let t := st' (exec (.referenceTimeout 0) s)
    (portAt t 0).can.refState = 2 := by decide +kernel

theorem test_canWakeFrame :
    let s := setVal (pk 0 9 7) (2 ^ 56) (setVal (pk 0 9 6) 1 (setVal (pk 0 9 4) 0x7FF (setVal (pk 0 9 3) 5 (setVal (pk 0 9 5) 0 (setVal (pk 0 9 1) 2 { State.reset with pwr := { State.reset.pwr with dev := .sleep } })))))
    let t := st' (exec (.canWakeFrame 0 { id := 5, fmt := .classicBase, data := [1] }) s)
    t.pwr.wake = some 5 ∧ val t (pk 0 9 0xB) = 5 ∧ val t (pk 0 9 9) = 1 := by decide +kernel

theorem test_linScheduleSlot :
    let s := wLin 0 .running
    let t := st' (exec (.linScheduleSlot 0 0) s)
    let u := st' (exec (.linScheduleSlot 0 0) t)
    (portAt t 10).lin.header = some (0, true) ∧ (portAt t 10).lin.lastHeaderPs = some (nowPs s) ∧ val u (pk 10 8 5) = 1 := by decide +kernel

theorem test_linResponseBufferLoad :
    let s := wQueue 10 (wLin 0 .running)
    let t := st' (exec (.linResponseBufferLoad 10) s)
    t.fab.frames = [] := by decide +kernel

theorem test_linHeaderReceived :
    let s := wLin 1 .running
    let t := st' (exec (.linHeaderReceived 10 5 1) s)
    let u := st' (exec (.linHeaderReceived 10 5 19200) s)
    val t (pk 10 8 4) = 1 ∧ (portAt u 10).lin.header = some (5, false) := by decide +kernel

theorem test_linResponseComplete :
    let s := modPort 10 (fun p => { p with st := .running, lin := { p.lin with header := some (5, true), rate := 19200, lastHeaderPs := some 0 } }) State.reset
    let t := st' (exec (.linResponseComplete 10 [1, 2] true (BitVec.ofNat 8 (linChecksum 5 [1, 2] true))) s)
    let u := st' (exec (.linResponseComplete 10 [1, 2] true 0) s)
    (portAt t 10).lin.header = none ∧ val t (pk 10 8 1) = 1 ∧ val u (pk 10 8 1) = 0 ∧ val u (pk 10 8 4) = 1 := by decide +kernel

theorem test_linResponseTimeout :
    let s := modPort 10 (fun p => { p with st := .running, lin := { p.lin with header := some (5, false) } }) State.reset
    let t := st' (exec (.linResponseTimeout 10 false) s)
    (portAt t 10).lin.header = none ∧ val t (pk 10 8 3) = 1 := by decide +kernel

theorem test_linReadbackError :
    let s := modPort 10 (fun p => { p with st := .running, lin := { p.lin with readback := 7 } }) State.reset
    let t := st' (exec (.linReadbackError 10) s)
    let u := st' (exec (.linReadbackError 10) (wLin 0 .running))
    (portAt t 10).st = .down ∧ (portAt t 10).downCause = 3 ∧ val t (pk 10 8 6) = 1 ∧ (portAt t 10).flushing = true ∧ (portAt t 10).lin.header = none ∧ (portAt u 10).lin.readback = 1 ∧ (portAt u 10).st = .running := by decide +kernel

theorem test_linBusSleepTimeout :
    let s := wLin 1 .busSleep
    let t := st' (exec (.linWakeupReceived 10) s)
    let u := st' (exec (.linBusSleepTimeout 10) (wLin 1 .running))
    (portAt t 10).st = .running ∧ (portAt u 10).st = .busSleep := by decide +kernel

theorem test_linPorts :
    let t := setPortState 0 .running State.reset
    (portAt t 0).st = .running ∧ t.pwr.votePort[0]? = some true := by decide +kernel

theorem test_ethernetLinks :
    let t := startPort 0 (modPort 0 (fun p => { p with can := { p.can with tec := 4, bufs := [(0, 1)] } }) State.reset)
    (portAt t 0).st = .running ∧ (portAt t 0).integrating = true ∧ (portAt t 0).can.tec = 0 ∧ (portAt t 0).can.bufs = [] := by decide +kernel

theorem test_ethernetLinks_more :
    let t := finishStop 0 (wOn 0 fun p => { p with voteOff := true, st := .stopping })
    (portAt t 0).st = .stopped ∧ t.pwr.held.getLsbD 0 = true ∧ t.sess.slots[0]? = some none := by decide +kernel

theorem test_linkUp :
    let s := modPort 18 (fun p => { p with st := .recovering }) State.reset
    let t := st' (exec (.linkUp 18 (val s (pk 18 1 1)) (flag s (pk 18 1 3))) s)
    let u := st' (exec (.linkUp 18 10 false) s)
    let v := st' (exec (.linkUp 18 10 false) (modPort 18 (fun p => { p with st := .down, downCause := 5, holdoff := true }) s))
    (portAt t 18).st = .running ∧ (portAt t 18).eth.linkUp = true ∧ (portAt t 18).downCause = 0 ∧ (portAt u 18).st = .down ∧ (portAt u 18).downCause = 6 ∧ (portAt v 18).downCause = 6 ∧ (portAt v 18).holdoff = false := by decide +kernel

theorem test_linkFailure :
    let s := wOn 18 fun p => { p with eth := { p.eth with linkUp := true } }
    let t := st' (exec (.linkFailure 18) s)
    (portAt t 18).st = .down ∧ (portAt t 18).eth.linkUp = false ∧ (portAt t 18).flushing = true := by decide +kernel

theorem test_plcaBeacon :
    let t := st' (exec (.plcaBeaconTimeout 14) (wPlca 3))
    let u := st' (exec (.plcaCycleStart 14) (wPlca 0))
    (portAt t 14).eth.plca = 2 ∧ val t (pk 14 0xB 8) = 1 ∧ (portAt u 14).eth.plca = 1 := by decide +kernel

theorem test_tsaFaultClear :
    let s := modPort 14 (fun p => { p with st := .down, eth := { p.eth with phyFault := true } }) (setVal (pk 14 4 1) 1 wTr)
    let t := st' (exec (.tsaFaultClear 14) s)
    (portAt t 14).eth.phyFault = false ∧ (portAt t 14).holdoff = true ∧ (portAt t 14).st = .down := by decide +kernel

theorem test_gptpSyncReceived :
    let s := modPort 18 (fun p => { p with st := .running }) (setVal (pk 18 0xA 4) 1 State.reset)
    let t := st' (exec (.gptpSyncReceived 18 (-5) true (some 7)) s)
    let u := st' (exec (.gptpSyncReceived 18 (-5) true none) s)
    (portAt t 18).eth.asCapable = true ∧ (portAt t 18).eth.meanDelay = 7 ∧ val t (odKey 0x1040 9) = 1 ∧ val t (odKey 0x1040 0xA) = 18 ∧ (portAt u 18).eth.asCapable = false := by decide +kernel

theorem test_pnExhaustionTimeout :
    let s := wOn 18 fun p => { p with eth := { p.eth with pnExhausted := true } }
    let t := st' (execPnExhaustionTimeout 18 s)
    (portAt t 18).st = .down ∧ (portAt t 18).eth.pnExhausted = false := by decide +kernel

theorem test_ethFrameHead :
    let u := st' (exec (.ethFrameHead 18 (zeros 64) 3) (wOn 18 id))
    val u (pk 18 8 5) = 1 := by decide +kernel

theorem test_ethFrameEnd :
    let u := st' (exec (.ethFrameHead 18 (zeros 64) 0) wEthIn)
    let t := st' (exec (.ethFrameEnd 18 (zeros 64) false) u)
    let good := zeros 60 ++ leBytes 4 (crc32 (zeros 60))
    let v := st' (exec (.ethFrameEnd 18 good false) u)
    t.fab.ingress[18]? = some none ∧ val t (pk 18 8 1) = 1 ∧ val t (pk 18 8 3) = 1 ∧ t.fab.frames = [] ∧ val v (pk 18 8 1) = 1 ∧ val v (pk 18 8 3) = 0 ∧ v.fab.frames.length = 1 := by decide +kernel

theorem test_ethFrameTransmitted :
    let t := st' (exec (.ethFrameTransmitted 18 9) (wEthTx 18))
    val t (pk 18 8 2) = 1 ∧ t.fab.frames = [] ∧ (portAt t 18).eth.tx = none := by decide +kernel

theorem test_collision :
    let t := st' (exec (.collision 14) (wEthTx 14))
    let u := st' (exec (.backoffExpiry 14) t)
    (portAt t 14).eth.backoff = true ∧ (portAt t 14).eth.attempts = 1 ∧ (portAt t 14).eth.tx = some 1 ∧ val t (pk 14 8 6) = 1 ∧ (portAt u 14).eth.backoff = false := by decide +kernel

theorem test_pauseFrameReceived :
    let s := setVal (pk 18 3 3) 2 (wOn 18 id)
    let t := st' (exec (.pfcFrameReceived 18 0xFF [1, 2, 3, 4, 5, 6, 7, 8]) (setVal (pk 18 3 4) 0xF7 s))
    let u := st' (exec (.pauseFrameReceived 18 9) (setVal (pk 18 3 3) 1 (wOn 18 id)))
    (portAt t 18).eth.pauses[2].stopped = true ∧ val u (pk 18 3 7) = 1 := by decide +kernel

theorem test_pauseWatchdogExpiry :
    let s := modPort 18 (fun p => { p with eth := { p.eth with pauses := p.eth.pauses.set 2 { stopped := true, quanta := 5 } } }) wTr
    let t := st' (exec (.pauseWatchdogExpiry 18 2) s)
    (portAt t 18).eth.pauses[2].override = true ∧ val t (pk 18 3 6) = 1 := by decide +kernel

theorem test_pfTrap :
    let t := st' (exec (.pfTrap (.wp 0) 5) wWp)
    (coreOf (.wp 0) t).tcode = 0x0E ∧ (coreOf (.wp 0) t).tinfo = 5 ∧ (colAt t 0).win = none ∧ (pairAt t 0).run = none := by decide +kernel

theorem test_pipelineWriteback :
    let snap := (List.range 11).map fun i => (100 + i % 10, u32Word (i + 1), false)
    let r : WinRun := { wWinRun with skip := [3], base := 1 }
    let s := modPair 0 (fun x => { x with run := some r }) { wWp with cols := wWp.cols.set 0 { wWp.cols[0] with snap := snap } }
    let s := modCore (.wp 0) (fun k => { k with cyc := 3, resv := some (100, 2) }) s
    let t := st' (exec (.pipelineWriteback (.wp 0)) s)
    (coreOf (.wp 0) t).resv = none := by decide +kernel

theorem test_windowStart :
    let s := wCol none
    let t := runs [.windowStart 0 0] s
    (colAt t 0).win = some 0 ∧ (coreOf (.wp 0) t).status = 0 := by decide +kernel

theorem test_miscompare :
    let s := wCol (some wWinRun)
    let t := runs [.miscompare 0] s
    val t (odKey 0x3B10 6) = 1 := by decide +kernel

theorem test_miscompare_more :
    let s := wCol (some { wWinRun with kind := .rerun })
    let t := runs [.miscompare 0] s
    let s2 := modPair 1 (fun x => { x with run := some { wWinRun with kind := .shadow } }) s
    let u := runs [.miscompare 0] s2
    (pairAt t 0).retired = true ∧ (colAt t 0).win = none ∧ val t (odKey 0x3B01 6) = 1 ∧ (pairAt t 0).run = none ∧ (pairAt u 0).retired = true ∧ (pairAt u 1).column = some 0 ∧ val u (odKey 0x3B01 3) = 1 := by decide +kernel

theorem test_spareLoadComplete :
    let s := wCol (some { wWinRun with ready := false })
    let t := runs [.spareLoadComplete 0] s
    (pairAt t 0).run = some wWinRun := by decide +kernel

theorem test_windowCommit :
    let r : WinRun := { wWinRun with ended := some .wend, kind := .rerun }
    let s := wCol (some r)
    let t := runs [.windowCommit 0] s
    (colAt t 0).win = none ∧ (pairAt t 0).run = none ∧ val t (odKey 0x3B01 1) = 1 ∧ val t (odKey 0x3B01 2) = 1 := by decide +kernel

theorem test_windowOverrun :
    let s := modCore (.wp 0) (fun k => { k with cyc := 1000 }) (wCol (some wWinRun))
    let t := runs [.windowOverrun 0] s
    (colAt t 0).win = none ∧ (pairAt t 0).run = none ∧ val t (odKey 0x3B01 5) = 1 := by decide +kernel

theorem test_windowDeadline :
    let s := wCol (some wWinRun)
    let t := runs [.windowDeadline 0] s
    (colAt t 0).win = none ∧ (pairAt t 0).retired = true ∧ (pairAt t 0).run = none ∧ val t (odKey 0x3B01 6) = 1 := by decide +kernel

theorem test_requalifyComplete :
    let s := modPair 3 (fun x => { x with requal := 1, retired := true }) State.reset
    let t := runs [.requalifyComplete 3 true] s
    let u := runs [.requalifyComplete 3 false] s
    (pairAt t 3).retired = false ∧ (pairAt t 3).requal = 2 ∧ (pairAt t 3).st = .stopped ∧ (pairAt u 3).retired = true ∧ (pairAt u 3).requal = 3 := by decide +kernel

theorem test_shutdownComplete :
    let u := modPair 3 (fun x => { x with st := .stopping }) State.reset
    let v := modPort 5 (fun x => { x with st := .stopping }) (modPort 4 (fun x => { x with test := { x.test with st := 1, stopping := true } }) State.reset)
    let t := st' (execShutdownComplete (.pair 3) u)
    (pairAt t 3).st = .stopped ∧ (portAt (st' (execShutdownComplete (.port 5) v)) 5).st = .stopped := by decide +kernel

theorem test_lfEngineGrant :
    let s := { wLf with lf := { wLf.lf with pending := [5, 0] } }
    let t := runs [.lfEngineGrant 7000 [400]] s
    let u := runs [.lfEngineGrant 5000 [400]] s
    let v := runs [.lfEngineGrant 7000 [5]] s
    val t (odKey 0x4000 1) = 7000 ∧ val t (odKey 0x4000 3) = 1 ∧ val t (odKey 0x4010 4) = 400 ∧ u.lf.user = .none ∧ u.lf.pending = [5] ∧ val u (odKey 0x4000 5) = 1 ∧ val v (odKey 0x4010 5) = 1 := by decide +kernel

theorem test_lfPatterns :
    let t := runPattern 1 0 true 7000 [400] wLf
    (t.uwb.round.map (·.zone)) = some 0 ∧ t.draws = 1 := by decide +kernel

theorem test_lfShort :
    let s := modLf (fun l => { l with user := .pattern 3 0 false 5 }) wLf
    let t := runs [.lfShort 2] s
    chanAt t 2 = .fault ∧ val t (odKey 0x4012 6) = 1 := by decide +kernel

theorem test_lfChannelEnableWrite :
    let s := wRole .maker
    let t := runs [.lfChannelEnableWrite 0 3 0] s
    let u := runs [.lfChannelEnableWrite 0 3 1] t
    chanAt t 3 = .stopping ∧ val t (odKey 0x4013 1) = 0 ∧ chanAt u 3 = .pending := by decide +kernel

theorem test_transponderAnswer :
    let t := runs [.transponderAnswer { inWindow := true, bits := [true, false, true], collisions := [2], violation := false }] (wTp (.inventory []))
    let i := bitsMsb 32 7
    let u := runs [.transponderAnswer { inWindow := true, bits := bitsMsb 32 7 ++ bitsMsb 8 (crc8 0x1D i), collisions := [], violation := false }] (wTp (.inventory []))
    let v := runs [.transponderAnswer { inWindow := true, bits := bitsMsb 8 (crc8 0x1D i), collisions := [], violation := false }] u
    t.out.length = 1 ∧ v.lf.tp.found = [7] := by decide +kernel

theorem test_transponderAnswer_more :
    let s := wTp (.confirm 7)
    let u := runs [.transponderAnswer { inWindow := true, bits := bitsMsb 8 0xA5 ++ bitsMsb 8 (crc8 0x1D (bitsMsb 8 0xA5)), collisions := [], violation := false }] s
    (u.lf.session.map fun y => (y.key, y.unlock, y.start, y.endAo)) = some (7, false, true, s.clk.ao + 120 * 32768) ∧ u.lf.user = .none := by decide +kernel

theorem test_transponderAnswerTimeout :
    let t := runs [.transponderAnswerTimeout] (wTp (.auth 7))
    let s := modTp (fun t => { t with repeated := true }) (wTp (.auth 7))
    let u := runs [.transponderAnswerTimeout] s
    t.lf.tp.repeated = true ∧ u.lf.user = .none := by decide +kernel

theorem test_sessionTimeout :
    let s := { wSess true with clk := { (wSess true).clk with ao := 99999 } }
    let t := runs [.sessionTimeout] s
    t.lf.session = none ∧ released t = false ∧ t.keeper.ipend.getLsbD 8 = true := by decide +kernel

theorem test_slrHalfPeriod :
    let s : State := { wSess true with lf := { (wSess true).lf with releasing := true }, comb := { (wSess true).comb with active := some (wC 9) } }
    let t := runs [.slrHalfPeriod true true] s
    t.lf.slrFault = true ∧ t.lf.releasing = false ∧ released t = false ∧ val t (odKey 0x4300 6) = 1 := by decide +kernel

theorem test_answerPeriodOpen :
    let s := wRound id
    let t := runs [.answerPeriodOpen] s
    (t.uwb.round.map (·.answering)) = some true := by decide +kernel

theorem test_answerSlotEnd :
    let s := wRound (fun r => { r with answering := true })
    let t := runs [.answerSlotEnd 0 [⟨some (3001, 26), none, false⟩]] s
    let u := runs [.answerSlotEnd 15 [⟨none, some 60, true⟩]] t
    (t.uwb.round.map (·.collided)) = some [0] ∧ val t (odKey 0x4100 0xB) = 1 ∧ (u.uwb.round.map fun r => (r.answersDone, r.collided)) = some (true, [0, 15]) := by decide +kernel

theorem test_repoll :
    let f (n : Nat) := wRound (fun r => { r with answersDone := true, work := [.repoll 3 0], repolls := n })
    let t := runs [.repoll] (f 7)
    let u := runs [.repoll] (f 8)
    val t (odKey 0x4100 0xC) = 1 ∧ (t.uwb.round.map (·.waitingFor)) = some (some (3, 0)) ∧ val u (odKey 0x4100 0x13) = 1 ∧ (u.uwb.round.map (·.work)) = some [] := by decide +kernel

theorem test_exchangeStart :
    let s := wRound (fun r => { r with answersDone := true, work := [.exchange ⟨0, 3, zeros 8, []⟩] })
    let t := runs [.exchangeStart 77] s
    t.uwb.counter = 77 ∧ (t.uwb.exchange.map fun e => (e.index, e.step, e.sent)) = some (3, .rpoll, 77) ∧ (t.uwb.round.map fun r => (r.work, r.exchanges)) = some ([], 1) := by decide +kernel

theorem test_roundEnd :
    let s := wRound (fun r => { r with answersDone := true, admitted := [⟨3, 500, zeros 16⟩] })
    let t := runs [.roundEnd] s
    t.uwb.round = none := by decide +kernel

theorem test_uwbRounds :
    let s := wRound (fun r => { r with admitted := [⟨3, 500, []⟩], failures := [7, 7, 7, 7] })
    zoneLocked (applyRound s) 0 = false := by decide +kernel

theorem test_uwbRrespReceived :
    let s := wExch (fun e => { e with stsCounter := 1 })
    let t := runs [.uwbRrespReceived 15335424 ⟨[], 1, -1000⟩ 3] s
    let u := runs [.uwbRrespReceived 16613377 ⟨[], 1, 0⟩ 3] s
    let v := runs [.uwbRrespReceived 16613376 ⟨[], 2, 0⟩ 3] s
    (t.uwb.exchange.map fun e => (e.step, e.stsCounter, e.tround1, e.treply2)) = some (.forager, 3, 15335424, 16613376) ∧ (u.uwb.exchange.map (·.step)) = some .ended ∧ val u (odKey 0x4100 0x12) = 1 ∧ (v.uwb.exchange.map (·.step)) = some .ended := by decide +kernel

theorem test_uwbExchanges :
    arrivalAngle State.reset 9 0 = 0 ∧ arrivalAngle State.reset 9 16384 = 31 ∧ arrivalAngle State.reset 9 (-16384) = -31 := by decide +kernel

theorem test_uwbFault :
    let t := runs [.uwbFault] (wRound id)
    t.uwb.st = .fault ∧ t.uwb.round = none := by decide +kernel

theorem test_nfcFieldDetect :
    let t := runs [.nfcFieldDetect] (wRd .select)
    t.nfc.field = true ∧ t.nfc.own = false ∧ t.nfc.step = .off ∧ t.out.head? = some (.pin "FIELD_DET_N" false) ∧ val t (odKey 0x4200 7) = 1 ∧ val t (odKey 0x4200 0x13) = 1 := by decide +kernel

theorem test_nfcPoll :
    let t := runs [.nfcPoll [[1, 2, 3, 4], [2, 2, 3, 4]]] wLf
    t.nfc.own = true ∧ t.nfc.step = .select := by decide +kernel

theorem test_nfcCardResponse :
    let t := runs [.nfcCardResponse (.block [0x6A, 0x82] true)] (wRd .select)
    let u := runs [.nfcCardResponse (.block (sw 0x9000) true)] (wRd (.auth2 [] [] 0))
    let v := runs [.nfcCardResponse (.block [9] true)] (wRd (.keeper true))
    t.nfc.step = .offered ∧ t.keeper.ipend.getLsbD 8 = true ∧ (u.lf.session.map fun x => (x.key, x.unlock, x.start, x.endAo)) = some (7, false, true, 120 * 32768 + wLf.clk.ao) ∧ v.nfc.lastAnswer = [9] ∧ v.keeper.ipend.getLsbD 8 = true := by decide +kernel

theorem test_nfcCardResponse_more :
    let t := runs [.nfcCardResponse (.wtx 60)] (wRd .select)
    t.nfc.naks = 1 := by decide +kernel

theorem test_nfcFwtTimeout :
    let t := runs [.nfcFwtTimeout, .nfcFwtTimeout, .nfcFwtTimeout] (wRd .select)
    t.nfc.step = .off ∧ t.nfc.cards = [] ∧ val t (odKey 0x4200 0xD) = 1 := by decide +kernel

theorem test_readerOfferTimeout :
    let t := runs [.readerOfferTimeout] (wRd .offered)
    t.nfc.step = .off ∧ t.nfc.own = false ∧ t.nfc.cards = [] := by decide +kernel

theorem test_tagActivation :
    let s := wTag none .maker
    let t := runs [.tagActivation] s
    t.nfc.role = .inspect ∧ t.nfc.app = false := by decide +kernel

theorem test_updateBinary :
    let s := wTag (some 0xE104) .maker
    let t := runs [.updateBinary 3 [7, 8] true] s
    let u := runs [.tagWriteComplete] t
    t.store.tag.intent.isSome = true ∧ sub (tagFile u 0xE104) 0 6 = [0, 0, 0, 7, 8, 0] ∧ u.nfc.write = none ∧ u.store.tag.intent = none ∧ u.out.head? = some (.nfc [0x90, 0]) := by decide +kernel

theorem test_vaultKeys :
    let u (n : Nat) : State := { wTr with vault := { wTr.vault with upset := n } }
    let t := st' (execVaultKcv 0 7 0 (u 1))
    let v := st' (execVaultKcv 0 7 0 (u 2))
    val t (odKey 0x2350 5) = 1 ∧ val t (odKey 0x2350 6) = 0 ∧ t.vault.upset = 0 ∧ val v (odKey 0x2350 5) = 1 ∧ val v (odKey 0x2350 6) = 1 ∧ v.vault.upset = 0 := by decide +kernel

theorem test_vaultClear :
    let s := modLane 3 (fun x => x.useSlot 0 kAll) wTr
    let t := st' (execVaultClear 0 7 0 s)
    copiesSlot 0 (laneAt s 3).k0 = true ∧ slotAt t 0 = none ∧ (laneAt t 3).k0 = none := by decide +kernel

theorem test_replaceCommitted :
    let t := st' (execReplaceCommitted (wRepl none))
    let u := st' (execReplaceCommitted (wRepl (some (1, 3, 0))))
    slotAt t 3 = some kAll ∧ t.vault.repl = [] ∧ committedGen t 9 = 2 ∧ slotAt t 0 = some kAll ∧ val t (odKey 0x2350 3) = 1 ∧ u.vault.repl = [] ∧ committedGen u 9 = 2 := by decide +kernel

theorem test_enrol :
    let u := st' (execEnrol 0 4 1 3 [] wTr)
    u.out.head? = some (.odAbort 0 abProof) := by decide +kernel

theorem test_revokeKey :
    let s := { wTr with lf := { wTr.lf with keys := [wKey 3 9 1, wKey 4 7 0] } }
    let t := st' (execRevokeKey 0 9 s)
    t.lf.keys = [wKey 4 7 0] ∧ (st' (execRevokeKey 0 8 s)).out.head? = some (.odAbort 0 abRange) := by decide +kernel

theorem test_vaultRestart :
    let s := wRepl none
    let t := st' (execVaultRestart s)
    let u := st' (execVaultRestart { s with kpr := { s.kpr with vaultTimes := [0, 0] } })
    t.vault.repl = [] ∧ t.vault.kd = none ∧ val t (odKey 0x2350 6) = 1 ∧ val t (odKey 0x2350 4) = 1 ∧ t.vcore.pc = 0 ∧ t.pwr.bootDue = none ∧ u.pwr.bootDue = some 2 := by decide +kernel

theorem test_attestationReady :
    let s (w : AttestFor) : State := { wTr with vault := { wTr.vault with attesting := some ([1], 1, w) } }
    let t := st' (execAttestationReady (s .object))
    let u := st' (execAttestationReady (s .nfc))
    t.vault.attesting = none ∧ u.out.length = 1 := by decide +kernel

theorem test_laneEnableWrite :
    let t := st' (execLaneEnableWrite 0 3 0 wTr)
    let u := st' (execLaneEnableWrite 0 3 1 (modLane 3 (fun x => { x with st := .stopped }) wTr))
    (laneAt t 3).st = .stopping ∧ val t (odKey 0x2483 3) = 0 ∧ (laneAt u 3).st = .running ∧ val u (odKey 0x2483 3) = 1 := by decide +kernel

theorem test_cipherLaneSlot :
    let t := st' (execCipherLaneSlot 2 (wLane (fun x => { x with waitRes := [wPass], dynamic := some wPass })))
    let u := st' (execCipherLaneSlot 2 (wLane (fun x => { x with waitRes := [wPass], reserved := some wPass })))
    (laneAt t 2).reserved = some wPass ∧ (laneAt t 2).waitRes = [] ∧ val u (odKey 0x2420 7) = 1 ∧ (laneAt u 2).waitRes = [wPass] := by decide +kernel

theorem test_cipherBlockComplete :
    let s := wLane (fun x => { x with dynamic := some wPass })
    let t := st' (execCipherBlockComplete 2 true s)
    (laneAt t 2).st = .testing ∧ (laneAt t 2).dynamic = none ∧ (laneAt t 2).takenBy = some 0 ∧ val t (odKey 0x2420 2) = 1 := by decide +kernel

theorem test_cipherPassComplete :
    let s := wLane (fun x => { x with dynamic := some wPass, wait2 := some [1] })
    let t := st' (execCipherPassComplete 2 false s)
    (laneAt t 2).dynamic = none ∧ (laneAt t 2).wait2 = none ∧ val t (odKey 0x2420 1) = 1 := by decide +kernel

theorem test_maskReseed :
    let s := modLane 2 (fun x => { x with maskBlocks := 4096 }) wTr
    let t := st' (execMaskReseed 2 false s)
    (laneAt t 2).reseedLogged = true ∧ val t (odKey 0x2420 6) = 1 ∧ (laneAt t 2).maskBlocks = 0 := by decide +kernel

theorem test_fieldLock :
    let q : LcRequest := ⟨9, []⟩
    let t := st' (execFieldLock 0 q (wLc 4))
    let v := st' (execFieldLock 0 ⟨2, []⟩ (wLc 1))
    t.out.head? = some (.odAbort 0 abState) ∧ (v.lc.challenge.map (·.used)) = some true ∧ v.lc.state = 1 := by decide +kernel

theorem test_lcChallengeRead :
    let t := st' (execLcChallengeRead 0 wTr)
    (t.lc.challenge.map (·.bytes.length)) = some 32 := by decide +kernel

theorem test_tamperTrip :
    let t := st' (execTamperTrip 0x2003 wTr)
    let u := st' (execTamperTrip 0x2003 State.reset)
    latchRead t = 0x2001 ∧ t.lc.state = 5 ∧ t.vault.kd = none ∧ slotAt t 0 = none ∧ rowShare t = none ∧ (lcRecord t).map (·.state) = some 5 ∧ (lcRecord t).map (·.cause) = some 0x10 ∧ t.fuse.epoch = 1 ∧ latchRead u = 0x2001 := by decide +kernel

theorem test_holdOkReached :
    let t := st' (execHoldOkReached 2950 wHold)
    t.tamper.waiting = false ∧ t.lc.state = 5 ∧ t.vault.kd = none ∧ slotAt t 0 = none ∧ (lcRecord t).map (·.state) = some 5 := by decide +kernel

theorem test_loopCheck :
    let t := st' (execLoopCheck 0 6 2 wTr)
    t.tamper.loopResult = 4 := by decide +kernel

theorem test_tamperConfigWrite :
    (st' (execTamperConfigWrite 0 0 1 wTr)).out.head? = some (.odAbort 0 abRange) := by decide +kernel

theorem test_storeGrant :
    let w : List StoreReq := [⟨1, 2, ⟨0x13, 0, 0, false, false, false, []⟩, false⟩, ⟨4, 0, ⟨1, 0, 0, false, false, false, zeros 256⟩, false⟩]
    let t := st' (execStoreGrant { State.reset with store := { State.reset.store with pointer := 2, waiting := w } })
    t.store.inService.map (·.who) = some 4 ∧ t.store.pointer = 0 ∧ t.store.waiting.map (·.who) = [1] := by decide +kernel

theorem test_recordCopyComplete :
    let t := st' (execRecordCopyComplete (wSrv false))
    let u := st' (execRecordCopyComplete (wSrv true))
    t.store.inService = none ∧ t.store.waiting.map (·.copyB) = [true] ∧ t.store.m.content 1 5 = some (List.replicate 256 9) ∧ u.out.head? = some (.stored 4 0 1 5) ∧ u.keeper.ipend.getLsbD 9 = true := by decide +kernel

theorem test_compactionSlice :
    let s := { State.reset with store := { State.reset.store with w := { State.reset.store.w with copying := some (0, []) } } }
    let t := st' (execCompactionSlice 1 s)
    val t (odKey 0x2200 7) = 1 ∧ t.store.w.reserve = 0 := by decide +kernel

theorem test_indexScan :
    let s := { State.reset with store := { (st' (execRecordCopyComplete (wSrv false))).store with waiting := [] } }
    let t := st' (execIndexScan [.torn 0 1 true, .counter 3 0] s)
    t.store.scanning = true ∧ t.store.m.content 1 5 = some (List.replicate 256 9) ∧ val t (odKey 0x2200 4) = 2 := by decide +kernel

theorem test_scanComplete :
    let s := { wTr with nfc := { wTr.nfc with heldRead := some (0xE104, 0, 2) } }
    let t := st' (execScanComplete 70 s)
    val t (odKey 0x2200 2) = 70 ∧ t.nfc.heldRead = none ∧ t.out.head? = some (.nfc [0, 0, 0x90, 0]) ∧ t.store.scanning = false := by decide +kernel

theorem test_counterUpdate :
    let t := st' (execCounterUpdate 16 7 State.reset)
    counterVal t 16 = 7 ∧ counterVal t 5 = 0 := by decide +kernel

theorem test_mDataWrite :
    let s := modSession 0 (fun x => { x with mOffset := 255 }) wTr
    let t := st' (execMDataWrite 0 [1, 2] s)
    let u := st' (execMDataWrite 0 [1, 2] (setVal (odKey 0x2201 3) 3 s))
    areaRead t 0 254 4 = [0, 1, 2, 0] ∧ u.out.head? = some (.odAbort 0 abProtected) := by decide +kernel

theorem test_wDataWrite :
    let t := st' (execWDataWrite 0 [1, 2] wTr)
    areaRead t 1 0 3 = [1, 2, 0] := by decide +kernel

theorem test_blockProtectWrite :
    let t := st' (execBlockProtectWrite 0 3 wTr)
    let s := setVal (odKey 0x2201 3) 3 (wLc 2)
    let u := st' (execBlockProtectWrite 0 1 s)
    val t (odKey 0x2201 3) = 3 ∧ val u (odKey 0x2201 3) = 3 := by decide +kernel

theorem test_readPasswordWrite :
    let t := st' (execWritePasswordWrite 0 (List.replicate 16 1) wPw)
    let u := st' (execWritePasswordWrite 0 (zeros 16) wPw)
    t.out.head? = some (.odDone 0 []) ∧ u.out.head? = some (.odAbort 0 abProof) := by decide +kernel

theorem test_odSessionOpen :
    let u := st' (execOdSessionOpen .udp 14 wEth)
    let f := st' (execOdSessionOpen .sdo 0 wFull)
    (sessionAt u 1).map (·.udpId) = some wEth.sess.nextUdpId ∧ f.out.length = 1 := by decide +kernel

theorem test_odSessionIdleTimeout :
    let t := st' (execOdSessionIdleTimeout 0 (at60 wTr))
    let s := putSession 3 (some { transport := .doip, endpoint := 14 }) State.reset
    let u := st' (execDoipDisconnect 3 s)
    sessionAt t 0 = none ∧ sessionAt u 3 = none := by decide +kernel

theorem test_roleChallengeRead :
    let t := st' (execRoleChallengeRead 0 wTr)
    (sessionAt t 0).map (fun x => (x.challenge.map (·.bytes.length))) = some (some 32) := by decide +kernel

theorem test_roleRequest :
    let t := st' (execRoleRequest 0 0 [] wTr)
    let u := st' (execRoleRequest 0 2 [] wHost)
    (sessionAt t 0).map (·.role) = some .inspect ∧ (sessionAt u 0).map (·.role) = some .host ∧ (u.sess.fails[0]?.map (·.count)) = some 1 := by decide +kernel

theorem test_roleBlockEnd :
    let s := { wTr with sess := { wTr.sess with fails := wTr.sess.fails.set 0 { count := 8, blocked := true } } }
    let t := st' (execRoleBlockEnd 0 { s with clk := { s.clk with tickPs := 600000000000000 } })
    let u := st' (execRoleBlockEnd 0 (at60 s))
    t.sess.fails[0]?.map (fun f => (f.count, f.blocked)) = some (8, false) ∧ u.sess.fails[0]?.map (·.blocked) = some true := by decide +kernel

theorem test_restoreDefaults :
    let t := st' (execRestoreDefaults 0 0x64616F6C wTr)
    let u := st' (execRestoreDefaults 0 1 wTr)
    t.sess.restore = true ∧ u.sess.restore = false ∧ u.out.head? = some (.odAbort 0 abRange) := by decide +kernel

theorem test_odWindowRead :
    let u := st' (execOdWindowRead 0x3903 3 { wHost with sess := { wHost.sess with window := { slot := 0, value := some (2, 3) } } })
    let w := st' (execOdWindowRead 0x1008 0 { wWinAt 15 with sess := { (wWinAt 15).sess with window := { slot := 15, offset := 9, length := 6 } }, keeper := { State.reset.keeper with resv := some (0x01000104, 0) } })
    u.sess.window.value = none ∧ w.sess.window.total = 15 ∧ w.keeper.resv = none := by decide +kernel

theorem test_odWindowWrite :
    let t := st' (execOdWindowWrite 0x3903 3 wWinM)
    t.sess.window.status = 0 ∧ t.sess.window.cmd = 0x02033903 ∧ val t (odKey 0x3903 3) = 60000 := by decide +kernel

theorem test_sdoInitiateDownload :
    let t := st' (execSdoInitiateDownload 0 0x3903 3 true 2 [0x10, 0x27] wTr)
    val t (odKey 0x3903 3) = 10000 ∧ t.keeper.ipend = 4 := by decide +kernel

theorem test_sdoDownloadSegment :
    let t := st' (execSdoDownloadSegment 0 true true [5] (wSdo (.download 0x3903 3 2 [0x10] true)))
    let u := st' (execSdoDownloadSegment 0 false true [5] (wSdo (.download 0x3903 3 2 [0x10] true)))
    let w := st' (execSdoDownloadSegment 0 false true [5] (wSdo (.upload 0x1008 0 (zeros 9) false)))
    val t (odKey 0x3903 3) = 0x510 ∧ sdoAt t 0 = .none ∧ t.out.head? = some (.sdo 0 [0x30, 0, 0, 0, 0, 0, 0, 0]) ∧ u.out.head? = some (.sdo 0 [0x80, 3, 0x39, 3, 0, 0, 3, 5]) ∧ sdoAt u 0 = .none ∧ w.out.head? = some (.sdo 0 [0x80, 8, 0x10, 0, 1, 0, 4, 5]) ∧ sdoAt w 0 = .none := by decide +kernel

theorem test_sdoInitiateUpload :
    let t := st' (execSdoInitiateUpload 0 0x1018 1 wTr)
    let u := st' (execSdoInitiateUpload 0 0x1008 0 wTr)
    t.out.head? = some (.sdo 0 [0x43, 0x18, 0x10, 1, 0xD9, 3, 0, 0]) ∧ u.out.head? = some (.sdo 0 [0x41, 8, 0x10, 0, 15, 0, 0, 0]) := by decide +kernel

theorem test_sdoUploadSegment :
    let t := st' (execSdoUploadSegment 0 false (wSdo (.upload 0x1008 0 [1, 2, 3, 4, 5, 6, 7, 8, 9] false)))
    let u := st' (execSdoUploadSegment 0 true t)
    t.out.head? = some (.sdo 0 [0, 1, 2, 3, 4, 5, 6, 7]) ∧ u.out.head? = some (.sdo 0 [0x1B, 8, 9, 0, 0, 0, 0, 0]) ∧ sdoAt u 0 = .none := by decide +kernel

theorem test_sdoBlockUpload :
    let t := st' (execSdoBlockUpload 0 0x1008 0 2 wTr)
    (t.out.drop 1).head? = some (.sdo 0 [0x81, 0x34, 0, 0, 0, 0, 0, 0]) ∧ (t.out.drop 2).head? = some (.sdo 0 ([2] ++ asciiOf "l SH242")) := by decide +kernel

theorem test_sdoAbort :
    let s := at60 (wSdo (.upload 0x1008 0 (zeros 9) false))
    let t := st' (execSdoSegmentTimeout 0 s)
    sdoAt t 0 = .none := by decide +kernel

theorem test_diagnosticSessionControl :
    let t := st' (execDiagnosticSessionControl 0 2 (wUds 1 .maker))
    let l := st' (execDiagnosticSessionControl 0 2 wLoader)
    (sessionAt t 0).map (·.diag) = some 2 ∧ (l.sess.slots[0]?).join.map (·.diag) = some 2 ∧ (st' (execDiagnosticSessionControl 0 1 (wDl [1] 1))).sess.download = none := by decide +kernel

theorem test_ecuReset :
    let t := st' (execEcuReset 0 1 (wUds 1 .maker))
    let l := st' (execEcuReset 0 1 wLoader)
    t.kpr.running = false ∧ t.kpr.lastCause = 0 ∧ val t (odKey 0x3B20 3) = 1 ∧ l.out.getLast? = some (.uds 0 [0x51, 1]) ∧ l.pwr.boot.isSome = true := by decide +kernel

theorem test_routineControl :
    let s := wUds 3 .maker
    let t := st' (execRoutineControl 0 0xFD00 2 0x3903 3 0 0 [3, 0xE7] s)
    val t (odKey 0x3903 3) = 999 := by decide +kernel

theorem test_requestDownload :
    let s := wUds 2 .maker
    let t := st' (execRequestDownload 0 0 0x44 0x4B000000 4096 s)
    let l := st' (execRequestDownload 0 0 0x44 0x4B000000 4096 (putSession 0 (some { transport := .uds, endpoint := 0, diag := 2 }) wLoader))
    t.sess.download = some (0, ⟨0x4B000000, 4096, [], 0⟩) ∧ keeperSlot t (1 - s.kpr.lastStarted) = none ∧ t.kpr.staged = none ∧ l.sess.download = some (0, ⟨0x4B000000, 4096, [], 0⟩) := by decide +kernel

theorem test_transferData :
    let s := wDl [1, 2] 255
    let t := st' (execTransferData 0 0 [3, 4] s)
    t.sess.download = some (0, ⟨0x4B000000, 4, [1, 2, 3, 4], 0⟩) := by decide +kernel

theorem test_vaoPowerUp :
    let s := { State.reset with pwr := { State.reset.pwr with vao := false } }
    let t := st' (execVaoPowerUp s)
    t.pwr.vao = true ∧ t.pwr.dev = .sleep ∧ t.pwr.bootDue = some 0 ∧ t.store.scanning = true := by decide +kernel

theorem test_aoBrownout :
    let t := st' (execAoBrownout wTr)
    let u := st' (execBrownoutRecovery t)
    t.pwr.brownout = true ∧ t.pwr.brownoutOn = true ∧ t.pwr.dev = .sleep ∧ t.pwr.hive = false ∧ t.pwr.access = false ∧ t.pwr.ddr = .off ∧ t.pwr.entry = none ∧ t.pwr.bootDue = none ∧ u.pwr.bootDue = some 3 ∧ u.pwr.brownout = false := by decide +kernel

theorem test_aoReset :
    let t := st' (execAoReset false wTr)
    let u := st' (execFieldPowerUp t)
    let f := st' (execAoReset true wTr)
    t.pwr.vao = false ∧ t.pwr.dev = .off ∧ t.pwr.hive = false ∧ t.pwr.held = 0 ∧ t.nfc.field = false ∧ u.pwr.dev = .field ∧ u.nfc.field = true ∧ u.store.scanning = true ∧ u.store.tag.fmark = 1 ∧ u.tamper.holdMv = 0 ∧ f.pwr.dev = .field ∧ f.nfc.field = true := by decide +kernel

theorem test_pllLossOfLock :
    let t := st' (execPllLossOfLock 0 State.reset)
    t.pwr.pll = 0x5E ∧ val t (odKey 0x2180 2) = 1 := by decide +kernel

theorem test_voteChange :
    (st' (execVoteChange 3 .hiveCore true wSleep)).pwr.wake = some 19 := by decide +kernel

theorem test_domainPowerOn :
    let t := st' (execDomainPowerOn .access (wAccOff 1))
    t.pwr.access = true ∧ t.pwr.pll.getLsbD 4 = true ∧ t.lf.seeded = true := by decide +kernel

theorem test_keeperVotesWrite :
    let t := st' (execKeeperVotesWrite 2 State.reset)
    val t (odKey 0x2102 1) = 2 ∧ t.pwr.voteDdr = 1 ∧ t.pwr.voteAccess = 0 ∧ t.pwr.access = false := by decide +kernel

theorem test_wakeSenseRise :
    let t := st' (execHoldNLow true wSleep)
    let u := st' (execWakeSenseRise 2 wSleep)
    t.pwr.wake = some 19 ∧ t.pwr.holdN = true ∧ u.pwr.sense.toList = [false, false, true, false] := by decide +kernel

theorem test_wakeSenseThresholdWrite :
    let t := st' (execWakeSenseThresholdWrite 0 1 2000 2001 wTr)
    val t (odKey 0x2105 2) = 2000 ∧ t.pwr.sense.toList = [false, true, false, false] ∧ t.pwr.wake = none := by decide +kernel

theorem test_sleepEntryStepComplete :
    let t := st' (execSleepEntryStepComplete (wEntry (some 6)))
    let u := st' (execSleepEntryStepComplete (wEntryW 3))
    let h := st' (execSleepEntryStepComplete (wEntry (some 3)))
    t.pwr.dev = .sleep ∧ t.pwr.hive = false ∧ t.pwr.entry = none ∧ t.kpr.running = false ∧ t.vault.kd = none ∧ slotAt t 0 = none ∧ h.pwr.entry = some 4 ∧ h.pwr.handed = true ∧ u.pwr.entry = none ∧ u.pwr.wake = none ∧ u.pwr.wakeCode = 17 ∧ u.pwr.voteHive.getLsbD 0 = true ∧ val u (odKey 0x2108 3) = 1 := by decide +kernel

theorem test_coldBoot :
    let t := st' (execColdBoot 2 (some 20) (wDue 2))
    t.pwr.boot = some (true, 2) ∧ t.pwr.dev = .boot ∧ t.pwr.hive = true ∧ t.pwr.access = true ∧ t.pwr.bootDue = none ∧ t.pwr.resetCause = 2 ∧ t.pwr.ddr = .off ∧ t.comb.active = none ∧ t.vault.kd = none ∧ slotAt t 0 = none ∧ sessionAt t 0 = none ∧ val t (odKey 0x2181 2) = 1 ∧ t.pwr.voteHive.getLsbD 4 = true ∧ t.pwr.flashOctal = true ∧ t.pwr.flashDummy = 20 ∧ t.fab.bootTest = true ∧ (t.pwr.ddrKey.map (·.length)) = some 32 := by decide +kernel

theorem test_warmBoot :
    let t := st' (execWarmBoot wWarm)
    t.pwr.boot = some (false, 1) ∧ t.pwr.dev = .boot ∧ t.pwr.hive = true ∧ t.pwr.resetCause = 1 ∧ t.pwr.ddr = .retained ∧ val t (odKey 0x2181 3) = 1 := by decide +kernel

theorem test_bootStepComplete :
    let t := st' (execBootStepComplete (wBoot true 4))
    let u := st' (execBootStepComplete (wBoot true 10))
    let f := st' (execBootStepComplete (wBoot true 2))
    t.pwr.boot = some (true, 5) ∧ t.lc.state = 0 ∧ t.link.up = true ∧ u.pwr.boot = none ∧ u.pwr.voteDdr = 1 ∧ f.pwr.boot = some (true, 3) := by decide +kernel

theorem test_recoveryLoader :
    (st' (execRecoveryLoader (wBoot true 6))).kpr.recovery = true := by decide +kernel

theorem test_accessSequencerRestart :
    let s := { wRound id with lf := { (wRound id).lf with session := some ⟨7, true, true, zeros 16, 9⟩, slrA := true } }
    let t := st' (execAccessSequencerRestart s)
    t.acore.pc = 0 ∧ t.uwb.round = none ∧ t.lf.session = none ∧ t.lf.slrA = false := by decide +kernel

theorem test_eventRecord :
    let t := st' (execEventRecord 3 2 5 0x010203 [1, 2] State.reset)
    t.out = [] := by decide +kernel

theorem test_eventRingWrite :
    let t := st' (execEventRingWrite 3 wStaged)
    t.evt.rings[3].staging = [] ∧ t.evt.rings[3].seq = 1 ∧ t.evt.rings[3].write = 1 ∧ t.evt.rings[3].unread = 1 ∧ val t (odKey 0x6013 7) = 1 ∧ t.out.length = 1 := by decide +kernel

theorem test_eventSummaryWindowClose :
    let s := at60 { State.reset with evt := { State.reset.evt with windows := [⟨6, 2, 3, 1, 0, [7], 5, 0⟩] } }
    let t := st' (execEventSummaryWindowClose 6 2 s)
    t.evt.windows = [] := by decide +kernel

theorem test_deferredEventFlush :
    let e : EventRec := { seq := 0, source := 3, cls := 2, detail := 5, time := 0, obj := 0, flags := 0, data := zeros 8 }
    let s := { State.reset with evt := { State.reset.evt with deferred := [e, e] } }
    let t := st' (execDeferredEventFlush s)
    t.evt.deferred = [] ∧ t.evt.rings[3].unread = 2 ∧ t.out.length = 2 := by decide +kernel

theorem test_eventRingConfigWrite :
    let t := st' (execEventRingConfigWrite 39 true 65536 State.reset)
    val t (odKey 0x6037 2) = 65536 := by decide +kernel

theorem test_portTestStart :
    let s := wPt 0 1
    let t := st' (execPortTestStart 0 0 s)
    let z := st' (execPortTestStart 0 0 (wPt 0 0))
    let y := st' (execPortTestStop 0 0 (wTest 1))
    t.pwr.votePort[0] = true ∧ (portAt z 0).test.st = 0 ∧ (portAt y 0).test.stopping = true ∧ (portAt y 0).test.st = 1 ∧ (st' (execPortTestStart 0 0 (wPt 0 5))).out.head? = some (.odAbort 0 abRange) ∧ (st' (execPortTestStart 0 23 wPtSer)).out.head? = some (.odAbort 0 abState) ∧ (st' (execPortTestStart 0 0 wPtRun)).out.head? = some (.odAbort 0 abState) := by decide +kernel

theorem test_portTests :
    let t := testFrameSent 10 (wPt 0 1)
    (portAt t 10).test.sent = 1 ∧ (portAt t 10).test.nextSeq = 1 ∧ (t.out.head?.map fun o => match o with | .linResponse n i _ _ => (n, i) | _ => (0, 0)) = some (10, 0x30) := by decide +kernel

theorem test_testFrameCheck :
    let t := st' (execTestFrameCheck 0 [0, 7, 7, 8] true (wTest 2))
    let u := st' (execTestFrameCheck 0 [0, 9, 9] true t)
    let v := st' (execTestFrameCheck 0 [0, 10, 9] true u)
    (portAt v 0).test.errors = 2 := by decide +kernel

theorem test_portTestComplete :
    let t := st' (execPortTestComplete 0 (wTest 1))
    (portAt t 0).test.st = 2 := by decide +kernel

theorem test_lfLoopbackStart :
    let t := st' (execLfLoopbackStart 0 wStop)
    let f (n : Nat) := val (st' (execLfLoopbackComplete n wLoop)) (odKey 0x5040 3)
    t.lf.pending = [33] ∧ t.test.lf = true ∧ [f 62, f 63, f 225, f 226, f 2400, f 2401, f 70000] = [0x1003E, 0x3003F, 0x300E1, 226, 2400, 0x20961, 0x2FFFF] ∧ chanAt (st' (execLfLoopbackComplete 2401 wLoop)) 0 = .fault := by decide +kernel

theorem test_uwbLoopbackStart :
    let t := st' (execUwbLoopbackStart 0 wStop)
    let u := st' (execUwbLoopbackComplete none t)
    t.uwb.loopback = true ∧ val u (odKey 0x5041 2) = 0xFFFFFFFF := by decide +kernel

theorem test_nfcLoadCheckStart :
    let s := { wTr with nfc := { wTr.nfc with st := .stopped, field := false } }
    let t := st' (execNfcLoadCheckStart 0 s)
    let u := st' (execNfcLoadCheckComplete 3 0xFE t)
    t.nfc.own = true ∧ t.test.nfc = true ∧ val u (odKey 0x5042 2) = 0xFE03 := by decide +kernel

theorem test_bistStart :
    let t := st' (execBistComplete (some 5) (wBist 0x13))
    val t (odKey 0x5050 3) = 0x80000005 ∧ t.wp[3].mem = [] ∧ t.test.bist = none ∧ (st' (execBistStart 0 wTr)).out.head? = some (.odAbort 0 abState) := by decide +kernel

theorem test_dramTestStart :
    let s := wRole .vendor
    let t := st' (execDramTestStart 0 (some 9) s)
    t.test.dram = true ∧ t.test.dramFailing = some 9 ∧ t.pwr.bootDue = some 2 := by decide +kernel

theorem test_debugHalt :
    let u := st' (execDebugStep .keeper wDbg)
    u.keeper.debugStep = true := by decide +kernel

theorem test_jtagBypass :
    let t := st' (execJtagIdcode wDbg)
    t.test.jtag = .idcode ∧ (t.out.head?.map fun o => match o with | .jtag b => b.length | _ => 0) = some 64 := by decide +kernel

/-! ### Well-formedness: a term each check refuses -/

def anyCan (fmt : CanFmt) (n : Nat) : CanFrame := { id := 0x7FF, fmt := fmt, data := zeros n }
def anyReq (aad iv tag : Nat) : LaneReq := { tag := 0, mode := 0, ksel := 0, lane := 0, tlen := 0, aad := zeros aad, data := [], unit4096 := false, dst := 0, iv := zeros iv, tagv := zeros tag }
def anyFuses (a b c d : Nat) (p : Byte) : FuseValues := ⟨zeros a, zeros b, List.replicate c (zeros d), p⟩

theorem wf_can_lengths : (anyCan .classicBase 9).wf = false ∧ (anyCan .classicExt 9).wf = false ∧ (anyCan .fdBase 9).wf = false ∧
    (anyCan .fdExt 65).wf = false ∧ (anyCan .xl 0).wf = false ∧ (anyCan .lin 9).wf = false := by decide +kernel
theorem wf_can_identifiers : ({ anyCan .classicBase 0 with id := 0x800 } : CanFrame).wf = false ∧ ({ anyCan .fdBase 0 with id := 0x800 } : CanFrame).wf = false ∧
    ({ anyCan .xl 1 with id := 0x800 } : CanFrame).wf = false ∧ ({ anyCan .lin 1 with id := 0x40 } : CanFrame).wf = false := by decide +kernel
theorem wf_can_remote : ({ anyCan .fdBase 8 with rtr := true } : CanFrame).wf = false ∧ ({ anyCan .fdExt 8 with rtr := true } : CanFrame).wf = false ∧
    ({ anyCan .xl 8 with rtr := true } : CanFrame).wf = false := by decide +kernel
theorem wf_can_frames : ∀ p, (Instr.canFrameReceive p (anyCan .classicBase 9) 0).wf = false ∧ (Instr.referenceMessageReceive p (anyCan .classicBase 9) 0).wf = false ∧
    (Instr.canWakeFrame p (anyCan .classicBase 9)).wf = false := by decide +kernel
theorem wf_lane_requests : (Instr.laneEncrypt (anyReq 0 15 16)).wf = false ∧ (Instr.laneDecrypt (anyReq 0 16 17)).wf = false ∧
    (Instr.laneMacGenerate (anyReq 0 0 16)).wf = false ∧ (Instr.laneMacVerify (anyReq 0 16 15)).wf = false := by decide +kernel
theorem long_refused {b : Blob} {m : Nat} (h : m < b.length) : decide (b.length ≤ m) = false := decide_eq_false (Nat.not_le.mpr h)
/-- the too long list of the checks below: `zeros n` at any `n` over the bound -/
theorem length_zeros (n : Nat) : (zeros n).length = n := List.length_replicate
theorem wf_lane_aad : ∀ b : Blob, 65535 < b.length → ({ anyReq 0 16 16 with aad := b } : LaneReq).wf = false := by
  intro b h; unfold LaneReq.wf; rw [long_refused h]; rfl
theorem wf_provision : ∀ s c, (Instr.provision s c (anyFuses 31 32 4 32 0)).wf = false ∧ (Instr.provision s c (anyFuses 32 31 4 32 0)).wf = false ∧
    (Instr.provision s c (anyFuses 32 32 3 32 0)).wf = false ∧ (Instr.provision s c (anyFuses 32 32 4 31 0)).wf = false ∧
    (Instr.provision s c (anyFuses 32 32 4 32 4)).wf = false := fun _ _ => ⟨rfl, rfl, rfl, rfl, rfl⟩
theorem wf_images : ∀ (s : Fin 16) (b : Blob), 16777215 < b.length → (Instr.standbyImageLoad s b).wf = false := fun _ _ h => long_refused h
theorem wf_faults : ∀ f, (Instr.fabricSlot (List.replicate 33 f)).wf = false := fun _ => rfl
theorem wf_frames : (∀ (m : Fin 8) (c : MirrorCap), 16383 < c.frame.length → (Instr.mirrorCapture m c).wf = false) ∧
    (∀ p b a, 64 < b.length → (Instr.ethFrameHead p b a).wf = false) ∧ (∀ p b e, 16383 < b.length → (Instr.ethFrameEnd p b e).wf = false) ∧
    (∀ p b e, 16383 < b.length → (Instr.testFrameCheck p b e).wf = false) :=
  ⟨fun _ _ h => long_refused h, fun _ _ _ h => long_refused h, fun _ _ _ h => long_refused h, fun _ _ _ h => long_refused h⟩
theorem wf_bam : ∀ k p a g, (Instr.bamAnnounce k p a g 65536 255).wf = false ∧ (Instr.bamAnnounce k p a g 9 256).wf = false ∧
    (Instr.bamPacket k p a 256 []).wf = false ∧ (Instr.bamPacket k p a 1 (zeros 8)).wf = false := fun _ _ _ _ => ⟨rfl, rfl, rfl, rfl⟩
theorem wf_lin : ∀ p g c, (Instr.linResponseComplete p (zeros 9) g c).wf = false := fun _ _ _ => rfl
theorem wf_lists : (∀ p e, (Instr.pfcFrameReceived p e (List.replicate 7 0)).wf = false) ∧ (Instr.touchScan [1, 2, 3]).wf = false ∧
    (∀ v, (Instr.lfEngineGrant v (List.replicate 9 0)).wf = false) ∧ (Instr.nfcPoll [[1, 2, 3, 4], [1, 2, 3, 4, 5]]).wf = false :=
  ⟨fun _ _ => rfl, rfl, fun _ => rfl, rfl⟩
theorem wf_uwb : ∀ b : Blob, 127 < b.length → (∀ n t, (Instr.uwbAnswerReceived n t b).wf = false) ∧
    (∀ x, (Instr.uwbRreportReceived b x).wf = false) ∧ ∀ x, (Instr.uwbAckReceived b x).wf = false :=
  fun _ h => ⟨fun _ _ => long_refused h, fun _ => long_refused h, fun _ => long_refused h⟩
theorem wf_nfc : (∀ b : Blob, 65543 < b.length → (Instr.readerExchange b).wf = false) ∧ (∀ b : Blob, 255 < b.length →
    (∀ o e, (Instr.updateBinary o b e).wf = false) ∧ (Instr.verify b).wf = false ∧ (Instr.attestApdu b).wf = false) :=
  ⟨fun _ h => long_refused h, fun _ h => ⟨fun _ _ => long_refused h, long_refused h, long_refused h⟩⟩
theorem wf_maker_auth : (∀ g, (Instr.makerAuth (zeros 66) g).wf = false) ∧ (Instr.makerAuth [] (zeros 65)).wf = false :=
  ⟨fun _ => rfl, rfl⟩
theorem wf_records : (∀ w a t x c d b, 2048 < b.length → (Instr.recordWrite w a t 1 x c d b).wf = false) ∧
    (∀ w a t x c d, (Instr.recordWrite w a t (2 ^ 32) x c d []).wf = false) ∧ (∀ b : Blob, 4608 < b.length → (Instr.snapshotReplace b).wf = false) :=
  ⟨fun _ _ _ _ _ _ _ h => Bool.and_eq_false_iff.mpr (.inl (long_refused h)), fun _ _ _ _ _ _ => rfl, fun _ h => long_refused h⟩
theorem wf_sdo : (∀ p i b e n, (Instr.sdoInitiateDownload p i b e n (zeros 5)).wf = false) ∧ (∀ p t l, (Instr.sdoDownloadSegment p t l (zeros 8)).wf = false) ∧
    (∀ p i b, (Instr.sdoBlockUpload p i b 256).wf = false) ∧
    (∀ p i b u c, (Instr.sdoBlockDownload p i b [(128, [])] u c).wf = false ∧ (Instr.sdoBlockDownload p i b [(1, zeros 8)] u c).wf = false) := ⟨fun _ _ _ _ _ => rfl, fun _ _ _ => rfl, fun _ _ _ => rfl, fun _ _ _ _ _ => ⟨rfl, rfl⟩⟩
theorem wf_messages : (∀ p b, 1400 < b.length → (Instr.udpOpen p b).wf = false) ∧
    (∀ p a b c d e x t, 1388 < x.length → (Instr.udpWrite p a b c d e x t).wf = false) ∧
    (∀ s c b, 1024 < b.length → (Instr.transferData s c b).wf = false) ∧ (∀ s c d o, (Instr.eventRecord s c d o (zeros 9)).wf = false) :=
  ⟨fun _ _ h => long_refused h, fun _ _ _ _ _ _ _ _ h => long_refused h, fun _ _ _ h => long_refused h, fun _ _ _ _ => rfl⟩
theorem wf_accepts : (anyCan .fdBase 64).wf = true ∧ (anyReq 0 16 16).wf = true ∧ (anyFuses 32 32 4 32 3).wf = true ∧ (Instr.nfcPoll [[1, 2, 3, 4]]).wf = true := by decide +kernel

/-! ### The hypotheses of every statement are met -/

/-- The hypotheses of IdleAndReset are met. -/
theorem witness_IdleAndReset :
    (State.reset.pending = [] ∧ State.reset.pwr.vao = true ∧ ({ State.reset with pwr := { State.reset.pwr with vao := false } }).pwr.vao = false) := by
  decide +kernel

/-- The hypotheses of QueueRunsDry are met. -/
theorem witness_QueueRunsDry :
    (∃ t, Host.Core.run core [Instr.linkTraining, .wake 3].length { State.reset with pending := [Instr.linkTraining, .wake 3] } = .next t) := by
  exact ⟨_, rfl⟩

/-- The hypotheses of FusesBurnOneWay are met. -/
theorem witness_FusesBurnOneWay :
    (State.reset.fuse.epoch ≤ 32 ∧ State.reset.fuse.combRev < 16 ∧ State.reset.fuse.combPol < 4 ∧ ∃ t, step { State.reset with pending := [.rtcAlarm] } = .next t) := by
  exact ⟨by decide, by decide, by decide, _, rfl⟩

/-- The hypotheses of SegmentWords are met. -/
theorem witness_SegmentWords :
    ((∀ w, Quiet .keeper wMem w) ∧ isInteger (coreOf .keeper wMem).g[(1 : Fin 32)].tag = true ∧ isInteger (coreOf .keeper wMem).g[(4 : Fin 32)].tag = false ∧ (coreOf .keeper wMem).g[(4 : Fin 32)].tag ≠ tVoid) ∧
    ((∀ w, Quiet .keeper wMem w) ∧ OwnWord .keeper 0x107 ∧ addressSeg (coreOf .keeper wMem) .load 3 2 = .ok 0x107 ∧ addressSeg (coreOf .keeper wMem) .store 3 2 = .ok 0x107 ∧
        addressSeg (coreOf .keeper wMem) .load 1 2 = .error ⟨0x03, 0⟩ ∧ (coreOf .keeper wMem).g[(1 : Fin 32)].tag ≠ tVoid) := by
  refine ⟨?_, ?_⟩
  · exact ⟨fun _ => qMem, by decide +kernel, by decide +kernel, by decide +kernel⟩
  · exact ⟨fun _ => qMem, (by decide : (0x107 : Nat) < 0x80000), rfl, rfl, rfl, by decide +kernel⟩

/-- The hypotheses of EntryChecks are met. -/
theorem witness_EntryChecks :
    (sessionAt State.reset 3 = none ∧ (match sessionAt wHost 0 with | some x => (match checkedWrite wHost x 0x2000 1 (.num 4 0) true (fun _ _ => .error 0) with | .error e => e == abWriteRo || e == abRole | .ok _ => false) | none => false) = true) ∧
    (∃ x : Session, sessionAt wTr 0 = some x ∧ (allow wTr x true 0x2000 3).isOk = true ∧ (allow wTr x false 0x2000 1).isOk = true) := by
  refine ⟨?_, ?_⟩
  · decide +kernel
  · exact ⟨_, rfl, by decide +kernel, by decide +kernel⟩

/-- The hypotheses of LinkFlits are met. -/
theorem witness_LinkFlits :
    (∃ s : State, s.link.up = true ∧ s.pwr.hive = true ∧ s.link.key = some [1] ∧ ∃ f : BitVec 128,
        f.extractLsb' 0 16 = Config.flitCrc (f.extractLsb' 48 80) (f.extractLsb' 16 32) ∧ f.extractLsb' 16 32 = Config.flitTag [1] true (f.extractLsb' 48 80)) ∧
    (State.reset.link.failedToHive = false ∧ State.reset.link.failedToField = false ∧ State.reset.link.up = true ∧ State.reset.pwr.hive = true) ∧
    (({ State.reset.link with failedToHive := true } : LinkSt).failedToHive = true ∧ ({ State.reset.link with key := none } : LinkSt).key = none ∧ State.reset.link.up = true ∧ State.reset.pwr.hive = true) ∧
    (State.reset.pwr.hive = true ∧ ({ State.reset.link with up := false } : LinkSt).up = false) ∧
    (State.reset.pwr.hive = true ∧ ({ State.reset.link with up := false } : LinkSt).up = false) ∧
    (({ State.reset.link with up := false } : LinkSt).up = false ∧ State.reset.link.up = true) := by
  refine ⟨?_, ?_, ?_, ?_, ?_, ?_⟩
  · refine ⟨{ State.reset with link := { State.reset.link with up := true, key := some [1] } }, rfl, by decide +kernel, rfl, ?_⟩
    refine ⟨(0#80 ++ Config.flitTag [1] true 0#80) ++ Config.flitCrc 0#80 (Config.flitTag [1] true 0#80), ?_⟩
    obtain ⟨a1, a2, a3⟩ := flit_parts 0#80 (Config.flitTag [1] true 0#80) (Config.flitCrc 0#80 (Config.flitTag [1] true 0#80))
    rw [a1, a2, a3]; exact ⟨rfl, rfl⟩
  · decide +kernel
  · decide +kernel
  · decide +kernel
  · decide +kernel
  · decide +kernel

/-- The hypotheses of TicksAndBoundaries are met. -/
theorem witness_TicksAndBoundaries :
    (sequencerOn (wRun 1 0 false) = true ∧ (wRun 1 0 false).clk.boundaryDue = false ∧ (wRun 1 0 false).comb.active = some (wC 1) ∧ (wC 1).hyper ≤ (wRun 1 0 false).clk.tick + 1 ∧
        (wRun 1 0 true).clk.boundaryDue = true) ∧
    (sequencerOn (wRun 1000 5 false) = true ∧ (wRun 1000 5 false).clk.boundaryDue = false ∧ (wRun 1000 5 false).comb.active = some (wC 1000) ∧ (wRun 1000 5 false).clk.tick + 1 < (wC 1000).hyper ∧
        sequencerOn State.reset = true ∧ State.reset.comb.active = none) ∧
    (State.reset.pwr.hive = true ∧ (pairAt State.reset 0).run = none ∧ (pairAt wWp 0).run ≠ none ∧ wWp.pwr.hive = true ∧ State.reset.kpr.running = true ∧ State.reset.comb.state ≠ .loading ∧ ({ State.reset.comb with state := .loading } : CombSt).state = .loading) ∧
    (memPlace (.route 3) = (3, 0x02, 24) ∧ memPlace (.signal 1) = (3, 0x02, 0x140002) ∧ memPlace (.code .keeper 5) = (0, 0x05, 32773) ∧ (streamAt State.reset 0).state = 0) ∧
    ((wRun 1 0 true).comb.active = some (wC 1) ∧ (wRun 1 0 true).clk.boundaryDue = true ∧ sequencerOn (wRun 1 0 true) = true) ∧
    (State.reset.comb.tickState ≠ 1 ∧ State.reset.comb.refBack = false ∧ State.reset.comb.active = none) ∧
    (State.reset.pwr.hive = true ∧ wSleep.pwr.hive = false) := by
  refine ⟨?_, ?_, ?_, ?_, ?_, ?_, ?_⟩
  · decide +kernel
  · decide +kernel
  · decide +kernel
  · decide +kernel
  · decide +kernel
  · decide +kernel
  · decide +kernel

/-- The hypotheses of ReferenceAndStandby are met. -/
theorem witness_ReferenceAndStandby :
    (({ State.reset.fab with rescan := true } : FabSt).rescan = true ∧ cellsHeld State.reset ≤ 131072 ∧ State.reset.fab.rescan = false) ∧
    (({ State.reset.comb with tickState := 1 } : CombSt).tickState = 1 ∧ State.reset.comb.tickState ≠ 1 ∧ State.reset.comb.tickState ≠ 2) ∧
    (({ State.reset.comb with tickState := 2 } : CombSt).tickState = 2 ∧ ({ State.reset.comb with tickState := 2 } : CombSt).refBack = false ∧ State.reset.comb.tickState ≠ 2) ∧
    (∃ s : State, ∃ c, s.comb.active = some c ∧ s.comb.tickState = 3 ∧ referencePresent s c = true) ∧
    (WriteReady (wRole .maker) 0 0x3902 1 (.bytes [1, 2]) 0 [1, 2] ∧ (wRole .maker).comb.state = .empty) ∧
    (State.reset.kpr.running = true ∧ State.reset.comb.restore = none ∧ ({ State.reset with comb := { state := .verifying } }).comb.state = .verifying ∧ State.reset.comb.state ≠ .verifying ∧ State.reset.comb.state ≠ .loading) ∧
    (WriteReady wVerified 0 0x3902 2 (numFor 0x3902 2 1) 1 [] ∧ wVerified.comb.state = .verified ∧ wVerified.pwr.entry = none ∧ WriteReady (wRole .host) 0 0x3902 2 (numFor 0x3902 2 2) 2 []) ∧
    (WriteReady (wRole .maker) 0 0x3904 1 (numFor 0x3904 1 0) 0 [] ∧ val State.reset (odKey 0x3904 1) ≤ 0) := by
  refine ⟨?_, ?_, ?_, ?_, ?_, ?_, ?_, ?_⟩
  · decide +kernel
  · decide +kernel
  · decide +kernel
  · exact ⟨modPort 0 (fun p => { p with can := { p.can with refState := 1 } }) { wRun 9 0 false with comb := { (wRun 9 0 false).comb with tickState := 3 } }, wC 9, rfl, rfl, by decide +kernel⟩
  · exact ⟨ready_of (by decide +kernel), by decide +kernel⟩
  · decide +kernel
  · exact ⟨ready_of (by decide +kernel), by decide +kernel, by decide +kernel, ready_of (by decide +kernel)⟩
  · exact ⟨ready_of (by decide +kernel), by decide +kernel⟩

/-- The hypotheses of KeeperLife are met. -/
theorem witness_KeeperLife :
    (WriteReady State.reset 15 0x3B20 6 (numFor 0x3B20 6 1) 1 []) ∧
    ((at60 State.reset).kpr.running = true ∧ (at60 State.reset).pwr.hive = true ∧ (at60 State.reset).kpr.watchPs + val (at60 State.reset) (odKey 0x3B20 5) * 1000000000 / 2 ≤ nowPs (at60 State.reset)) ∧
    ((at60 State.reset).kpr.running = true ∧ (at60 State.reset).pwr.hive = true ∧ (at60 State.reset).kpr.watchPs + val (at60 State.reset) (odKey 0x3B20 5) * 1000000000 ≤ nowPs (at60 State.reset)) ∧
    (∃ s : State, s.kpr.running = false ∧ s.kpr.recovery = false ∧ s.pwr.hive = true ∧ s.pwr.boot = none ∧ s.comb.restore = none ∧ s.comb.active = none ∧ s.comb.state ≠ .verifying) ∧
    ((at60 State.reset).kpr.running = true ∧ (at60 State.reset).pwr.hive = true ∧ (at60 State.reset).pwr.boot = none ∧ (at60 State.reset).comb.restore = none ∧ (at60 State.reset).kpr.startPs + 10000000000000 ≤ nowPs (at60 State.reset)) := by
  refine ⟨?_, ?_, ?_, ?_, ?_⟩
  · exact ready_of (by decide +kernel)
  · decide +kernel
  · decide +kernel
  · exact ⟨{ State.reset with kpr := { State.reset.kpr with running := false } }, by decide +kernel⟩
  · decide +kernel

/-- The hypotheses of FabricSlots are met. -/
theorem witness_FabricSlots :
    (State.reset.clk.slot < slotsNow State.reset ∧ State.reset.pwr.hive = true ∧ wSleep.pwr.hive = false) ∧
    (wSlot.clk.slot < slotsNow wSlot ∧ wSlot.pwr.hive = true ∧ planeDown wSlot = false ∧ slotReservations wSlot = [] ∧ wSlot.fab.ready = [(0, [(⟨1, 0, 1⟩, 29, 0)])] ∧ (fabPortAt wSlot 0).staging = [⟨1, 0, 1⟩] ∧
        (fabPortAt wSlot 0).arriving = [] ∧ (placeCell { wSlot with fab := { wSlot.fab with ready := [(0, [])] } } 232 false).isSome) ∧
    (planesDown { State.reset with fab := { State.reset.fab with planeA := { failed := true }, planeB := { failed := true } } } = true ∧ planeDown wPlane = true ∧ planesDown wPlane = false ∧ planeDown State.reset = false) ∧
    (planeDown wSlot = false ∧ (frameAt wSlot 1).isSome = true) ∧
    (WriteReady wPlane 0 0x3800 2 (numFor 0x3800 2 1) 1 [] ∧ planeDown wPlane = true ∧ wPlane.fab.planeTest ≠ 1) ∧
    (({ State.reset.fab with planeTest := 1 } : FabSt).planeTest = 1 ∧ State.reset.fab.bootTest = false ∧ ({ State.reset.fab with bootTest := true } : FabSt).bootTest = true ∧ State.reset.fab.planeTest ≠ 1) ∧
    (dramSlotDue wSpill 0 = true ∧ rrPick 256 wSpill.fab.spillWPtr (wantsWrite wSpill) = some 0 ∧
      rrPick 256 wSpill.fab.spillRPtr (wantsRead wSpill) = some 0 ∧ sentHead wSpill 0 = none ∧ dramSlotDue State.reset 0 = false) ∧
    ((queueAt wTransit 5).cells.find? (·.2 == .transit) = some (⟨7, 0, 1⟩, .transit) ∧ (queueAt State.reset 5).cells.find? (·.2 == .transit) = none) ∧
    ((portAt wTxb 0).st = .running ∧ (portAt wTxb 0).can.bufs ≠ [] ∧ (portAt State.reset 0).st ≠ .running) ∧
    ((mirrorAt wMir 0).st = .running ∧ (val wMir (odKey 0x3810 3)).testBit wCap.tc.val = true ∧ val wMir (odKey 0x3810 2) = 0 ∧ wCap.inPort.val = val wMir (odKey 0x3810 1) ∧ (mirrorAt wMir 1).st ≠ .running) ∧
    ((mirrorAt wMir 0).waiting = [(wCap, 9)] ∧ dramSlotDue wMir 1 = true ∧ (mirrorAt wMir 1).waiting = []) ∧
    ((mirrorAt wMir 0).waiting = [(wCap, 9)] ∧ (mirrorAt wMir 1).waiting = []) ∧
    (WriteReady (wRole .maker) 0 0x3800 7 (numFor 0x3800 7 0) 0 []) ∧
    (WriteReady (wRole .maker) 0 0x3807 19 (numFor 0x3807 19 600) 600 [] ∧ graceSum (setVal (odKey 0x3807 19) 600 (wRole .maker)) ≤ 3584) ∧
    (WriteReady (wRole .maker) 0 0x3808 1 (numFor 0x3808 1 100) 100 []) ∧
    ((fabPortAt State.reset 18).pausedBy = [] ∧ canPause wPause 18 = true ∧ (fabPortAt wPause 18).pausedBy = [3]) ∧
    ((5 : Nat) < 34 ∧ rrPick 34 5 (fun i => i == 3 || i == 4) = some 3 ∧ rrPick 34 5 (fun i => i == 33 || i == 4) = some 33 ∧ rrPick 34 5 (fun _ => false) = none) := by
  refine ⟨?_, ?_, ?_, ?_, ?_, ?_, ?_, ?_, ?_, ?_, ?_, ?_, ?_, ?_, ?_, ?_, ?_⟩
  · decide +kernel
  · decide +kernel
  · decide +kernel
  · decide +kernel
  · exact ⟨ready_of (by decide +kernel), by decide +kernel⟩
  · decide +kernel
  · decide +kernel
  · decide +kernel
  · decide +kernel
  · decide +kernel
  · decide +kernel
  · decide +kernel
  · exact ready_of (by decide +kernel)
  · exact ⟨ready_of (by decide +kernel), by decide +kernel⟩
  · exact ready_of (by decide +kernel)
  · decide +kernel
  · decide

/-- The hypotheses of SignalReads are met. -/
theorem witness_SignalReads :
    (sigTag (sigRaw wSig 0) ∉ [0, 0xE, 0xF] ∧ sigExp (sigRaw wSig 0) = false ∧ sigTag (sigRaw wSig 1) ∉ [0, 0xE, 0xF] ∧ sigExp (sigRaw wSig 1) = true) ∧
    (sigTag (sigRaw State.reset 0) ∈ [0, 0xE, 0xF]) := by
  refine ⟨?_, ?_⟩
  · decide +kernel
  · decide +kernel

/-- The hypotheses of SignalWrites are met. -/
theorem witness_SignalWrites :
    ((5 : Nat) ≠ 0) ∧
    (sigStale wSig (sigRaw wSig 2) = true ∧ sigTag (sigRaw wSig 2) ≠ 0 ∧ sigExp (sigRaw wSig 1) = true) := by
  refine ⟨?_, ?_⟩
  · decide +kernel
  · decide +kernel

/-- The hypotheses of SignalEngine are met. -/
theorem witness_SignalEngine :
    (serviceOnly (wRun 1000 5 false) = false ∧ (wRun 1000 5 false).pwr.hive = true ∧ wSleep.pwr.hive = false) ∧
    (∃ s : State, (streamAt s 0).waiting = true ∧ (streamAt s 0).transmit = true ∧ (streamAt s 1).waiting = true ∧ (streamAt s 1).transmit = false ∧ (streamAt s 2).waiting = false) ∧
    (∃ s : State, canRunning s 0 = true ∧ s.kpr.running = true ∧ val s (odKey 0x3A20 2) ≠ 0xFE ∧ canRunning s 1 = false) ∧
    (canRunning wClaim 0 = true ∧ (claimAt wClaim 0).state = 2 ∧ (0x80 : Byte).toNat = (claimAt wClaim 0).address ∧ canRunning wClaim 1 = false) ∧
    (canRunning wClaim 0 = true ∧ canRunning wClaim 1 = false ∧ (claimAt wClaim 0).state = 2 ∧ (0x80 : Byte).toNat = (claimAt wClaim 0).address ∧ nameOf wClaim 0 < (9 : BitVec 64).toNat ∧ (5 : BitVec 64).toNat < nameOf wClaim 0) ∧
    (bamPdu wBam 0 5 0xFECA = some (0, bamD) ∧ (pduCmask bamD).testBit 0 = true ∧ clusterFitted wBam 0 = true ∧ bamOf wBam 0 0 5 = none ∧ wBam.sig.bams = [] ∧ ceilDiv 100 7 = 15 ∧
        bamPdu wBam 1 5 0xFECA = none ∧ (bamOf (runs [.bamAnnounce 0 0 5 0xFECA 100 15] wBam) 0 0 5).isSome = true) ∧
    (∃ (s : State) (x : BamSession), bamOf s 0 0 0x20 = some x ∧ x.next ≠ x.packets) ∧
    (∃ (s : State) (x : BamSession), bamOf s 0 0 0x20 = some x ∧ 2 ≠ x.next) ∧
    (∃ b : Blob, WriteReady wTr 0 0x3A03 2 (.bytes b) 0 b ∧ b.length = 4096 ∧ wTr.sig.streams = [] ∧ b.all (fun x => decide (x.toNat < 64)) = true) := by
  refine ⟨?_, ?_, ?_, ?_, ?_, ?_, ?_, ?_, ?_⟩
  · decide +kernel
  · exact ⟨putStream 1 { waiting := true } (putStream 0 { waiting := true, transmit := true } State.reset), by decide⟩
  · exact ⟨modPort 0 (fun p => { p with st := .running }) (setVal (odKey 0x3A20 2) 0x80 State.reset), by decide +kernel⟩
  · decide +kernel
  · decide +kernel
  · decide +kernel
  · exact ⟨modSig (fun g => { g with bams := [(0, { port := 0, sa := 0x20, pgn := 0xFECA, size := 14, packets := 2, next := 1, data := [] })] }) State.reset, _, rfl, by decide⟩
  · exact ⟨modSig (fun g => { g with bams := [(0, { port := 0, sa := 0x20, pgn := 0xFECA, size := 14, packets := 2, next := 1, data := [] })] }) State.reset, _, rfl, by decide⟩
  · have key : ∀ b : Blob, b.length = 4096 → WriteReady wTr 0 0x3A03 2 (.bytes b) 0 b := fun b h =>
      ⟨{ transport := .sdo, endpoint := 0, role := .maker }, (entryRow 0x3A03 2).get (by decide +kernel), rfl, rfl,
        (if_neg (fun n => n h) : (if b.length ≠ 4096 then (Except.error abType : Except Nat (Nat × Blob)) else .ok (0, b)) = .ok (0, b)),
        by decide +kernel, by decide +kernel, by decide +kernel⟩
    refine ⟨List.replicate 4096 0, key _ List.length_replicate, List.length_replicate, by decide +kernel, ?_⟩
    rw [List.all_eq_true]
    intro x hx
    rw [List.eq_of_mem_replicate hx]
    decide

/-- The hypotheses of CanSettings are met. -/
theorem witness_CanSettings :
    (WriteReady (wRole .maker) 0 0x3002 1 (numFor 0x3002 1 0x000F3F00) 0x000F3F00 []) ∧
    (WriteReady (wRole .maker) 0 0x3001 3 (numFor 0x3001 3 1) 1 [] ∧ flag (wRole .maker) (pk 0 1 4) = false) ∧
    (WriteReady (wRole .maker) 0 0x3009 1 (numFor 0x3009 1 1) 1 [] ∧ WriteReady (wRole .maker) 0 0x3089 1 (numFor 0x3089 1 1) 1 []) := by
  refine ⟨?_, ?_, ?_⟩
  · exact ready_of (by decide +kernel)
  · exact ⟨ready_of (by decide +kernel), by decide +kernel⟩
  · exact ⟨ready_of (by decide +kernel), ready_of (by decide +kernel)⟩

/-- The hypotheses of CanFrames are met. -/
theorem witness_CanFrames :
    (canOnBus wCan 0 = true ∧ (portAt wCan 0).st = .running ∧ formatEnabled wCan 0 .classicBase = true ∧ formatEnabled wCan 0 .xl = false ∧
      (canClassify (count (pk 0 8 1) (modCan 0 (fun c => { c with recv := goodReceive c.recv }) wCan)) 0 { id := 0x123, fmt := .classicBase, data := [1] }).2.2.1 = [] ∧ canOnBus State.reset 0 = false) ∧
    (portKind 0 = .can ∧ portKind 10 = .lin ∧ bucketAdmits State.reset 0 0 = false ∧ bucketAdmits wCanIn 0 0 = true) ∧
    (canAccepts wCan 0 = true ∧ flag (setVal (pk 0 1 2) 0 wCan) (pk 0 1 2) = false ∧ flag (setVal (pk 0 1 2) 1 wCan) (pk 0 1 2) = true ∧ canAccepts State.reset 0 = false) ∧
    (canOnBus wCan 0 = true ∧ canOnBus State.reset 0 = false ∧ flag (setVal (pk 0 1 3) 0 wCan) (pk 0 1 3) = false) ∧
    (255 < (portAt (modCan 0 (fun c => { c with tec := 250 }) wCan) 0).can.tec + 8 ∧ (portAt wCan 0).st = .running) ∧
    (∃ s : State, portKind 0 = .can ∧ portFitted s 0 = true ∧ (fabPortAt s 0).arriving = [] ∧ (portAt s 0).can.rq0 = [wItem] ∧ (portAt s 1).can.rq0 = [] ∧ (portAt s 1).can.rq1 = []) ∧
    (canOnBus wTx 0 = true ∧ freeBuffer wTx 0 = some 0 ∧ readyHead wTx 0 (fun _ => true) = some 1 ∧ (∃ f, frameAt wTx 1 = some f ∧ unrepresentable wTx 0 f = false) ∧ readyHead wTxb 0 (fun _ => true) = some 1 ∧
      ∃ f, frameAt (setVal (pk 0 1 1) 6 wTx) 1 = some f ∧ unrepresentable (setVal (pk 0 1 1) 6 wTx) 0 f = true) ∧
    (testGenerates wTxb 0 = false ∧ canOnBus wTxb 0 = true ∧ (portAt wTxb 0).can.refBuf = none ∧ offered wTxb 0 = some (3, { wF with outPort := 0, bytes := zeros 64 }) ∧ testGenerates (wPtGen 1) 0 = true) ∧
    (canOnBus wTxb 0 = true ∧ (offered wTxb 0).isSome = true ∧ offered wTx 0 = none ∧ (portAt wTx 0).can.refBuf = none) ∧
    (∃ s : State, portKind 0 = .can ∧ (portAt s 0).st = .down ∧ (portAt s 0).holdoff = true ∧ (portAt s 0).test.st ≠ 1 ∧ (portAt s 0).eth.phyFault = false ∧ (portAt s 1).holdoff = false) ∧
    (∃ s : State, (portAt s 0).st = .recovering ∧ (portAt s 0).recoverySeq = true ∧ (portAt s 1).recoverySeq = false) ∧
    (∃ s : State, (portAt s 0).flushing = true ∧ (portAt s 0).st = .stopping ∧ (portAt s 1).flushing = true ∧ (portAt s 1).st = .down ∧ (portAt s 2).flushing = false) := by
  refine ⟨?_, ?_, ?_, ?_, ?_, ?_, ?_, ?_, ?_, ?_, ?_, ?_⟩
  · decide +kernel
  · decide +kernel
  · decide +kernel
  · decide +kernel
  · decide +kernel
  · exact ⟨wOn 0 fun p => { p with can := { p.can with rq0 := [wItem] } }, by decide +kernel⟩
  · refine ⟨by decide +kernel, by decide +kernel, by decide +kernel, ⟨{ wF with outPort := 0, bytes := zeros 64 }, by decide +kernel, by decide +kernel⟩, by decide +kernel, { wF with outPort := 0, bytes := zeros 64 }, by decide +kernel, by decide +kernel⟩
  · decide +kernel
  · decide +kernel
  · exact ⟨modPort 0 (fun p => { p with st := .down, holdoff := true }) State.reset, by decide⟩
  · exact ⟨modPort 0 (fun p => { p with st := .recovering, recoverySeq := true }) State.reset, by decide⟩
  · exact ⟨modPort 1 (fun p => { p with st := .down, flushing := true }) (modPort 0 (fun p => { p with st := .stopping, flushing := true }) State.reset), by decide⟩

/-- The hypotheses of CanReference are met. -/
theorem witness_CanReference :
    (∃ s : State, canAccepts s 0 = true ∧ val s (pk 0 0xA 1) = 2 ∧ serviceOnly s = false ∧ s.clk.tick % max (val s (pk 0 0xA 3)) 1 = 0 ∧ canAccepts s 1 = false) ∧
    (∃ s : State, canOnBus s 0 = true ∧ (portAt s 0).can.refBuf ≠ none ∧ (portAt s 1).can.refBuf = none) ∧
    (∃ s : State, canAccepts s 0 = true ∧ isReference s 0 { id := 0, fmt := .classicBase, data := [5, 0, 0, 0] } = true ∧ isReference s 0 { id := 8, fmt := .classicBase, data := [] } = false ∧ canReference s 0 = false) ∧
    (∃ s : State, canOnBus s 0 = true ∧ (portAt s 0).can.refState = 1 ∧ (portAt s 0).can.lastRefPs = some 0 ∧ 2 * 0 + 3 * max (val s (pk 0 0xA 3)) 1 * 1000000 ≤ 2 * nowPs s ∧ (portAt s 1).can.refState = 0) ∧
    (({ State.reset.comb with tickState := 1 } : CombSt).tickState = 1 ∧ State.reset.comb.tickState ≠ 1) ∧
    (∃ s : State, portFitted s 0 = true ∧ s.pwr.vao = true ∧ val s (pk 0 9 1) = 1 ∧ s.pwr.votePort[0]? = some false ∧ val s (pk 0 9 2) ≤ 10) ∧
    (∃ s : State, portFitted s 0 = true ∧ s.pwr.vao = true ∧ val s (pk 0 9 1) = 2 ∧ s.pwr.votePort[0]? = some false ∧ wakeMatches s 0 { id := 5, fmt := .classicBase, data := [] } = false) ∧
    (∃ s : State, portFitted s 0 = true ∧ s.pwr.vao = true ∧ val s (pk 0 9 1) = 2 ∧ s.pwr.votePort[0]? = some false ∧ val s (pk 0 9 0xA) = 31) ∧
    (wakeEnabled wSleep 17 = true ∧ wSleep.pwr.vao = true ∧ wSleep.pwr.dev = .sleep ∧ State.reset.pwr.dev ≠ .sleep) := by
  refine ⟨?_, ?_, ?_, ?_, ?_, ?_, ?_, ?_, ?_⟩
  · exact ⟨setVal (pk 0 0xA 1) 2 { wCan with comb := { active := some (wC 1000) } }, by decide +kernel⟩
  · exact ⟨modCan 0 (fun c => { c with refBuf := some { id := 1, fmt := .classicBase, data := [] } }) wCan, by decide +kernel⟩
  · exact ⟨setVal (pk 0 0xA 1) 1 wCan, by decide +kernel⟩
  · exact ⟨modCan 0 (fun c => { c with refState := 1, lastRefPs := some 0 }) { wCan with clk := { wCan.clk with tickPs := 60000000000000 } }, by decide +kernel⟩
  · decide +kernel
  · exact ⟨setVal (pk 0 9 1) 1 State.reset, by decide +kernel⟩
  · exact ⟨setVal (pk 0 9 1) 2 State.reset, by decide +kernel⟩
  · exact ⟨setVal (pk 0 9 0xA) 31 (setVal (pk 0 9 1) 2 State.reset), by decide +kernel⟩
  · decide +kernel

/-- The hypotheses of LinPorts are met. -/
theorem witness_LinPorts :
    (((wLin 0 .running).comb.now.any fun a => actType a == 6 && actLin a == 0 && actIdent a == 0) = true ∧ linOnBus (wLin 0 .running) 10 = true ∧ linAccepts (wLin 0 .running) 10 = true ∧ linResponder (wLin 0 .running) 10 = false ∧ linResponder (wLin 1 .running) 10 = true ∧
      (portAt (wLin 0 .running) 10).lin.blackout = false ∧ tooClose (wLin 0 .running) 10 = false ∧ linResponse? (wLin 0 .running) 10 0 = none ∧ linSubscribed (wLin 0 .running) 10 0 = true ∧ ((wLin 0 .running).comb.now.any fun a => actType a == 6 && actLin a == 1) = false) ∧
    (linTmax 19200 8 = 9041666608) ∧
    (linOnBus State.reset 10 = false ∧ linOnBus (wLin 0 .running) 10 = true ∧ readyHead (wLin 0 .running) 10 (fun _ => true) = none ∧ readyHead (wQueue 10 (wLin 0 .running)) 10 (fun _ => true) = some 1) ∧
    (testGenerates (wLin 1 .running) 10 = false ∧ linOnBus (wLin 1 .running) 10 = true ∧ linResponder (wLin 1 .running) 10 = true ∧ linResponder (wLin 0 .running) 10 = false ∧ val (wLin 1 .running) (pk 10 1 2) = 19200 ∧
      linResponse? (wLin 1 .running) 10 5 = none ∧ linAccepts (wLin 1 .running) 10 = true ∧ linSubscribed (wLin 1 .running) 10 5 = true) ∧
    (∃ s : State, (portAt s 10).lin.header = some (5, true) ∧ linOnBus s 10 = true ∧ (portAt s 11).lin.header = none) ∧
    (∃ s : State, (portAt s 10).lin.header = some (5, false) ∧ (portAt s 11).lin.header = none) ∧
    (∃ s : State, linOnBus s 10 = true ∧ linResponder s 10 = false ∧ (portAt s 10).st = .running ∧ (portAt s 10).lin.headerBad = false ∧ (portAt s 10).lin.readback = 7 ∧ linOnBus s 11 = false) ∧
    (linOnBus (wLin 1 .busSleep) 10 = true ∧ linResponder (wLin 1 .busSleep) 10 = true ∧ (portAt (wLin 1 .busSleep) 10).st = .busSleep ∧ linOnBus (wLin 1 .running) 10 = true ∧ (portAt (wLin 1 .running) 10).st = .running) ∧
    ((portAt State.reset 0).st ≠ .running ∧ isEth 0 = false ∧ isEth 18 = true ∧ (portAt State.reset 18).st = .stopped) := by
  refine ⟨?_, ?_, ?_, ?_, ?_, ?_, ?_, ?_, ?_⟩
  · decide +kernel
  · decide +kernel
  · decide +kernel
  · decide +kernel
  · exact ⟨modPort 10 (fun p => { p with st := .running, lin := { p.lin with header := some (5, true) } }) State.reset, by decide +kernel⟩
  · exact ⟨modPort 10 (fun p => { p with st := .running, lin := { p.lin with header := some (5, false) } }) State.reset, by decide +kernel⟩
  · exact ⟨modPort 10 (fun p => { p with st := .running, lin := { p.lin with readback := 7 } }) State.reset, by decide +kernel⟩
  · decide +kernel
  · decide +kernel

/-- The hypotheses of EthernetLinks are met. -/
theorem witness_EthernetLinks :
    (WriteReady (wRole .maker) 0 0x3000 1 (numFor 0x3000 1 1) 1 [] ∧ (portAt (wRole .maker) 0).st = .stopped ∧ WriteReady (wOn 0 id) 0 0x3000 1 (numFor 0x3000 1 0) 0 [] ∧ (portAt (wOn 0 id) 0).st = .running) ∧
    (State.reset.pwr.held.getLsbD 0 = false ∧ portKind 18 = .ge) ∧
    ((portAt State.reset 0).st ≠ .pending) ∧
    (∃ s : State, portFitted s 18 = true ∧ (portAt s 18).st = .recovering ∧ (portAt s 19).st = .stopped) ∧
    (∃ s : State, (portAt s 18).eth.linkUp = true ∧ (portAt s 18).st = .running ∧ (portAt s 19).eth.linkUp = false) ∧
    ((portAt wCan 0).st = .running ∧ (portAt State.reset 0).st = .stopped) ∧
    (plcaOn (wPlca 3) 14 = true ∧ val (wPlca 3) (pk 14 0xB 2) ≠ 0 ∧ (portAt (wPlca 3) 14).eth.plca = 1 ∧ plcaOn (wPlca 0) 14 = true ∧ val (wPlca 0) (pk 14 0xB 2) = 0 ∧ plcaOn State.reset 14 = false) ∧
    (∃ s : State, portKind 14 = .tsa ∧ portFitted s 14 = true ∧ (portAt s 14).st = .running ∧ (portAt s 15).st = .stopped) ∧
    (∃ s : State, (portAt s 14).eth.phyFault = true ∧ (portAt s 14).st = .down ∧ (portAt s 14).flushing = false ∧ val s (pk 14 4 1) = 1 ∧ (portAt s 14).downCause ∉ [4, 6] ∧ (portAt s 15).eth.phyFault = false) ∧
    (∃ s : State, portFitted s 14 = true ∧ s.pwr.vao = true ∧ val s (pk 14 9 1) = 1 ∧ s.pwr.votePort[14]? = some false ∧ 8 * val s (pk 14 9 2) ≤ 200 ∧ val s (pk 15 9 1) = 0) ∧
    (nextFrame State.reset 14 = none) ∧
    (∃ s : State, ethAccepts s 18 = true ∧ flag s (pk 18 0xA 4) = true ∧ s.kpr.running = true ∧ ethAccepts s 19 = false) ∧
    (∃ s : State, (portAt s 18).eth.pnExhausted = true ∧ (portAt s 18).st = .running ∧ (portAt s 19).eth.pnExhausted = false) := by
  refine ⟨?_, ?_, ?_, ?_, ?_, ?_, ?_, ?_, ?_, ?_, ?_, ?_, ?_⟩
  · exact ⟨ready_of (by decide +kernel), by decide +kernel, ready_of (by decide +kernel), by decide +kernel⟩
  · decide +kernel
  · decide +kernel
  · exact ⟨modPort 18 (fun p => { p with st := .recovering }) State.reset, by decide +kernel⟩
  · exact ⟨wOn 18 fun p => { p with eth := { p.eth with linkUp := true } }, by decide +kernel⟩
  · decide +kernel
  · decide +kernel
  · exact ⟨modPort 14 (fun p => { p with st := .running }) State.reset, by decide +kernel⟩
  · exact ⟨modPort 14 (fun p => { p with st := .down, eth := { p.eth with phyFault := true } }) (setVal (pk 14 4 1) 1 wTr), by decide +kernel⟩
  · exact ⟨setVal (pk 14 9 1) 1 State.reset, by decide +kernel⟩
  · decide +kernel
  · exact ⟨modPort 18 (fun p => { p with st := .running }) (setVal (pk 18 0xA 4) 1 State.reset), by decide +kernel⟩
  · exact ⟨wOn 18 fun p => { p with eth := { p.eth with pnExhausted := true } }, by decide +kernel⟩

/-- The hypotheses of EthernetFrames are met. -/
theorem witness_EthernetFrames :
    (ethAccepts wEthIn 18 = true ∧ wEthIn.fab.ingress[18]? = some none ∧ (ethHead ((zeros 64).take 64)).etype ≠ 0x8808 ∧ (ethClassify wEthIn 18 ((zeros 64).take 64)).2.1 ≠ [] ∧ policeCause wEthIn 18 (ethClassify wEthIn 18 ((zeros 64).take 64)).1 = none ∧
      ethAccepts State.reset 18 = false ∧ (ethClassify (wOn 18 id) 18 (zeros 64)).2.1 = [] ∧ policeCause (wOn 18 id) 18 0 = some 1) ∧
    (ethOnLine wEthIn 18 = true ∧ ethOnLine State.reset 18 = false ∧ wEthIn.fab.ingress[18]? = some none ∧ ((st' (exec (.ethFrameHead 18 (zeros 64) 0) wEthIn)).fab.ingress[18]?).join.any (fun g => g.cause == none) = true) ∧
    ((frameAt (wQueue 0 wTr) 1).isSome = true ∧ frameAt State.reset 1 = none ∧ (∀ f, frameAt (wQueue 0 wTr) 1 = some f → f.ct = false)) ∧
    (testGenerates (wEthTx 18) 18 = false ∧ (portAt (wEthTx 18) 18).eth.tx = some 1 ∧ frameAt (wEthTx 18) 1 = some { wF with outPort := 18, bytes := zeros 64 } ∧ ethOnLine (wEthTx 18) 18 = true ∧ (portAt (wEthTx 18) 18).eth.backoff = false ∧ frameReady (wEthTx 18) 1 = true ∧ (portAt wTr 18).eth.tx = none) ∧
    (ethOnLine (wEthTx 14) 14 = true ∧ (portAt (wEthTx 14) 14).eth.tx ≠ none ∧ (portAt (wEthTx 14) 14).eth.backoff = false ∧ ∃ s : State, (portAt s 14).eth.backoff = true ∧ (portAt s 14).eth.attempts = 16) ∧
    (∃ s : State, ethOnLine s 18 = true ∧ fcMode s 18 1 = true ∧ fcMode s 18 2 = false ∧ ethOnLine s 19 = false) ∧
    (∃ s : State, classPaused s 18 2 = true ∧ classPaused s 18 3 = false) ∧
    (WriteReady (wRole .maker) 0 0x3243 3 (numFor 0x3243 3 1) 1 [] ∧ combPausable (wRole .maker) 18 = false) := by
  refine ⟨?_, ?_, ?_, ?_, ?_, ?_, ?_, ?_⟩
  · decide +kernel
  · decide +kernel
  · decide +kernel
  · decide +kernel
  · exact ⟨by decide +kernel, by decide +kernel, by decide +kernel, modPort 14 (fun p => { p with eth := { p.eth with backoff := true, attempts := 16 } }) State.reset, by decide⟩
  · exact ⟨modPort 18 (fun p => { p with st := .running }) (setVal (pk 18 3 3) 1 State.reset), by decide +kernel⟩
  · exact ⟨modPort 18 (fun p => { p with eth := { p.eth with pauses := p.eth.pauses.set 2 { stopped := true, quanta := 5 } } }) wTr, by decide +kernel⟩
  · exact ⟨ready_of (by decide +kernel), by decide +kernel⟩

/-- The hypotheses of ProfoldResults are met. -/
theorem witness_ProfoldResults :
    ((∀ w : Word, Quiet .keeper State.reset w) ∧ ∀ w : Word, Quiet (.wp 0) wWp w) ∧
    (isTarget tQ15 = true) ∧
    (isTarget ((0x18#11).extractLsb' 0 4) = true ∧ isTarget ((3#8).extractLsb' 0 4) = true) ∧
    (bfOpen 0x3FF = true ∧ bfOpen 0x3E0 = false ∧ (∃ v, bfxOp 0x3FF 5 (u32Word 9) = .ok v) ∧ bfxOp 0x3FF 5 ⟨tVoid, 0⟩ = .error ⟨0x01, 0⟩) ∧
    (Quiet .keeper wDiv (encR 1 4 1 2 4) ∧ divOp false (coreOf .keeper wDiv).g[(1 : Fin 32)] (coreOf .keeper wDiv).g[(2 : Fin 32)] = .ok { w := mkWord tS32 (-3) } ∧
      divOp true (coreOf .keeper wDiv).g[(1 : Fin 32)] (coreOf .keeper wDiv).g[(2 : Fin 32)] = .ok { w := mkWord tS32 (-1) } ∧
      fpOp f32Div (coreOf .keeper wDiv).g[(3 : Fin 32)] (coreOf .keeper wDiv).g[(3 : Fin 32)] = .ok { w := ⟨tF32, 0x3F800000⟩ } ∧
      (coreOf .keeper wDiv).cyc < 3 + 12 ∧ (coreOf .keeper wDiv).loadDelay = true ∧ Quiet (.wp 0) wWp (encR 1 4 1 2 4) ∧ (coreOf (.wp 0) wWp).loadDelay = false) ∧
    (Quiet .keeper wDiv (encR 2 3 3 3 8) ∧ fmaOp (coreOf .keeper wDiv).g[(3 : Fin 32)] (coreOf .keeper wDiv).g[(3 : Fin 32)] (coreOf .keeper wDiv).g[(3 : Fin 32)] = .ok { w := ⟨tF32, 0x40C00000⟩ } ∧
      fmaOpen (coreOf .keeper wDiv).g[(3 : Fin 32)].val (coreOf .keeper wDiv).g[(3 : Fin 32)].val (coreOf .keeper wDiv).g[(3 : Fin 32)].val = false ∧
      fmaOpen 0x7FC00000 0x7F800000 0 = true ∧ fmaOp (coreOf .keeper wDiv).g[(7 : Fin 32)] (coreOf .keeper wDiv).g[(3 : Fin 32)] (coreOf .keeper wDiv).g[(3 : Fin 32)] = .error ⟨0x01, 0⟩) := by
  refine ⟨?_, ?_, ?_, ?_, ?_, ?_⟩
  · exact ⟨fun _ => qReset, fun _ => qWp⟩
  · decide +kernel
  · decide +kernel
  · exact ⟨by decide +kernel, by decide +kernel, ⟨_, rfl⟩, rfl⟩
  · exact ⟨qDiv, rfl, rfl, rfl, by decide +kernel, by decide +kernel, qWp, by decide +kernel⟩
  · exact ⟨qDiv, rfl, by decide +kernel, by decide +kernel, rfl⟩

/-- The hypotheses of ProfoldMemory are met. -/
theorem witness_ProfoldMemory :
    (OwnWord .keeper 0x107 ∧ (∀ w, Quiet .keeper wMem w) ∧ address (coreOf .keeper wMem) .load 1 1 2 = .ok 0x107 ∧
        addressSeg (coreOf .keeper wMem) .load 3 2 = .ok 0x107) ∧
    ((∀ w, Quiet .keeper wMem w) ∧ address (kMem 2 fun k => { k with sg := k.sg.set 2 0x010000000000641F }).keeper .load 1 2 0 = .ok 0x01000005 ∧
        address (kMem 2 fun k => { k with sg := k.sg.set 2 0x020000000000641F }).keeper .load 1 2 0 = .ok 0x02000005 ∧
        address (kMem 2 fun k => { k with sg := k.sg.set 2 0x800000000000641F }).keeper .load 1 2 0 = .ok 0x80000005 ∧
        address (kMem 2 fun k => { k with sg := k.sg.set 2 0x700000000000641F }).keeper .load 1 2 0 = .ok 0x70000005) ∧
    (address (coreOf .keeper wMem) .atomic 1 1 2 = .ok 0x107) ∧
    ((∀ w, Quiet .keeper wMem w) ∧ address (coreOf .keeper wMem) .store 1 1 2 = .ok 0x107 ∧ addressSeg (coreOf .keeper wMem) .store 3 2 = .ok 0x107 ∧
        (coreOf .keeper wMem).g[(1 : Fin 32)].tag ≠ tVoid ∧ (coreOf .keeper wMem).user = false) ∧
    ((∀ w, Quiet .keeper wMem w) ∧ wMem.keeper.resv = none ∧ wMem.keeper.g[(1 : Fin 32)].tag ≠ tVoid ∧
        address (kMem 2 fun k => { k with sg := k.sg.set 2 0x010000000000641F }).keeper .store 1 2 0 = .ok 0x01000005 ∧
        address (kMem 2 fun k => { k with sg := k.sg.set 2 0x020000000000641F }).keeper .store 1 2 0 = .ok 0x02000005 ∧
        address (kMem 2 fun k => { k with sg := k.sg.set 2 0x800000000000641F }).keeper .store 1 2 0 = .ok 0x80000005) ∧
    ((∀ w, Quiet .keeper wMem w) ∧ OwnWord .keeper 0x107 ∧ address (coreOf .keeper wMem) .atomic 1 1 2 = .ok 0x107 ∧ (coreOf .keeper wMem).g[(2 : Fin 32)].tag ≠ tVoid) ∧
    (isInteger (coreOf .keeper wMem).g[(1 : Fin 32)].tag = true) ∧
    (isInteger (coreOf .keeper wMem).g[(1 : Fin 32)].tag = true) ∧
    ((∀ w, Quiet .keeper wMem w) ∧ address (coreOf .keeper wMem) .load 1 1 0x7FF = .error ⟨0x05, 0x804⟩ ∧ address (coreOf .keeper wMem) .store 1 2 0 = .error ⟨0x07, 5⟩ ∧
        address (coreOf .keeper wMem) .atomic 1 2 0 = .error ⟨0x07, 5⟩ ∧ (coreOf .keeper wMem).user = false ∧ (coreOf .keeper wMem).g[(9 : Fin 32)].tag = tVoid ∧
        address (coreOf .keeper wMem) .store 1 1 2 = .ok 0x107) := by
  refine ⟨?_, ?_, ?_, ?_, ?_, ?_, ?_, ?_, ?_⟩
  · exact ⟨(by decide : (0x107 : Nat) < 0x80000), fun _ => qMem, by rfl, by rfl⟩
  · exact ⟨fun _ => qMem, rfl, rfl, rfl, rfl⟩
  · rfl
  · exact ⟨fun _ => qMem, rfl, rfl, by decide +kernel, by decide +kernel⟩
  · exact ⟨fun _ => qMem, rfl, by decide +kernel, rfl, rfl, rfl⟩
  · exact ⟨fun _ => qMem, (by decide : (0x107 : Nat) < 0x80000), rfl, by decide +kernel⟩
  · decide +kernel
  · decide +kernel
  · exact ⟨fun _ => qMem, rfl, rfl, rfl, by decide +kernel, rfl, rfl⟩

/-- The hypotheses of ProfoldBranches are met. -/
theorem witness_ProfoldBranches :
    ((∀ w, Quiet .keeper wMem w) ∧ (∀ w, Quiet (.wp 0) wWp w) ∧ branchOn .eq false (coreOf .keeper wMem).g[(1 : Fin 32)] (coreOf .keeper wMem).g[(1 : Fin 32)] = .ok (true, 0) ∧
        branchOn .ne false (coreOf .keeper wMem).g[(1 : Fin 32)] (coreOf .keeper wMem).g[(1 : Fin 32)] = .ok (false, 0) ∧
        branchOn .lt false (coreOf .keeper wMem).g[(1 : Fin 32)] (coreOf .keeper wMem).g[(1 : Fin 32)] = .ok (false, 0) ∧
        branchOn .lt true (coreOf .keeper wMem).g[(1 : Fin 32)] (coreOf .keeper wMem).g[(1 : Fin 32)] = .ok (true, 0) ∧
        branchOn .eq false (coreOf .keeper wMem).g[(1 : Fin 32)] (coreOf .keeper wMem).g[(9 : Fin 32)] = .error ⟨0x01, 0⟩) ∧
    ((∃ a b : PfWord, a.tag = b.tag ∧ isInteger a.tag = true) ∧ (∃ a b : PfWord, a.tag = tF32 ∧ b.tag = tF32 ∧ f32Cmp a.val b.val = none)) ∧
    ((∀ w, Quiet .keeper wMem w) ∧ (coreOf .keeper wMem).g[(1 : Fin 32)].tag = tU32 ∧ (coreOf .keeper wMem).g[(9 : Fin 32)].tag = tVoid) ∧
    ((coreOf .keeper wMem).g[(29 : Fin 32)].tag = tU32 ∧ (coreOf .keeper wMem).g[(29 : Fin 32)].val ≠ 0 ∧
      (∀ w, Quiet .keeper wRep w) ∧ (coreOf .keeper wRep).g[(29 : Fin 32)].tag = tU32 ∧ (coreOf .keeper wRep).g[(29 : Fin 32)].val = 0 ∧
      (∀ w, Quiet .keeper wRepS w) ∧ (coreOf .keeper wRepS).g[(29 : Fin 32)].tag ≠ tU32) ∧
    ((∀ w, Quiet .keeper wMem w) ∧ addOp false false (coreOf .keeper wMem).g[(1 : Fin 32)] (coreOf .keeper wMem).g[(1 : Fin 32)] = .ok { w := u32Word 10 }) := by
  refine ⟨?_, ?_, ?_, ?_, ?_⟩
  · exact ⟨fun _ => qMem, fun _ => qWp, rfl, rfl, rfl, rfl, rfl⟩
  · exact ⟨⟨mkWord tU8 1, mkWord tU8 2, rfl, rfl⟩, ⟨tF32, 0x7FC00000⟩, ⟨tF32, 0⟩, rfl, rfl, rfl⟩
  · exact ⟨fun _ => qMem, rfl, rfl⟩
  · exact ⟨rfl, by decide +kernel, fun _ => qRep, rfl, rfl, fun _ => qRepS, by decide +kernel⟩
  · exact ⟨fun _ => qMem, rfl⟩

/-- The hypotheses of ProfoldSystem are met. -/
theorem witness_ProfoldSystem :
    (∀ w, Quiet .keeper wMem w) ∧
    ((coreOf .keeper wMem).user = false ∧ (∀ w, Quiet .keeper wUser w) ∧ (coreOf .keeper wUser).user = true) ∧
    ((coreOf .keeper wMem).user = false ∧ (coreOf .keeper wMem).g[(5 : Fin 32)].tag = tRaw ∧ (coreOf .keeper wMem).g[(1 : Fin 32)].tag ≠ tRaw) ∧
    ((coreOf .keeper wMem).g[(5 : Fin 32)].tag = tRaw ∧ (∀ w, Quiet .keeper wMem w) ∧ (coreOf .keeper wMem).user = false ∧ (∀ w, Quiet .keeper wUser w) ∧
        (coreOf .keeper wUser).user = true ∧ (coreOf .keeper wMem).g[(1 : Fin 32)].tag ≠ tRaw) ∧
    ((∀ w, Quiet .keeper wMem w) ∧ (coreOf .keeper wMem).user = false ∧ (coreOf .keeper wMem).loadDelay = true ∧ (∀ w, Quiet (.wp 0) wWp w) ∧
        (coreOf (.wp 0) wWp).loadDelay = false ∧ (∀ w, Quiet .keeper wUser w) ∧ (coreOf .keeper wUser).user = true ∧ (coreOf .keeper wUser).loadDelay = true) ∧
    ((∀ w, Quiet (.wp 0) wWp w) ∧ (coreOf (.wp 0) wWp).loadDelay = false ∧ ((pairAt wWp 0).run).isSome = true ∧ (∀ w, Quiet .keeper wMem w) ∧ (coreOf .keeper wMem).loadDelay = true) ∧
    ((∀ w, Quiet .keeper wMem w) ∧ (coreOf .keeper wMem).user = false ∧ (∀ w, Quiet .keeper wUser w) ∧ (coreOf .keeper wUser).user = true) := by
  refine ⟨?_, ?_, ?_, ?_, ?_, ?_, ?_⟩
  · exact fun _ => qMem
  · exact ⟨by decide +kernel, fun _ => qUser, by decide +kernel⟩
  · decide +kernel
  · exact ⟨rfl, fun _ => qMem, by decide +kernel, fun _ => qUser, by decide +kernel, by decide +kernel⟩
  · exact ⟨fun _ => qMem, by decide +kernel, by decide +kernel, fun _ => qWp, by decide +kernel, fun _ => qUser, by decide +kernel, by decide +kernel⟩
  · exact ⟨fun _ => qWp, by decide +kernel, by decide +kernel, fun _ => qMem, by decide +kernel⟩
  · exact ⟨fun _ => qMem, by decide +kernel, fun _ => qUser, by decide +kernel⟩

/-- The hypotheses of ProfoldTraps are met. -/
theorem witness_ProfoldTraps :
    ((∀ w, Quiet .keeper wMem w) ∧ (coreOf .keeper wMem).loadDelay = true ∧ (coreOf .keeper wMem).status.getLsbD 2 = false) ∧
    ((∀ w, Quiet (.wp 0) wWp w) ∧ (coreOf (.wp 0) wWp).loadDelay = false ∧ (pairAt wWp 0).run = some wWinRun ∧ wWinRun.col < 16) ∧
    ((∀ w, Quiet .keeper wExl w) ∧ (coreOf .keeper wExl).loadDelay = true ∧ (coreOf .keeper wExl).status.getLsbD 2 = true) ∧
    ((∀ w, Quiet .keeper wMem w) ∧ isTarget tStale = false ∧ isTarget ((0x0E#11).extractLsb' 0 4) = false ∧ (1#10).extractLsb' 0 4 ∉ [tQ15, tQ31, tS16, tS32, tF32] ∧
        4 < bitsOf (0x50#7).toNat 6 4 ∧ (1 : Fin 32) ≠ 0 ∧ (1 : Fin 16) ≠ 0 ∧ (1 : BitVec 26) ≠ 0) ∧
    ((∀ w, Quiet .keeper wMem w) ∧ bitsOf (0x40#7).toNat 6 4 = 4) ∧
    (decodeProfold .keeper 0 = some (.pfNop .keeper) ∧ (∀ w, Quiet .keeper (kMem 2 fun k => { k with pc := 6 }) w) ∧ (coreOf .keeper (kMem 2 fun k => { k with pc := 6 })).pc ≠ 0) ∧
    ((∀ w, Quiet (.wp 0) wWp w) ∧ (coreOf (.wp 0) wWp).loadDelay = false) ∧
    ((∀ w, Quiet .keeper wIrq w) ∧ (coreOf .keeper wIrq).debugHalt = false ∧ (coreOf .keeper wIrq).loadDelay = true ∧
        (coreOf .keeper wIrq).status.getLsbD 1 = true ∧ (coreOf .keeper wIrq).status.getLsbD 2 = false ∧
        ((coreOf .keeper wIrq).ipend &&& (coreOf .keeper wIrq).imask).getLsbD 3 = true ∧
        ∀ i, i < 3 → ((coreOf .keeper wIrq).ipend &&& (coreOf .keeper wIrq).imask).getLsbD i = false) ∧
    ((∀ w, Quiet .keeper wMem w) ∧ (coreOf .keeper wMem).status.getLsbD 1 = false) := by
  refine ⟨?_, ?_, ?_, ?_, ?_, ?_, ?_, ?_, ?_⟩
  · exact ⟨fun _ => qMem, by decide +kernel, by decide +kernel⟩
  · exact ⟨fun _ => qWp, by decide +kernel, by decide +kernel, by decide⟩
  · exact ⟨fun _ => qExl, by decide +kernel, by decide +kernel⟩
  · exact ⟨fun _ => qMem, by decide +kernel, by decide +kernel, by decide +kernel, by decide +kernel, by decide, by decide, by decide⟩
  · exact ⟨fun _ => qMem, by decide +kernel⟩
  · exact ⟨rfl, fun _ => quietKeeper (by decide +kernel) rfl rfl rfl (by decide +kernel) (by decide +kernel) rfl rfl rfl rfl rfl, by decide +kernel⟩
  · exact ⟨fun _ => qWp, by decide +kernel⟩
  · exact ⟨fun _ => qIrq, by decide +kernel, by decide +kernel, by decide +kernel, by decide +kernel, by decide +kernel, by decide +kernel⟩
  · exact ⟨fun _ => qMem, by decide +kernel⟩

/-- The hypotheses of ProfoldStrings are met. -/
theorem witness_ProfoldStrings :
    ((∀ w, Quiet .keeper wMem w) ∧ (coreOf .keeper wMem).g[(26 : Fin 32)] = u32Word 3 ∧ (coreOf .keeper wMem).g[(27 : Fin 32)] = u32Word 9 ∧
        (coreOf .keeper wMem).g[(29 : Fin 32)] = u32Word 2 ∧ (coreOf .keeper wMem).g[(1 : Fin 32)].tag ≠ tVoid ∧
        (∀ i, i < 2 → segCheck (coreOf .keeper wMem) 1 .load ((3 + i : Nat) : Int) = .ok (0x103 + i) ∧ OwnWord .keeper (0x103 + i)) ∧
        ∀ i, i < 2 → segCheck (coreOf .keeper wMem) 1 .store ((9 + i : Nat) : Int) = .ok (0x109 + i) ∧ OwnWord .keeper (0x109 + i)) ∧
    ((∀ w, Quiet .keeper wStr1 w) ∧ OwnWord .keeper 0x103 ∧ OwnWord .keeper 0x109 ∧ (coreOf .keeper wStr1).g[(26 : Fin 32)] = u32Word 3 ∧
        (coreOf .keeper wStr1).g[(27 : Fin 32)] = u32Word 9 ∧ (coreOf .keeper wStr1).g[(29 : Fin 32)] = u32Word 1 ∧
        (coreOf .keeper wStr1).g[(1 : Fin 32)].tag ≠ tVoid ∧ segCheck (coreOf .keeper wStr1) 1 .load 3 = .ok 0x103 ∧
        segCheck (coreOf .keeper wStr1) 1 .load 9 = .ok 0x109 ∧ (coreOf .keeper wStr1).word 0x103 ≠ (coreOf .keeper wStr1).word 0x109 ∧
        (coreOf .keeper wStr1).word 0x103 ≠ (coreOf .keeper wStr1).g[(1 : Fin 32)]) ∧
    ((∀ w, Quiet .keeper wRepS w) ∧ strOperand (coreOf .keeper wRepS).g[(29 : Fin 32)] = .error ⟨0x03, 0⟩ ∧ (coreOf .keeper wMem).g[(7 : Fin 32)].tag = tVoid ∧
        segCheck (coreOf .keeper wMem) 0 .load 3 = .error ⟨0x07, 3⟩ ∧ (coreOf .keeper wMem).loadDelay = true ∧ (∀ w, Quiet (.wp 0) wWp w) ∧ (coreOf (.wp 0) wWp).loadDelay = false) ∧
    ((∀ w, Quiet .keeper wStr1 w) ∧ baseOffset (coreOf .keeper wStr1).g[(26 : Fin 32)] = .ok 3 ∧ baseOffset (coreOf .keeper wStr1).g[(27 : Fin 32)] = .ok 9 ∧
        segCheck (coreOf .keeper wStr1) 1 .load 3 = .ok 0x103 ∧ segCheck (coreOf .keeper wStr1) 1 .load 9 = .ok 0x109 ∧
        ((coreOf .keeper wStr1).word 0x103).tag = macTag 3 ∧ ((coreOf .keeper wStr1).word 0x109).tag = macTag 3 ∧
        bitsOf (0x30#7).toNat 6 4 = 3 ∧ bitsOf (0x30#7).toNat 2 1 = 0 ∧ bitsOf (0x40#7).toNat 6 4 = 4 ∧
        (coreOf .keeper wStr1).accFull[(0 : Fin 2)].st = .valid ∧ fmaOpen 0x7FC00000 0 0x7F800000 = true) ∧
    ((∀ w, Quiet .keeper wStr1 w) ∧ baseOffset (coreOf .keeper wStr1).g[(7 : Fin 32)] = .error ⟨0x01, 0⟩ ∧ baseOffset (coreOf .keeper wStr1).g[(4 : Fin 32)] = .error ⟨0x03, 0⟩) ∧
    ((∀ w, Quiet .keeper wMem w) ∧ ((coreOf .keeper wMem).acc[(0 : Fin 2)]).f32 = false ∧ ((coreOf .keeper wMem).acc[(0 : Fin 2)]).st = .valid ∧
        (0x007#10).extractLsb' 0 4 ∈ [tQ15, tQ31, tS16, tS32, tF32]) ∧
    (∀ w, Quiet .keeper wMem w) := by
  refine ⟨?_, ?_, ?_, ?_, ?_, ?_, ?_⟩
  · refine ⟨fun _ => qMem, rfl, rfl, rfl, by decide +kernel, fun i hi => ?_, fun i hi => ?_⟩
    · rcases i with _ | _ | i
      · exact ⟨rfl, (by decide : (0x103 : Nat) < 0x80000)⟩
      · exact ⟨rfl, (by decide : (0x104 : Nat) < 0x80000)⟩
      · omega
    · rcases i with _ | _ | i
      · exact ⟨rfl, (by decide : (0x109 : Nat) < 0x80000)⟩
      · exact ⟨rfl, (by decide : (0x10A : Nat) < 0x80000)⟩
      · omega
  · exact ⟨fun _ => qStr1, (by decide : (0x103 : Nat) < 0x80000), (by decide : (0x109 : Nat) < 0x80000), rfl, rfl, rfl, by decide +kernel, rfl, rfl, by decide +kernel, by decide +kernel⟩
  · exact ⟨fun _ => qRepS, rfl, by decide +kernel, rfl, by decide +kernel, fun _ => qWp, by decide +kernel⟩
  · exact ⟨fun _ => qStr1, rfl, rfl, rfl, rfl, rfl, rfl, rfl, rfl, rfl, rfl, rfl⟩
  · exact ⟨fun _ => qStr1, rfl, rfl⟩
  · exact ⟨fun _ => qMem, rfl, rfl, by decide⟩
  · exact fun _ => qMem

/-- The hypotheses of ProfoldPipeline are met. -/
theorem witness_ProfoldPipeline :
    (((pairAt wPend 0).run = none ∧ (coreOf (.wp 0) wPend).loadDelay = false ∧ (coreOf (.wp 0) wPend).pend = [⟨4, .reg 1 (u32Word 9)⟩] ∧ (coreOf (.wp 0) wPend).prevLoad = none) ∧
      (coreOf .keeper wPendK).loadDelay = true ∧ (coreOf .keeper wPendK).pend = [⟨4, .reg 1 (u32Word 9)⟩] ∧ (coreOf .keeper wPendK).prevLoad = none) ∧
    ((pairAt wWp 0).run = some wWinRun ∧ (coreOf (.wp 0) wWp).pend = [] ∧ (coreOf (.wp 0) wWp).loadDelay = false ∧ wWinRun.landed ≤ 8 * ((coreOf (.wp 0) wWp).cyc - wWinRun.base)) ∧
    ((∀ w, Quiet (.wp 0) wWp w) ∧ (coreOf (.wp 0) wWp).loadDelay = false ∧
        addOp false false (coreOf (.wp 0) wWp).g[(1 : Fin 32)] (coreOf (.wp 0) wWp).g[(1 : Fin 32)] = .ok { w := u32Word 10 }) ∧
    ((coreOf .keeper wPendK).resv = some (5, 9) ∧ (coreOf .keeper wPendK).loadDelay = true ∧
      (coreOf (.wp 0) wPend).resv = some (5, 9) ∧ (coreOf (.wp 0) wPend).loadDelay = false ∧ (coreOf .keeper wMem).resv = none) := by
  refine ⟨?_, ?_, ?_, ?_⟩
  · decide +kernel
  · decide +kernel
  · exact ⟨fun _ => qWp, by decide +kernel, by rfl⟩
  · decide +kernel

/-- The hypotheses of ProfoldArithmetic are met. -/
theorem witness_ProfoldArithmetic :
    ((⟨tVoid, 0⟩ : PfWord).tag = tVoid ∧ tFault ≠ tVoid ∧ tStale ≠ tVoid ∧ tStale ≠ tFault) ∧
    ((mkWord tS8 (-128)).tag = (mkWord tS8 (-1)).tag ∧ isInteger tS8 = true) ∧
    (isInteger tU8 = true ∧ isInteger tS16 = true ∧ tU8 ≠ tS16) ∧
    (isInteger (mkWord tS8 (-1)).tag = true) ∧
    ((mkWord tS8 (-128)).inRange = true ∧ (mkWord tS8 (-1)).inRange = true ∧ (mkWord tS8 127).inRange = true) ∧
    (isUnsigned tU8 = true ∧ isInteger tS8 = true ∧ (mkWord tS8 (-1)).inRange = true ∧ tagWidth tS8 ≤ (8#32).toNat ∧ f32View 0x7FC00000 = .nan false) := by
  refine ⟨?_, ?_, ?_, ?_, ?_, ?_⟩
  · decide +kernel
  · decide +kernel
  · decide +kernel
  · decide +kernel
  · decide +kernel
  · decide +kernel

/-- The hypotheses of WindowRuns are met. -/
theorem witness_WindowRuns :
    (((wCol none).comb.now.any fun a => actType a == 2 && actWin a == 0 && actCol a == 0) = true ∧ (colAt (wCol none) 0).win = none ∧ ((wCol none).comb.now.any fun a => actType a == 2 && actWin a == 7 && actCol a == 0) = false ∧
      (startPair (wCol none) 0).1 = some (0, false) ∧ (startPair (wCol none) 5).1 = none) ∧
    ((wCol none).comb.active = some cCol ∧ (cCol.win? 0).isSome = true ∧ (∀ q : Fin 16, (pairAt (wCol none) q).loading = none) ∧ holderOf (wCol none) 0 = some 0 ∧ (wCol none).pwr.pairs[0] = true) ∧
    ((windowCore 3 7 {}).coreid = 3) ∧
    ((pairAt (wCol (some wWinRun)) 0).run = some wWinRun ∧ freeSpare (wCol (some wWinRun)) 0 = some 1 ∧ (pairAt (wCol none) 0).run = none ∧
      (pairAt (wCol (some { wWinRun with kind := .rerun })) 0).run = some { wWinRun with kind := .rerun } ∧ runners (retirePair 0 (wCol (some { wWinRun with kind := .rerun }))) 0 = []) ∧
    (∃ s : State, ∃ r, (pairAt s 0).run = some r ∧ r.ended = none ∧ r.ready = true ∧ r.kind = .rerun ∧ (pairAt s 0).retired = false ∧ r.col < 16 ∧
        runners s r.col = [0] ∧ ∃ u : State, (pairAt u 0).run = some r ∧ (runners u r.col).filter (· ≠ 0) = [1]) ∧
    ((pairAt State.reset 3).retired = false ∧ (pairAt (retirePair 3 State.reset) 3).retired = true) ∧
    (∃ s : State, ∃ r, (pairAt s 0).run = some r ∧ r.ready = false ∧ (pairAt s 1).loading = none ∧ (pairAt (modPair 1 (fun x => { x with loading := some 0 }) State.reset) 1).loading = some 0) ∧
    (State.reset.comb.active = none ∧ (wCol none).comb.active = some cCol) ∧
    (runners (wCol (some { wWinRun with ended := some .wend })) 0 = [0] ∧ runners (wCol none) 0 = []) ∧
    (runners (wCol (some { wWinRun with ended := some .wend })) 0 = [0] ∧ (pairAt (wCol (some { wWinRun with ended := some .wend })) 0).run = some { wWinRun with ended := some .wend }) ∧
    ((⟨rtTag 0, 0⟩ : PfWord).tag = rtTag 0 ∧ ∃ x : BitVec 4, x ≠ rtTag 0 ∧ x ≠ tStale ∧ x ≠ tFault) ∧
    (∃ s : State, runners s 0 = [0] ∧ (pairAt s 0).run = some wWinRun ∧ wcetOf s wWinRun = 1000 ∧ wcetOf s wWinRun + wWinRun.base ≤ (wpAt s 0).cyc ∧ runners s 1 = []) ∧
    ((colAt (wCol (some wWinRun)) 0).win = some 0 ∧ (colAt (wCol (some wWinRun)) 0).startTick + 5 ≤ (wCol (some wWinRun)).clk.ticks ∧
      runners (wCol (some wWinRun)) 0 = [0] ∧ (pairAt (wCol (some wWinRun)) 0).column = some 0 ∧ (pairAt (wCol (some wWinRun)) 0).retired = false ∧ (colAt (wCol none) 0).win = none) := by
  refine ⟨?_, ?_, ?_, ?_, ?_, ?_, ?_, ?_, ?_, ?_, ?_, ?_, ?_⟩
  · decide +kernel
  · decide +kernel
  · decide +kernel
  · decide +kernel
  · exact ⟨wCol (some { wWinRun with kind := .rerun }), { wWinRun with kind := .rerun }, by decide +kernel, rfl, rfl, rfl, by decide +kernel, by decide, by decide +kernel,
      modPair 1 (fun x => { x with run := some { wWinRun with kind := .shadow } }) (wCol (some { wWinRun with kind := .rerun })), by decide +kernel, by decide +kernel⟩
  · decide +kernel
  · exact ⟨wCol (some { wWinRun with ready := false }), { wWinRun with ready := false }, rfl, rfl, by decide +kernel, by decide +kernel⟩
  · decide +kernel
  · decide +kernel
  · decide +kernel
  · exact ⟨rfl, 1, by decide +kernel⟩
  · exact ⟨modCore (.wp 0) (fun k => { k with cyc := 1000 }) (wCol (some wWinRun)), by decide +kernel, by decide +kernel, by decide +kernel, by decide +kernel, by decide +kernel⟩
  · decide +kernel

/-- The hypotheses of PairsAndStops are met. -/
theorem witness_PairsAndStops :
    (WriteReady (wRole .maker) 0 0x3B13 1 (numFor 0x3B13 1 0) 0 [] ∧ drainLeavesNone (wRole .maker) 3 = false ∧
      ∃ s : State, WriteReady s 0 0x3B13 1 (numFor 0x3B13 1 1) 1 [] ∧ (pairAt s 3).st = .stopped ∧ bistOn s 0x13 = false) ∧
    (∃ s : State, WriteReady s 0 0x3B13 7 (numFor 0x3B13 7 1) 1 [] ∧ (pairAt s 3).column = none) ∧
    (∃ s : State, (pairAt s 3).requal = 1 ∧ (pairAt s 2).requal ≠ 1) ∧
    (∃ s u v : State, (mirrorAt s 2).st = .stopping ∧ (pairAt u 3).st = .stopping ∧ (pairAt u 3).run = none ∧ (pairAt u 3).column = none ∧
        bistOn u 0x13 = false ∧ (portAt v 4).test.st = 1 ∧ (portAt v 4).test.stopping = true ∧ (portAt v 5).st = .stopping ∧ outputEmpty v 5 = true) ∧
    (chanAt (setChan 0 .stopping State.reset) 0 = .stopping ∧ chanAt State.reset 1 ≠ .stopping) := by
  refine ⟨?_, ?_, ?_, ?_, ?_⟩
  · exact ⟨ready_of (by decide +kernel), by decide +kernel, modPair 3 (fun x => { x with st := .stopped }) (wRole .maker), ready_of (by decide +kernel), by decide +kernel, by decide +kernel⟩
  · exact ⟨wRole .maker, ready_of (by decide +kernel), by decide +kernel⟩
  · exact ⟨modPair 3 (fun x => { x with requal := 1 }) State.reset, by decide +kernel⟩
  · exact ⟨modMirror 2 (fun x => { x with st := .stopping }) State.reset, modPair 3 (fun x => { x with st := .stopping }) State.reset,
      modPort 5 (fun x => { x with st := .stopping }) (modPort 4 (fun x => { x with test := { x.test with st := 1, stopping := true } }) State.reset), by decide +kernel⟩
  · decide +kernel

/-- The hypotheses of LfPatterns are met. -/
theorem witness_LfPatterns :
    (wLf.pwr.access = true ∧ patEn (patternAt wLf 0) = true ∧ patTrig (patternAt wLf 0) 4 = true ∧ wLf.lf.user = .none ∧ wLf.lf.pending = []) ∧
    (∃ s : State, s.lf.startSet = [3] ∧ s.lf.startSet.filter (· ≠ 3) = [] ∧ (s.lf.startSet.filter (· ≠ 4)) = [3]) ∧
    (∃ s : State, s.lf.user = .none ∧ s.pwr.access = true ∧ s.lf.loopback = false ∧ rrPick 34 s.lf.pointer (startable s) = some 0 ∧ patEn (patternAt s 0) = true ∧
        ∃ u : State, rrPick 34 u.lf.pointer (startable u) = some 33) ∧
    (∃ s : State, s.lf.user = .none ∧ s.pwr.access = true ∧ s.lf.loopback = false ∧ rrPick 34 s.lf.pointer (startable s) = some 0 ∧
        patEn (patternAt s 0) = true ∧ patCmd (patternAt s 0) ≠ 2 ∧ patIcur (patternAt s 0) ≠ 0 ∧ s.pwr.crystal = true ∧ 0 ∉ s.lf.startSet ∧
        ((channelsOf (patAnt (patternAt s 0))).filter fun c => chanAt s c == .running) = [0]) ∧
    (patCmd (patternAt wLf 1) = 2 ∧ wLf.pwr.crystal = true ∧ patIcur (patternAt wLf 1) ≠ 0 ∧ ((channelsOf (patAnt (patternAt wLf 1))).filter fun c => chanAt wLf c == .running) = [0]) ∧
    (chanAt State.reset 3 = .running ∧ chanAt State.reset 3 ≠ .fault) ∧
    (∃ s : State, s.lf.user = .pattern 3 0 false 1 ∧ wLf.lf.user = .none) ∧
    (∃ s : State, s.pwr.access = true ∧ (s.comb.now.any fun a => actType a == 4 && actPattern a == 0 && actZone a == 2) = true ∧
        patEn (patternAt s 0) = true ∧ patTrig (patternAt s 0) 5 = true ∧ patCmd (patternAt s 0) ≠ 2 ∧ s.lf.user = .none ∧ s.lf.loopback = false ∧
        (s.comb.now.any fun a => actType a == 4 && actPattern a == 5 && actZone a == 2) = false) ∧
    ((wTp .charging).lf.user = .transponder ∧ wLf.lf.user = .none ∧ wLf.lf.loopback = false) ∧
    (∃ s : State, s.lf.user = .pattern 3 0 false 5 ∧ Nat.testBit 5 2 = true ∧ chanAt s 2 = .running ∧ s.lf.tp.channels = 0 ∧ (wTp .charging).lf.tp.channels.testBit 6 = true) ∧
    (∃ s : State, s.pwr.vao = true ∧ s.pwr.access = true ∧ s.lf.touch[0].touched = false ∧ s.lf.touch[0].above = true ∧
        s.lf.touch[0].baseline + val s (odKey 0x4003 1) ≤ 50 ∧ wLf.lf.touch[0].above = false ∧ ∃ u : State, u.pwr.vao = false) ∧
    (wLf.pwr.access = true ∧ State.reset.pwr.vao = true) ∧
    (∃ s : State, WriteReady s 0 0x4002 1 (.bytes (patBlob [])) 0 (patBlob []) ∧ (patBlob []).length = 512 ∧
        ((List.range 32).any fun i => patternBad s (ofLe (sub (patBlob []) (16 * i) 16))) = false) ∧
    (∃ s : State, WriteReady s 0 0x4001 1 (numFor 0x4001 1 7) 7 []) ∧
    (WriteReady (wRole .maker) 0 0x4013 1 (numFor 0x4013 1 0) 0 []) := by
  refine ⟨?_, ?_, ?_, ?_, ?_, ?_, ?_, ?_, ?_, ?_, ?_, ?_, ?_, ?_, ?_⟩
  · decide +kernel
  · exact ⟨modLf (fun l => { l with startSet := [3] }) wLf, by decide +kernel⟩
  · exact ⟨{ wLf with lf := { wLf.lf with pending := [0] } }, by decide +kernel, by decide +kernel, by decide +kernel, by decide +kernel, by decide +kernel, { wLf with lf := { wLf.lf with pending := [33] } }, by decide +kernel⟩
  · exact ⟨{ wLf with lf := { wLf.lf with pending := [0] } }, by decide +kernel⟩
  · decide +kernel
  · decide +kernel
  · exact ⟨modLf (fun l => { l with user := .pattern 3 0 false 1 }) wLf, by decide +kernel⟩
  · exact ⟨{ wLf with comb := { wLf.comb with now := [0x4000000000000000#64 ||| (2#64 <<< 32)] } }, by decide +kernel⟩
  · decide +kernel
  · exact ⟨modLf (fun l => { l with user := .pattern 3 0 false 5 }) wLf, by decide +kernel⟩
  · exact ⟨modLf (fun l => { l with touch := l.touch.set 0 { above := true } }) wLf, by decide +kernel, by decide +kernel, by decide +kernel, by decide +kernel, by decide +kernel, by decide +kernel, { wLf with pwr := { wLf.pwr with vao := false } }, rfl⟩
  · decide +kernel
  · exact ⟨modLf (fun l => { l with chan := Vector.replicate 8 .stopped }) (wRole .maker), ready_of (by decide +kernel), by decide +kernel, by decide +kernel⟩
  · exact ⟨modLf (fun l => { l with chan := Vector.replicate 8 .stopped }) (wRole .maker), ready_of (by decide +kernel)⟩
  · exact ready_of (by decide +kernel)

/-- The hypotheses of TransponderWalk are met. -/
theorem witness_TransponderWalk :
    (∃ s : State, s.lf.user = .none ∧ s.pwr.access = true ∧ s.lf.loopback = false ∧ startable s 32 = true ∧
        (((channelsOf (val s (odKey 0x4321 4) % 4 * 64)).filter fun c => chanAt s c == .running).map (2 ^ ·)).sum = 64 ∧ startable wLf 32 = false) ∧
    ((((channelsOf (val (setVal (odKey 0x4321 4) 1 wLf) (odKey 0x4321 4) % 4 * 64)).filter fun c => chanAt wLf c == .running).map (2 ^ ·)).sum = 64) ∧
    ((wTp .charging).lf.tp.step = .charging ∧ wLf.lf.tp.step ≠ .charging) ∧
    ((wTp (.inventory [])).lf.tp.step = .inventory [] ∧ wLf.lf.tp.step = .idle ∧ (wTp .charging).lf.tp.step = .charging) ∧
    ((wTp (.auth 7)).lf.tp.step = .auth 7 ∧ (wTp (.confirm 7)).lf.tp.step = .confirm 7) ∧
    ((wTp (.confirm 7)).lf.session = none) ∧
    ((wTp (.inventory [])).lf.tp.stack = [] ∧ (wTp (.inventory [])).lf.tp.found.length < 8 ∧ zoneLocked (wTp (.auth 7)) 8 = false) ∧
    ((wTp (.auth 7)).lf.tp.step = .auth 7 ∧ (wTp (.inventory [true])).lf.tp.step = .inventory [true] ∧ (wTp (.inventory [true])).lf.tp.repeated = false ∧ (modTp (fun t => { t with repeated := true }) (wTp (.inventory []))).lf.tp.repeated = true) ∧
    ((wTp (.confirm 7)).lf.tp.step = .confirm 7 ∧ (wTp (.confirm 7)).lf.tp.repeated = false ∧ (modTp (fun t => { t with repeated := true }) (wTp (.auth 7))).lf.tp.repeated = true) := by
  refine ⟨?_, ?_, ?_, ?_, ?_, ?_, ?_, ?_, ?_⟩
  · exact ⟨setVal (odKey 0x4321 4) 1 { wLf with lf := { wLf.lf with pending := [32] } }, by decide +kernel⟩
  · decide +kernel
  · decide +kernel
  · decide +kernel
  · decide +kernel
  · decide +kernel
  · decide +kernel
  · decide +kernel
  · decide +kernel

/-- The hypotheses of StartLock are met. -/
theorem witness_StartLock :
    (∃ s : State, zoneLocked s 3 = true ∧ zoneLocked s 4 = false ∧ (lockAt s 3).lockEnd ≤ aoSec s) ∧
    (((lockAt State.reset 2).times.filter (fun t => aoSec State.reset ≤ t + 60) ++ [aoSec State.reset]).length < 5 ∧ ∃ s : State, 5 ≤ ((lockAt s 2).times.filter (fun t => aoSec s ≤ t + 60) ++ [aoSec s]).length) ∧
    ((wSess true).lf.session.isSome = true ∧ wLf.lf.session = none ∧ ∃ s : State, ∃ x, s.lf.session = some x ∧ x.endAo ≤ s.clk.ao) ∧
    ((wSess true).lf.session.isSome = true ∧ wLf.lf.session = none) ∧
    (∃ s : State, released s = true ∧ released wLf = false) ∧
    (∃ s : State, namedBool s (odKey 0x4301 1) = some (true, true) ∧ s.lf.prevDoor = some false ∧ s.lf.session.isSome = true ∧
        ∃ u : State, namedBool u (odKey 0x4301 1) = none) ∧
    (∃ s : State, namedBool s (odKey 0x4301 2) = some (true, true) ∧ s.lf.prevStart = some false ∧ s.lf.session = none ∧ s.pwr.access = true ∧
        s.lf.user = .none ∧ patternsWith s 6 ≠ [] ∧ patternsWith State.reset 6 = []) ∧
    (∃ s : State, s.pwr.access = true ∧ released s = true ∧ s.lf.releasing = true ∧ released wLf = false) ∧
    (∃ s : State, s.pwr.hive = true ∧ s.pwr.access = true ∧ s.pwr.handed = false ∧ s.lf.session.isSome = true) := by
  refine ⟨?_, ?_, ?_, ?_, ?_, ?_, ?_, ?_, ?_⟩
  · exact ⟨modLf (fun l => { l with lock := l.lock.set 3 { locked := true, level := 2 } }) wLf, by decide +kernel⟩
  · exact ⟨by decide +kernel, { State.reset with lf := { State.reset.lf with lock := vmod State.reset.lf.lock 2 fun r => { r with times := [0, 0, 0, 0] } } }, by decide +kernel⟩
  · exact ⟨by decide +kernel, by decide +kernel, { wSess true with clk := { (wSess true).clk with ao := 99999 } }, _, rfl, by decide +kernel⟩
  · decide +kernel
  · exact ⟨{ wSess true with comb := { (wSess true).comb with active := some (wC 9) } }, by decide +kernel⟩
  · exact ⟨{ wSess true with sig := { wLf.sig with store := [(0, sigMake 1 1 9 true 0 false true)] }, lf := { (wSess true).lf with prevDoor := some false }, pwr := { (wSess true).pwr with hive := true }, od := [(odKey 0x4301 1, 0)] }, by decide +kernel, by decide +kernel, by decide +kernel, { wLf with od := [(odKey 0x4301 1, 0xFFFFFFFF)] }, by decide +kernel⟩
  · exact ⟨{ wLf with sig := { wLf.sig with store := [(0, sigMake 1 1 9 true 0 false true)] }, lf := { wLf.lf with prevStart := some false }, pwr := { wLf.pwr with hive := true }, od := [(odKey 0x4301 2, 0)] }, by decide +kernel⟩
  · exact ⟨{ wSess true with lf := { (wSess true).lf with releasing := true }, kpr := (wSess true).kpr, comb := { (wSess true).comb with active := some (wC 9) }, lc := { (wSess true).lc with state := 1 } }, by decide +kernel⟩
  · exact ⟨{ wSess true with pwr := { (wSess true).pwr with hive := true } }, by decide +kernel⟩

/-- The hypotheses of UwbRounds are met. -/
theorem witness_UwbRounds :
    ((wRound id).lf.user = .none ∧ (wRound id).uwb.st = .running ∧ (wRound id).uwb.round.isSome = true ∧ wLf.uwb.round = none) ∧
    (State.reset.uwb.st = .running) ∧
    (∃ f, parseAnswer f = some (7, zeros 8, zeros 8, []) ∧ (wRound (fun r => { r with answering := true })).uwb.rslot = none ∧
        zoneLocked (wRound (fun r => { r with answering := true })) 0 = false) ∧
    ((wRound id).uwb.round.isSome = true ∧ zoneLocked (wRound id) 0 = false ∧ keyIdAt (wRound id) 3 = 7 ∧ validAnswer (wRound id) 0 (zeros 8) 8 (zeros 8) (zeros 8) = none ∧
        ∃ s : State, zoneLocked s 2 = true) ∧
    (parseAnswer ([0x11] ++ beBytes 4 7 ++ zeros 17) = some (7, zeros 8, zeros 8, []) ∧ validAnswer (wRound id) 0 (zeros 8) 7 (zeros 8) (pkOf (zeros 16) (zeros 8) (zeros 8) 7) = some 3) ∧
    ((∃ r, (wRound (fun r => { r with answering := true })).uwb.round = some r ∧ r.answering = true) ∧ slotCollided ⟨none, some 60, true⟩ = true ∧ slotCollided ⟨some (3000, 90), some 59, true⟩ = false) ∧
    (∃ s r, s.uwb.round = some r ∧ phaseFree s r = true ∧ r.work = [.repoll 3 0] ∧ r.repolls < 8 ∧ wLf.uwb.round = none) ∧
    (∃ s r, s.uwb.round = some r ∧ phaseFree s r = true ∧ r.work = [.exchange ⟨0, 3, zeros 8, []⟩] ∧ r.exchanges < 8 ∧
        ∃ u : State, ∃ e, u.uwb.exchange = some e ∧ e.step = .ready) ∧
    (∃ s r, s.uwb.round = some r ∧ phaseFree s r = true ∧ r.work = [] ∧ wLf.uwb.round = none) ∧
    (∃ s r, s.uwb.round = some r ∧ phaseFree s r = true ∧ r.work = [] ∧ r.admitted = [⟨3, 500, zeros 16⟩] ∧ r.failures = [] ∧ s.lf.session = none) ∧
    ((wRound (fun r => { r with admitted := [⟨3, 500, []⟩], failures := [7, 7, 7, 7] })).uwb.round.isSome = true ∧ nearest [⟨3, 500, []⟩, ⟨1, 400, []⟩, ⟨0, 400, []⟩] = some ⟨0, 400, []⟩) := by
  refine ⟨?_, ?_, ?_, ?_, ?_, ?_, ?_, ?_, ?_, ?_, ?_⟩
  · decide +kernel
  · decide +kernel
  · exact ⟨[0x11] ++ beBytes 4 7 ++ zeros 17, by decide +kernel⟩
  · exact ⟨by decide +kernel, by decide +kernel, by decide +kernel, by decide +kernel, modLf (fun l => { l with lock := vmod l.lock 2 fun _ => { locked := true } }) wLf, by decide +kernel⟩
  · refine ⟨by decide +kernel, ?_⟩
    have h : keyById (wRound id) 7 = some (wKey 3 7 0) := by decide +kernel
    have hf : fobFor (wKey 3 7 0) 0 = true := by decide +kernel
    rw [validAnswer, h]
    show (if fobFor (wKey 3 7 0) 0 = true ∧ pkOf (zeros 16) (zeros 8) (zeros 8) 7 = pkOf (zeros 16) (zeros 8) (zeros 8) 7 then some 3 else none) = some 3
    exact if_pos ⟨hf, rfl⟩
  · exact ⟨⟨_, rfl, rfl⟩, by decide, by decide⟩
  · exact ⟨wRound (fun r => { r with answersDone := true, work := [.repoll 3 0] }), _, rfl, by decide +kernel, rfl, by decide, by decide +kernel⟩
  · exact ⟨wRound (fun r => { r with answersDone := true, work := [.exchange ⟨0, 3, zeros 8, []⟩] }), _, rfl, by decide +kernel, rfl, by decide, wExch (fun e => { e with step := .ready }), _, rfl, rfl⟩
  · exact ⟨wRound (fun r => { r with answersDone := true }), _, rfl, by decide +kernel, rfl, by decide +kernel⟩
  · exact ⟨wRound (fun r => { r with answersDone := true, admitted := [⟨3, 500, zeros 16⟩] }), _, rfl, by decide +kernel, rfl, rfl, rfl, by decide +kernel⟩
  · decide +kernel

/-- The hypotheses of UwbExchanges are met. -/
theorem witness_UwbExchanges :
    ((wExch id).uwb.exchange.isSome = true ∧ wLf.uwb.exchange = none) ∧
    ((wRound id).uwb.round.isSome = true ∧ (wRound id).uwb.rslot = none ∧ val State.reset (odKey 0x4100 8) = 180) ∧
    ((∃ e, (wExch (fun e => { e with step := .forager })).uwb.exchange = some e ∧ e.step = .forager) ∧ wLf.uwb.exchange = none) ∧
    (∃ e, (wExch (fun e => { e with step := .forager })).uwb.exchange = some e ∧ e.step = .forager ∧ ([0x13] ++ zeros 16 : Blob).length = 17) ∧
    (foragerPasses (wExch id) { index := 3, nk := [], tails := [], zone := 0 } = false) ∧
    (∃ s : State, ∃ e, s.uwb.exchange = some e ∧ s.uwb.round.isSome = true ∧ relayPasses e = true ∧ fieldValue s e = none ∧ withinLimit s e = true ∧ inSector s e = true) ∧
    (∃ e, (wExch (fun e => { e with step := .ack })).uwb.exchange = some e ∧ e.step = .ack ∧ (wExch (fun e => { e with step := .ack })).uwb.round.isSome = true ∧
        (wExch (fun e => { e with step := .ack })).uwb.rslot = none) ∧
    ((wExch id).uwb.exchange.isSome = true ∧ (wRound id).uwb.exchange = none ∧ (wRound id).uwb.rslot = none ∧ (wRound id).uwb.round.isSome = true) ∧
    ((wExch (fun e => { e with step := .ended })).uwb.exchange.isSome = true ∧ wLf.uwb.exchange = none) ∧
    (∃ s : State, (s.comb.now.any fun a => actType a == 5 && actPattern a == 3 && actZone a == 1) = true ∧ s.pwr.access = true ∧ s.uwb.st = .running ∧
        s.uwb.exchange = none ∧ s.lf.session.isSome = true ∧ (keyAt s 3).isSome = true ∧ s.lf.seeded = true) ∧
    ((wExch id).uwb.exchange.isSome = true ∧ (wExch id).uwb.round.isSome = true ∧ wLf.uwb.exchange = none) ∧
    ((wRound id).uwb.st = .running ∧ (wRound id).pwr.access = true ∧ ∃ s : State, s.uwb.st = .stopped) ∧
    (WriteReady (wRole .maker) 0 0x4100 1 (numFor 0x4100 1 0) 0 [] ∧ (wRole .maker).uwb.st = .running ∧
        ∃ s : State, WriteReady s 0 0x4100 1 (numFor 0x4100 1 1) 1 [] ∧ s.uwb.st = .stopped) := by
  refine ⟨?_, ?_, ?_, ?_, ?_, ?_, ?_, ?_, ?_, ?_, ?_, ?_, ?_⟩
  · decide +kernel
  · decide +kernel
  · exact ⟨⟨_, rfl, rfl⟩, by decide +kernel⟩
  · exact ⟨_, rfl, rfl, rfl⟩
  · decide +kernel
  · exact ⟨wExch id, _, rfl, by decide +kernel, by decide +kernel, by decide +kernel, by decide +kernel, by decide +kernel⟩
  · exact ⟨_, rfl, rfl, by decide +kernel, by decide +kernel⟩
  · decide +kernel
  · decide +kernel
  · exact ⟨{ wSess true with lf := { (wSess true).lf with keys := [wKey 3 7 0] }, comb := { State.reset.comb with now := [0x5000000000000000#64 ||| (3#64 <<< 35) ||| (1#64 <<< 32)] } }, by decide +kernel⟩
  · decide +kernel
  · exact ⟨by decide +kernel, by decide +kernel, modUwb (fun u => { u with st := .stopped }) wLf, rfl⟩
  · exact ⟨ready_of (by decide +kernel), by decide +kernel, modUwb (fun u => { u with st := .stopped }) (wRole .maker), ready_of (by decide +kernel), by decide +kernel⟩

/-- The hypotheses of NfcReader are met. -/
theorem witness_NfcReader :
    (fieldDiePowered (wRd .select) = true ∧ (wRd .select).nfc.field = false ∧ (wRd .select).nfc.detLow = false ∧ (wRd .select).nfc.own = true ∧ (wTag none .maker).nfc.field = true) ∧
    ((wRd .select).nfc.cards ≠ [] ∧ State.reset.nfc.cards = []) ∧
    ((wTag (some 0xE104) .maker).nfc.field = true ∧ (wTag (some 0xE104) .maker).pwr.vao = true ∧ ∃ s : State, s.nfc.field = true ∧ s.pwr.dev = .field ∧ s.pwr.vao = false) ∧
    ((modNfc (fun n => { n with detLow := true }) State.reset).nfc.field = false ∧ (wTag none .inspect).nfc.field = true) ∧
    (wLf.pwr.hive = true ∧ wLf.nfc.st = .running ∧ val wLf (odKey 0x4200 3) ≠ 0 ∧ wLf.nfc.step = .off ∧ wLf.test.nfc = false ∧ wLf.nfc.field = false ∧
        anticollision [[1, 2, 3, 4]] ≠ [] ∧ anticollision [] = []) ∧
    ([1, 2, 3, 4] ∈ anticollision [[1, 2, 3, 4]]) ∧
    ((wRd .select).nfc.step = .select ∧ (wRd (.keeper true)).nfc.step = .keeper true ∧ (wRd (.auth2 [] [] 0)).lf.session = none ∧ wLf.nfc.step = .off) ∧
    (zoneLocked wLf 8 = false ∧ wLf.pwr.access = true ∧ (keyById (wRd .select) 7).isSome = true ∧ keyById (wRd .select) 8 = none) ∧
    ((wRd .select).nfc.step = .select ∧ wLf.nfc.step = .off) ∧
    ((wRd .select).nfc.naks < 2 ∧ (wRd (.auth1 [])).nfc.step = .auth1 []) ∧
    (WriteReady (wRd .offered) 15 0x4200 0x0A (.bytes [0x00, 0xA4]) 0 [0x00, 0xA4] ∧ WriteReady (wRd .off) 15 0x4200 0x0A (.bytes [1]) 0 [1]) ∧
    ((wRd .offered).nfc.cards.tail = [] ∧ (wRd .select).nfc.step ≠ .offered) ∧
    (WriteReady (wRole .maker) 0 0x4200 1 (numFor 0x4200 1 0) 0 [] ∧ ∃ s : State, WriteReady s 0 0x4200 1 (numFor 0x4200 1 1) 1 [] ∧ s.nfc.st = .stopped) := by
  refine ⟨?_, ?_, ?_, ?_, ?_, ?_, ?_, ?_, ?_, ?_, ?_, ?_, ?_⟩
  · decide +kernel
  · decide +kernel
  · exact ⟨by decide +kernel, by decide +kernel, { wTag none .maker with pwr := { (wTag none .maker).pwr with dev := .field, vao := false } }, by decide +kernel⟩
  · decide +kernel
  · decide +kernel
  · decide +kernel
  · decide +kernel
  · decide +kernel
  · decide +kernel
  · decide +kernel
  · exact ⟨ready_of (by decide +kernel), ready_of (by decide +kernel)⟩
  · decide +kernel
  · exact ⟨ready_of (by decide +kernel), modNfc (fun u => { u with st := .stopped }) (wRole .maker), ready_of (by decide +kernel), by decide +kernel⟩

/-- The hypotheses of NfcTag are met. -/
theorem witness_NfcTag :
    (tagPresent (wTag none .inspect) = true ∧ (wTag none .inspect).nfc.uid = [] ∧ tagPresent State.reset = false) ∧
    (tagListens State.reset = false) ∧
    (tagListens (wTag none .inspect) = true ∧ (wTag none .inspect).nfc.app = true ∧ ndefAid ≠ []) ∧
    (tagListens (wTag (some 0xE104) .inspect) = true ∧ (wTag (some 0xE104) .inspect).store.scanning = false ∧ 3 < tagFileLen 0xE104) ∧
    (tagListens (wTag (some 0xE104) .maker) = true ∧ (wTag (some 0xE104) .maker).pwr.dev ≠ .field ∧ (wTag (some 0xE104) .maker).store.scanning = false ∧
        (wTag (some 0xE104) .maker).store.tag.intent = none ∧ latchRead (wTag none .maker) = 0) ∧
    (∃ (s : State) (w : TagWrite) (i : TagIntent), s.nfc.write = some w ∧ s.store.tag.intent = some i ∧ i.file = w.file ∧ i.offset = w.offset ∧ i.newData = w.data ∧ w.file = 0xE104) ∧
    (∃ (s : State) (w : TagWrite) (i : TagIntent), s.nfc.write = some w ∧ s.store.tag.intent = some i ∧ i.file = w.file ∧ i.offset = w.offset ∧ i.newData = w.data ∧ w.file = 0xE104) ∧
    (tagListens (wTag none .inspect) = true ∧ (wTag none .inspect).store.scanning = false ∧ (wTag none .inspect).store.verifyPw.blocked = false ∧
        (passwords (wTag none .inspect)).2 = zeros 16) ∧
    (State.reset.pwr.vao = true ∧ ∃ s : State, s.pwr.vao = true ∧ s.store.readPw.blocked = true ∧ s.store.readPw.remaining = 0) ∧
    (tagListens (wTag none .inspect) = true ∧ (wTag none .inspect).pwr.hive = true) ∧
    (tagListens (wTag none .inspect) = true ∧ (wTag none .inspect).vault.attesting = none ∧ (zeros 32).length = 32) ∧
    (tagListens (wTag none .maker) = true) ∧
    (∃ s : State, s.pwr.hive = true ∧ s.pwr.dev = .on ∧ runOrDoze s = 0 ∧ s.store.tag.intent = none ∧ s.vault.kd.isSome = true) ∧
    (∃ s : State, s.nfc.active = true ∧ s.nfc.attesting = none ∧ s.nfc.heldRead = none ∧ s.nfc.heldVerify = none ∧ s.nfc.write.isSome = true) := by
  refine ⟨?_, ?_, ?_, ?_, ?_, ?_, ?_, ?_, ?_, ?_, ?_, ?_, ?_, ?_⟩
  · decide +kernel
  · decide +kernel
  · decide +kernel
  · decide +kernel
  · decide +kernel
  · exact ⟨runs [.updateBinary 3 [7, 8] true] (wTag (some 0xE104) .maker), ⟨0xE104, 3, [7, 8], .maker, false⟩, _, by decide +kernel, rfl, by decide +kernel, by decide +kernel, by decide +kernel, rfl⟩
  · exact ⟨runs [.updateBinary 3 [7, 8] true] (wTag (some 0xE104) .maker), ⟨0xE104, 3, [7, 8], .maker, false⟩, _, by decide +kernel, rfl, by decide +kernel, by decide +kernel, by decide +kernel, rfl⟩
  · decide +kernel
  · exact ⟨by decide +kernel, { State.reset with store := { State.reset.store with readPw := ⟨8, true, 0⟩ } }, by decide +kernel⟩
  · decide +kernel
  · decide +kernel
  · decide +kernel
  · exact ⟨{ wTr with pwr := { wTr.pwr with pairs := Vector.replicate 16 true } }, by decide +kernel⟩
  · exact ⟨runs [.updateBinary 3 [7, 8] true] (wTag (some 0xE104) .maker), by decide +kernel⟩

/-- The hypotheses of VaultKeys are met. -/
theorem witness_VaultKeys :
    (mayRequest wTr 0 = true ∧ mayRequest wTr 4 = false ∧ placesTaken (wRepl none) 0 = 1) ∧
    (wTr.vault.upset = 0 ∧ ∃ s u : State, s.vault.upset = 1 ∧ u.vault.upset = 2) ∧
    (mayRequest wTr 0 = true ∧ placesTaken wTr 0 < 4 ∧ (lockstep 1 wTr).1 = false) ∧
    (mayRequest wTr 0 = true ∧ placesTaken wTr 0 < 4 ∧ (lockstep 2 wTr).1 = false ∧ slotAt wTr 0 = some kAll) ∧
    (mayRequest wTr 0 = true ∧ placesTaken wTr 0 < 4 ∧ shareStatus wTr = none ∧ (wrapKey wTr false).isSome = true) ∧
    (mayRequest wTr 0 = true ∧ placesTaken wTr 0 < 4 ∧ headerGood (blobHeader 0 16 0 3 1 9 2) = true ∧ (blobHeader 0 16 0 3 1 9 2).length = 32 ∧ shareStatus wTr = none ∧
        (wrapKey wTr (hdrMeas (blobHeader 0 16 0 3 1 9 2))).isSome = true) ∧
    (∃ s : State, mayRequest s 0 = true ∧ placesTaken s 0 < 4 ∧ s.comb.standby = some (wC 100) ∧ s.vault.kd = some (zeros 32) ∧ s.comb.state = .verified) ∧
    (mayRequest wTr 0 = true ∧ placesTaken wTr 0 < 4 ∧ shareStatus wTr = none ∧ wTr.vault.kd = some (zeros 32) ∧ (zeros 8).length = 8 ∧ (zeros 32).length ≤ 32) ∧
    (mayRequest wTr 0 = true ∧ placesTaken wTr 0 < 4 ∧ shareStatus wTr = none ∧ slotAt wTr 0 = some kAll ∧ slotAt wTr 1 = none) ∧
    (∃ s u : State, (sessionAt s 15).isSome = true ∧ s.vault.answers = [(7, 0, [1])] ∧ (sessionAt State.reset 15).isSome = true ∧ State.reset.vault.answers = [] ∧ sessionAt u 15 = none) ∧
    (headerGood (blobHeader 0 16 0 3 1 9 2) = true ∧ shareStatus wTr = none ∧ (wrapKey wTr false).isSome = true) := by
  refine ⟨?_, ?_, ?_, ?_, ?_, ?_, ?_, ?_, ?_, ?_, ?_⟩
  · decide +kernel
  · exact ⟨rfl, { wTr with vault := { wTr.vault with upset := 1 } }, { wTr with vault := { wTr.vault with upset := 2 } }, rfl, rfl⟩
  · decide +kernel
  · decide +kernel
  · refine ⟨by decide +kernel, by decide +kernel, by decide +kernel, rfl⟩
  · refine ⟨by decide +kernel, by decide +kernel, by decide +kernel, by decide +kernel, by decide +kernel, by rfl⟩
  · exact ⟨{ wTr with comb := { wTr.comb with standby := some (wC 100), state := .verified } }, by decide +kernel⟩
  · decide +kernel
  · decide +kernel
  · exact ⟨{ State.reset with vault := { State.reset.vault with answers := [(7, 0, [1])] } }, { State.reset with kpr := { State.reset.kpr with running := false } }, by decide +kernel⟩
  · exact ⟨by decide +kernel, by decide +kernel, rfl⟩

/-- The hypotheses of KeyReplacement are met. -/
theorem witness_KeyReplacement :
    (wTr.vault.repl.length < 4 ∧ (∃ s : State, 4 ≤ s.vault.repl.length)) ∧
    (mayRequest wTr 0 = true ∧ placesTaken wTr 0 < 4 ∧ slotPending wTr 0 = false ∧ slotPending (wRepl none) 3 = true ∧ wTr.vault.repl.length < 4) ∧
    ((wRepl none).vault.repl.length = 1 ∧ (wRepl (some (1, 3, 0))).vault.repl.length = 1 ∧ wTr.vault.repl = []) ∧
    ((wRepl none).vault.repl.length = 1 ∧ (wRepl (some (1, 3, 0))).vault.repl.length = 1) ∧
    (∃ s : State, s.sig.streams = [(3, { state := 2, fresh := 9, transmit := true })] ∧ (s.sig.streams.map (·.1)).Pairwise (· < ·) ∧ streamSlot s 3 = 0 ∧
        streamAt (resetStreams 0 s) 3 = { state := 1, fresh := 0, resv := 65536, transmit := true }) ∧
    (∃ s : State, WriteReady s 0 0x2330 1 (.bytes ([] ++ [1, 3, BitVec.ofNat 8 31])) 0 [1, 3, 31] ∧ sessionAt s 1 = none) ∧
    (placesTaken wTr 0 < 4 ∧ (wRepl (some (1, 3, 0))).vault.repl.any (fun r => r.enrol.isSome && r.target == 3) = true) ∧
    (∃ s : State, WriteReady s 0 0x2330 1 (.bytes ([] ++ [1, 3, BitVec.ofNat 8 31])) 0 [1, 3, 31] ∧ placesTaken s 0 < 4 ∧ s.vault.repl = [] ∧ s.vault.upset = 0) ∧
    (∃ s : State, WriteReady s 0 0x2330 2 (.num 4 (9 : Word).toNat) (9 : Word).toNat [] ∧ s.lf.keys.find? (·.id == (9 : Word).toNat) = some (wKey 3 9 1) ∧
        WriteReady s 0 0x2330 2 (.num 4 (8 : Word).toNat) (8 : Word).toNat [] ∧ s.lf.keys.find? (·.id == (8 : Word).toNat) = none) ∧
    (wTr.pwr.hive = true ∧ ∃ s u : State, s.pwr.hive = true ∧ s.kpr.vaultTimes = [0, 0] ∧ u.pwr.hive = false) := by
  refine ⟨?_, ?_, ?_, ?_, ?_, ?_, ?_, ?_, ?_, ?_⟩
  · exact ⟨by decide +kernel, ⟨{ wTr with vault := { wTr.vault with repl := List.replicate 4 { requester := 0, tag := 7, target := 3, enrol := none, shadow := kAll, blob := [] } } }, by decide +kernel⟩⟩
  · decide +kernel
  · decide +kernel
  · decide +kernel
  · exact ⟨{ wTr with sig := { wTr.sig with streams := [(3, { state := 2, fresh := 9, transmit := true })] } }, by decide +kernel⟩
  · exact ⟨{ wTr with lc := { wTr.lc with state := 1 } }, ready_of (by decide +kernel), by decide +kernel⟩
  · decide +kernel
  · exact ⟨{ wTr with lc := { wTr.lc with state := 1 } }, ready_of (by decide +kernel), by decide +kernel⟩
  · exact ⟨{ wTr with lf := { wTr.lf with keys := [wKey 3 9 1] } }, ready_of (by decide +kernel), by decide +kernel, ready_of (by decide +kernel), by decide +kernel⟩
  · exact ⟨rfl, { wTr with kpr := { wTr.kpr with vaultTimes := [0, 0] } }, { wTr with pwr := { wTr.pwr with hive := false } }, by decide +kernel⟩

/-- The hypotheses of MkaKeys are met. -/
theorem witness_MkaKeys :
    (portFitted wTr 18 = true ∧ portFitted { wTr with fuse := { wTr.fuse with part := 1 } } 23 = portFitted wTr 23) ∧
    (mayRequest wTr 0 = true ∧ placesTaken wTr 0 < 4 ∧ shareStatus wTr = none ∧ slotFor wTr 0 0 14 = some kAll ∧ slotFor wTr 1 0 14 = none) ∧
    (mayRequest wTr 0 = true ∧ placesTaken wTr 0 < 4 ∧ shareStatus wTr = none ∧ slotFor wTr 0 0 10 = some kAll) ∧
    (mayRequest wTr 0 = true ∧ placesTaken wTr 0 < 4 ∧ shareStatus wTr = none ∧ slotFor wTr 0 0 13 = some kAll) ∧
    (mayRequest wTr 0 = true ∧ placesTaken wTr 0 < 4 ∧ shareStatus wTr = none ∧ slotFor wTr 0 0 12 = some kAll) := by
  refine ⟨?_, ?_, ?_, ?_, ?_⟩
  · refine ⟨by decide +kernel, ?_⟩
    rfl
  · decide +kernel
  · decide +kernel
  · decide +kernel
  · decide +kernel

/-- The hypotheses of Attestation are met. -/
theorem witness_Attestation :
    (mayRequest wTr 0 = true ∧ placesTaken wTr 0 < 4 ∧ (zeros 64).length ≤ 64 ∧ 64 < (zeros 65).length ∧ 1 ≤ (3 : Byte).toNat) ∧
    (∃ s : State, WriteReady s 0 0x2340 1 (.bytes [1, 2]) 0 [1, 2] ∧ WriteReady s 0 0x2340 1 (.bytes (zeros 65)) 0 (zeros 65)) ∧
    (∃ s u : State, s.vault.attesting = some ([1], 1, .object) ∧ u.vault.attesting = some ([1], 1, .nfc) ∧ State.reset.vault.attesting = none) := by
  refine ⟨?_, ?_, ?_⟩
  · decide +kernel
  · exact ⟨wTr, ready_of (by decide +kernel), ready_of (by decide +kernel)⟩
  · exact ⟨{ State.reset with vault := { State.reset.vault with attesting := some ([1], 1, .object) } }, { State.reset with vault := { State.reset.vault with attesting := some ([1], 1, .nfc) } }, rfl, rfl, rfl⟩

/-- The hypotheses of LaneRequests are met. -/
theorem witness_LaneRequests :
    (∃ (r : LaneReq) (l : Nat), wTr.kpr.running = true ∧ requestLane wTr r = some l ∧ l < 12 ∧ laneRefuses wTr l 3 r = none ∧ laneQueued wTr < 16 ∧ (laneRefuses wTr l 1 r).isSome = true) ∧
    (laneRefuses wTr 2 3 wLreq = none ∧ (laneKeys wTr 2 3 wLreq).isOk = true ∧ laneRefuses wTr 2 1 wLreq = some 0x12) ∧
    (∃ s : State, s.kpr.running = true ∧ s.lanes.answers = [(1, 0, [7])] ∧ wTr.kpr.running = true ∧ wTr.lanes.answers = []) ∧
    (WriteReady State.reset 15 0x2483 1 (.bytes (zeros 16)) 0 (zeros 16) ∧ WriteReady State.reset 15 0x2483 2 (.bytes [1]) 0 [1]) ∧
    (usesDirect (laneAt State.reset 3) false = false ∧ usesDirect { dynamic := some { wPass with req := some { wLreq with ksel := 0x81 } } } true = true) ∧
    (∃ s u : State, WriteReady wTr 0 0x2483 3 (numFor 0x2483 3 0) 0 [] ∧ (laneAt wTr 3).st = .running ∧ wTr.comb.active = none ∧
        WriteReady s 0 0x2483 3 (numFor 0x2483 3 1) 1 [] ∧ (laneAt s 3).st = .stopped ∧ bistOn s 0x23 = false ∧
        WriteReady u 0 0x2483 3 (numFor 0x2483 3 0) 0 [] ∧ (laneAt u 3).st = .running ∧ u.comb.active.isSome = true ∧ standbyOther u 3 = none) ∧
    ((List.range 12).find? (laneInService wTr) = some 0 ∧ ∃ s : State, (List.range 12).find? (laneInService s) = none) := by
  refine ⟨?_, ?_, ?_, ?_, ?_, ?_, ?_⟩
  · exact ⟨{ tag := 1, mode := 5, ksel := 0, lane := 2, tlen := 0, aad := [], data := [1], unit4096 := false, dst := 0, iv := [], tagv := [] }, 2, by decide +kernel⟩
  · decide +kernel
  · exact ⟨{ wTr with lanes := { wTr.lanes with answers := [(1, 0, [7])] } }, by decide +kernel⟩
  · exact ⟨ready_of (by decide +kernel), ready_of (by decide +kernel)⟩
  · decide +kernel
  · exact ⟨modLane 3 (fun x => { x with st := .stopped }) wTr,
      { wTr with comb := { wTr.comb with active := some (wC 100) }, lanes := { wTr.lanes with lane := (Vector.replicate 12 { st := .fault }).set 3 {} } },
      ready_of (by decide +kernel), by decide +kernel, by decide +kernel, ready_of (by decide +kernel), by decide +kernel, by decide +kernel,
      ready_of (by decide +kernel), by decide +kernel, by decide +kernel, by decide +kernel⟩
  · exact ⟨by decide +kernel, { wTr with lanes := { wTr.lanes with lane := Vector.replicate 12 { st := .fault } } }, by decide +kernel⟩

/-- The hypotheses of LanePasses are met. -/
theorem witness_LanePasses :
    (∃ (s u : State) (f : Frame), frameAt s 1 = some f ∧ f.outPort = 29 ∧ f.taken = false ∧ frameReady s f.id = true ∧ (queueAt s f.queue).frames.head? = some f.id ∧
        passKind s f = some .macRx ∧ passLane s f .macRx = (some (0, 0, false), u) ∧ frameAt s 2 = none) ∧
    (passKind wF29 wF = some .macRx ∧ wF.next = none ∧ rxSa wF29 wF.rxPort wF.bytes = none) ∧
    ((laneAt wTr 2).reserved = none ∧ (laneAt wTr 2).dynamic = none ∧ (laneAt wTr 2).st = .running ∧ ∃ s : State, rrPick 6 (laneAt s 2).pointer (fun r => (laneAt s 2).waitDyn.any (·.requester == r)) = some 5) ∧
    ((wLane (fun x => { x with waitRes := [wPass] })).comb.now.any (fun a => actType a == 7 && actLane a == 2) = true ∧ laneFor (wLane (fun x => { x with waitRes := [wPass] })) 2 = some 2 ∧
        (laneAt (wLane (fun x => { x with waitRes := [wPass] })) 2).reserved = none ∧ (laneAt (wLane (fun x => { x with waitRes := [wPass] })) 2).waitRes ≠ [] ∧
        (laneAt (wLane (fun x => { x with waitRes := [wPass], reserved := some wPass })) 2).reserved ≠ none) ∧
    ((laneAt (wLane (fun x => { x with reserved := some wPass })) 2).reserved = some wPass ∧ (laneAt (wLane (fun x => { x with dynamic := some wPass })) 2).reserved = none ∧
        (laneAt (wLane (fun x => { x with dynamic := some wPass })) 2).dynamic = some wPass ∧ (laneAt wTr 2).dynamic = none) ∧
    (standbyOther (wLane (fun x => { x with dynamic := some wPass })) 2 = some 0 ∧ ∃ s : State, standbyOther s 2 = none) ∧
    ((laneAt (wLane (fun x => { x with dynamic := some wPass })) 2).dynamic = some wPass ∧ wPass.suspended = false ∧ wPass.req = some wLreq ∧ (laneAt wTr 2).dynamic = none) ∧
    ((laneAt (wLane (fun x => { x with dynamic := some wPass })) 2).reserved = none ∧ (laneAt (wLane (fun x => { x with dynamic := some wPass })) 2).dynamic = some wPass ∧ wPass.suspended = false ∧ wPass.req = some wLreq ∧ wPass.discard = false ∧
        (laneKeys (wLane (fun x => { x with dynamic := some wPass })) 2 3 wLreq).toOption = some (zeros 16, [])) ∧
    (wLreq.mode = 5) ∧
    (slotAt wF29 3 = none) ∧
    (rxSa wF29 wF.rxPort wF.bytes = none ∧ ∃ s : State, (rxSa s 14 wF.bytes).isSome = true ∧ saKey s 14 5 9 = none) ∧
    ((laneAt (modLane 2 (fun x => { x with st := .testing }) State.reset) 2).st = .testing ∧ (laneAt State.reset 2).st ≠ .testing) ∧
    (4096 ≤ (laneAt (modLane 2 (fun x => { x with maskBlocks := 4096 }) wTr) 2).maskBlocks ∧ ¬ 4096 ≤ (laneAt wTr 2).maskBlocks) := by
  refine ⟨?_, ?_, ?_, ?_, ?_, ?_, ?_, ?_, ?_, ?_, ?_, ?_, ?_⟩
  · exact ⟨wF29, (passLane wF29 wF .macRx).2, wF, by decide +kernel, rfl, rfl, by decide +kernel, by decide +kernel, by decide +kernel, Prod.ext (by decide +kernel) rfl, by decide +kernel⟩
  · decide +kernel
  · exact ⟨by decide +kernel, by decide +kernel, by decide +kernel, modLane 2 (fun x => { x with waitDyn := [wPass] }) wTr, by decide +kernel⟩
  · decide +kernel
  · decide +kernel
  · exact ⟨by decide +kernel, { wTr with lanes := { wTr.lanes with lane := Vector.replicate 12 { st := .fault } } }, by decide +kernel⟩
  · decide +kernel
  · decide +kernel
  · decide +kernel
  · decide +kernel
  · refine ⟨by decide +kernel, modEth 14 (fun e => { e with sas := [⟨false, 0, 0, 0, 5, 0, true⟩] }) wF29, by decide +kernel, by decide +kernel⟩
  · decide +kernel
  · decide +kernel

/-- The hypotheses of LifeCycle are met. -/
theorem witness_LifeCycle :
    (wTr.tamper.now = 0 ∧ wTr.fuse.epoch < 32 ∧ (wTr.lc.challenge).isSome = true ∧ sessionAt wTr 1 = none ∧ (wLc 6).lc.state ∉ [1] ∧ [0, 1, 2, 3, 4, 5].all (fun n => match sessionAt (wLc n) 0 with
          | some x => (allow (wLc n) x true 0x2010 3).isOk | none => false) = true) ∧
    (challengeFresh wTr { bytes := zeros 32, madePs := 0, used := false } = true ∧ challengeFresh wTr { bytes := zeros 32, madePs := 0, used := true } = false) ∧
    (∃ s : State, s.fuse.epoch = 32) ∧
    ((match sessionAt wTr 0 with | some x => (allow wTr x false 0x2010 4).isOk | none => false) = true ∧ sessionAt wTr 1 = none) ∧
    ((match sessionAt (wRole .host) 0 with | some x => onServicePort x && (allow (wRole .host) { x with role := .maker } true 0x2010 3).isOk | none => false) = true ∧ (wRole .host).lc.state = 0 ∧ (wRole .host).tamper.now = 0 ∧
        (match sessionAt wTr 0 with | some x => onServicePort x && (allow wTr x true 0x2010 3).isOk && decide (x.role = .maker) | none => false) = true ∧ wTr.lc.state ≠ 0) ∧
    (∃ s : State, WriteReady s 0 0x2300 6 (numFor 0x2300 6 15) 15 []) := by
  refine ⟨?_, ?_, ?_, ?_, ?_, ?_⟩
  · refine ⟨rfl, by decide +kernel, rfl, by decide +kernel, by decide +kernel, by decide +kernel⟩
  · decide +kernel
  · exact ⟨{ wTr with fuse := { wTr.fuse with epoch := 32 } }, rfl⟩
  · decide +kernel
  · decide +kernel
  · exact ⟨wTr, ready_of (by decide +kernel)⟩

/-- The hypotheses of TamperLatch are met. -/
theorem witness_TamperLatch :
    (State.reset.pwr.dev = .on ∧ isSmall State.reset = false ∧ wTr.pwr.dev = .on ∧
        (1 : BitVec 32) &&& activeInputs wTr &&& ~~~latchRead wTr ≠ 0 ∧ (0 : BitVec 32) &&& activeInputs wTr = 0) ∧
    (State.reset.pwr.dev = .on ∧ isSmall State.reset = false ∧ State.reset.lc.state = 0 ∧ wTr.pwr.dev = .on ∧ wTr.pwr.hive = true ∧ wTr.pwr.boot = none ∧ wTr.lc.state = 1 ∧ wTr.fuse.epoch < 32 ∧
        (1 : BitVec 32) &&& activeInputs wTr &&& ~~~latchRead wTr ≠ 0) ∧
    (latchRead wTr = 0 ∧ wTr.tamper.lastCount[0] = none ∧ ∃ s : State, s.pwr.hive = false ∧ s.pwr.vao = true ∧ s.tamper.lastCount[0] = some (aoSec s)) ∧
    (wTr.lc.state = 1 ∧ wTr.pwr.boot = none ∧ isSmall wTr = false ∧ wTr.pwr.dev ≠ .field ∧ ∃ s : State, s.pwr.dev = .field ∧ s.tamper.holdMv < 2950) ∧
    ((tamperLanes (abortVault wTr)).pwr.hive = true ∧ (tamperLanes (abortVault wTr)).fuse.epoch ≠ 32 ∧ isSmall (tamperLanes (abortVault wTr)) = false ∧ ∃ s : State, s.pwr.hive = false ∧ isSmall s = true) ∧
    (wPass.req = some wLreq ∧ frameAt wF29 1 = some wF ∧ frameAt wF29 2 = none) ∧
    (isSmall wHold = false ∧ wHold.pwr.dev ≠ .off ∧ wHold.tamper.waiting = true ∧ wHold.pwr.hive = false ∧ wTr.tamper.waiting = false) ∧
    (∃ s : State, WriteReady s 0 0x2500 0xB (numFor 0x2500 0xB 6) 6 [] ∧ ((List.range 8).any fun i => (6 : Nat).testBit i && (enabledInputs s).getLsbD (1 + i)) = true ∧
        WriteReady wTr 0 0x2500 0xB (numFor 0x2500 0xB 6) 6 [] ∧ ((List.range 8).any fun i => (6 : Nat).testBit i && (enabledInputs wTr).getLsbD (1 + i)) = false) ∧
    (WriteReady wTr 0 0x2500 5 (numFor 0x2500 5 0x000FE003) 0x000FE003 [] ∧ WriteReady wTr 0 0x2500 5 (numFor 0x2500 5 1) 1 [] ∧ (tamperCfg wTr).isSome = true) := by
  refine ⟨?_, ?_, ?_, ?_, ?_, ?_, ?_, ?_, ?_⟩
  · decide +kernel
  · decide +kernel
  · exact ⟨by decide +kernel, by decide +kernel, { wTr with pwr := { wTr.pwr with hive := false, vao := true }, tamper := { wTr.tamper with lastCount := wTr.tamper.lastCount.set 0 (some (aoSec wTr)) } }, by decide +kernel⟩
  · exact ⟨by decide +kernel, by decide +kernel, by decide +kernel, by decide +kernel, { wTr with pwr := { wTr.pwr with dev := .field }, tamper := { wTr.tamper with holdMv := 2949 } }, by decide +kernel⟩
  · exact ⟨by decide +kernel, by decide +kernel, by decide +kernel, { wTr with fuse := { wTr.fuse with part := 2 }, pwr := { wTr.pwr with hive := false } }, by decide +kernel⟩
  · decide +kernel
  · decide +kernel
  · exact ⟨modTamper (fun t => { t with cfgA := none, cfgB := none }) wTr, ready_of (by decide +kernel), by decide +kernel, ready_of (by decide +kernel), by decide +kernel⟩
  · exact ⟨ready_of (by decide +kernel), ready_of (by decide +kernel), rfl⟩

/-- The hypotheses of StoreRecords are met. -/
theorem witness_StoreRecords :
    (mayWriteRecord 4 0 1 false = true ∧ recordFits 0 1 255 (zeros 256) = true ∧ storeOpen State.reset 4 = true ∧ mayWriteRecord 4 2 1 false = false ∧ recordFits 0 1 256 (zeros 256) = false) ∧
    (mayWriteRecord 1 2 0x7F true = true ∧ mayWriteRecord 3 1 0x03 false = true ∧ mayWriteRecord 2 2 0x20 false = false) ∧
    (∃ (s : State) (r : StoreReq), s.store.inService = none ∧ s.store.scanning = false ∧ s.pwr.vao = true ∧ s.pwr.brownout = false ∧
        rrPick 5 s.store.pointer (fun v => s.store.waiting.any (·.who == v)) = some 4 ∧ s.store.waiting.find? (·.who == 4) = some r ∧ State.reset.store.waiting = [] ∧ (wSrv false).store.inService ≠ none) ∧
    (∃ (s : State) (r : StoreReq), s.store.inService = some r ∧ r.copyB = false ∧ ((s.store.area r.area).appendFit r.record false).isSome = true ∧
        (({ pairs := [], reserve := 0 } : LogArea).appendFit r.record false).isSome = false ∧ State.reset.store.inService = none) ∧
    (∃ s : State, s.pwr.vao = true ∧ (s.store.area 1).copying ≠ none ∧ (State.reset.store.area 0).copying = none ∧ (State.reset.store.area 0).nextFresh ≠ none) ∧
    (State.reset.pwr.dev ≠ .field ∧ wHold.pwr.dev = .field) ∧
    (∃ c : RecPos, c.a = none ∧ c.b ≠ none) ∧
    (∃ s : State, s.store.counters[3].aGood = false ∧ State.reset.store.counters[3].aGood = true) ∧
    (State.reset.pwr.vao = true ∧ State.reset.store.tag.intent = none ∧ ∃ s : State, s.pwr.vao = false) ∧
    (∃ s u : State, State.reset.nfc.heldRead = none ∧ State.reset.nfc.heldVerify = none ∧ s.nfc.heldRead = some (0xE104, 0, 4) ∧ u.nfc.heldRead = none ∧ u.nfc.heldVerify = some (zeros 16)) ∧
    (State.reset.pwr.vao = true ∧ counterAssigned 16 = true ∧ counterAssigned 17 = false ∧ counterAssigned 0 = true) ∧
    (State.reset.pwr.vao = true ∧ State.reset.store.tag.intent = none) := by
  refine ⟨?_, ?_, ?_, ?_, ?_, ?_, ?_, ?_, ?_, ?_, ?_, ?_⟩
  · decide +kernel
  · decide +kernel
  · exact ⟨{ State.reset with store := { State.reset.store with pointer := 3, waiting := [⟨1, 2, ⟨0x13, 0, 0, false, false, false, []⟩, false⟩, ⟨4, 0, ⟨1, 0, 0, false, false, false, zeros 256⟩, false⟩] } },
      ⟨4, 0, ⟨1, 0, 0, false, false, false, zeros 256⟩, false⟩, by decide +kernel⟩
  · exact ⟨wSrv false, ⟨4, 0, ⟨1, 5, 0, false, false, false, List.replicate 256 9⟩, false⟩, by decide +kernel⟩
  · exact ⟨{ State.reset with store := { State.reset.store with w := { State.reset.store.w with copying := some (0, []) } } }, by decide +kernel⟩
  · decide +kernel
  · exact ⟨{ offset := 0, a := none, b := some ⟨1, 0, 0, false, false, false, []⟩ }, by decide +kernel⟩
  · exact ⟨{ State.reset with store := { State.reset.store with counters := State.reset.store.counters.set 3 { aGood := false } } }, by decide +kernel⟩
  · exact ⟨by decide +kernel, by decide +kernel, { State.reset with pwr := { State.reset.pwr with vao := false } }, rfl⟩
  · exact ⟨{ State.reset with nfc := { State.reset.nfc with heldRead := some (0xE104, 0, 4) } }, { State.reset with nfc := { State.reset.nfc with heldVerify := some (zeros 16) } }, by decide +kernel⟩
  · decide +kernel
  · decide +kernel

/-- The hypotheses of StoreAreas are met. -/
theorem witness_StoreAreas :
    (∃ x : Session, WriteReady wTr 0 0x2201 2 (.bytes [1, 2]) 0 [1, 2] ∧ sessionAt wTr 0 = some x ∧ x.mOffset + 2 ≤ protectedFrom (val wTr (odKey 0x2201 3)) * 256 ∧
        (areaWrite 0 x.mOffset 65536 [1, 2] wTr).isOk = true ∧ WriteReady (setVal (odKey 0x2201 3) 3 wTr) 0 0x2201 2 (.bytes [1, 2]) 0 [1, 2] ∧ protectedFrom 3 = 0 ∧
        (areaWrite 0 0 65536 (zeros 4097) wTr).isOk = false) ∧
    ((appendPages State.reset.store.m [(0, zeros 256)]).isSome = true ∧ ∃ s : State, appendPages s.store.m [(0, zeros 256)] = none) ∧
    (∃ (s : State) (x y : Session), WriteReady wTr 0 0x2202 2 (.bytes [1]) 0 [1] ∧ sessionAt wTr 0 = some x ∧ (wRights wTr 0 x).2 = true ∧ (areaWrite 1 x.wOffset 8192 [1] wTr).isOk = true ∧
        WriteReady s 0 0x2202 2 (.bytes [1]) 0 [1] ∧ sessionAt s 0 = some y ∧ (wRights s 0 y).2 = false) ∧
    (WriteReady wTr 0 0x2201 3 (.num 1 3) 3 [] ∧ val wTr (odKey 0x2201 3) ≤ 3 ∧ WriteReady (setVal (odKey 0x2201 3) 3 (wLc 2)) 0 0x2201 3 (.num 1 1) 1 [] ∧ 1 < val (setVal (odKey 0x2201 3) 3 (wLc 2)) (odKey 0x2201 3)) ∧
    (WriteReady wPw 0 0x2202 4 (.bytes (zeros 16)) 0 (zeros 16) ∧ WriteReady wPw 0 0x2202 3 (.bytes (zeros 16)) 0 (zeros 16) ∧ wPw.store.verifyPw.blocked = false ∧ (passwords wPw).1 = zeros 16 ∧ (passwords wPw).2 ≠ zeros 16 ∧
        WriteReady wPwB 0 0x2202 4 (.bytes (zeros 16)) 0 (zeros 16) ∧ wPwB.store.verifyPw.blocked = true) ∧
    (WriteReady wTr 0 0x2202 6 (.bytes (zeros 32)) 0 (zeros 32) ∧ (storePut 1 0x02 0 false (zeros 32) wTr).isSome = true) := by
  refine ⟨?_, ?_, ?_, ?_, ?_, ?_⟩
  · exact ⟨{ transport := .sdo, endpoint := 0, role := .maker }, ready_of (by decide +kernel), by decide +kernel, by decide +kernel, by decide +kernel, ready_of (by decide +kernel), rfl, by decide +kernel⟩
  · exact ⟨by decide +kernel, { State.reset with store := { State.reset.store with m := { pairs := [], reserve := 0 } } }, by decide +kernel⟩
  · exact ⟨wPw, { transport := .sdo, endpoint := 0, role := .maker }, { transport := .sdo, endpoint := 0, role := .workshop }, ready_of (by decide +kernel), by decide +kernel, by decide +kernel, by decide +kernel,
      ready_of (by decide +kernel), by decide +kernel, by decide +kernel⟩
  · exact ⟨ready_of (by decide +kernel), by decide +kernel, ready_of (by decide +kernel), by decide +kernel⟩
  · exact ⟨ready_of (by decide +kernel), ready_of (by decide +kernel), by decide +kernel, by decide +kernel, by decide +kernel, ready_of (by decide +kernel), by decide +kernel⟩
  · exact ⟨ready_of (by decide +kernel), by decide +kernel⟩

/-- The hypotheses of OdSessions are met. -/
theorem witness_OdSessions :
    (odServes State.reset = true ∧ transportOn State.reset .sdo 0 = true ∧ channelSlot State.reset .sdo 0 = none ∧ openSlot State.reset = some 0 ∧
        transportOn wHost .sdo 0 = true ∧ (channelSlot wHost .sdo 0).isSome = true ∧ transportOn wFull .sdo 0 = true ∧ channelSlot wFull .sdo 0 = none ∧ openSlot wFull = none ∧ transportOn wEth .doip 14 = true ∧ transportOn wEth .udp 14 = true ∧ openSlot wEth = some 1 ∧
        transportOn State.reset .udp 14 = false) ∧
    (openSlot State.reset = some 0 ∧ openSlot wFull = none ∧ odServes State.reset = true ∧ odServes wHold = false) ∧
    (odServes (at60 wTr) = true ∧ ((at60 wTr).sess.slots[0]?).join = some { transport := .sdo, endpoint := 0, role := .maker } ∧ setting (at60 wTr) (odKey 0x1033 3) * 1000000000000 ≤ nowPs (at60 wTr) ∧
        setting wTr (odKey 0x1033 3) * 1000000000000 > nowPs wTr ∧ (sessionAt (putSession 3 (some { transport := .doip, endpoint := 14 }) State.reset) 3).map (·.transport) = some .doip) ∧
    ((match sessionAt wTr 0 with | some x => (allow wTr x false 0x1020 1).isOk | none => false) = true ∧ sessionAt wTr 4 = none) ∧
    (∃ (s u : State) (x : Session), WriteReady wTr 0 0x1020 2 (.bytes ((0 : Byte) :: [])) 0 [0] ∧ sessionAt wTr 0 = some x ∧ WriteReady s 0 0x1020 2 (.bytes ((2 : Byte) :: [])) 0 [2] ∧
        WriteReady u 0 0x1020 2 (.bytes ((0 : Byte) :: [])) 0 [0] ∧ u.sess.fails[0]?.map (·.blocked) = some true) ∧
    (proofAdmits wTr .vendor [] [] = false ∧ (RoleFail.fail { times := [1, 2, 3, 4, 5, 6, 7] } 9).blocked = true) := by
  refine ⟨?_, ?_, ?_, ?_, ?_, ?_⟩
  · decide +kernel
  · decide +kernel
  · decide +kernel
  · decide +kernel
  · exact ⟨wHost, { wTr with sess := { wTr.sess with fails := wTr.sess.fails.set 0 { count := 8, times := [], blocked := true } } }, { transport := .sdo, endpoint := 0, role := .maker }, ready_of (by decide +kernel), by decide +kernel, ready_of (by decide +kernel), ready_of (by decide +kernel), by decide +kernel⟩
  · decide +kernel

/-- The hypotheses of OdAccesses are met. -/
theorem witness_OdAccesses :
    (WriteReady wTr 0 0x3903 3 (.num 2 60000) 60000 [] ∧ WriteReady wTr 0 0x1031 10 (.num 1 127) 127 [] ∧ (match sessionAt wTr 0 with | some x => (allow wTr x true 0x9999 1).isOk | none => true) = false) ∧
    (let code (idx sb : Nat) (v : OdValue) : Nat := match checkedWrite wTr { transport := .sdo, endpoint := 0, role := .maker } idx sb v true (fun _ _ => .ok wTr) with | .error e => e | .ok _ => 0
      (code 0x9999 1 (.num 1 0), code 0x3903 3 (.num 2 60000), code 0x3903 3 (.num 1 60)) = (abNoObject, 0, abShort)) ∧
    (WriteReady wTr 0 0x2340 3 (numFor 0x2340 3 1) 1 []) ∧
    (WriteReady wTr 0 0x1011 1 (numFor 0x1011 1 0x64616F6C) 0x64616F6C [] ∧ WriteReady wTr 0 0x1011 1 (numFor 0x1011 1 1) 1 []) ∧
    (State.reset.kpr.running = true ∧ sessionAt State.reset State.reset.sess.window.slot = none ∧ sessionAt (wWinAt 15) 15 = some { transport := .keeperFirmware, endpoint := 32 } ∧ (entryRow 0x1001 0).isSome = true ∧ (entryRow 0x1008 0).bind (·.ty.bytes) = none ∧
        wHold.kpr.running = true ∧ ∃ s : State, s.kpr.running = false) ∧
    (State.reset.kpr.running = true ∧ sessionAt State.reset State.reset.sess.window.slot = none ∧ sessionAt wWinM 0 = some { transport := .sdo, endpoint := 0, role := .maker } ∧ wWinM.sess.window.value = some (3, 60000) ∧ (entryRow 0x3903 3).bind (·.ty.bytes) = some 2) ∧
    ((allow wTr { transport := .sdo, endpoint := 0, role := .maker } false 0x1008 0).isOk = true ∧ (allow wTr { transport := .sdo, endpoint := 0, role := .maker } false 0x9999 0).isOk = false) := by
  refine ⟨?_, ?_, ?_, ?_, ?_, ?_, ?_⟩
  · exact ⟨ready_of (by decide +kernel), ready_of (by decide +kernel), by decide +kernel⟩
  · decide +kernel
  · exact ready_of (by decide +kernel)
  · exact ⟨ready_of (by decide +kernel), ready_of (by decide +kernel)⟩
  · refine ⟨by decide +kernel, by decide +kernel, by decide +kernel, by decide +kernel, by decide +kernel, by decide +kernel, { State.reset with kpr := { State.reset.kpr with running := false } }, rfl⟩
  · decide +kernel
  · decide +kernel

/-- The hypotheses of SdoTransfers are met. -/
theorem witness_SdoTransfers :
    (odServes wTr = true ∧ canService wTr 0 = true ∧ channelSlot wTr .sdo 0 = some 0 ∧ (wTr.sess.slots[0]?).join = some { transport := .sdo, endpoint := 0, role := .maker } ∧ channelSlot wFull .sdo 0 = none ∧ openSlot wFull = none ∧ channelSlot State.reset .sdo 0 = none ∧
        openSlot State.reset = some 0 ∧ (sdoAt (wSdo (.upload 0x1008 0 (zeros 9) false)) 0).entry = some (0x1008, 0)) ∧
    (odServes (wSdo (.download 0x1021 2 0 [] false)) = true ∧ canService (wSdo (.download 0x1021 2 0 [] false)) 0 = true ∧ sdoAt (wSdo (.download 0x1021 2 0 [] false)) 0 = .download 0x1021 2 0 [] false ∧
        channelSlot (wSdo (.download 0x1021 2 0 [] false)) .sdo 0 = some 0 ∧ sdoSession State.reset 0 = none ∧ canService State.reset 9 = false) ∧
    ((odRead 0 { transport := .sdo, endpoint := 0, role := .maker } 0x1018 1 wTr).isOk = true ∧ (odRead 0 { transport := .sdo, endpoint := 0, role := .maker } 0x1008 0 wTr).isOk = true ∧ channelSlot wTr .sdo 0 = some 0) ∧
    (sdoAt (wSdo (.upload 0x1008 0 (zeros 9) false)) 0 = .upload 0x1008 0 (zeros 9) false ∧ canService (wSdo (.upload 0x1008 0 (zeros 9) false)) 0 = true ∧ odServes (wSdo (.upload 0x1008 0 (zeros 9) false)) = true ∧ (sdoSession (wSdo (.upload 0x1008 0 (zeros 9) false)) 0).isSome = true) ∧
    (odServes wTr = true ∧ canService wTr 0 = true ∧ channelSlot wTr .sdo 0 = some 0 ∧ crc16 0 [] = 0) ∧
    (odServes wTr = true ∧ canService wTr 0 = true ∧ channelSlot wTr .sdo 0 = some 0 ∧ (odRead 0 { transport := .sdo, endpoint := 0, role := .maker } 0x1008 0 (dropSnapshot 0 (odKey 0x1008 0) wTr)).isOk = true) ∧
    (odServes (wSdo (.upload 0x1008 0 (zeros 9) false)) = true ∧ canService (wSdo (.upload 0x1008 0 (zeros 9) false)) 0 = true ∧ (sdoAt (wSdo (.upload 0x1008 0 (zeros 9) false)) 0).entry = some (0x1008, 0) ∧
        setting (at60 (wSdo (.upload 0x1008 0 (zeros 9) false))) (odKey 0x1032 1) * 1000000000 < nowPs (at60 (wSdo (.upload 0x1008 0 (zeros 9) false)))) := by
  refine ⟨?_, ?_, ?_, ?_, ?_, ?_, ?_⟩
  · decide +kernel
  · decide +kernel
  · decide +kernel
  · decide +kernel
  · decide +kernel
  · decide +kernel
  · decide +kernel

/-- The hypotheses of UdpMessages are met. -/
theorem witness_UdpMessages :
    (odServes wEth = true ∧ ethService wEth 14 = true ∧ wEth.vault.kd.isSome = true ∧ ethService wEthNo 14 = true ∧ wEthNo.vault.kd = none) ∧
    (odServes wEth = true ∧ ethService wEth 14 = true ∧ (udpSlot wEth 14 5).map (·.1) = some 0 ∧ (udpSlot wEth 14 5).map (fun p => (p.2.lastSeq, p.2.response)) = some (3, some [9]) ∧ udpSlot wEth 14 6 = none) ∧
    (odServes wEth = true ∧ ethService wEth 14 = true ∧ (udpSlot wEth 14 5).map (·.1) = some 0 ∧ (udpSlot wEth 14 5).map (·.2.lastSeq) = some 3 ∧ (zeros 1388).length ≤ 1388) ∧
    ((entryRow 0x3903 3).bind (·.ty.bytes) = some 2 ∧ (entryRow 0x1021 2).map (·.ty.bytes) = some none ∧ (entryRow 0x1021 2).bind (·.len) = some 256) ∧
    (odServes wEth = true ∧ ethService wEth 14 = true ∧ (udpSlot wEth 14 5).isSome = true ∧ udpSlot wEth 14 6 = none) := by
  refine ⟨?_, ?_, ?_, ?_, ?_⟩
  · decide +kernel
  · decide +kernel
  · decide +kernel
  · decide +kernel
  · decide +kernel

/-- The hypotheses of UdsServices are met. -/
theorem witness_UdsServices :
    (sessionAt (wUds 1 .maker) 0 = some { transport := .uds, endpoint := 0, role := .maker, diag := 1 } ∧ sessionAt (wUds 1 .host) 0 = some { transport := .uds, endpoint := 0, role := .host, diag := 1 } ∧ (wUds 1 .maker).kpr.recovery = false ∧ loaderOn wLoader = true) ∧
    ((sessionAt (wUds 1 .maker) 0).map (·.transport) = some .uds ∧ loaderOn wLoader = true) ∧
    ((sessionAt (wUds 1 .maker) 0).map (fun x => (x.transport, x.diag)) = some (.uds, 1) ∧ (sessionAt (wUds 2 .maker) 0).map (·.diag) = some 2) ∧
    ((sessionAt (wUds 1 .maker) 0).map (fun x => (x.transport, x.diag)) = some (.uds, 1) ∧ (sessionAt (wUds 3 .maker) 0).map (·.diag) = some 3) ∧
    ((sessionAt (wUds 2 .maker) 0).map (fun x => (x.transport, x.diag)) = some (.uds, 2) ∧ (sessionAt (wUds 1 .maker) 0).map (·.diag) = some 1 ∧ loaderOn wLoader = true) ∧
    (downloadRefusal (wUds 2 .maker) 0 0x44 0x4B000000 4096 = none ∧ downloadRefusal (wUds 2 .maker) 0 0x44 0x43000003 4096 = none ∧ downloadRefusal (wUds 2 .maker) 0 0x44 0x43000004 4096 = some 0x31) ∧
    ((wDl [1, 2] 7).sess.download = some (0, ⟨0x4B000000, 4, [1, 2], 7⟩) ∧ (sessionAt (wDl [1, 2] 7) 0).map (·.diag) = some 2 ∧ loaderOn wLoader = true) ∧
    ((wDl [1, 2, 3, 4] 7).sess.download = some (0, ⟨0x4B000000, 4, [1, 2, 3, 4], 7⟩) ∧ (sessionAt (wDl [1, 2] 7) 0).map (fun x => (x.transport, x.diag)) = some (.uds, 2) ∧ (wUds 2 .maker).sess.download = none) := by
  refine ⟨?_, ?_, ?_, ?_, ?_, ?_, ?_, ?_⟩
  · decide +kernel
  · decide +kernel
  · decide +kernel
  · decide +kernel
  · decide +kernel
  · decide +kernel
  · decide +kernel
  · decide +kernel

/-- The hypotheses of Supplies are met. -/
theorem witness_Supplies :
    (State.reset.pwr.vao = true ∧ ({ State.reset with pwr := { State.reset.pwr with vao := false } }).pwr.vao = false) ∧
    (State.reset.pwr.vao = true ∧ State.reset.pwr.brownout = false ∧ State.reset.store.inService = none ∧ (runs [.aoBrownout] State.reset).pwr.brownout = true ∧ (runs [.aoBrownout] State.reset).pwr.vao = true) ∧
    (State.reset.pwr.access = true ∧ (wAccOff 0).pwr.access = false) ∧
    (State.reset.pwr.vao = true ∧ (runs [.aoReset false] State.reset).pwr.vao = false ∧ (runs [.aoReset false] State.reset).pwr.dev = .off) ∧
    (clockOn State.reset 0 = true ∧ State.reset.pwr.pll.getLsbD 0 = true ∧ clockOn State.reset 7 = true ∧ State.reset.pwr.pll.getLsbD 7 = false ∧ State.reset.pwr.vao = true ∧ clockOn State.reset 5 = false) := by
  refine ⟨?_, ?_, ?_, ?_, ?_⟩
  · decide +kernel
  · exact ⟨rfl, rfl, rfl, by decide +kernel, by decide +kernel⟩
  · decide +kernel
  · exact ⟨rfl, by decide +kernel, by decide +kernel⟩
  · decide +kernel

/-- The hypotheses of VotesAndWakes are met. -/
theorem witness_VotesAndWakes :
    (mayVote 5 .hiveCore = true ∧ voterOn State.reset 5 = true ∧ State.reset.pwr.hive = true ∧ mayVote 23 .ddr = false ∧ mayVote 3 .ddr = true ∧ mayVote 5 .ddr = false ∧ mayVote 24 (.port 0) = true ∧ voterOn State.reset 24 = true ∧ voterOn wSleep 3 = true ∧ wSleep.pwr.hive = false) ∧
    (voterOn State.reset 2 = true) ∧
    ((3 : Nat) ≠ 5) ∧
    (hiveVoted State.reset = true ∧ hiveVoted (wEntry none) = false) ∧
    ((portAt State.reset 0).st = .stopped ∨ (portAt State.reset 0).st = .running) ∧
    (State.reset.pwr.hive = true ∧ (wAccOff 1).pwr.access = false ∧ (wAccOff 1).pwr.voteAccess ≠ 0 ∧ (wAccOff 1).lf.afterWake = [] ∧ (wAccOff 0).pwr.voteAccess = 0) ∧
    (State.reset.vault.accessBlobs = []) ∧
    (WriteReady State.reset 15 0x2102 1 (numFor 0x2102 1 2) 2 []) ∧
    (∃ s : State, WriteReady wTr 0 0x2100 1 (numFor 0x2100 1 0) 0 [] ∧ WriteReady wTr 0 0x2100 1 (numFor 0x2100 1 2) 2 [] ∧ combHasWindows wTr = false ∧ WriteReady s 0 0x2100 1 (numFor 0x2100 1 1) 1 [] ∧ combHasWindows s = true) ∧
    (wSleep.pwr.dev = .sleep ∧ wSleep.pwr.vao = true ∧ wSleep.pwr.brownout = false ∧ wSleep.pwr.bootDue = none ∧ wSleep.pwr.wake = none ∧ (latchWake 17 wSleep).pwr.wake = some 17 ∧ State.reset.pwr.dev = .on ∧ (latchWake 17 State.reset).pwr.wake = none ∧ (latchWake 17 (wEntry (some 3))).pwr.wake = some 17) ∧
    (wakeEnabled wSleep 17 = true ∧ wSleep.pwr.vao = true ∧ wSleep.pwr.dev = .sleep ∧ wakeEnabled wSleep 0 = false) ∧
    (State.reset.pwr.vao = true ∧ State.reset.pwr.sense[2] = false ∧ State.reset.pwr.sense.toList.all (fun b => !b) = true ∧ val State.reset (odKey 0x2107 2) = 0 ∧ ∃ s : State, s.pwr.vao = true ∧ s.pwr.sense[1] = true ∧ val s (odKey 0x2107 2) ≠ 0 ∧ s.pwr.rtc = val s (odKey 0x2107 2)) ∧
    (WriteReady wTr 0 0x2105 4 (numFor 0x2105 4 3000) 3000 [] ∧ WriteReady wTr 0 0x2105 1 (numFor 0x2105 1 101) 101 []) := by
  refine ⟨?_, ?_, ?_, ?_, ?_, ?_, ?_, ?_, ?_, ?_, ?_, ?_, ?_⟩
  · decide +kernel
  · decide +kernel
  · decide +kernel
  · decide +kernel
  · decide +kernel
  · decide +kernel
  · decide +kernel
  · exact ready_of (by decide +kernel)
  · exact ⟨{ wTr with comb := { wTr.comb with active := some { wC 100 with acts := [0x2000000000000000#64] } } }, ready_of (by decide +kernel), ready_of (by decide +kernel), by decide +kernel, ready_of (by decide +kernel), by decide +kernel⟩
  · decide +kernel
  · decide +kernel
  · exact ⟨rfl, rfl, by decide +kernel, by decide +kernel, wAlarm, by decide +kernel⟩
  · exact ⟨ready_of (by decide +kernel), ready_of (by decide +kernel)⟩

/-- The hypotheses of SleepEntry are met. -/
theorem witness_SleepEntry :
    (∃ s : State, s.pwr.dev = .on ∧ s.pwr.hive = true ∧ s.pwr.entry = none ∧ s.pwr.boot = none ∧ hiveVoted s = false ∧ hiveVoted State.reset = true) ∧
    (State.reset.pwr.entry = none ∧ (wEntry (some 5)).pwr.entry = some 5 ∧ (wEntry (some 5)).pwr.wake = none ∧ hiveVoted (wEntry (some 5)) = false ∧ (wEntry (some 6)).pwr.entry = some 6 ∧ hiveVoted (wEntry (some 6)) = false ∧ (wEntryW 6).pwr.wake = some 17 ∧ (wEntryW 6).pwr.entry = some 6 ∧ portsStopping (wEntry (some 2)) = false ∧
        portsStopping (setPortState 0 .stopping (wEntry (some 2))) = true) ∧
    (portsStopping State.reset = false) ∧
    (State.reset.comb.active = none ∧ State.reset.pwr.ddrKey.isSome = true ∧ (wRun 100 3 false).comb.active.map (·.hyper) = some 100) ∧
    (WriteReady State.reset 15 0x2106 1 (numFor 0x2106 1 1) 1 [] ∧ ∀ p < 24, (portAt State.reset p).st ≠ .pending) := by
  refine ⟨?_, ?_, ?_, ?_, ?_⟩
  · exact ⟨wEntry none, by decide +kernel⟩
  · decide +kernel
  · decide +kernel
  · decide +kernel
  · exact ⟨ready_of (by decide +kernel), by decide +kernel⟩

/-- The hypotheses of Boots are met. -/
theorem witness_Boots :
    (WriteReady wTr 0 0x2000 3 (numFor 0x2000 3 0x74657372) 0x74657372 [] ∧ WriteReady wTr 0 0x2000 3 (numFor 0x2000 3 0) 0 []) ∧
    ((wDue 2).pwr.bootDue = some 2 ∧ (wDue 2).pwr.vao = true ∧ (wDue 2).pwr.brownout = false ∧ (wDue 2).store.scanning = false ∧ (wDue 2).pwr.hive = true ∧ State.reset.pwr.bootDue = none ∧ wWarm.pwr.ddr = .retained) ∧
    (State.reset.sess.restore = false ∧ ∃ s : State, s.sess.restore = true) ∧
    (wWarm.pwr.bootDue = some 1 ∧ wWarm.pwr.ddr = .retained ∧ wWarm.pwr.vao = true ∧ wWarm.pwr.brownout = false ∧ wWarm.store.scanning = false) ∧
    (State.reset.pwr.boot = none ∧ (wBoot true 2).pwr.boot = some (true, 2) ∧ (wBoot true 4).pwr.boot = some (true, 4) ∧ (wBoot true 4).pwr.hive = true ∧ (wBoot true 4).fuse.scrap = false ∧ (wBoot true 4).fuse.prov = false ∧ lcRecord (wBoot true 4) = none ∧ (wBoot true 4).tamper.unlogged = 0 ∧ (wBoot true 10).pwr.boot = some (true, 10)) ∧
    ((wBoot true 4).pwr.hive = true ∧ (wBoot true 4).fuse.scrap = false ∧ (wBoot true 4).fuse.prov = false ∧ lcRecord (wBoot true 4) = none ∧ (wBoot true 4).tamper.unlogged = 0) ∧
    (chooseSlot State.reset = some 0 ∧ (1 : Nat) < 2) ∧
    (State.reset.test.dram = false ∧ State.reset.comb.state ≠ .armed ∧ ∃ s : State, s.test.dram = true) ∧
    (State.reset.kpr.running = true ∧ State.reset.comb.active = none ∧ State.reset.comb.state ∉ [BankState.verifying, .loading, .armed] ∧ ∀ i < 4, setEntry State.reset i = none) ∧
    ((wBoot true 5).pwr.boot = some (true, 5) ∧ chooseSlot (wBoot true 5) ≠ none ∧ chooseSlot (setKeeperSlot 1 none (setKeeperSlot 0 none (wBoot true 5))) = none ∧ (setKeeperSlot 1 none (setKeeperSlot 0 none (wBoot true 5))).pwr.boot = some (true, 5) ∧ (wBoot true 6).pwr.boot = some (true, 6)) ∧
    (State.reset.pwr.access = true ∧ (wAccOff 0).pwr.access = false) := by
  refine ⟨?_, ?_, ?_, ?_, ?_, ?_, ?_, ?_, ?_, ?_, ?_⟩
  · exact ⟨ready_of (by decide +kernel), ready_of (by decide +kernel)⟩
  · decide +kernel
  · exact ⟨rfl, { State.reset with sess := { State.reset.sess with restore := true } }, rfl⟩
  · decide +kernel
  · decide +kernel
  · decide +kernel
  · decide +kernel
  · exact ⟨by decide +kernel, by decide +kernel, { State.reset with test := { State.reset.test with dram := true } }, rfl⟩
  · decide +kernel
  · decide +kernel
  · decide +kernel

/-- The hypotheses of EventRings are met. -/
theorem witness_EventRings :
    ((sourcesPresent State.reset).testBit 39 = true ∧ State.reset.pwr.hive = true ∧ summarised 2 3 = false ∧ State.reset.evt.rings[39].staging.length < 31 ∧ State.reset.evt.deferredGap = [] ∧ wSleep.pwr.hive = false ∧ wSleep.pwr.vao = true) ∧
    (summarised 1 6 = true ∧ summarised 2 6 = false ∧ State.reset.evt.deferredGap = [] ∧ State.reset.evt.windows = [] ∧ wSleep.pwr.hive = false) ∧
    (State.reset.evt.rings[4].staging = [] ∧ wStaged.evt.rings[3].staging.length = 1 ∧ wStaged.evt.rings[3].restart = false ∧ wStaged.pwr.hive = true ∧ wStaged.evt.deferred = [] ∧ serviceOnly wStaged = true) ∧
    (∃ s : State, ∃ w : SummaryWindow, s.evt.windows.find? (fun w => w.detail == (6 : BitVec 16).toNat && w.key == 2) = some w ∧ w.count = 0 ∧ w.openPs + 1000000000000 ≤ nowPs s) ∧
    (State.reset.pwr.hive = true ∧ State.reset.kpr.running = true ∧ State.reset.evt.deferred = [] ∧ wSleep.pwr.hive = false) ∧
    (WriteReady State.reset 15 0x6037 2 (numFor 0x6037 2 65536) 65536 [] ∧ WriteReady State.reset 15 0x6010 1 (numFor 0x6010 1 33) 33 []) := by
  refine ⟨?_, ?_, ?_, ?_, ?_, ?_⟩
  · decide +kernel
  · decide +kernel
  · decide +kernel
  · exact ⟨at60 { State.reset with evt := { State.reset.evt with windows := [⟨6, 2, 3, 1, 0, [], 0, 0⟩] } }, ⟨6, 2, 3, 1, 0, [], 0, 0⟩, by decide +kernel⟩
  · decide +kernel
  · exact ⟨ready_of (by decide +kernel), ready_of (by decide +kernel)⟩

/-- The hypotheses of PortTests are met. -/
theorem witness_PortTests :
    (WriteReady (wPt 0 1) 0 0x5010 5 (numFor 0x5010 5 1) 1 [] ∧ portAtRest (wPt 0 1) 0 = true ∧ val (wPt 0 1) (odKey 0x5010 1) = 1 ∧ testLenOk (wPt 0 1) 0 8 = true ∧ testModeOk 0 5 = false ∧
        WriteReady (wPt 0 5) 0 0x5010 5 (numFor 0x5010 5 1) 1 [] ∧ WriteReady wPtSer 0 0x5027 5 (numFor 0x5027 5 1) 1 [] ∧ portAtRest wPtSer 23 = true ∧ serRuns wPtSer 5 = true ∧
        WriteReady wPtRun 0 0x5010 5 (numFor 0x5010 5 1) 1 [] ∧ portAtRest wPtRun 0 = false ∧ WriteReady (wTest 1) 0 0x5010 5 (numFor 0x5010 5 2) 2 [] ∧ portAtRest (wTest 1) 0 = true) ∧
    (portKind 0 = .can ∧ portKind 10 = .lin ∧ portKind 14 = .tsa ∧ portKind 18 = .ge ∧ portKind 23 = .xg) ∧
    ((portAt (wPt 0 1) 0).test.mode ≠ 4 ∧ portKind 0 = .can ∧ portKind 10 = .lin ∧ portKind 14 = .tsa) ∧
    ((portAt State.reset 0).test.st ≠ 1 ∧ (portAt (wTest 2) 0).test.st = 1 ∧ modeChecks (portAt (wTest 2) 0).test.mode = true ∧ testLayout 0 [0, 7, 7, 8] = some (7, true) ∧ testLayout 0 [0, 7, 7, 9] = some (7, false)) ∧
    (testLayout 0 [0, 7, 7, 8] = some (7, true) ∧ testLayout 14 (ethTestFrame 0xA 5 64) = some (5, true) ∧ testLayout 14 [] = none) ∧
    ((portAt State.reset 0).test.st ≠ 1 ∧ (portAt (wTest 1) 0).test.st = 1 ∧ (portAt (wTest 1) 0).test.count = 3 ∧ (portAt (wTest 1) 0).test.sent = 3 ∧ (portAt (wTest 1) 0).test.mode = 1 ∧ portAtRest (wTest 1) 0 = true) := by
  refine ⟨?_, ?_, ?_, ?_, ?_, ?_⟩
  · exact ⟨ready_of (by decide +kernel), by decide +kernel, by decide +kernel, by decide +kernel, by decide +kernel, ready_of (by decide +kernel), ready_of (by decide +kernel), by decide +kernel, by decide +kernel, ready_of (by decide +kernel), by decide +kernel, ready_of (by decide +kernel), by decide +kernel⟩
  · decide +kernel
  · decide +kernel
  · decide +kernel
  · decide +kernel
  · decide +kernel

/-- The hypotheses of LaneAndMemoryTests are met. -/
theorem witness_LaneAndMemoryTests :
    (portAtRest wTr 23 = true ∧ WriteReady wTr 0 0x5035 3 (numFor 0x5035 3 1) 1 [] ∧ portAtRest wPtSer 23 = true ∧ WriteReady wPtSer 0 0x5035 3 (numFor 0x5035 3 2) 2 [] ∧ wPtSer.test.ser[5].running = true ∧ wPtSer.test.ser[5].locked = false ∧ wLocked.test.ser[5].locked = true) ∧
    (wPtSer.test.ser[5].running = true ∧ (val wPtSer (odKey 0x5035 2)).testBit 1 = true ∧ State.reset.test.ser[0].running = false ∧ State.reset.test.ser[0].locked = false ∧ wLocked.test.ser[5].locked = true) ∧
    (WriteReady wTr 0 0x5040 2 (numFor 0x5040 2 1) 1 [] ∧ WriteReady wStop 0 0x5040 2 (numFor 0x5040 2 1) 1 [] ∧ chanAt wTr (val wTr (odKey 0x5040 1)) = .running ∧ chanAt wStop (val wStop (odKey 0x5040 1)) = .stopped ∧ wLoop.lf.loopback = true ∧ State.reset.lf.loopback = false) ∧
    (WriteReady wTr 0 0x5041 1 (numFor 0x5041 1 1) 1 [] ∧ wTr.uwb.st = .running ∧ WriteReady wStop 0 0x5041 1 (numFor 0x5041 1 1) 1 [] ∧ wStop.uwb.st = .stopped ∧ State.reset.uwb.loopback = false ∧ ({ State.reset with uwb := { State.reset.uwb with loopback := true } }).uwb.loopback = true) ∧
    (WriteReady wTr 0 0x5042 1 (numFor 0x5042 1 1) 1 [] ∧ (∃ u : State, u.nfc.st = .stopped ∧ u.nfc.field = false ∧ WriteReady u 0 0x5042 1 (numFor 0x5042 1 1) 1 [] ∧ u.test.nfc = false) ∧ ({ State.reset with test := { nfc := true } }).test.nfc = true) ∧
    (WriteReady wTr 0 0x5050 2 (numFor 0x5050 2 1) 1 [] ∧ State.reset.test.bist = none ∧ (wBist 0x40).test.bist = some 0x40 ∧ (wBist 0x13).test.bist = some 0x13 ∧ (pairAt (wBist 0x13) 3).st = .retired ∧ bistAllowed (wBist 0x13) 0x13 = true ∧ bistAllowed wTr 0x10 = false ∧ (wBist 0x2B).test.bist = some 0x2B ∧ (wBist 0x3D).test.bist = some 0x3D) ∧
    (bistAllowed (wBist 0x13) 0x13 = true ∧ bistAllowed State.reset 0x40 = true ∧ bistAllowed wTr 0x10 = false ∧ bistAllowed State.reset 0x3E = false) ∧
    (∃ u v : State, WriteReady u 0 0x5051 1 (numFor 0x5051 1 1) 1 [] ∧ serviceOnly u = true ∧ WriteReady v 0 0x5051 1 (numFor 0x5051 1 1) 1 [] ∧ serviceOnly v = false) := by
  refine ⟨?_, ?_, ?_, ?_, ?_, ?_, ?_, ?_⟩
  · exact ⟨by decide +kernel, ready_of (by decide +kernel), by decide +kernel, ready_of (by decide +kernel), by decide +kernel, by decide +kernel, by decide +kernel⟩
  · decide +kernel
  · exact ⟨ready_of (by decide +kernel), ready_of (by decide +kernel), by decide +kernel, by decide +kernel, by decide +kernel, by decide +kernel⟩
  · exact ⟨ready_of (by decide +kernel), rfl, ready_of (by decide +kernel), rfl, by decide +kernel, rfl⟩
  · exact ⟨ready_of (by decide +kernel), ⟨{ wTr with nfc := { wTr.nfc with st := .stopped, field := false } }, rfl, rfl, ready_of (by decide +kernel), rfl⟩, rfl⟩
  · exact ⟨ready_of (by decide +kernel), by decide +kernel, by decide +kernel, by decide +kernel, by decide +kernel, by decide +kernel, by decide +kernel, by decide +kernel, by decide +kernel⟩
  · decide +kernel
  · exact ⟨wRole .vendor, { wRole .vendor with comb := { (wRole .vendor).comb with active := some (wC 100) } }, ready_of (by decide +kernel), by decide +kernel, ready_of (by decide +kernel), by decide +kernel⟩

/-- The hypotheses of DebugPort are met. -/
theorem witness_DebugPort :
    (debugReaches wDbg .keeper = true ∧ debugReaches wDbg (.wp 15) = true ∧ (coreOf .keeper wDbg).debugHalt = true ∧ debugReaches State.reset .keeper = false ∧ State.reset.lc.debugOpen = false) ∧
    (tapOpen wDbg = true ∧ serviceOnly wDbg = true ∧ tapOpen State.reset = false ∧ ∃ u : State, tapOpen u = true ∧ serviceOnly u = false) := by
  refine ⟨?_, ?_⟩
  · decide +kernel
  · exact ⟨by decide +kernel, by decide +kernel, by decide +kernel, { wDbg with comb := { wDbg.comb with active := some (wC 100) } }, by decide +kernel, by decide +kernel⟩

end Sys2Proof.Tests
end

section
/-! What a read of the signal store gives (R110): the value as stored, and the tag as the age clock makes it. -/

namespace Sys2Proof.Machine

/-! ### When an entry is stale -/

/-- The model's difference modulo 2^18, kept above zero in the naturals, is the rule's (EXPIRY - now) mod 2^18. -/
theorem natSubMod_eq_intSubMod (expiry now : Nat) :
    (((expiry + 2 ^ 18 - now % 2 ^ 18) % 2 ^ 18 : Nat) : Int) = ((expiry : Int) - now) % 262144 := by
  omega

/-- R110's two conditions, in the rule's own arithmetic. -/
theorem sigStale_iff (s : State) (e : BitVec 64) :
    sigStale s e = true ↔ sigExp e = true ∨ (sigNoAge e = false ∧
      ¬(1 ≤ ((sigExpiry e : Int) - s.sig.age) % 262144 ∧ ((sigExpiry e : Int) - s.sig.age) % 262144 ≤ 65535)) := by
  rw [← natSubMod_eq_intSubMod]
  have range (d : Nat) : (1 ≤ (d : Int) ∧ (d : Int) ≤ 65535) ↔ (1 ≤ d ∧ d ≤ 65535) := by omega
  rw [range]
  simp only [sigStale, Bool.or_eq_true, Bool.and_eq_true, Bool.not_eq_true', ← Bool.decide_and, decide_eq_false_iff_not]

/-! ### What a read gives -/

/-- A read never changes the value. -/
@[simp] theorem sigRead_val (s : State) (i : Nat) : (sigRead s i).val = sigValue (sigRaw s i) := rfl

/-- The tags VOID, STALE and FAULT read as they stand, whatever the entry's age. -/
theorem sigRead_tag_of_special {s : State} {i : Nat} (h : sigTag (sigRaw s i) ∈ [0, 0xE, 0xF]) :
    (sigRead s i).tag = sigTag (sigRaw s i) :=
  if_pos (by simpa only [List.mem_cons, List.not_mem_nil, or_false] using h)

/-- Any other tag reads as STALE exactly where the entry is stale. -/
theorem sigRead_tag_of_not_special {s : State} {i : Nat} (h : sigTag (sigRaw s i) ∉ [0, 0xE, 0xF]) :
    (sigRead s i).tag = if sigStale s (sigRaw s i) = true then 0xE else sigTag (sigRaw s i) :=
  if_neg (by simpa only [List.mem_cons, List.not_mem_nil, or_false] using h)

/-- Settles O12: an entry whose tag is none of VOID, STALE and FAULT by R110's conditions, read off `sigStale`; an entry with
one of the three by its own tag. -/
theorem signalReads : Obligations.SignalReads := by
  refine ⟨fun s i h => ?_, fun s i h => sigRead_tag_of_special h⟩
  simp only [← sigStale_iff]
  refine ⟨sigRead_val s i, fun stale => ?_, fun fresh => ?_⟩
  · rw [sigRead_tag_of_not_special h, if_pos stale]
  · rw [sigRead_tag_of_not_special h, if_neg fresh]

end Sys2Proof.Machine
end

section
/-! MKP, LDP and STP (R215, R216), over the rules they share with other instructions: the core a command names, the issue of an
instruction on a quiet core, and loads and stores in a core's own memory. -/

namespace Sys2Proof.Machine

/-! ### The core a command names -/

/-- A changed core reads as changed. -/
@[simp] theorem coreOf_modCore (c : CoreId) (f : PfCore → PfCore) (s : State) :
    coreOf c (modCore c f s) = f (coreOf c s) := by
  cases c with
  | wp p => simp only [coreOf, modCore, vmod, Fin.is_lt, ↓reduceDIte, Fin.getElem_fin, Vector.getElem_set_self]
  | keeper | vault | access => rfl

/-- Two changes of a core are one. -/
@[simp] theorem modCore_modCore (c : CoreId) (f g : PfCore → PfCore) (s : State) :
    modCore c g (modCore c f s) = modCore c (fun k => g (f k)) s := by
  cases c with
  | wp p => simp only [modCore, vmod, Fin.is_lt, ↓reduceDIte, Vector.getElem_set_self, Vector.set_set]
  | keeper | vault | access => rfl

/-- A change of a core is decided by what it makes of the core as it stands. -/
theorem modCore_congr {c : CoreId} {f g : PfCore → PfCore} {s : State} (h : f (coreOf c s) = g (coreOf c s)) :
    modCore c f s = modCore c g s := by
  cases c with
  | wp p =>
    have h : f s.wp[p.val] = g s.wp[p.val] := h
    simp only [modCore, vmod, Fin.is_lt, ↓reduceDIte, h]
  | keeper | vault | access =>
    simp only [coreOf] at h
    simp only [modCore, h]

/-- A change that leaves the core as it stands changes nothing. -/
theorem modCore_eq_self {c : CoreId} {f : PfCore → PfCore} {s : State} (h : f (coreOf c s) = coreOf c s) :
    modCore c f s = s := by
  rw [modCore_congr (g := fun k => k) h]
  cases c with
  | wp p => simp only [modCore, vmod, Fin.is_lt, ↓reduceDIte, Vector.set_getElem_self]
  | keeper | vault | access => rfl

@[simp] theorem pairAt_modCore (c : CoreId) (f : PfCore → PfCore) (s : State) (p : Nat) :
    pairAt (modCore c f s) p = pairAt s p := by cases c <;> rfl

@[simp] theorem colAt_modCore (c : CoreId) (f : PfCore → PfCore) (s : State) (n : Nat) :
    colAt (modCore c f s) n = colAt s n := by cases c <;> rfl

@[simp] theorem modCore_pairs (c : CoreId) (f : PfCore → PfCore) (s : State) : (modCore c f s).pairs = s.pairs := by
  cases c <;> rfl

/-- A change of one core concludes as it stands: the queue is not its own. -/
@[simp] theorem conclude_modCore (c : CoreId) (f : PfCore → PfCore) (s : State) :
    conclude s (modCore c f s) = .next (modCore c f s) := by cases c <;> rfl

@[simp] theorem conclude_modCore_withPairs (c : CoreId) (f : PfCore → PfCore) (s : State) (q : Vector PairSt 16) :
    conclude s { modCore c f s with pairs := q } = .next { modCore c f s with pairs := q } := by cases c <;> rfl

/-- The pairs' bookkeeping is no part of a core. -/
@[simp] theorem coreOf_withPairs (c : CoreId) (s : State) (q : Vector PairSt 16) :
    coreOf c { s with pairs := q } = coreOf c s := by cases c <;> rfl

theorem modCore_withPairs (c : CoreId) (f : PfCore → PfCore) (s : State) (q : Vector PairSt 16) :
    modCore c f { s with pairs := q } = { modCore c f s with pairs := q } := by cases c <;> rfl

/-! ### The issue of an instruction on a quiet core -/

/-- The core has begun to issue: a WAIT is over and the debug port's step is used up. -/
def PfCore.entered (k : PfCore) : PfCore := { k with debugStep := false, waiting := false }

@[simp] theorem entered_g (k : PfCore) : k.entered.g = k.g := rfl
@[simp] theorem entered_status (k : PfCore) : k.entered.status = k.status := rfl
@[simp] theorem entered_cyc (k : PfCore) : k.entered.cyc = k.cyc := rfl
@[simp] theorem entered_pc (k : PfCore) : k.entered.pc = k.pc := rfl
@[simp] theorem entered_prevLoad (k : PfCore) : k.entered.prevLoad = k.prevLoad := rfl
@[simp] theorem entered_slotTarget (k : PfCore) : k.entered.slotTarget = k.slotTarget := rfl
@[simp] theorem entered_rep (k : PfCore) : k.entered.rep = k.rep := rfl
@[simp] theorem entered_loadDelay (k : PfCore) : k.entered.loadDelay = k.loadDelay := rfl
@[simp] theorem entered_word (k : PfCore) (a : Nat) : k.entered.word a = k.word a := rfl

/-- With nothing in flight nothing lands. -/
theorem settle_of_pend_nil {k : PfCore} (h : k.pend = []) : k.settle = k := by
  cases k
  subst h
  rfl

/-- With nothing in flight and the divide unit free an instruction issues in the cycle in progress. -/
theorem readyAt_of_idle {k : PfCore} (reads : List (Fin 32)) (acc : Option (Fin 2)) (divides : Bool)
    (pend : k.pend = []) (div : ∀ d, k.lastDiv = some d → d + 12 ≤ k.cyc) : k.readyAt reads acc divides = k.cyc := by
  unfold PfCore.readyAt
  simp only [pend, List.filter_nil, List.map_nil, List.foldl_nil, ite_eq_right_iff]
  intro _ _
  cases last : k.lastDiv with
  | none => rfl
  | some d => exact Nat.max_eq_left (div d last)

/-- On a worker the whole snapshot of the window in progress has landed (R244). -/
def SnapshotLanded (c : CoreId) (s : State) : Prop :=
  ∀ p, c = .wp p → ∃ r, (pairAt s p).run = some r ∧ r.landed = (colAt s r.col).snap.length ∧
    r.landed ≤ 8 * ((coreOf c s).cyc - r.base)

/-- A core that has begun to issue is in the same cycle of its window. -/
theorem SnapshotLanded.entered {c : CoreId} {s : State} (h : SnapshotLanded c s) :
    SnapshotLanded c (modCore c PfCore.entered s) := by
  intro p hp
  simpa only [pairAt_modCore, colAt_modCore, coreOf_modCore, entered_cyc] using h p hp

/-- A pair's change that leaves the pair as it stands changes nothing. -/
theorem modPair_eq_self {p : Fin 16} {f : PairSt → PairSt} {s : State} (h : f (pairAt s p) = pairAt s p) :
    modPair p f s = s := by
  have h : f s.pairs[p.val] = s.pairs[p.val] := by
    simpa only [pairAt, Fin.is_lt, getElem?_pos, Option.getD_some] using h
  simp only [modPair, vmod, Fin.is_lt, ↓reduceDIte, h, Vector.set_getElem_self]

/-- A reservation stays where no word is written. -/
theorem loseReservation_none (c : CoreId) (s : State) : loseReservation c (fun _ => false) s = s := by
  refine modCore_eq_self ?_
  split
  · exact if_neg Bool.false_ne_true
  · rfl

/-- A snapshot that has landed lands no more. -/
theorem landSnapshot_of_landed {c : CoreId} {s : State} (h : SnapshotLanded c s) : landSnapshot c s = s := by
  cases c with
  | wp p =>
    obtain ⟨r, run, landed, time⟩ := h p rfl
    have time : r.landed ≤ 8 * ((s.wp[p]).cyc - r.base) := time
    have all : min (8 * ((s.wp[p]).cyc - r.base)) (colAt s r.col).snap.length = r.landed := by omega
    simp only [landSnapshot, run, all, Nat.sub_self, List.take_zero, List.filter_nil, List.foldl_nil, List.any_nil,
      loseReservation_none]
    rw [modCore_eq_self rfl, modPair_eq_self (by rw [← run])]
  | keeper | vault | access => rfl

theorem Quiet.canIssue {c : CoreId} {s : State} {w : Word} (h : Quiet c s w) : canIssue c s = true := h.1

/-- What a quiet core has under way: no write, REP, delay slot or load shadow. -/
theorem Quiet.idle {c : CoreId} {s : State} {w : Word} (h : Quiet c s w) :
    (coreOf c s).pend = [] ∧ (coreOf c s).rep = none ∧ (coreOf c s).slotTarget = none ∧
      (coreOf c s).prevLoad = none ∧ (coreOf c s).repWord = none := by
  obtain ⟨_, pend, rep, slot, prev, repWord, _⟩ := h
  exact ⟨pend, rep, slot, prev, repWord⟩

theorem Quiet.offers {c : CoreId} {s : State} {w : Word} (h : Quiet c s w) : (coreOf c s).offers w := by
  obtain ⟨_, _, _, _, _, _, offers, _⟩ := h
  exact offers

theorem Quiet.pf11 {c : CoreId} {s : State} {w : Word} (h : Quiet c s w) : 0x11 ≤ (coreOf c s).isalvl.toNat := by
  obtain ⟨_, _, _, _, _, _, _, level, _⟩ := h
  exact level

theorem Quiet.divider {c : CoreId} {s : State} {w : Word} (h : Quiet c s w) :
    ∀ d, (coreOf c s).lastDiv = some d → d + 12 ≤ (coreOf c s).cyc := by
  obtain ⟨_, _, _, _, _, _, _, _, divider, _⟩ := h
  exact divider

theorem Quiet.landed {c : CoreId} {s : State} {w : Word} (h : Quiet c s w) : SnapshotLanded c s := by
  obtain ⟨_, _, _, _, _, _, _, _, _, landed⟩ := h
  exact landed

/-- What stands before a quiet core's issue: nothing waits and nothing lands. -/
theorem settleCore_of_quiet {c : CoreId} {i : Ins} {s : State} (h : Quiet c s i.word) :
    settleCore c (modCore c (fun k => { k with debugStep := false, waiting := false, cyc := k.readyAt i.reads i.accRead i.divides }) s) =
      modCore c PfCore.entered s := by
  obtain ⟨pend, -⟩ := h.idle
  have ready := readyAt_of_idle i.reads i.accRead i.divides pend h.divider
  have begun : modCore c (fun k => { k with debugStep := false, waiting := false, cyc := k.readyAt i.reads i.accRead i.divides }) s =
      modCore c PfCore.entered s := modCore_congr (by simp only [ready]; rfl)
  have settled : modCore c PfCore.settle (modCore c PfCore.entered s) = modCore c PfCore.entered s :=
    modCore_eq_self (by rw [coreOf_modCore]; exact settle_of_pend_nil pend)
  rw [settleCore, begun, settled, landSnapshot_of_landed h.landed.entered]

/-- An instruction issued by a quiet core: the checks before it, then its own body, then its end. -/
theorem issue_of_quiet {c : CoreId} {i : Ins} {s : State} (h : Quiet c s i.word) :
    issue c i s = match issueTrap (coreOf c s).entered i with
      | some t => takeTrap c t (coreOf c s).pc (modCore c PfCore.entered s)
      | none => match i.body (modCore c PfCore.entered s) with
        | .error t => takeTrap c (i.report (coreOf c s).entered t) (coreOf c s).pc (modCore c PfCore.entered s)
        | .ok d => match d.trap with
          | some t => takeTrap c t (coreOf c s).pc d.s
          | none => advance c d := by
  obtain ⟨-, rep, -, prev, -⟩ := h.idle
  obtain ⟨-, -, fetches, -⟩ := h.offers
  have shadow : modCore c (fun k => { k with prevLoad := none }) (modCore c PfCore.entered s) = modCore c PfCore.entered s :=
    modCore_eq_self (by rw [coreOf_modCore]; simp only [PfCore.entered, prev])
  have go : (!canIssue c s || !((coreOf c s).fetches i.word || (coreOf c s).codeAt.any reservedWord)) = false := by
    simp only [h.canIssue, fetches, Bool.true_or, Bool.not_true, Bool.or_false]
  simp only [issue, go, Bool.false_eq_true, ↓reduceIte, settleCore_of_quiet h, coreOf_modCore, shadow]
  cases issueTrap (coreOf c s).entered i with
  | some t => rfl
  | none =>
    cases i.body (modCore c PfCore.entered s) with
    | error t => rfl
    | ok d =>
      cases htrap : d.trap with
      | some t => simp only [htrap, entered_pc]
      | none => simp only [htrap, entered_rep, rep]

/-- The checks before an instruction that a quiet core's memory offers: only its own encoding, its mode and its privilege are left
to fail (R220, R221). -/
theorem issueTrap_of_quiet {c : CoreId} {i : Ins} {s : State} (h : Quiet c s i.word) :
    issueTrap (coreOf c s).entered i =
      if i.bad || (i.ldOnly && !(coreOf c s).loadDelay) || (i.exOnly && (coreOf c s).loadDelay) then
        some ⟨0x0B, (coreOf c s).codeAt.getD i.word⟩
      else if i.priv && (coreOf c s).user then some ⟨0x0A, 0⟩ else none := by
  obtain ⟨good, inside, -, spelled⟩ := h.offers
  obtain ⟨-, rep, slot, -⟩ := h.idle
  have good : (coreOf c s).entered.badCode.contains (coreOf c s).entered.pc = false := good
  have inside : ¬ ((coreOf c s).entered.imem ≠ 0 ∧ (coreOf c s).entered.imem ≤ (coreOf c s).entered.pc ∧
      (coreOf c s).entered.codeAt.isNone = true) := by
    rintro ⟨sized, past, unlisted⟩
    rcases inside with zero | below | listed
    · exact sized zero
    · exact absurd past (Nat.not_le.mpr below)
    · exact absurd (Option.isNone_iff_eq_none.mp unlisted) (Option.isSome_iff_ne_none.mp listed)
  have spelled : (coreOf c s).entered.codeAt.any reservedWord = false := spelled
  have rep : (coreOf c s).entered.rep = none := rep
  have slot : (coreOf c s).entered.slotTarget = none := slot
  have level : decide ((coreOf c s).entered.isalvl.toNat < 0x11) = false := decide_eq_false (Nat.not_lt.mpr h.pf11)
  simp only [issueTrap, good, inside, spelled, rep, slot, level, Option.isSome_none, Bool.false_and, Bool.and_false, Bool.or_false,
    Bool.false_eq_true, ↓reduceIte]
  rfl

/-- A trap of a quiet core is all that its instruction does (R235, R236, R238). -/
theorem traps_of_takeTrap {c : CoreId} {s : State} {w : Word} {t : PfTrap} {i : Instr} (h : Quiet c s w)
    (meaning : exec i s = conclude s (takeTrap c t (coreOf c s).pc (modCore c PfCore.entered s))) : Traps c s t i := by
  obtain ⟨-, rep, slot, prev, repWord⟩ := h.idle
  refine ⟨fun ld exl => ?_, fun ld exl => ?_, fun ex => ?_⟩ <;> rw [meaning]
  · have handler : takeTrap c t (coreOf c s).pc (modCore c PfCore.entered s) = modCore c (·.trapped t) s := by
      simp only [takeTrap, coreOf_modCore, entered_loadDelay, entered_status, entered_prevLoad, ld, exl, prev,
        Bool.not_true, Bool.false_eq_true, ↓reduceIte, modCore_modCore]
      exact modCore_congr (by simp only [PfCore.trapped, PfCore.entered, rep, slot, repWord])
    rw [handler, conclude_modCore]
  · simp only [takeTrap, coreOf_modCore, entered_loadDelay, entered_status, ld, exl, Bool.not_true, Bool.false_eq_true,
      ↓reduceIte, modCore_modCore]
    rfl
  · simp only [takeTrap, coreOf_modCore, entered_loadDelay, ex, Bool.not_false, ↓reduceIte, modCore_modCore]
    cases c with
    | wp p => exact congrArg (fun u => conclude s (runTrapped p u)) (modCore_congr rfl)
    | keeper | vault | access => exact congrArg (conclude s) (modCore_congr rfl)

/-- An instruction of either mode and any privilege, its encoding being good. -/
def Ins.Plain (i : Ins) : Prop := i.bad = false ∧ i.ldOnly = false ∧ i.exOnly = false ∧ i.priv = false

/-- No check before a plain instruction fails. -/
theorem issueTrap_of_plain {c : CoreId} {i : Ins} {s : State} (h : Quiet c s i.word) (plain : i.Plain) :
    issueTrap (coreOf c s).entered i = none := by
  obtain ⟨bad, ldOnly, exOnly, priv⟩ := plain
  simp only [issueTrap_of_quiet h, bad, ldOnly, exOnly, priv, Bool.false_and, Bool.or_self, Bool.false_eq_true, ↓reduceIte]

/-- A field that must be 0 and is not makes the instruction illegal (R221). -/
theorem traps_of_bad {c : CoreId} {i : Ins} {s : State} {x : Instr} (meaning : exec x s = conclude s (issue c i s))
    (h : Quiet c s i.word) (bad : i.bad = true) : Traps c s ⟨0x0B, (coreOf c s).codeAt.getD i.word⟩ x := by
  refine traps_of_takeTrap h ?_
  rw [meaning, issue_of_quiet h, issueTrap_of_quiet h]
  simp only [bad, Bool.true_or, ↓reduceIte]

/-- A trap of a plain instruction's body, other than 0x0B, is the core's as it stands. -/
theorem traps_of_body {c : CoreId} {i : Ins} {s : State} {x : Instr} {t : PfTrap} (meaning : exec x s = conclude s (issue c i s))
    (h : Quiet c s i.word) (plain : i.Plain) (body : i.body (modCore c PfCore.entered s) = .error t) (code : t.code ≠ 0x0B) :
    Traps c s t x := by
  refine traps_of_takeTrap h ?_
  have report : i.report (coreOf c s).entered t = t := if_neg code
  rw [meaning, issue_of_quiet h, issueTrap_of_plain h plain]
  simp only [body, report]

/-- A core after an instruction of one cycle that leads to the next, with no delay slot and no REP under way. -/
def PfCore.advanced (k : PfCore) : PfCore :=
  { k with cyc := k.cyc + 1, pc := (k.pc + 1) % 2 ^ 32, slotTarget := none, rep := none, repWord := none }

/-- The end of such an instruction. -/
theorem advance_seq {c : CoreId} {s : State} (slot : (coreOf c s).slotTarget = none) :
    advance c { s := s } = modCore c PfCore.advanced s := by
  simp only [advance, modCore_modCore, coreOf_modCore, slot]
  exact modCore_congr rfl

/-- A plain instruction whose body ends in the state `u` and leads to the next. -/
theorem exec_of_body {c : CoreId} {i : Ins} {s u : State} {x : Instr} (meaning : exec x s = conclude s (issue c i s))
    (h : Quiet c s i.word) (plain : i.Plain) (body : i.body (modCore c PfCore.entered s) = .ok { s := u })
    (slot : (coreOf c u).slotTarget = none) :
    exec x s = conclude s (modCore c PfCore.advanced u) := by
  rw [meaning, issue_of_quiet h, issueTrap_of_plain h plain]
  simp only [body, advance_seq slot]

/-- The same where the body changes its core alone, by `f`. -/
theorem exec_of_core_body {c : CoreId} {i : Ins} {s : State} {x : Instr} {f g : PfCore → PfCore}
    (meaning : exec x s = conclude s (issue c i s)) (h : Quiet c s i.word) (plain : i.Plain)
    (body : i.body (modCore c PfCore.entered s) = .ok { s := modCore c f (modCore c PfCore.entered s) })
    (slot : (f (coreOf c s).entered).slotTarget = none)
    (result : (f (coreOf c s).entered).advanced = g (coreOf c s)) :
    exec x s = .next (modCore c g s) := by
  rw [exec_of_body meaning h plain body (by simpa only [coreOf_modCore] using slot), modCore_modCore, modCore_modCore,
    conclude_modCore]
  exact congrArg _ (modCore_congr result)

/-- An instruction whose body writes one result gives that result. -/
theorem gives_of_writeResult {c : CoreId} {i : Ins} {s : State} {x : Instr} {rd : Fin 32} {ex ld : Nat} {r : Except PfTrap PfVal}
    (meaning : exec x s = conclude s (issue c i s)) (plain : i.Plain)
    (body : i.body (modCore c PfCore.entered s) = writeResult c rd ex ld r (modCore c PfCore.entered s)) :
    Gives c s i.word rd ex ld r x := by
  intro h
  obtain ⟨pend, rep, slot, prev, repWord⟩ := h.idle
  refine ⟨fun v hv => ?_, fun t ht => ?_⟩
  · subst hv
    refine exec_of_core_body meaning h plain body slot ?_
    simp only [PfCore.write, PfCore.after, PfCore.moved, PfCore.advanced, PfCore.entered, insertPending, pend, rep, slot, prev,
      repWord]
    rfl
  · subst ht
    exact traps_of_body meaning h plain body

/-! ### The core's own data memory -/

/-- A load from a core's own memory reads its word and touches nothing else. -/
theorem loadWord_own {c : CoreId} {a : Nat} (own : OwnWord c a) (s : State) : loadWord c a s = ((coreOf c s).word a, s) := by
  cases c with
  | keeper => exact if_pos own
  | wp p => exact congrArg (·, s) (if_pos own)
  | vault | access => rfl

/-- A core's own memory is fast. -/
theorem slowData_own {c : CoreId} {a : Nat} (own : OwnWord c a) (s : State) : slowData c a s = (0, s) := by
  cases c with
  | keeper =>
    have own : a < 0x80000 := own
    exact if_neg (by omega)
  | wp p | vault | access => rfl

/-- Such a load puts the word on its way to `rd`. -/
theorem loadInto_own {c : CoreId} {a : Nat} (own : OwnWord c a) (rd : Fin 32) (s : State) :
    loadInto c rd false (.ok a) s =
      .ok { s := modCore c (fun k => k.writeLoad rd ((coreOf c s).word a) 0 k.rep.isNone) s } := by
  simp only [loadInto, loadWord_own own, slowData_own own]
  rfl

/-- A word of a core's memory after a store to one of them. -/
theorem word_putWord (k : PfCore) (a b : Nat) (w : PfWord) : (k.putWord a w).word b = if b = a then w else k.word b := by
  unfold PfCore.word PfCore.putWord
  by_cases void : w = {}
  · simp only [void, ↓reduceIte, mapGet_mapDel, eq_comm (a := b)]
    split <;> rfl
  · simp only [void, ↓reduceIte, mapGet_mapPut, eq_comm (a := b)]
    split <;> rfl

/-- A plain load from a quiet core's own memory: the word is on its way to `rd`. -/
theorem exec_load_own {c : CoreId} {i : Ins} {s : State} {x : Instr} {rd : Fin 32} {a : Nat}
    (meaning : exec x s = conclude s (issue c i s)) (h : Quiet c s i.word) (plain : i.Plain) (own : OwnWord c a)
    (body : i.body (modCore c PfCore.entered s) = loadInto c rd false (.ok a) (modCore c PfCore.entered s)) :
    exec x s = .next (modCore c (·.loading rd ((coreOf c s).word a) 0 true) s) := by
  obtain ⟨pend, rep, slot, prev, repWord⟩ := h.idle
  rw [loadInto_own own, coreOf_modCore, entered_word] at body
  refine exec_of_core_body meaning h plain body slot ?_
  cases ld : (coreOf c s).loadDelay <;>
    simp only [PfCore.writeLoad, PfCore.loadResult, PfCore.loading, entered_loadDelay, ld, Bool.false_eq_true, ↓reduceIte,
      Nat.add_zero] <;>
    simp only [PfCore.moved, PfCore.advanced, PfCore.entered, insertPending, pend, rep, slot, repWord, prev, Option.isNone_none]

/-- The snapshot engine and a store never meet once the snapshot has landed. -/
theorem meet_of_landed {c : CoreId} {s : State} (h : SnapshotLanded c s) (a : Nat) : meet c a s = (false, s) := by
  have apart : meetingWord c a s = none := by
    cases c with
    | wp p =>
      obtain ⟨r, run, landed, time⟩ := h p rfl
      have time : r.landed ≤ 8 * ((s.wp[p]).cyc - r.base) := time
      simp only [meetingWord, run, Option.bind_some, List.findSome?_eq_none_iff]
      intro j _
      rw [List.getElem?_eq_none (by omega)]
    | keeper | vault | access => rfl
  simp only [meet, apart]

/-- A store to a core's own memory changes the word, and beside the core at most a worker's output staging. -/
theorem storeWord_own {c : CoreId} {a : Nat} (own : OwnWord c a) (w : PfWord) (s : State) :
    ∃ q, storeWord c a w s = { modCore c (·.putWord a w) s with pairs := q } ∧ ((∀ p, c ≠ .wp p) → q = s.pairs) := by
  cases c with
  | keeper => exact ⟨s.pairs, if_pos own, fun _ => rfl⟩
  | vault | access => exact ⟨s.pairs, rfl, fun _ => rfl⟩
  | wp p =>
    refine ⟨(storeWord (.wp p) a w s).pairs, ?_, fun no => absurd rfl (no p)⟩
    have own : a < 32768 := own
    simp only [storeWord, own, ↓reduceIte]
    split
    · split <;> rfl
    · rfl

/-- A core after a store of its own to word `a`: the word, and the reservation on it (R232). -/
def PfCore.stored (k : PfCore) (a : Nat) (w : PfWord) : PfCore :=
  { k with mem := (k.putWord a w).mem, resv := if k.resv.map (·.1) = some a then none else k.resv }

@[simp] theorem stored_slotTarget (k : PfCore) (a : Nat) (w : PfWord) : (k.stored a w).slotTarget = k.slotTarget := rfl

theorem stored_word (k : PfCore) (a b : Nat) (w : PfWord) : (k.stored a w).word b = if b = a then w else k.word b :=
  word_putWord k a b w

/-- A store of the core itself to its own memory. -/
theorem storeOwn_own {c : CoreId} {a : Nat} {s : State} (own : OwnWord c a) (h : SnapshotLanded c s) (w : PfWord) :
    ∃ q, storeOwn c a w s = { modCore c (·.stored a w) s with pairs := q } ∧ ((∀ p, c ≠ .wp p) → q = s.pairs) := by
  obtain ⟨q, word, pairs⟩ := storeWord_own own w s
  refine ⟨q, ?_, pairs⟩
  rw [storeOwn, meet_of_landed h, word, modCore_withPairs, modCore_modCore]
  refine congrArg (fun t : State => { t with pairs := q }) (modCore_congr ?_)
  by_cases held : (coreOf c s).resv.map (·.1) = some a
  · exact (if_pos held).trans (congrArg (fun r => { (coreOf c s).putWord a w with resv := r }) (if_pos held).symm)
  · exact (if_neg held).trans (congrArg (fun r => { (coreOf c s).putWord a w with resv := r }) (if_neg held).symm)

/-- Where a core has stored and moved on, and of the rest at most a worker's pair has changed, the store is all there is. -/
theorem stored_modCore {c : CoreId} {a : Nat} {w : PfWord} {s : State} {q : Vector PairSt 16} {f : PfCore → PfCore}
    (core : f (coreOf c s) = (coreOf c s).moved.stored a w) (pairs : (∀ p, c ≠ .wp p) → q = s.pairs) :
    Stored c a w s { modCore c f s with pairs := q } := by
  have after : coreOf c { modCore c f s with pairs := q } = (coreOf c s).moved.stored a w := by
    rw [coreOf_withPairs, coreOf_modCore, core]
  refine ⟨fun b => ?_, ?_, ?_, pairs⟩ <;> rw [after]
  · exact stored_word ..
  · rfl
  · rw [modCore_congr (f := f) (g := fun _ => (coreOf c s).moved.stored a w) core]

/-- A register that is not VOID is stored. -/
theorem storeFrom_full {c : CoreId} {rd : Fin 32} {s : State} (full : (coreOf c s).g[rd].tag ≠ tVoid) (whole : Bool) (a : Nat) :
    storeFrom c rd whole (.ok a) s = .ok { s := storeOwn c a (coreOf c s).g[rd] s } := by
  simp only [storeFrom, beq_false_of_ne full, Bool.false_and, Bool.false_eq_true, ↓reduceIte]

/-- A VOID register traps (R204). -/
theorem storeFrom_void {c : CoreId} {rd : Fin 32} {s : State} (void : (coreOf c s).g[rd].tag = tVoid) (a : Nat) :
    storeFrom c rd false (.ok a) s = .error ⟨0x01, 0⟩ := by
  simp only [storeFrom, void, beq_self_eq_true, Bool.not_false, Bool.and_self, ↓reduceIte, trap]

/-- A plain store from `rd` to a quiet core's own memory stores the register's word. -/
theorem completes_store_own {c : CoreId} {i : Ins} {s : State} {x : Instr} {rd : Fin 32} {a : Nat}
    (meaning : exec x s = conclude s (issue c i s)) (h : Quiet c s i.word) (plain : i.Plain) (own : OwnWord c a)
    (body : i.body (modCore c PfCore.entered s) = storeFrom c rd false (.ok a) (modCore c PfCore.entered s))
    (full : (coreOf c s).g[rd].tag ≠ tVoid) : Completes x s (Stored c a (coreOf c s).g[rd] s) := by
  obtain ⟨-, rep, slot, prev, repWord⟩ := h.idle
  obtain ⟨q, stored, pairs⟩ := storeOwn_own own h.landed.entered (coreOf c s).g[rd]
  have full' : (coreOf c (modCore c PfCore.entered s)).g[rd].tag ≠ tVoid := by rwa [coreOf_modCore]
  rw [storeFrom_full full', coreOf_modCore, entered_g, stored, modCore_modCore] at body
  have slot' : (coreOf c { modCore c (fun k => k.entered.stored a (coreOf c s).g[rd]) s with pairs := q }).slotTarget = none := by
    rw [coreOf_withPairs, coreOf_modCore, stored_slotTarget, entered_slotTarget, slot]
  refine ⟨_, by rw [exec_of_body meaning h plain body slot', modCore_withPairs, modCore_modCore, conclude_modCore_withPairs],
    stored_modCore ?_ fun no => (pairs no).trans (modCore_pairs ..)⟩
  simp only [PfCore.moved, PfCore.stored, PfCore.putWord, PfCore.advanced, PfCore.entered, rep, slot, prev, repWord]

/-- A plain store of a VOID register is its trap. -/
theorem traps_store_void {c : CoreId} {i : Ins} {s : State} {x : Instr} {rd : Fin 32} {a : Nat}
    (meaning : exec x s = conclude s (issue c i s)) (h : Quiet c s i.word) (plain : i.Plain)
    (body : i.body (modCore c PfCore.entered s) = storeFrom c rd false (.ok a) (modCore c PfCore.entered s))
    (void : (coreOf c s).g[rd].tag = tVoid) : Traps c s ⟨0x01, 0⟩ x := by
  have void' : (coreOf c (modCore c PfCore.entered s)).g[rd].tag = tVoid := by rwa [coreOf_modCore]
  exact traps_of_body meaning h plain (body.trans (storeFrom_void void' a)) (by decide : (0x01 : Nat) ≠ 0x0B)

/-! ### Segments (R214-R216) -/

/-- The permission bit of a descriptor that an access needs (R214). -/
def Need.granted (need : Need) (d : BitVec 64) : Bool :=
  match need with
  | .load => d.getLsbD 1
  | .store => d.getLsbD 2
  | .atomic => d.getLsbD 4

/-- The checks of R215, in their order. -/
theorem segCheck_eq (k : PfCore) (sg : Fin 16) (need : Need) (off : Int) :
    segCheck k sg need off =
      if k.sg[sg].getLsbD 0 = false then .error ⟨0x07, BitVec.ofInt 32 off⟩
      else if off < 0 ∨ (sgLimit k.sg[sg] : Int) < off then .error ⟨0x05, BitVec.ofInt 32 off⟩
      else if need.granted k.sg[sg] = false ∨ (k.user = true ∧ k.sg[sg].getLsbD 3 = false) then .error ⟨0x06, BitVec.ofInt 32 off⟩
      else .ok ((sgBase k.sg[sg] + off.toNat) % 2 ^ 32) := by
  cases need <;> simp only [segCheck, Need.granted, Fin.getElem_fin, Nat.zero_lt_succ, BitVec.getLsbD_eq_getElem, Nat.reduceLT,
    Bool.not_eq_eq_eq_not, Bool.not_true, Bool.or_eq_true, Bool.and_eq_true]

/-- The checks of R215 for an offset that is not negative. -/
theorem segCheck_natCast (k : PfCore) (sg : Fin 16) (need : Need) (o : Nat) :
    segCheck k sg need o =
      if k.sg[sg].getLsbD 0 = false then .error ⟨0x07, BitVec.ofNat 32 o⟩
      else if sgLimit k.sg[sg] < o then .error ⟨0x05, BitVec.ofNat 32 o⟩
      else if need.granted k.sg[sg] = false ∨ (k.user = true ∧ k.sg[sg].getLsbD 3 = false) then .error ⟨0x06, BitVec.ofNat 32 o⟩
      else .ok ((sgBase k.sg[sg] + o) % 2 ^ 32) := by
  have range : ((o : Int) < 0 ∨ (sgLimit k.sg[sg] : Int) < o) ↔ sgLimit k.sg[sg] < o := by omega
  simp only [segCheck_eq, range, BitVec.ofInt_natCast, Int.toNat_natCast]

/-- A check of R215 that fails has one of its three codes. -/
theorem segCheck_error_code {k : PfCore} {sg : Fin 16} {need : Need} {off : Int} {t : PfTrap}
    (h : segCheck k sg need off = .error t) : t.code = 0x07 ∨ t.code = 0x05 ∨ t.code = 0x06 := by
  rw [segCheck_eq] at h
  split at h
  · cases h; exact .inl rfl
  split at h
  · cases h; exact .inr (.inl rfl)
  split at h
  · cases h; exact .inr (.inr rfl)
  · cases h

/-- An address that LDP and STP refuse is no illegal instruction. -/
theorem addressSeg_error_code {k : PfCore} {need : Need} {ra : Fin 32} {off : BitVec 12} {t : PfTrap}
    (h : addressSeg k need ra off = .error t) : t.code ≠ 0x0B := by
  simp only [addressSeg] at h
  split at h
  · cases h; decide
  split at h
  · have := segCheck_error_code h
    omega
  · cases h; decide

/-- Where LDP and STP go, by the tag of the base (R216). -/
theorem addressSeg_eq (k : PfCore) (need : Need) (ra : Fin 32) (off : BitVec 12) :
    addressSeg k need ra off =
      if k.g[ra].tag = tVoid then .error ⟨0x01, 0⟩
      else if k.g[ra].tag ≠ tSeg then .error ⟨0x03, 0⟩
      else segCheck k ⟨k.g[ra].val.toNat / 2 ^ 28 % 16, Nat.mod_lt _ (by decide)⟩ need
        ((((k.g[ra].val.toNat % 2 ^ 28 : Nat) : Int) + off.toInt).emod (2 ^ 28) |>.toNat : Nat) := by
  have number : segNo k.g[ra].val % 16 = k.g[ra].val.toNat / 2 ^ 28 % 16 := by
    simp only [segNo, bitsOf, Nat.shiftRight_eq_div_pow, Nat.reduceAdd, Nat.reduceSub, Nat.reducePow, Nat.dvd_refl,
      Nat.mod_mod_of_dvd]
  have offset : segOff k.g[ra].val = k.g[ra].val.toNat % 2 ^ 28 := by
    simp only [segOff, bitsOf, Nat.shiftRight_zero, Nat.reduceAdd, Nat.sub_zero]
  simp only [addressSeg, trap, number, offset, unsignedOf, beq_iff_eq, ne_eq, ite_not]
  rfl

/-- The beginning of an issue moves no address. -/
theorem addressSeg_entered (k : PfCore) (need : Need) (ra : Fin 32) (off : BitVec 12) :
    addressSeg k.entered need ra off = addressSeg k need ra off := rfl

/-- MKP's base (R215 step 1). -/
theorem baseOffset_eq (w : PfWord) :
    baseOffset w = if w.tag = tVoid then .error ⟨0x01, 0⟩ else if isInteger w.tag = true then .ok w.num else .error ⟨0x03, 0⟩ := by
  simp only [baseOffset, trap, beq_iff_eq]

/-! ### MKP, LDP and STP -/

/-- What MKP makes of its base, the segment number and the offset field (R216). -/
def mkpResult (w : PfWord) (sg : Fin 16) (off : BitVec 12) : Except PfTrap PfVal :=
  match baseOffset w with
  | .error t => .error t
  | .ok b => okW (segWord sg (unsignedOf 28 (b + off.toInt)))

/-- By the tag of the base: VOID traps, an integer makes the word, anything else is illegal. -/
theorem mkpResult_eq (w : PfWord) (sg : Fin 16) (off : BitVec 12) :
    mkpResult w sg off =
      if w.tag = tVoid then .error ⟨0x01, 0⟩
      else if isInteger w.tag = true then .ok { w := segWord sg (unsignedOf 28 (w.num + off.toInt)) }
      else .error ⟨0x03, 0⟩ := by
  by_cases void : w.tag = tVoid
  · simp only [mkpResult, baseOffset_eq, if_pos void]
  by_cases int : isInteger w.tag = true
  · simp only [mkpResult, baseOffset_eq, if_neg void, if_pos int, okW]
  · simp only [mkpResult, baseOffset_eq, if_neg void, if_neg int]

/-- MKP's form. -/
def mkpIns (c : CoreId) (rd ra : Fin 32) (sg : Fin 16) (off : BitVec 12) : Ins :=
  { word := encM 0x16 rd ra sg off.toNat, reads := [ra]
    body := fun s => match baseOffset (coreOf c s).g[ra] with
      | .error t => .error t
      | .ok b => writeResult c rd 1 1 (okW (segWord sg (unsignedOf 28 (b + off.toInt)))) s }

/-- LDP's form. -/
def ldpIns (c : CoreId) (rd ra : Fin 32) (sg : Fin 16) (off : BitVec 12) : Ins :=
  { word := encM 0x12 rd ra sg off.toNat, bad := sg ≠ 0, reads := [ra]
    body := fun s => loadInto c rd false (addressSeg (coreOf c s) .load ra off) s }

/-- STP's form. -/
def stpIns (c : CoreId) (rd ra : Fin 32) (sg : Fin 16) (off : BitVec 12) : Ins :=
  { word := encM 0x13 rd ra sg off.toNat, bad := sg ≠ 0, reads := [ra, rd]
    body := fun s => storeFrom c rd false (addressSeg (coreOf c s) .store ra off) s }

/-! A meaning is the issue of its form. -/

theorem exec_pfMkp (c : CoreId) (rd ra : Fin 32) (sg : Fin 16) (off : BitVec 12) (s : State) :
    exec (.pfMkp c rd ra sg off) s = conclude s (issue c (mkpIns c rd ra sg off) s) := rfl
theorem exec_pfLdp (c : CoreId) (rd ra : Fin 32) (sg : Fin 16) (off : BitVec 12) (s : State) :
    exec (.pfLdp c rd ra sg off) s = conclude s (issue c (ldpIns c rd ra sg off) s) := rfl
theorem exec_pfStp (c : CoreId) (rd ra : Fin 32) (sg : Fin 16) (off : BitVec 12) (s : State) :
    exec (.pfStp c rd ra sg off) s = conclude s (issue c (stpIns c rd ra sg off) s) := rfl

theorem ldpIns_plain (c : CoreId) (rd ra : Fin 32) (off : BitVec 12) : (ldpIns c rd ra 0 off).Plain := ⟨rfl, rfl, rfl, rfl⟩
theorem stpIns_plain (c : CoreId) (rd ra : Fin 32) (off : BitVec 12) : (stpIns c rd ra 0 off).Plain := ⟨rfl, rfl, rfl, rfl⟩

/-- LDP's body on a core that has begun to issue: a load from where the base pointed before. -/
theorem ldpIns_body (c : CoreId) (rd ra : Fin 32) (sg : Fin 16) (off : BitVec 12) (s : State) :
    (ldpIns c rd ra sg off).body (modCore c PfCore.entered s) =
      loadInto c rd false (addressSeg (coreOf c s) .load ra off) (modCore c PfCore.entered s) := by
  simp only [ldpIns, coreOf_modCore, addressSeg_entered]

/-- STP's body likewise. -/
theorem stpIns_body (c : CoreId) (rd ra : Fin 32) (sg : Fin 16) (off : BitVec 12) (s : State) :
    (stpIns c rd ra sg off).body (modCore c PfCore.entered s) =
      storeFrom c rd false (addressSeg (coreOf c s) .store ra off) (modCore c PfCore.entered s) := by
  simp only [stpIns, coreOf_modCore, addressSeg_entered]

/-- MKP (R216) gives its one result, or its trap. -/
theorem gives_mkp (c : CoreId) (rd ra : Fin 32) (sg : Fin 16) (off : BitVec 12) (s : State) :
    Gives c s (encM 0x16 rd ra sg off.toNat) rd 1 1 (mkpResult (coreOf c s).g[ra] sg off) (.pfMkp c rd ra sg off) := by
  refine gives_of_writeResult (exec_pfMkp c rd ra sg off s) ⟨rfl, rfl, rfl, rfl⟩ ?_
  simp only [mkpIns, mkpResult, coreOf_modCore, entered_g]
  cases baseOffset (coreOf c s).g[ra] <;> rfl

/-- The address of LDP and STP, written out: the tag of the base, then the checks of R215 in their order. -/
theorem addressSeg_checks (k : PfCore) (need : Need) (ra : Fin 32) (off : BitVec 12) :
    let d := k.sg[k.g[ra].val.toNat / 2 ^ 28 % 16]
    let o : Nat := (((k.g[ra].val.toNat % 2 ^ 28 : Nat) : Int) + off.toInt).emod (2 ^ 28) |>.toNat
    addressSeg k need ra off =
      if k.g[ra].tag = tVoid then .error ⟨0x01, 0⟩
      else if k.g[ra].tag ≠ tSeg then .error ⟨0x03, 0⟩
      else if d.getLsbD 0 = false then .error ⟨0x07, BitVec.ofNat 32 o⟩
      else if sgLimit d < o then .error ⟨0x05, BitVec.ofNat 32 o⟩
      else if need.granted d = false ∨ (k.user = true ∧ d.getLsbD 3 = false) then .error ⟨0x06, BitVec.ofNat 32 o⟩
      else .ok ((sgBase d + o) % 2 ^ 32) := by
  intro d o
  rw [addressSeg_eq, segCheck_natCast]
  rfl

/-- Settles O5: MKP by its one result, the address by the tag of the base and the checks of R215, LDP and STP as a plain load and a
plain store of the quiet core at that address. -/
theorem segmentWords : Obligations.SegmentWords := by
  refine ⟨fun c rd ra sg off s => ?_, fun k need ra off => ?_, fun c rd ra sg off s => ⟨?_, ?_, ?_, ?_, fun bad => ?_⟩⟩
  · have mkp := gives_mkp c rd ra sg off s
    rwa [mkpResult_eq] at mkp
  · have address := addressSeg_checks k need ra off
    cases need <;> exact address
  · intro h a own address
    exact exec_load_own (exec_pfLdp c rd ra 0 off s) h (ldpIns_plain ..) own (by rw [ldpIns_body, address])
  · intro h a own address
    have body : (stpIns c rd ra 0 off).body (modCore c PfCore.entered s) =
        storeFrom c rd false (.ok a) (modCore c PfCore.entered s) := by rw [stpIns_body, address]
    exact ⟨completes_store_own (exec_pfStp c rd ra 0 off s) h (stpIns_plain ..) own body,
      traps_store_void (exec_pfStp c rd ra 0 off s) h (stpIns_plain ..) body⟩
  · intro t address h
    exact traps_of_body (exec_pfLdp c rd ra 0 off s) h (ldpIns_plain ..) (by rw [ldpIns_body, address]; rfl)
      (addressSeg_error_code address)
  · intro t address h
    exact traps_of_body (exec_pfStp c rd ra 0 off s) h (stpIns_plain ..) (by rw [stpIns_body, address]; rfl)
      (addressSeg_error_code address)
  · exact ⟨fun h => traps_of_bad (exec_pfLdp c rd ra sg off s) h (decide_eq_true bad),
      fun h => traps_of_bad (exec_pfStp c rd ra sg off s) h (decide_eq_true bad)⟩

end Sys2Proof.Machine
end
